-- ==== Sys2Proof/Word.lean ====
section
/-!
DEFINITION. The word types of the engine. `00_scope.md` R6: structures are little-endian, bytes are the
smallest addressable unit.
-/
namespace Sys2Proof

/-- One byte. -/
abbrev Byte := BitVec 8
/-- A 16-bit field. -/
abbrev Half := BitVec 16
/-- A 32-bit field or register. -/
abbrev Word := BitVec 32
/-- A 64-bit field. -/
abbrev Dword := BitVec 64

end Sys2Proof
end

