-- ==== Sys2Proof/Syntax.lean ====
section
/-!
DEFINITION. The commands of the engine: one constructor per row of `spec/opcode_table.json`, with the operands
that its rule gives it. Operands of ring commands are the raw fields of the submission entry
(`11_commands_light.md`, `12_commands_system.md`), so that every value a driver can write is a command.
What the engine is told by the outside while a command runs (the data a host read returned, an ECC verdict, a
sampled value) is an operand too (assumption 8).
-/
namespace Sys2Proof

/-- R212: what becomes of the completion of a started entry: `due`; `muted`, because its ring was disabled since; or
`lost`, because the duplicate window of its ring was cleared after that. -/
inductive Reply where
  | due
  | muted
  | lost
  deriving DecidableEq, Repr

/-- What a submission entry says besides its operands (Tables 10.4 to 10.6), together with the ring that
fetched it, the GAP outcome of its classification (R226), for a forwarded command its origin engine (R322), and what
becomes of its completion, which is due as long as its ring stays enabled (R212). -/
structure Sub where
  ring    : Fin 16
  seq     : Word
  tag     : Dword
  ioc     : Bool
  fence   : Bool
  atTick  : Bool
  barrier : Bool
  target  : BitVec 11
  gap     : Bool
  origin  : Option (BitVec 10)
  reply   : Reply
  deriving DecidableEq, Repr

/-- What the host's memory answered to the reads of a command (R235): all bytes, or the bytes of the read
requests that completed before the failing one. -/
inductive HostRead where
  | ok   (bytes : List Byte)
  | fail (before : List Byte)
  deriving DecidableEq, Repr

/-- The surface descriptor, Table 05.1. -/
structure SurfDesc where
  handle : Half
  offset : Word
  width  : Half
  height : Half
  format : Byte
  layout : Byte
  pitch  : Word
  size   : Word
  wR     : Half
  wG     : Half
  wB     : Half
  yConst : Half
  deriving DecidableEq, Repr

/-- The copy fence of a post, Table 11.6. -/
structure FenceOps where
  valid : Byte
  ring  : Byte
  seq   : Word
  deriving DecidableEq, Repr

/-- Bytes 20 to 49 of `LAYER_SET` form 0, Table 11.7. For S0 the first fields overlay the shape handle,
offset and count. -/
structure LayerOps where
  surface   : Half
  srcX      : Half
  srcY      : Half
  srcW      : Half
  srcH      : Half
  dstX      : Half
  dstY      : Half
  dstW      : Half
  dstH      : Half
  predec    : Byte
  coef      : Byte
  blend     : Byte
  notReady  : Byte
  streaming : Byte
  alpha     : Half
  s0Y       : Half
  glareSafe : Half
  deriving DecidableEq, Repr

/-- The three forms of `LAYER_SET` (R245, Tables 11.7 and 11.8); any other `FORM` byte is kept as it is. -/
inductive LayerForm where
  | params (layer : Byte) (o : LayerOps)
  | coefs  (set : Byte) (handle : Half) (offset : Word)
  | order  (mode : Byte) (idx : List Byte)
  | bad    (form : Byte)
  deriving DecidableEq, Repr

/-- `LAYER_POST` operands, Table 11.6. -/
structure PostOps where
  layer   : Byte
  surface : Half
  srcX    : Half
  srcY    : Half
  srcW    : Half
  srcH    : Half
  fence   : FenceOps
  deriving DecidableEq, Repr

/-- `TIMING_SET` operands, Table 11.11. -/
structure TimingOps where
  mask     : Half
  pNom     : Word
  tGuard   : Half
  leadFix  : Word
  scan     : Byte
  events   : Byte
  rowMatch : Half
  frame    : Word
  deriving DecidableEq, Repr

/-- `SYNC_SET` operands, Table 11.11. -/
structure SyncOps where
  mask     : Half
  source   : Byte
  edge     : Byte
  ms       : Byte
  ns       : Byte
  phase    : Word
  foEnable : Byte
  foDiv    : Byte
  foCam    : Byte
  foWidth  : Half
  foOffset : Word
  frame    : Word
  deriving DecidableEq, Repr

/-- `PWM_SET` operands, Table 11.11. -/
structure PwmOps where
  mask   : Half
  n      : Byte
  dither : Byte
  k      : Half
  oCam   : Half
  frame  : Word
  deriving DecidableEq, Repr

/-- `CURB_SET` operands, Table 11.12. -/
structure CurbOps where
  mask   : Half
  iLimit : Half
  hT     : Half
  frame  : Word
  deriving DecidableEq, Repr

/-- `DERATE_SET` operands, Table 11.12. -/
structure DerateOps where
  mask  : Half
  mode  : Byte
  knee  : Half
  tZero : Half
  frame : Word
  deriving DecidableEq, Repr

/-- `CUTOFF_SET` operands, Table 11.12. -/
structure CutoffOps where
  mask   : Half
  side   : Byte
  count  : Byte
  limit  : Half
  handle : Half
  offset : Word
  frame  : Word
  deriving DecidableEq, Repr

/-- `PIXMAP_READ` operands, Table 11.12. -/
structure PixmapOps where
  firstRow : Half
  rows     : Half
  dest     : Dword
  summary  : Dword
  deriving DecidableEq, Repr

/-- `FALLBACK_SET` operands, Table 12.5. -/
structure FallbackOps where
  mask  : Half
  dflt  : Byte
  force : Byte
  hb    : Half
  frame : Word
  deriving DecidableEq, Repr

/-- `CAN_LISTEN_SET` operands, Table 12.5; `rules` are the eight words of Table 12.6. -/
structure CanOps where
  mask    : Half
  mode    : Byte
  sa      : Byte
  pgn     : BitVec 24
  timeout : Half
  rules   : List Word
  frame   : Word
  deriving DecidableEq, Repr

/-- `TEAM_CONFIG` operands, Table 12.7; `groups` are the four 16-bit entries. -/
structure TeamOps where
  mask   : Half
  role   : Byte
  backup : Byte
  groups : List Half
  ports  : Byte
  gen    : Byte
  frame  : Word
  deriving DecidableEq, Repr

/-- `AUTH_LOGIN` operands, Table 12.2: `password` is bytes 24 to 55, whose first eight bytes are `HOST` in
modes 1 and 2. -/
structure LoginOps where
  mode     : Byte
  operator : Half
  pwLen    : Byte
  password : List Byte
  deriving DecidableEq, Repr

/-- `LINK_TEST` operands, Table 12.11. -/
structure LinkTestOps where
  lanes    : Byte
  action   : Byte
  pattern  : Byte
  flags    : Byte
  loopback : Byte
  rate     : Byte
  duration : Word
  deriving DecidableEq, Repr

/-- The measurements of a calibration run (Tables 17.2 and 17.3): the station's references as the ADC reads
them, and the untrimmed full-scale current of each tile in nA. -/
structure CalMeas where
  refinMv     : Nat
  refinSpread : Nat
  adcGain     : Int
  adcOffset   : Int
  calresMv    : Nat
  refErr      : Int
  refTrim     : Half
  tilesNa     : List Nat
  deriving DecidableEq, Repr

/-- The result of an eye scan (R208). -/
inductive EyeResult where
  | quick (across upright : List Half)
  | full  (counts : List Half)
  deriving DecidableEq, Repr

/-- The answer to a fetch from a submission ring (R216): the 64 bytes of the entry, byte 0 in bits [7:0], or
a failed read. -/
inductive FetchResult where
  | ok (entry : BitVec 512)
  | failed
  deriving DecidableEq, Repr

/-- A message queue: a completion ring or the event ring (R230). -/
inductive QueueId where
  | cq (n : Fin 16)
  | eq
  deriving DecidableEq, Repr

/-- The two partitions of the configuration CRC (Table 18.4). -/
inductive Partition where
  | shared
  | localPart
  deriving DecidableEq, Repr

/-- BAR0 or BAR2 (R402, R214). -/
inductive BarId where
  | bar0
  | bar2
  deriving DecidableEq, Repr

/-- The pixel faults of Table 07.1. -/
inductive PixelFault where
  | open
  | short
  | stuck
  deriving DecidableEq, Repr

/-- A sense circuit's finding: both samples of an interval or probe showed the condition (R142). `probe` says
that the interval was a probe pulse of R145. -/
structure PixelFind where
  x     : Fin 2048
  y     : Fin 512
  kind  : PixelFault
  probe : Bool
  deriving DecidableEq, Repr

/-- What the array side and the checkers observe while one row is written (R77, R93, R128, R137, R344, R348):
the CRC read back from S when it differs, a residue mismatch (operation and column), the mark CRCs computed
and comparator mismatches, a code that the column-maximum checker meets in place of the composed one (column and
code: a clamp that failed), the checker's self-test and copy verdicts, the DRAM units met uncorrectable and those
corrected, an uncorrectable SRAM word in the run list. `RowObs.clean` is a row without any of them. -/
structure RowObs where
  readBack   : Option Word
  residue    : Option (Nat × Nat)
  markCrc    : List (Nat × Word)
  markCmp    : List (Nat × Nat × Nat)
  stray      : Option (Nat × Nat)
  selfTestOk : Bool
  copyCrcOk  : Bool
  ue         : List Nat
  ce         : List Nat
  sramBad    : Bool
  deriving DecidableEq, Repr

/-- A row that every check passes. -/
def RowObs.clean : RowObs :=
  ⟨none, none, [], [], none, true, true, [], [], false⟩

/-- One conversion of the housekeeping ADC (R375): the value in the unit of Table 16.2 that it has without the corrections
of calibration, or an open or shorted
sensor (R386). -/
inductive HkRaw where
  | value (v : Int)
  | openShort
  deriving DecidableEq, Repr

/-- One read of the scrub (R178): the words of the unit that were corrected or uncorrectable, bit w for
word w. -/
inductive ScrubResult where
  | clean
  | corrected (words : Byte)
  | uncorrectable (words : Byte)
  deriving DecidableEq, Repr

/-- A CAN frame received whole (R352). -/
structure CanFrame where
  extended : Bool
  remote   : Bool
  fd       : Bool
  dlc      : Nat
  crcOk    : Bool
  ident    : BitVec 29
  data     : List Byte
  deriving DecidableEq, Repr

/-- The three processors (Table 01.3). -/
inductive CoreId where
  | farrier
  | groom
  | ostler
  deriving DecidableEq, Repr

/-- The clock that the monitor finds missing or off (R432). -/
inductive ClockId where
  | lane (n : Fin 8)
  | other
  deriving DecidableEq, Repr

/-- The header of an accepted trace frame (Table 13.3). `nak` and `retransmit` are bits of `FLAGS`. -/
structure FrameHdr where
  reliable   : Bool
  nak        : Bool
  retransmit : Bool
  routed     : Bool
  fcnt       : Dword
  rseq       : Word
  rack       : Word
  sender     : BitVec 10
  senderPort : BitVec 2
  dst        : BitVec 11
  deriving DecidableEq, Repr

/-- HELLO payload (Table 13.4). -/
structure HelloPl where
  engine   : BitVec 15
  assigned : Bool
  csMajor  : Byte
  csMinor  : Byte
  image    : Half
  role     : BitVec 2
  backup   : Bool
  port     : Byte
  version  : Half
  dist     : Half
  term     : Word
  nonce    : BitVec 128
  deriving DecidableEq, Repr

/-- TIME_SYNC payload (R312); the correction is signed, in 2^−16 ns. -/
structure TimeSyncPl where
  origin     : Dword
  correction : BitVec 64
  hops       : Half
  lead       : Half
  term       : Word
  quality    : Byte
  deriving DecidableEq, Repr

/-- SCHEDULE payload (R317), with the handback announcement of R330 (the configured lead and the tick). -/
structure SchedulePl where
  tick      : Dword
  time      : Dword
  len0      : Word
  len1      : Word
  len2      : Word
  lead      : Half
  mMin      : Byte
  policy    : Byte
  term      : Word
  sharedCrc : Word
  quality   : Byte
  handback  : Option (Half × Dword)
  deriving DecidableEq, Repr

/-- DIGEST payload (R326). -/
structure DigestPl where
  engine    : Half
  csMajor   : Byte
  csMinor   : Byte
  image     : Half
  state     : Byte
  quality   : Byte
  sharedCrc : Word
  frame     : Word
  leadUs    : Half
  stale     : Bool
  deriving DecidableEq, Repr

/-- STATE payload (Table 13.4): kind 1 heal, 2 safe state, 3 safe state ended. -/
structure StatePl where
  kind   : Byte
  engine : Half
  term   : Word
  time   : Dword
  data   : List Byte
  deriving DecidableEq, Repr

/-- One ENUM record (R306). -/
structure EnumRec where
  configured : Bool
  engine     : BitVec 15
  path       : Dword
  dist       : Byte
  csRev      : Half
  deriving DecidableEq, Repr

/-- ENUM payload (R306): the flooded request with the port path of the engine that receives it, an engine's
record, or the lead's reply (port path, lead distance and assigned ID). -/
inductive EnumPl where
  | request (path : Dword)
  | record (r : EnumRec)
  | reply  (path : Dword) (dist : Byte) (id : BitVec 10)
  deriving DecidableEq, Repr

/-- CMD payload (Table 13.4). -/
structure CmdPl where
  origin : Half
  ring   : Byte
  retry  : Bool
  entry  : BitVec 512
  deriving DecidableEq, Repr

/-- The first four bytes of the CMD payload; its data, the submission entry, follow them (Table 13.4). -/
structure CmdHead where
  origin : Half
  ring   : Byte
  retry  : Bool
  deriving DecidableEq, Repr

def CmdPl.head (p : CmdPl) : CmdHead := ⟨p.origin, p.ring, p.retry⟩
def CmdHead.pl (h : CmdHead) (data : BitVec 512) : CmdPl := ⟨h.origin, h.ring, h.retry, data⟩

/-- E2E_ACK payload: kind 0 CMD, 1 CPL. -/
structure E2ePl where
  origin : Half
  ring   : Byte
  kind   : Byte
  seq    : Word
  engine : Half
  deriving DecidableEq, Repr

/-- A completion entry (Table 10.7) without its PHASE bit, which the ring adds. -/
structure Completion where
  seq    : Word
  status : Half
  ring   : Byte
  dup    : Bool
  gap    : Bool
  tag    : Dword
  tDone  : Dword
  result : Dword
  deriving DecidableEq, Repr

/-- CPL payload (Table 13.4). -/
structure CplPl where
  origin    : Half
  ring      : Byte
  duplicate : Bool
  retry     : Bool
  engine    : Half
  cpl       : Completion
  deriving DecidableEq, Repr

/-- An event entry (Table 10.8) without its PHASE bit, which the EQ adds; `lost` is LOST as the sender of a
forwarded event set it (R325). -/
structure Event where
  time   : Dword
  seq    : Word
  code   : Half
  engine : BitVec 10
  fwd    : Bool
  lost   : Bool
  data   : List Byte
  deriving DecidableEq, Repr

/-- BULK payload (Table 13.4). -/
structure BulkPl where
  stream : Word
  offset : Word
  data   : List Byte
  deriving DecidableEq, Repr

/-- Why a received trace frame is discarded (R300). -/
inductive DiscardWhy where
  | delimiter
  | crc
  | length
  | tag
  | counter
  | unknown
  deriving DecidableEq, Repr

/-- What the comparators of a tile measured when they told a trip (R156): the charge since the window began in µA ns, and
the current in mA that held for so many ns. -/
structure TileTrip where
  tile   : BitVec 8
  charge : Nat
  ma     : Nat
  ns     : Nat
  deriving DecidableEq, Repr

/-- The commands: one constructor per row of the opcode table, in the table's order. -/
inductive Instr where
  | nop (sub : Sub)
  | echo (sub : Sub) (value : Dword)
  | ident (sub : Sub) (dest : Dword)
  | heartbeat (sub : Sub)
  | poolAlloc (sub : Sub) (count : Half) (channel flags : Byte)
  | zeroingDone (handle : Half)
  | poolFree (sub : Sub) (handle : Half)
  | poolQuery (sub : Sub) (handle : Half) (dest : Dword)
  | copyIn (sub : Sub) (handle : Half) (offset : Word) (host : Dword) (length : Word)
  | copyOut (sub : Sub) (handle : Half) (offset : Word) (host : Dword) (length : Word)
  | fill (sub : Sub) (handle : Half) (offset length : Word) (width : Byte) (pattern : Dword)
  | dataMoveDone (id : Nat) (host : HostRead) (ue ce : List Nat)
  | surfaceDefine (sub : Sub) (id : Half) (d : SurfDesc)
  | surfaceRetire (sub : Sub) (id : Half)
  | layerSet (sub : Sub) (f : LayerForm)
  | layerPost (sub : Sub) (o : PostOps)
  | shapesPost (sub : Sub) (handle : Half) (offset : Word) (count : Byte) (fence : FenceOps)
  | captureSet (sub : Sub) (surface : Half) (tap mode : Byte)
  | sceneCommit (sub : Sub) (frame : Word)
  | sceneQuery (sub : Sub) (which : Byte) (dest : Dword)
  | timingSet (sub : Sub) (o : TimingOps)
  | syncSet (sub : Sub) (o : SyncOps)
  | pwmSet (sub : Sub) (o : PwmOps)
  | curbSet (sub : Sub) (o : CurbOps)
  | derateSet (sub : Sub) (o : DerateOps)
  | cutoffSet (sub : Sub) (o : CutoffOps)
  | probeSet (sub : Sub) (enables : Byte) (frame : Word)
  | pixmapRead (sub : Sub) (o : PixmapOps)
  | neighbourFillSet (sub : Sub) (strength : Byte) (frame : Word)
  | hallmarkSelect (sub : Sub) (mask add : Half) (frame : Word)
  | safetyStatus (sub : Sub)
  | fallbackSet (sub : Sub) (o : FallbackOps)
  | canListenSet (sub : Sub) (o : CanOps)
  | roadMode (sub : Sub) (mask : Half) (on : Byte) (frame : Word)
  | teamConfig (sub : Sub) (o : TeamOps)
  | teamStatus (sub : Sub) (dest : Dword)
  | teamPair (sub : Sub) (key : BitVec 128)
  | timeSet (sub : Sub) (mode : Byte) (value : Dword)
  | timeQuery (sub : Sub) (dest : Dword)
  | powerState (sub : Sub) (state : Byte)
  | calRun (sub : Sub) (phases : Byte) (level : Half)
  | calRunEnd (m : CalMeas)
  | calLoadMap (sub : Sub) (handle : Half) (offset : Word)
  | calStore (sub : Sub)
  | calRead (sub : Sub) (what : Byte) (offset : Word) (dest : Dword) (length : Word)
  | updateOpen (sub : Sub) (imageLength : Word)
  | updateEraseDone (ok : Bool)
  | updateWrite (sub : Sub) (offset : Word) (host : Dword) (length : Word) (data : HostRead)
  | updateClose (sub : Sub)
  | updateConfirm (sub : Sub)
  | updateStatus (sub : Sub)
  | authLogin (sub : Sub) (o : LoginOps) (data : HostRead)
  | authLogout (sub : Sub)
  | protectedWrite (sub : Sub) (item : Half) (value : Word)
  | passwordSet (sub : Sub) (oldLen newLen : Byte) (operator : Half) (host : Dword) (data : HostRead)
  | logRead (sub : Sub) (log : Byte) (first : Word) (dest : Dword) (count : Word)
  | logArchive (sub : Sub) (upTo : Word)
  | settingsRead (sub : Sub) (which : Byte) (offset : Word) (dest : Dword) (length : Word)
  | settingsWrite (sub : Sub) (field : Half) (length : Byte) (value : List Byte)
  | cfgCommit (sub : Sub)
  | linkTest (sub : Sub) (o : LinkTestOps)
  | linkTestEnd (lane : Fin 8)
  | eyeScan (sub : Sub) (lane form : Byte) (handle : Half) (offset : Word)
  | eyeScanDone (lane : Fin 8) (r : EyeResult)
  | faultRead (sub : Sub) (dest : Dword)
  | faultAck (sub : Sub) (source : Byte)
  | thermRearm (sub : Sub)
  | updStrobeImmediate (groups : BitVec 9)
  | updStrobeNextTick (groups : BitVec 9)
  | updStrobeAtTime (groups : BitVec 9)
  | updStrobeRefused (groups : BitVec 9)
  | armedSetAtTime
  | cfgCrcCommit (part : Partition) (value : Word)
  | cfgLock
  | fltPinRel
  | seqReset (ring : Fin 16)
  | gpioSet (bits : Byte)
  | gpioClr (bits : Byte)
  | registerWrite (bar : BarId) (offset : Half) (values : List Word) (beFirst beLast : BitVec 4)
  | refusedRead (bar : BarId) (offset : Half) (count : Nat) (beFirst beLast : BitVec 4)
  | clearingRead (offset : Half) (count : Nat)
  | ltnErrcntRead (lane : Fin 8)
  | fltFirstSrcRead
  | ttNowLoRead
  | sqTailDoorbell (ring : Fin 16) (value : Word)
  | cqHeadDoorbell (ring : Fin 16) (value : Word)
  | eqHeadDoorbell (value : Word)
  | msixTableWrite (offset : Half) (value : Word)
  | bar4Read (offset : BitVec 27) (length : Nat) (ue ce : List Nat)
  | bar4Write (offset : BitVec 27) (bytes : List (Option Byte)) (ue ce : List Nat)
  | configurationRequest (offset : BitVec 12) (write : Option (Word × BitVec 4))
  | entryFetch (ring : Fin 16) (r : FetchResult)
  | entryStart (data : HostRead)
  | cqModTimeout (q : QueueId)
  | linkDown
  | linkUp (speed width : Nat)
  | l1Entry
  | ptmDialog
  | ptmResponse (masterTime propDelay : Dword)
  | tick (rampBad : List (BitVec 8))
  | probeSlot (found : List PixelFind)
  | logFlush
  | cutoff (ue : List Nat)
  | compositionStart
  | rowWrite (o : RowObs)
  | composeDone
  | guardStart (divisionResidueBad : Bool)
  | aScanRow (row : Fin 512) (readBack : Option Word)
  | fsyncInEdge (rising : Bool)
  | fsyncLost
  | fsyncOutPulse
  | pixelSample (p : PixelFind)
  | tileOvercurrentTrip (tile : TileTrip)
  | tileReclose (tile : BitVec 8)
  | arrayOvercurrentTrip
  | relightCapLift
  | darkNAssert
  | darkNRelease
  | relightStep
  | tempTrip (comparator : Fin 18)
  | thermalRestart
  | hkSample (raw : HkRaw)
  | hkRoundEnd (reports : List (BitVec 8 × Nat))
  | learnedOffsetUpdate
  | relaxationHoldEnd
  | vledAdjStep (vMeas : Nat)
  | headroomHwStep (headroom : Nat)
  | scrubRead (r : ScrubResult)
  | cfgCrcPass (flipShared flipLocal : Word)
  | cfgStaleTimeout (part : Partition)
  | tpoPulse (x : Fin 2)
  | tpoWindowClose (x : Fin 2)
  | sinEdge (n : Fin 4) (high : Bool)
  | heartbeatTimeout
  | canFrame (f : CanFrame)
  | canTimeout
  | degradeRelease (source : Byte)
  | faultNRelease
  | watchdogExpiry (core : CoreId)
  | coreReloadDone (core : CoreId)
  | sessionTimeout
  | trngHealthRestored
  | flashWriteDone (ok : Bool)
  | portSignalDetect (port : Fin 4)
  | helloSend (port : Fin 4)
  | hello (port : Fin 4) (h : FrameHdr) (p : HelloPl)
  | acknak (port : Fin 4) (h : FrameHdr)
  | acknakTimer (port : Fin 4)
  | retransmitTimeout (port : Fin 4)
  | portDown (port : Fin 4) (reason : Byte)
  | timeSync (port : Fin 4) (h : FrameHdr) (p : TimeSyncPl)
  | timeSyncSend
  | timeSyncTimeout
  | pdelayTimer (port : Fin 4)
  | pdelayReq (port : Fin 4) (h : FrameHdr) (n : Word)
  | pdelayResp (port : Fin 4) (h : FrameHdr) (n : Word) (t2 t3 : Dword)
  | schedule (port : Fin 4) (h : FrameHdr) (p : SchedulePl)
  | digest (port : Fin 4) (h : FrameHdr) (p : DigestPl)
  | state (port : Fin 4) (h : FrameHdr) (p : StatePl)
  | enum (port : Fin 4) (h : FrameHdr) (p : EnumPl)
  | enumeration
  | cmd (port : Fin 4) (h : FrameHdr) (p : CmdHead) (data : BitVec 512)
  | e2eAck (port : Fin 4) (h : FrameHdr) (p : E2ePl)
  | cpl (port : Fin 4) (h : FrameHdr) (p : CplPl)
  | event (port : Fin 4) (h : FrameHdr) (e : Event)
  | bulk (port : Fin 4) (h : FrameHdr) (p : BulkPl)
  | cmdRetryTimer (ring : Fin 16) (seq : Word) (target : BitVec 10)
  | cplRetryTimer (origin : BitVec 10) (ring : Fin 16) (seq : Word)
  | bulkRetryTimer (stream : Word) (offset : Word)
  | memberLeft (engine : BitVec 10)
  | divergentEnter
  | divergentLeave
  | tickSyncEntry
  | leadLost
  | handback
  | powerEntryDrained
  | powerEntryDark
  | wakePin
  | canRxWake
  | traceSignalWake (lane : Fin 8)
  | teamTimeAlarm
  | wakeComplete
  | pwrEnReassert
  | rstNAssert
  | rstNRelease
  | clockFail (c : ClockId)
  | vaonPowerOn
  | vaonLoss
  | pwrEnAssert
  | suppliesValid
  | supplyTimeout
  | otpLoadDone (ok : Bool)
  | dramTrained
  | startupFirstTick
  | startupReady
  | prbsLock (lane : Fin 8)
  | prbsLockLoss (lane : Fin 8) 
  | traceFrameDiscarded (port : Fin 4) (why : DiscardWhy) (reliable : Bool)
  | aerErrorLogged (correctable : Bool)
  | lockoutExpiry
  | trngHealthFailure
  | configSpaceReady
  deriving DecidableEq, Repr

end Sys2Proof
end

