-- ==== Sys2Proof/WellFormed.lean ====
section
/-!
DEFINITION. Well-formed commands: the fixed lengths of operands that the manual gives as fixed-size fields, and
the forms that have a constructor of their own.
-/
namespace Sys2Proof

/-- A received CAN frame carries at most eight data bytes, as many as its length says (R352). -/
def CanFrame.ok (f : CanFrame) : Bool := decide (f.data.length ≤ 8)

/-- `LAYER_SET`: the order form carries seven indices (Table 11.8); a bad form byte is not 0, 1 or 2. -/
def LayerForm.ok : LayerForm → Bool
  | .params _ _ => true
  | .coefs _ _ _ => true
  | .order _ idx => idx.length == 7
  | .bad form => decide (2 < form.toNat)

/-- `LAYOUT` holds a layout in bits [1:0]; bits [7:2] are reserved (Table 05.1, R7). -/
def SurfDesc.layoutOk (d : SurfDesc) : Bool := decide (d.layout.toNat < 4)

/-- An event entry carries 16 data bytes (Table 10.8). -/
def Event.ok (e : Event) : Bool := e.data.length == 16

/-- A BULK frame carries at most 1,016 bytes (Table 13.4). -/
def BulkPl.ok (p : BulkPl) : Bool := decide (p.data.length ≤ 1016)

/-- A STATE frame carries 16 bytes of kind data (Table 13.4). -/
def StatePl.ok (p : StatePl) : Bool := decide (p.data.length ≤ 16)

/-- The command's operands have the lengths that the manual gives them. -/
def Instr.wf : Instr → Bool
  | .surfaceDefine _ _ d => d.layoutOk
  | .layerSet _ f => f.ok
  | .canListenSet _ o => o.rules.length == 8
  | .teamConfig _ o => o.groups.length == 4
  | .authLogin _ o _ => o.password.length == 32
  | .settingsWrite _ _ _ v => v.length == 32
  | .calRunEnd m => m.tilesNa.length == 256
  | .eyeScanDone _ (.quick a u) => a.length == 64 && u.length == 127
  | .eyeScanDone _ (.full l) => l.length == 8128
  | .registerWrite _ _ v _ _ => !v.isEmpty
  | .refusedRead _ _ n _ _ => decide (0 < n)
  | .clearingRead _ n => decide (0 < n)
  | .bar4Write _ b _ _ => !b.isEmpty
  | .bar4Read _ n _ _ => decide (0 < n)
  | .tick l => decide (l.length ≤ 256)
  | .canFrame f => f.ok
  | .event _ _ e => e.ok
  | .bulk _ _ p => p.ok
  | .state _ _ p => p.ok
  | .linkUp speed width => decide (1 ≤ speed ∧ speed ≤ 4) && decide (1 ≤ width)
  | _ => true

end Sys2Proof
end

