-- ==== Sys2Proof/Machine/Types.lean ====
section
/-!
DEFINITION. The plain data types that the state of the engine is made of. Each names the rule of the manual that
describes the thing.
-/
namespace Sys2Proof.Machine

/-- The power states of Table 19.1, with reset and start-up (R435, R436) and halter mode (R440). -/
inductive Mode where
  | off
  | standby
  | reset
  | startup
  | idle
  | active
  | sleep
  | halter
  deriving DecidableEq, Repr

/-- The disciplines of team time (R309). -/
inductive Discipline where
  | setValue
  | ptm
  | freeRun
  | team
  deriving DecidableEq, Repr

/-- The tick sources of Table 02.1. -/
inductive TickSource where
  | internal
  | fsync
  | team
  deriving DecidableEq, Repr

/-- The sync states of R32. -/
inductive SyncState where
  | free
  | acquiring
  | locked
  | holdover
  deriving DecidableEq, Repr

/-- The blend modes of Table 06.3. -/
inductive Blend where
  | sourceOver
  | multiply
  | max
  | min
  | replace
  deriving DecidableEq, Repr

/-- The not-ready policies of Table 06.7. -/
inductive NotReady where
  | hold
  | transparent
  | conservative
  | repeatFrame
  deriving DecidableEq, Repr

/-- Dither modes (Table 04.2). -/
inductive Dither where
  | spatialTemporal
  | spatial
  | off
  deriving DecidableEq, Repr

/-- Capture modes (R138). -/
inductive CaptureMode where
  | off
  | continuous
  | single
  deriving DecidableEq, Repr

/-- The roles of `TEAM_CONFIG` (Table 12.7). -/
inductive Role where
  | alone
  | lead
  | follower
  deriving DecidableEq, Repr

/-- What the engine puts on the PCI Express link: memory writes, messages and the answers to requests
(assumption 8). -/
inductive BusOut where
  | memWrite (addr : Dword) (bytes : List Byte)
  | msix (vector : Nat) (addr : Dword) (data : Word)
  | errNonfatal
  | readData (words : List Word)
  | readAbort
  | retryStatus
  | bar4Data (bytes : List Byte) (poisoned : Bool)
  | cfgData (w : Word)
  | cfgDone
  | ptmRequest
  | memRead (addr : Dword) (length : Nat) (tag : Byte)
  | requestL1
  | readUnsupported
  | txEq (lane fs lf : Nat) (rejected : Bool)
  deriving DecidableEq, Repr

/-- An MSI-X table entry (R195). -/
structure MsixEntry where
  addr   : Dword
  data   : Word
  masked : Bool
  deriving DecidableEq, Repr

/-- When an armed register set is applied (R408). -/
inductive ArmedWhen where
  | tick
  | atTime
  deriving DecidableEq, Repr

/-- An armed register set: the group, the shadow values it carries, and its place in the order of R409. -/
structure ArmedSet where
  group  : Nat
  values : List (Nat × Word)
  whenTo : ArmedWhen
  target : Dword
  order  : Nat
  deriving DecidableEq, Repr

/-- One entry of a ring's duplicate window (R225). `done` is false while the entry still runs (R227). -/
structure WinEntry where
  seq    : Word
  done   : Bool
  status : Half
  result : Dword
  tDone  : Dword
  digest : Word
  deriving DecidableEq, Repr

/-- One ring pair (Table 10.1 and R225). `fetched` holds entries not yet started (bytes 0 to 63, byte 0 in
bits [7:0]), `running` commands started
whose completion is not written, `held` repeats of running entries (R227), `muted` started commands of a ring that was
disabled (R212), `sqLate` and `cqLate` an SQ tail and a CQ head written during SLEEP (R429). -/
structure Ring where
  enabled   : Bool
  sqTail    : Nat
  sqHead    : Nat
  cqTail    : Nat
  cqHead    : Nat
  cqPhase   : Bool
  halted    : Bool
  seqValid  : Bool
  lastSeq   : Word
  window    : List WinEntry
  fetched   : List (BitVec 512)
  running   : List Sub
  held      : List (Word × Dword)
  muted     : List Sub
  modCount  : Nat
  modStart  : Nat
  sqIndex   : BitVec 13
  cqIndex   : BitVec 13
  sqLate    : Option (BitVec 13)
  cqLate    : Option (BitVec 13)
  deriving DecidableEq, Repr

/-- The event ring (Table 10.2, R220). -/
structure EventRing where
  enabled  : Bool
  tail     : Nat
  head     : Nat
  phase    : Bool
  lost     : Word
  lostFlag : Bool
  seq      : Word
  modCount : Nat
  modStart : Nat
  index    : BitVec 13
  late     : Option (BitVec 13)
  deriving DecidableEq, Repr

/-- A flight-log entry (R179, Table 08.6). -/
structure LogEntry where
  time   : Dword
  seq    : Word
  code   : Half
  kind   : Nat
  error  : Bool
  engine : BitVec 10
  data   : List Byte
  deriving DecidableEq, Repr

/-- A pool handle (R166). `waiting` is the `POOL_ALLOC` whose completion waits for zeroing (R165); `noRef` says that
a tick since its free has found no reference (R172). -/
structure Handle where
  slot    : Nat
  gen     : Nat
  channel : Nat
  blocks  : List Nat
  freeing : Bool
  waiting : Option Sub
  noRef   : Bool
  deriving DecidableEq, Repr

/-- The three data moves (R243). -/
inductive MoveKind where
  | serve
  | copyIn
  | copyOut
  | fill (width : Nat) (pattern : Dword)
  deriving DecidableEq, Repr

/-- A data move in progress (R243). -/
structure Move where
  id     : Nat
  kind   : MoveKind
  handle : Half
  offset : Nat
  host   : Dword
  length : Nat
  sub    : Sub
  deriving DecidableEq, Repr

/-- A defined surface: its descriptor with the default weights put in, and its effective size (R104). -/
structure Surface where
  id      : Nat
  desc    : SurfDesc
  effSize : Nat
  deriving DecidableEq, Repr

/-- A shape of S0 (R126, Table 11.9); coordinates in sixteenths of a pixel. -/
inductive Shape where
  | rect (value : Nat) (x0 y0 x1 y1 : Int)
  | ellipse (value : Nat) (cx cy ax ay : Int)
  | polygon (value : Nat) (vs : List (Int × Int))
  deriving DecidableEq, Repr

/-- The parameters of one host layer (Table 06.2). The last three fields keep the S0 shape source of
`LAYER_SET` form 0 for `SCENE_QUERY` (Table 11.10). -/
structure LayerCfg where
  surface   : Nat
  srcX      : Nat
  srcY      : Nat
  srcW      : Nat
  srcH      : Nat
  dstX      : Int
  dstY      : Int
  dstW      : Nat
  dstH      : Nat
  predec    : Nat
  coefH     : Nat
  coefV     : Nat
  blend     : Blend
  notReady  : NotReady
  streaming : Bool
  alpha     : Nat
  s0Y       : Nat
  glareSafe : Nat
  shHandle  : Half
  shOffset  : Nat
  shCount   : Nat
  deriving DecidableEq, Repr

/-- A scene (R129). -/
structure Scene where
  layers    : List LayerCfg
  orderMode : Nat
  order     : List Nat
  shapes    : List Shape
  capSurf   : Nat
  capTap    : Nat
  capMode   : CaptureMode
  deriving DecidableEq, Repr

/-- A scaler coefficient set (R125): 64 phases of 8 horizontal and of 4 vertical taps. -/
structure CoefSet where
  h : List (List Int)
  v : List (List Int)
  deriving DecidableEq, Repr

/-- A staged or committed scene: its sequence, its first frame, the snapshot with the coefficient sets it took
(R125, R129), and its fetch count B (R132). -/
structure Staged where
  seq   : Word
  first : Word
  scene : Scene
  coefs : List CoefSet
  bytes : Nat
  deriving DecidableEq, Repr

/-- A copy fence (R134, R250). -/
structure Fence where
  origin : Option (BitVec 10)
  ring   : Nat
  seq    : Word
  deriving DecidableEq, Repr

/-- A post of `LAYER_POST` or `SHAPES_POST` (R133). `list` is the shape list read at the cut-off (R249). -/
structure Post where
  surface : Nat
  handle  : Half
  offset  : Nat
  count   : Nat
  srcX    : Nat
  srcY    : Nat
  srcW    : Nat
  srcH    : Nat
  fence   : Option Fence
  list    : Option (List Shape)
  deriving DecidableEq, Repr

/-- The streaming state of one layer (R133 to R137): the newest post executed since the last cut-off, the
candidate, the post consumed by the running composition, the post last shown and whether a fresher one is due,
the count of consecutive not-ready frames, and the memory-error mark of cause 6. `again` says that the candidate was
consumed by a composition that was not shown (R43). -/
structure LayerRun where
  newest   : Option Post
  cand     : Option Post
  used     : Option Post
  shown    : Option Post
  late     : Nat
  memErr   : Bool
  errUnits : List Nat
  errScene : Word
  again    : Bool
  hold     : Option Nat
  lastSurf : Nat
  deriving DecidableEq, Repr

/-- What the frame decision and the readiness check fixed for one layer of the frame being composed. -/
inductive LayerUse where
  | off
  | scene
  | post (p : Post)
  | conservative
  deriving DecidableEq, Repr

/-- A cut-off geometry (R342). -/
structure CutGeom where
  high  : Bool
  verts : List (Nat × Nat)
  deriving DecidableEq, Repr

/-- The CAN listener's filter (Table 12.5). -/
structure CanCfg where
  rate    : Nat
  on      : Bool
  pgn     : BitVec 18
  sa      : Byte
  timeout : Nat
  rules   : List Word
  deriving DecidableEq, Repr

/-- Every item that set commands and protected writes set: the values in force (Tables 02.2, 04.2, 11.11,
11.12, 12.3, 12.5, 12.7). -/
structure Params where
  pNom      : Nat
  tGuard    : Nat
  leadFix   : Nat
  bottomUp  : Bool
  rowMatch  : Nat
  events    : BitVec 5
  fsyncSrc  : Bool
  ms        : Nat
  ns        : Nat
  falling   : Bool
  phase     : Nat
  foEnable  : Bool
  foDiv     : Nat
  foCam     : Bool
  foWidth   : Nat
  foOffset  : Nat
  dutyN     : Nat
  pwmK      : Nat
  oCam      : Nat
  dither    : Dither
  iLimit    : Nat
  hT        : Nat
  regional  : Bool
  knee      : Int
  tZero     : Int
  cutGeom   : Option CutGeom
  cutLimit  : Nat
  onProbe   : Bool
  offProbe  : Bool
  fillF     : Nat
  addMarks  : Half
  dfltScene : Nat
  hbTimeout : Nat
  force     : Nat
  can       : CanCfg
  roadCmd   : Bool
  role      : Role
  backup    : Bool
  groups    : List Half
  ports     : BitVec 4
  gens      : BitVec 4
  floorC    : Nat
  roadSrc   : Nat
  policy    : Nat
  idle      : Bool
  deriving DecidableEq, Repr

/-- One change that a command arms for a tick (R236, R237): the fields a `MASK` bit selects. -/
inductive Change where
  | pNom (v : Nat)
  | tGuard (v : Nat)
  | leadFix (v : Nat)
  | scan (bottomUp : Bool)
  | rowMatch (v : Nat)
  | events (v : BitVec 5)
  | source (fsync : Bool)
  | ratio (m n : Nat)
  | edge (falling : Bool)
  | phase (v : Nat)
  | fsyncOut (en : Bool) (div : Nat) (cam : Bool) (width offset : Nat)
  | dutyN (v : Nat)
  | pwmK (v : Nat)
  | oCam (v : Nat)
  | dither (d : Dither)
  | iLimit (v : Nat)
  | hT (v : Nat)
  | regional (b : Bool)
  | knee (v : Int)
  | tZero (v : Int)
  | cutGeom (g : Option CutGeom)
  | cutLimit (v : Nat)
  | probe (on off : Bool)
  | fill (v : Nat)
  | addMarks (m : Half)
  | dfltScene (v : Nat)
  | force (v : Nat)
  | canMode (rate : Nat) (on : Bool)
  | canFilter (pgn : BitVec 18) (sa : Byte)
  | canTimeout (v : Nat)
  | canRules (r : List Word)
  | road (on : Bool)
  | role (r : Role)
  | backup (b : Bool)
  | groups (g : List Half)
  | ports (p gen : BitVec 4)
  | floorC (v : Nat)
  | roadSrc (v : Nat)
  | policy (v : Nat)
  | idle (b : Bool)
  deriving DecidableEq, Repr

/-- A set command armed for a tick: the frame, the changes in order, its place in the order of R409, and
whether it counts toward the 16 of R236 (protected writes and `POWER_STATE` do not), and whether its frame was given (with
AT_TICK) or is that of the next tick. -/
structure ArmedCmd where
  frame   : Word
  changes : List Change
  order   : Nat
  counted : Bool
  given   : Bool
  deriving DecidableEq, Repr

/-- IEEE 1149.1 (R471): the states of the TAP controller. -/
inductive TapState where
  | testLogicReset
  | runTestIdle
  | selectDR
  | captureDR
  | shiftDR
  | exit1DR
  | pauseDR
  | exit2DR
  | updateDR
  | selectIR
  | captureIR
  | shiftIR
  | exit1IR
  | pauseIR
  | exit2IR
  | updateIR
  deriving DecidableEq, Repr

/-- Why a frame that was written is not shown (R78, R94, R344). -/
inductive BarWhy where
  | rowCrc
  | residue
  | cutoff
  deriving DecidableEq, Repr

/-- The frame decision of R334 for the frame being composed, with the readiness results of R134. `scene` is
0 to 7, or 0xFE for the empty scene. -/
structure Decision where
  fallback : Bool
  scene    : Nat
  causes   : BitVec 12
  demanded : Half
  added    : Half
  road     : Bool
  skipRep  : Bool
  uses     : List LayerUse
  seq      : Word
  lead     : Nat
  bytes    : Nat
  esc      : Bool
  geom     : Option CutGeom
  limit    : Nat
  deriving DecidableEq, Repr

/-- What is known of the frame held in A; `surfs` are the surfaces it was composed from. -/
structure Shown where
  frame    : Word
  fallback : Bool
  scene    : Nat
  causes   : BitVec 12
  demanded : Half
  added    : Half
  road     : Bool
  geom     : Option CutGeom
  limit    : Nat
  iPred    : Nat × Nat
  iLimit   : Nat
  surfs    : List Nat
  deriving DecidableEq, Repr

/-- The state of the sync loop (R28 to R31). -/
structure SyncLoop where
  state     : SyncState
  edges     : Nat
  lastEdge  : Nat
  interval  : Nat
  good      : Nat
  bad       : Nat
  selCount  : Nat
  measured  : List Nat
  stretch   : Nat
  trim      : Int
  deriving DecidableEq, Repr

/-- The settings that the composition of one frame runs under, fixed when it begins (R40, R85, R88, R91): `deadPix` are
the dead pixels that fill uses (R152), `takes` says that a stored calibration record takes effect with it (R398), `zero`
that a calibration run writes zeros in its place (R392), `k` is the K set with the resolution (R41). -/
structure CompSet where
  frame  : Word
  n      : Nat
  dither : Dither
  dq     : List Nat
  alpha  : Nat
  fillF  : Nat
  regional : Bool
  bottomUp : Bool
  rowMatch : Nat
  isolAt : BitVec 256
  flat   : Option Nat
  q      : List Nat
  map    : List Host.Cell
  iLimit : Nat
  cH     : Nat
  deadPix : List Nat
  trims  : List Byte
  k      : Nat
  takes  : Bool
  zero   : Bool
  deriving DecidableEq, Repr

/-- The causes of fast-dark (Table 03.4). -/
inductive DarkCause where
  | pin
  | fault
  | thermal
  | array
  | reset
  | halter
  deriving DecidableEq, Repr

/-- A part of a period, from PWM clock `a` to `b` after its tick, with the tiles closed throughout, whether the curb code
was at least 64, and the tiles whose report was 0.40 V (R142, R143). -/
structure Span where
  a      : Nat
  b      : Nat
  closed : BitVec 256
  curbOk : Bool
  low    : BitVec 256
  deriving DecidableEq, Repr

/-- What a probe slot could evaluate: the tiles closed in it, those of them without a report of 0.40 V, whether the curb
code was at least 64, and the probes enabled (R142 to R145). -/
structure ProbeRec where
  closed   : BitVec 256
  seen     : BitVec 256
  curbOk   : Bool
  onProbe  : Bool
  offProbe : Bool
  deriving DecidableEq, Repr

/-- What one period evaluated, for the coverage of R148: the codes, the ramp and the tile switches it ran with. -/
structure PeriodRec where
  active   : List (Nat × List Half)
  spans    : List Span
  probe    : Option ProbeRec
  cDiag    : Nat
  n        : Nat
  oCam     : Nat
  lane16   : Nat
  deriving DecidableEq, Repr

/-- The qualification state of one SIN input (Table 14.2): its filtered level, demand, the lows seen in the pulse
windows that opened last, the level at the last opening, clean own windows in a row, and the two faults in force. -/
structure SinState where
  level    : Bool
  demand   : Bool
  lowOwn   : Bool
  lowOther : Bool
  outHigh  : Bool
  clean    : Nat
  stuckDue : Bool
  stuckOn  : Bool
  crossOn  : Bool
  deriving DecidableEq, Repr

/-- The selection of the CAN listener (R353). -/
inductive CanSel where
  | none
  | scene (n : Nat)
  | empty
  deriving DecidableEq, Repr

/-- A trace frame the engine sends (Table 13.4); the rest of Table 13.3 is added from the port's state when it is sent. -/
inductive TFrame where
  | hello (p : HelloPl)
  | acknak (nak : Bool)
  | timeSync (p : TimeSyncPl)
  | pdelayReq (n : Word)
  | pdelayResp (n : Word) (t2 t3 : Dword)
  | schedule (p : SchedulePl)
  | digest (p : DigestPl)
  | state (p : StatePl)
  | enum (p : EnumPl)
  | cmd (dst : BitVec 11) (p : CmdPl)
  | e2eAck (dst : BitVec 11) (p : E2ePl)
  | cpl (dst : BitVec 11) (p : CplPl)
  | event (e : Event)
  | bulk (dst : BitVec 11) (p : BulkPl)
  deriving DecidableEq, Repr

/-- A frame as sent on a port, and its bytes (Table 13.3). -/
structure Sent where
  port  : Nat
  fcnt  : Dword
  rseq  : Word
  rack  : Word
  retx  : Bool
  frame : TFrame
  bytes : List Byte
  deriving DecidableEq, Repr

/-- The state of a trace port's session (R296, R303). -/
inductive PortState where
  | down
  | starting
  | up
  deriving DecidableEq, Repr

/-- One trace port: session, counters, replay buffer and link delay (R296 to R303, R311); `cut` says that its link broke
while it carried the tree (R308). -/
structure Port where
  state     : PortState
  signal    : Bool
  keyed     : Bool
  ownNonce  : BitVec 128
  txKey     : BitVec 128
  rxKey     : BitVec 128
  answered  : Bool
  heard     : Bool
  txFcnt    : Dword
  rxFcnt    : Option Dword
  txRseq    : Word
  rxNext    : Word
  acked     : Word
  replay    : List (Word × TFrame)
  queue     : List TFrame
  retries   : Nat
  ackDue    : Bool
  discards  : Nat
  tagFails  : List Nat
  peer      : Option HelloPl
  delays    : List Nat
  delayT1   : Option (Word × Dword)
  delayNo   : Word
  standby   : Bool
  child     : Bool
  cut       : Bool
  deriving DecidableEq, Repr

/-- A member of the team as the lead knows it (R276, R326): `conf` says that it holds its configured ID, `seen` that it
has answered the last ENUM request, `fresh` that it has been given its ID since then (R306). -/
structure Member where
  id       : BitVec 10
  crc      : Word
  major    : Byte
  minor    : Byte
  image    : Half
  state    : Byte
  quality  : Byte
  leadUs   : Nat
  stale    : Bool
  missed   : Nat
  path     : Dword
  dist     : Nat
  groups   : List Half
  conf     : Bool
  seen     : Bool
  fresh    : Bool
  deriving DecidableEq, Repr

/-- A schedule entry a follower holds (R317, R318). -/
structure SchedEntry where
  tick : Dword
  time : Dword
  firm : Bool
  len  : Nat
  deriving DecidableEq, Repr

/-- What a forwarded command has heard from one of its targets (R322). -/
inductive TargetState where
  | waiting (sends : Nat)
  | accepted
  | answered (c : Completion)
  | unreachable
  deriving DecidableEq, Repr

/-- A forwarded command at its origin or at the lead (R321 to R323). `group` says that the target was a group
or the team. -/
structure Forward where
  sub     : Sub
  entry   : BitVec 512
  group   : Bool
  targets : List (BitVec 10 × TargetState)
  deriving DecidableEq, Repr

/-- A completion that is resent until it is acknowledged (R322); `acks` are the targets that wait, through the lead, for
the same acknowledgement. -/
structure OwedCpl where
  origin : BitVec 10
  pl     : CplPl
  acks   : List (BitVec 10)
  deriving DecidableEq, Repr

/-- The duplicate window that a target keeps for an origin ring (R225, R322). -/
structure OriginWindow where
  origin   : BitVec 10
  ring     : Nat
  seqValid : Bool
  lastSeq  : Word
  window   : List WinEntry
  used     : Nat
  deriving DecidableEq, Repr

/-- A BULK stream (R324), `out` at the sender: there the pieces not yet acknowledged and the completion that follows the last
of them (`OPCODE`, entry, `STATUS`, `RESULT`); at the receiver the pieces of the running chunk, or all those of the data that
a command reads. -/
structure Stream where
  number : Word
  peer   : BitVec 11
  sent   : List (Word × List Byte)
  got    : List (Word × List Byte)
  blocks : List Nat
  fin    : Option (Nat × Sub × Half × Dword)
  out    : Bool
  deriving DecidableEq, Repr

/-- One housekeeping channel (R375 to R389): last value, team time of its conversion, flags, runs, last valid value,
learned offset in 1/1024 °C. -/
structure HkChan where
  value     : Int
  stamp     : Dword
  range     : Bool
  failed    : Bool
  lastValid : Int
  badRun    : Nat
  goodRun   : Nat
  cond      : Bool
  implaus   : Nat
  offset    : Int
  deriving DecidableEq, Repr

/-- The assay record (Table 17.4). -/
structure Assay where
  phases   : BitVec 4
  failed   : Nat
  tile     : Half
  operator : Half
  time     : Dword
  refErr   : Int
  adcGain  : Int
  adcOff   : Int
  resMax   : Nat
  resTile  : Nat
  atLimit  : Nat
  unifRes  : Nat
  eyes     : List (Byte × Byte)
  qMin     : Nat
  deriving DecidableEq, Repr

/-- The calibration record in force or staged for storing (R470), its uniformity map apart. -/
structure CalRec where
  seq     : Word
  trims   : List Byte
  q       : List Nat
  adcGain : Int
  adcOff  : Int
  refTrim : Half
  assay   : Assay
  map     : List Host.Cell
  deriving DecidableEq, Repr

/-- R482: the protocol that the serial flash speaks. -/
inductive FlashBus where
  | single
  | octal
  deriving DecidableEq, Repr

/-- R447, R482: how the engine reads the flash: data lanes, dummy cycles, address bytes, rate in MHz. -/
structure FlashRead where
  lanes : Nat
  dummy : Nat
  addr  : Nat
  mhz   : Nat
  deriving DecidableEq, Repr

/-- The stages of calibration phases 1 to 3 that a run asked for (R392). -/
structure CalRun where
  phases  : Byte
  sub     : Sub
  running : Bool
  start   : Nat
  deriving DecidableEq, Repr

/-- A configuration session (R262). -/
structure Session where
  origin   : Option (BitVec 10)
  operator : Half
  last     : Nat
  deriving DecidableEq, Repr

/-- The ordinary settings fields (Table 20.11). -/
structure OrdFields where
  engineId  : Half
  portCfg   : Word
  teamStart : List Byte
  canStart  : List Byte
  hbTimeout : Half
  crcAuto   : Byte
  pinAuto   : Byte
  staleMax  : Half
  label     : List Byte
  deriving DecidableEq, Repr

/-- The protected section of the settings record (Table 20.12). -/
structure ProtFields where
  floorC    : Half
  roadSrc   : Byte
  policy    : Byte
  cutSide   : Byte
  cutVerts  : List (Nat × Nat)
  cutLimit  : Half
  pwState   : Byte
  fails     : Byte
  lockS     : Half
  salt      : List Byte
  digest    : List Byte
  wrapped   : List Byte
  keyId     : List Byte
  recovery  : Dword
  deriving DecidableEq, Repr

/-- A settings record (Table 20.10). -/
structure Settings where
  seq  : Word
  ord  : OrdFields
  prot : ProtFields
  deriving DecidableEq, Repr

/-- A touchmark (R268). -/
structure Touchmark where
  time     : Dword
  seq      : Word
  operator : Half
  item     : Half
  oldCrc   : Word
  newCrc   : Word
  hmac     : List Byte
  deriving DecidableEq, Repr

/-- A block of the change-log region in use (R467): the sequence of its first touchmark, its anchor, and the touchmarks in
its slots 1 to 1,023. -/
structure LogBlock where
  first  : Word
  anchor : List Byte
  slots  : List Touchmark
  deriving DecidableEq, Repr

/-- A boot record (Table 20.5): state 0 CONFIRMED, 1 TRY_NEXT, 2 TRIAL. -/
structure BootRec where
  seq   : Word
  slotB : Bool
  state : Nat
  trial : Nat
  deriving DecidableEq, Repr

/-- What a flash region with two copies holds in one copy (R449, R463, R470). -/
inductive Copy (α : Type) where
  | blank
  | bad
  | good (a : α)
  deriving DecidableEq, Repr

/-- A touchmark to write (R468): its operator, its item and the CRCs of the item before and after. -/
structure MarkWrite where
  operator : Half
  item     : Nat
  old      : Word
  new      : Word
  deriving DecidableEq, Repr

/-- What a flash write does once its read-back compare passes: the rest of the command that wrote, or of the start-up
(assumption 12). After `marked` the touchmark of a record that is written already has been written too. -/
inductive AfterFlash where
  | protWrite (item : Half) (value : Word)
  | cutoff (changes : List Change) (frame : Word) (geom : Option (Byte × List (Nat × Nat))) (limit : Option Half)
  | password (salt digest : List Byte) (operator : Half)
  | login (ok : Bool) (operator : Half)
  | pwFail
  | recovery (operator : Half)
  | teamKey (key : BitVec 128)
  | calStore (r : CalRec)
  | cfgCommit
  | archive (upTo : Word)
  | ackStuck (source : Byte)
  | updWrite (offset : Nat) (bytes : List Byte)
  | updPartial (offset : Nat) (bytes : List Byte)
  | updClose
  | updConfirm
  | updCancel
  | bootTrial (slotB : Bool) (trial : Nat)
  | bootRevert (slotB : Bool)
  | bootOther (slotB : Bool)
  | renew (old : Word)
  | marked (m : MarkWrite) (act : AfterFlash)
  deriving DecidableEq, Repr

/-- A flash write in progress (R448): the command that waits for it, none for a write of the start-up, the kind of
Table 20.4, what follows, and whether its one retry is used. -/
structure FlashJob where
  sub     : Option Sub
  kind    : Nat
  act     : AfterFlash
  retried : Bool
  deriving DecidableEq, Repr

/-- The state of a field update (R284, R285): 0 idle, 1 open, 2 closed awaiting boot, 3 trial. `written` lists
the 256-byte pages programmed. -/
structure Update where
  state   : Nat
  length  : Nat
  written : List Nat
  waiting : Option Sub
  deriving DecidableEq, Repr

/-- A lane test in progress (R203 to R207). -/
structure LaneTest where
  pattern   : Nat
  generator : Bool
  checker   : Bool
  invert    : Bool
  loopback  : Nat
  rate      : Nat
  duration  : Nat
  forced    : Bool
  deriving DecidableEq, Repr

/-- An eye scan in progress (R208); `id` orders it among the data moves (R222). -/
structure EyeScan where
  id     : Nat
  sub    : Sub
  full   : Bool
  handle : Half
  offset : Nat
  deriving DecidableEq, Repr

/-- One serial lane (Tables 09.12 to 09.14). `since` is the local time up to which bits are counted (model). -/
structure Lane where
  test     : Option LaneTest
  scan     : Option EyeScan
  errCnt   : Word
  bitCount : Nat
  since    : Nat
  bitsLo   : Word
  bitsHi   : Word
  lockLoss : Half
  prbsLock : Bool
  sigDet   : Bool
  cdrLock  : Bool
  eyeW     : BitVec 7
  eyeH     : BitVec 7
  eyeValid : Bool
  ctle     : BitVec 4
  pre      : BitVec 5
  main     : BitVec 6
  post     : BitVec 5
  deriving DecidableEq, Repr

/-- A SLEEP or STANDBY entry in progress (R423): its target, its command, the state left, the last abort
point passed, whether every started command has completed, and the local time of its start. -/
structure PowerEntry where
  standby : Bool
  sub     : Sub
  prev    : Mode
  abort   : Nat
  drained : Bool
  begun   : Nat
  deriving DecidableEq, Repr

/-- A wake in progress (R427): its cause and lane, and the team time and the local time at which it qualified. -/
structure Wake where
  cause : Nat
  lane  : Nat
  time  : Dword
  at_   : Nat
  deriving DecidableEq, Repr

/-- An operation that waits for random bytes (R446). -/
inductive TrngWait where
  | password (sub : Sub) (operator : Half) (newPw : List Byte)
  | challenge (sub : Sub) (host : Dword)
  | port (p : Nat)
  deriving DecidableEq, Repr

end Sys2Proof.Machine
end

