-- ==== Sys2Proof/Config.lean ====
section
/-!
DEFINITION. What an implementation fixes and what the manual leaves open: constants without a body, of which no
proof can see a value (assumptions 9, 10, 13, 25, 36, 58).
-/
namespace Sys2Proof.Config

/-- R446: byte `n` of the random numbers that the engine draws. DESIGN CHOICE (assumption 10): a free value. -/
opaque freeByte : Nat → Byte
/-- R165, R166: the engine's n-th choice among the slots or blocks that an allocation may take. DESIGN CHOICE
(assumption 10): a free value. -/
opaque freePick : Nat → Nat
/-- Table 18.12: the level at the lands of the GPIO inputs at the n-th read. DESIGN CHOICE (assumption 10): a
free value. -/
opaque gpioLevel : Nat → Byte
/-- R158: the charge in µA ns that all tiles have drawn since the window began, at the n-th trip of the comparator. DESIGN
CHOICE (assumption 10): a free value. -/
opaque arrayCharge : Nat → Nat
/-- R398: what the ADC corrections (gain in ppm, offset in µV) make of a conversion of a channel: how they reach a value in
the unit of the channel is not stated. DESIGN CHOICE (assumption 10): uninterpreted. -/
opaque hkCorrect : Nat → Int → Int → Int → Int
/-- R271, R392: whether a time of n ns that is no whole number of ms counts its last part as one ms. DESIGN CHOICE
(assumption 10): a free value. -/
opaque msUp : Nat → Bool
/-- R490: the item words of the local items that commands set, address and value, in ascending address order: their addresses,
from 0x0001_0100 upward, and their split into words are not published. DESIGN CHOICE (assumption 13): uninterpreted. -/
opaque localItems : Machine.Params → List (Nat × Word)
/-- R193: a configuration-space word that Table 09.7 does not name ("the values that the standard prescribes").
DESIGN CHOICE (assumption 13): uninterpreted. -/
opaque cfgWord : Nat → Word
/-- R192: the 8-bit tag of the n-th read request: no rule gives it. DESIGN CHOICE (assumption 16): a free value. -/
opaque readTag : Nat → Byte
/-- R204: bit i that the receiver of a lane takes in during the n-th count of its checker. DESIGN CHOICE (assumption 24): a
free value. -/
opaque rxBit : Nat → Nat → Bool
/-- R193: the bits of such a word that software can write. DESIGN CHOICE (assumption 13): uninterpreted. -/
opaque cfgMask : Nat → Word
/-- Byte offset of the PCI Express capability structure. DESIGN CHOICE (assumption 13): uninterpreted. -/
opaque pcieCap : Nat
/-- Byte offset of the MSI-X capability structure. DESIGN CHOICE (assumption 13): uninterpreted. -/
opaque msixCap : Nat
/-- Byte offset of the power-management capability structure. DESIGN CHOICE (assumption 13): uninterpreted. -/
opaque pmCap : Nat
/-- Byte offset of the AER extended capability. DESIGN CHOICE (assumption 13): uninterpreted. -/
opaque aerCap : Nat
/-- Byte offset of the Device Serial Number extended capability. DESIGN CHOICE (assumption 13): uninterpreted. -/
opaque dsnCap : Nat
/-- Byte offset of the PTM extended capability. DESIGN CHOICE (assumption 13): uninterpreted. -/
opaque ptmCap : Nat
/-- FIPS 180-4: SHA-256. Uninterpreted (assumption 9). -/
opaque sha256 : List Byte → List Byte
/-- FIPS 198-1: HMAC-SHA-256 of key and message. Uninterpreted (assumption 9). -/
opaque hmac : List Byte → List Byte → List Byte
/-- NIST SP 800-38D: the tag of AES-128 GMAC over a message, of key and IV. Uninterpreted (assumption 9). -/
opaque gmac : List Byte → List Byte → List Byte → List Byte
/-- R315: how many hops of the port path above the own one run at generation 1: the links of other engines, of which no
frame tells. DESIGN CHOICE (assumption 58): a free value. -/
opaque slowHops : Dword → Nat
/-- R321: whether a member lists a group when the lead starts its n-th choice, by the member's ID and by the `GROUPS` that the
lead has last heard of: its own host can change them, and no frame tells the lead. DESIGN CHOICE (assumption 25): a free
value. -/
opaque listsGroup : Nat → List Half → BitVec 10 → BitVec 11 → Bool
/-- R327: the major revision of a lead that is no neighbour differs from this engine's: no frame tells it. DESIGN CHOICE
(assumption 36): a free value. -/
opaque leadDiffers : BitVec 10 → Bool
/-- R327: the lead's shared reference is stale at the n-th comparison: no frame tells it. DESIGN CHOICE (assumption 36): a
free value. -/
opaque leadStale : Nat → Bool
/-- R437: what the anti-rollback registers read while no OTP load has passed its CRC: no default is given. DESIGN CHOICE
(assumption 10): a free value. -/
opaque fusesUnread : Dword
/-- NIST SP 800-132: PBKDF2 of R466, password and salt. Uninterpreted (assumption 9). -/
opaque pbkdf2 : List Byte → List Byte → List Byte
/-- FIPS 186-5: ECDSA P-256 verification: public key, message, signature. Uninterpreted (assumption 9). -/
opaque ecdsaOk : List Byte → List Byte → List Byte → Bool
/-- R1: the ROM firmware version, 1.4, as Table 11.3 codes it. -/
def romVersion : Byte := 0x14
/-- R1: the stepping, B1. -/
def stepping : Byte := 0xB1

end Sys2Proof.Config
end

