-- ==== Sys2Proof/Machine/State.lean ====
section
/-!
DEFINITION. The state of the engine, as plain data, and the state right after reset. Every piece of state that
the manual names has its field; the fields marked (model) are the model's own bookkeeping (assumption 4). Values
of `State.reset` that the manual does not give are listed with their log entries in `INVENTORY.md`.
-/
namespace Sys2Proof.Machine

/-- A fault of the block. No command's effect is a fault: the manual gives every access and every command an
outcome. The constructor exists because a step's outcome names a fault type; nothing raises it. Safe. -/
inductive Fault where
  /-- Raised by nobody. Safe. -/
  | none
  deriving DecidableEq, Repr

/-- A refusal of the model. -/
inductive Refusal where
  /-- A command without a meaning yet. Raised by an arm of `exec` only. Safe: no claim follows from it. -/
  | notModelled (mnemonic : String)
  deriving DecidableEq, Repr

/-- A ring pair at reset (Table 10.1). -/
def Ring.reset : Ring :=
  { enabled := false, sqTail := 0, sqHead := 0, cqTail := 0, cqHead := 0, cqPhase := true, halted := false
    seqValid := false, lastSeq := 0, window := [], fetched := [], running := [], held := [], muted := []
    modCount := 0, modStart := 0, sqIndex := 0, cqIndex := 0, sqLate := none, cqLate := none }

/-- The event ring at reset (Table 10.2). -/
def EventRing.reset : EventRing :=
  { enabled := false, tail := 0, head := 0, phase := true, lost := 0, lostFlag := false, seq := 0
    modCount := 0, modStart := 0, index := 0, late := none }

/-- R125: set 0, linear interpolation; reset restores sets 1 to 3 to copies of it. -/
def coefReset : CoefSet :=
  { h := (List.range 64).map fun p => [0, 0, 0, 1024 - 16 * (p : Int), 16 * (p : Int), 0, 0, 0]
    v := (List.range 64).map fun p => [0, 1024 - 16 * (p : Int), 16 * (p : Int), 0] }

/-- Table 06.2: the defaults of a layer; `blend`, `notReady`, `streaming` differ by kind. -/
def LayerCfg.reset (b : Blend) (n : NotReady) (st : Bool) : LayerCfg :=
  { surface := 0, srcX := 0, srcY := 0, srcW := 0, srcH := 0, dstX := 0, dstY := 0, dstW := 0, dstH := 0
    predec := 1, coefH := 0, coefV := 0, blend := b, notReady := n, streaming := st, alpha := 65535
    s0Y := 0, glareSafe := 655, shHandle := 0, shOffset := 0, shCount := 0 }

/-- The working scene at reset (Table 06.2, R138). -/
def Scene.reset : Scene :=
  { layers :=
      [ LayerCfg.reset .sourceOver .transparent true, LayerCfg.reset .sourceOver .transparent true,
        LayerCfg.reset .sourceOver .hold false, LayerCfg.reset .sourceOver .hold false,
        LayerCfg.reset .sourceOver .hold false, LayerCfg.reset .sourceOver .hold false,
        LayerCfg.reset .multiply .conservative true ]
    orderMode := 0, order := [0, 1, 2, 3, 4, 5, 6], shapes := [], capSurf := 0, capTap := 0, capMode := .off }

/-- A layer without any post (R133). -/
def LayerRun.reset : LayerRun :=
  { newest := none, cand := none, used := none, shown := none, late := 0, memErr := false, errUnits := []
    errScene := 0, again := false, hold := none, lastSurf := 0 }

/-- Every settable item at its default (Tables 02.2, 04.2, 12.3, 12.5, 12.7; R147, R378, R422). -/
def Params.reset : Params :=
  { pNom := 16666667, tGuard := 20, leadFix := 0, bottomUp := false, rowMatch := 0xFFFF, events := 0
    fsyncSrc := false, ms := 1, ns := 1, falling := false, phase := 0
    foEnable := true, foDiv := 1, foCam := false, foWidth := 10, foOffset := 0
    dutyN := 16, pwmK := 0, oCam := 0, dither := .spatialTemporal
    iLimit := 12500, hT := 550, regional := false, knee := 115, tZero := 145
    cutGeom := none, cutLimit := 655, onProbe := true, offProbe := true, fillF := 0
    addMarks := 0, dfltScene := 0, hbTimeout := 200, force := 0
    can := { rate := 1, on := true, pgn := 0xFE41, sa := 0xFF, timeout := 30, rules := List.replicate 8 0 }
    roadCmd := false, role := .alone, backup := false, groups := [0, 0, 0, 0], ports := 0, gens := 0
    floorC := 410, roadSrc := 0, policy := 1, idle := false }

/-- The sync loop at reset: FREE (R32). -/
def SyncLoop.reset : SyncLoop :=
  { state := .free, edges := 0, lastEdge := 0, interval := 0, good := 0, bad := 0, selCount := 0
    measured := [], stretch := 0, trim := 0 }

/-- A SIN input before its first sample: high, without demand (log entry 18). -/
def SinState.reset : SinState :=
  { level := true, demand := false, lowOwn := false, lowOther := false, outHigh := true, clean := 0
    stuckDue := false, stuckOn := false, crossOn := false }

/-- A housekeeping channel at reset (Table 16.3, R387). -/
def HkChan.reset : HkChan :=
  { value := 0, stamp := 0, range := false, failed := false, lastValid := 0, badRun := 0, goodRun := 0, cond := false
    implaus := 0, offset := 0 }

/-- The ordinary settings fields at their defaults (Table 20.11). -/
def OrdFields.reset : OrdFields :=
  { engineId := 0, portCfg := 0x02020202, teamStart := List.replicate 12 0
    canStart := [0x05, 0xFF, 0x41, 0xFE, 0x00, 0, 30, 0]
    hbTimeout := 200, crcAuto := 0, pinAuto := 0, staleMax := 100, label := List.replicate 32 0 }

/-- The protected section at its defaults (Table 20.12). -/
def ProtFields.reset : ProtFields :=
  { floorC := 410, roadSrc := 0, policy := 1, cutSide := 0, cutVerts := [], cutLimit := 655
    pwState := 0, fails := 0, lockS := 0, salt := List.replicate 16 0, digest := List.replicate 32 0
    wrapped := List.replicate 16 0, keyId := List.replicate 16 0, recovery := 0 }

/-- The settings record at its defaults (R463). -/
def Settings.reset : Settings := { seq := 0, ord := OrdFields.reset, prot := ProtFields.reset }

/-- No update open (R284). -/
def Update.reset : Update := { state := 0, length := 0, written := [], waiting := none }

/-- A lane at reset (Tables 09.12 to 09.14). -/
def Lane.reset : Lane :=
  { test := none, scan := none, errCnt := 0, bitCount := 0, since := 0, bitsLo := 0, bitsHi := 0, lockLoss := 0
    prbsLock := false, sigDet := false, cdrLock := false, eyeW := 0, eyeH := 0, eyeValid := false, ctle := 0
    pre := 0, main := 48, post := 0 }

/-- A trace port before its start (R296). -/
def Port.reset : Port :=
  { state := .down, signal := false, keyed := false, ownNonce := 0, txKey := 0, rxKey := 0, answered := false
    heard := false, txFcnt := 0, rxFcnt := none, txRseq := 0, rxNext := 0, acked := 0, replay := [], queue := []
    retries := 0, ackDue := false, discards := 0, tagFails := [], peer := none, delays := [], delayT1 := none
    delayNo := 0, standby := false, child := false, cut := false }

/-- Clocks and team time (13_team.md, R309 to R314; 18_registers.md, Table 18.11). -/
structure Clk where
  /-- the team-time counter in ns; it counts from 0 at every start; R309. -/
  team : Dword
  /-- the local time base in ns, which time steps do not move (model); R385. -/
  loc : Nat
  /-- the discipline of team time; R309. -/
  disc : Discipline
  /-- t1 of the PTM dialog in progress (model); R310. -/
  ptmT1 : Option Dword
  /-- no DL_Down has invalidated the PTM context (model); R200. -/
  ptmCtx : Bool
  /-- the next dialog used for a correction steps the counter (model); R310. -/
  ptmStep : Bool
  /-- the PTM discipline has settled; R314. -/
  ptmSettled : Bool
  /-- the correction still to be slewed in, ns (model); R310 R313. -/
  slew : Int
  /-- the last correction, of a PTM dialog or a TIME_SYNC, ns (model); R310 R313. -/
  rate : Int
  /-- time since the correction before it, ns (model); R310 R313. -/
  rateOver : Nat
  /-- local time of the last PTM dialog or TIME_SYNC used (model); R310 R313. -/
  ptmAt : Nat
  /-- local time since which the last rate is kept (model); R310 R313. -/
  holdAt : Option Nat
  /-- offset to the lead (or to the PTM master) as last measured, ns; R279. -/
  offset : Int
  /-- TT_NOW_HI; R420. -/
  nowHi : Word
  /-- TT_EDGE, the last reference edge; Table 18.11. -/
  edge : Dword
  /-- TT_TICK, team time of the last tick; Table 18.11. -/
  tickTime : Dword
  /-- TT_FRAME, frame number of the last tick; Table 18.11. -/
  tickFrame : Word
  deriving DecidableEq, Repr

/-- Straps and OTP content (09_lanes_and_host_port.md, R183; 20_security_update.md, Table 20.2). -/
structure Idn where
  /-- strap PCIE_W; R183. -/
  pcieW : BitVec 2
  /-- strap REFCLK_SEL; R183. -/
  refclkSel : Bool
  /-- strap CLK_MODE; R183. -/
  clkMode : Bool
  /-- strap FLASH_MODE; R183. -/
  flashMode : Bool
  /-- strap BOARD_ID; R183. -/
  boardId : BitVec 3
  /-- emitter variant from OTP; R4. -/
  emitter : Byte
  /-- device serial number from OTP; Table 18.6. -/
  serial : Dword
  /-- subsystem vendor ID in OTP; none while blank; R193. -/
  subVendor : Option Half
  /-- subsystem ID in OTP; none while blank; R193. -/
  subId : Option Half
  /-- OTP SEC_LOCK; R444. -/
  secLock : Bool
  /-- OTP debug-lock fuse; R471. -/
  debugLock : Bool
  /-- root key hash; empty while blank; Table 20.2. -/
  rootKey : List Byte
  /-- recovery public key; Table 20.2. -/
  recoveryKey : List Byte
  /-- device secret; Table 20.2. -/
  secret : List Byte
  /-- anti-rollback fuses, blown fuse n in bit n; Table 20.2. -/
  fuses : BitVec 64
  /-- trim codes derived from the wafer-level trims in OTP; R56. -/
  waferTrims : List Byte
  deriving DecidableEq, Repr

/-- Power states, reset and start-up (19_power_reset_boot.md). -/
structure Pwr where
  /-- power state, reset or start-up; R422. -/
  mode : Mode
  /-- VAON is valid (the reset moment of log entry 1) (model); R435. -/
  vaon : Bool
  /-- local time of the reference of Table 19.9 (model); R436. -/
  refAt : Nat
  /-- PWR_EN asserted (model); R435. -/
  pwrEn : Bool
  /-- the supply monitors have seen the rails valid for 1 ms (model); R435. -/
  supplies : Bool
  /-- level of RST_N (model); R433. -/
  rstN : Bool
  /-- step register of the always-on domain; 255 unknown; R434. -/
  step : Nat
  /-- step last reached by the previous start; 255 unknown; Table 19.8. -/
  prevStep : Nat
  /-- FAILED_STARTS; R439. -/
  failed : BitVec 3
  /-- FAILED_STARTS as read at the reference of this start (model); Table 19.8. -/
  failedRead : BitVec 3
  /-- STANDBY_COUNT; Table 18.10. -/
  standbyCount : Half
  /-- PWR_WAKE_CAUSE.CAUSE; Table 18.10. -/
  wakeCause : BitVec 4
  /-- PWR_WAKE_CAUSE.LANE; Table 18.10. -/
  wakeLane : BitVec 3
  /-- PWR_WAKE_CAUSE.STANDBY; Table 18.10. -/
  wakeStandby : Bool
  /-- reset cause of this start; Table 19.8. -/
  resetCause : Nat
  /-- the SLEEP or STANDBY entry in progress; R423. -/
  entry : Option PowerEntry
  /-- the pending slot; R425. -/
  pend : Option (Byte × Sub)
  /-- the wake from SLEEP in progress; R427. -/
  wake : Option Wake
  /-- local time at which a wake cause other than a doorbell last qualified while no entry ran (model); R424. -/
  wakeSeen : Option Nat
  /-- team time at which SLEEP was reached (model); R281. -/
  sleepAt : Dword
  /-- OTP load attempts of this start; R437. -/
  otpTries : Nat
  /-- the OTP CRC passed; R437. -/
  otpOk : Bool
  /-- the OTP load failed three times; R437. -/
  otpFailed : Bool
  /-- configuration space ready (step 4 of Table 09.9); R201. -/
  configReady : Bool
  /-- DEV_STATE.READY; Table 18.6. -/
  ready : Bool
  /-- slot given up and revert cause, to report at READY (model); R459. -/
  revert : Option (Bool × Nat)
  /-- data of EV_SETTINGS_DEFAULTED of this start (model); R463. -/
  setDef : Option (Nat × Nat × Word × Bool)
  /-- the DRAM is trained; R161. -/
  hasDram : Bool
  /-- the DRAM is in self-refresh; R423. -/
  selfRefresh : Bool
  /-- the farrier core runs; R17. -/
  farrier : Bool
  /-- the groom core runs; R17. -/
  groom : Bool
  /-- the ostler core runs; R17. -/
  ostler : Bool
  /-- watchdog expiries of the last 60 s, local time; R455. -/
  wdogs : List (CoreId × Nat)
  /-- cores that stay stopped until reset; R455. -/
  stopped : List CoreId
  /-- state of the TAP controller of IEEE 1149.1; R471. -/
  tap : TapState
  /-- the health tests of the random number generator pass; R446. -/
  trngOk : Bool
  /-- GPIO output latch; Table 18.12. -/
  gpioLatch : Byte
  /-- the cores run on qualified PLL clocks; R428. -/
  coreClock : Bool
  deriving DecidableEq, Repr

/-- The PCI Express endpoint (09_lanes_and_host_port.md, R192 to R202). -/
structure Bus where
  /-- the data link is up; R201. -/
  linkUp : Bool
  /-- link generation; R209. -/
  speed : Nat
  /-- link width, 0 while down; R192. -/
  width : Nat
  /-- the link has trained with its lanes reversed; R192. -/
  reversed : Bool
  /-- Uncorrectable Error Status of AER; R199. -/
  aerUnc : Word
  /-- Correctable Error Status of AER; R199. -/
  aerCor : Word
  /-- the link is in L1; R198. -/
  l1 : Bool
  /-- Memory Space Enable; R197. -/
  memEn : Bool
  /-- Bus Master Enable; R197. -/
  master : Bool
  /-- the function is in D3hot; R197. -/
  d3 : Bool
  /-- BAR0; R194. -/
  bar0 : Word
  /-- BAR2; R194. -/
  bar2 : Word
  /-- BAR4 and BAR5; R194. -/
  bar4 : Dword
  /-- PTM Enable; R200. -/
  ptmEn : Bool
  /-- ASPM L1 enabled by the host; R198. -/
  aspmL1 : Bool
  /-- MSI-X Enable; R195. -/
  msixEn : Bool
  /-- MSI-X Function Mask; R195. -/
  funcMask : Bool
  /-- other written configuration-space words, by offset; R193. -/
  cfg : List (Nat × Word)
  /-- MSI-X table; R195. -/
  msix : List MsixEntry
  /-- MSI-X pending bits; R195. -/
  pba : Word
  /-- local times of the correctable errors of the last 1 s; R199. -/
  corr : List Nat
  /-- requests held back while Bus Master Enable is 0 (log entry 16) (model); R197. -/
  held : List BusOut
  /-- read requests issued, by which their tags are told apart (log entry 16) (model); R192. -/
  reads : Nat
  /-- what the engine has put on the link, oldest first (log entry 8) (model); R218 R230. -/
  out : List BusOut
  deriving DecidableEq, Repr

/-- The register file, update strobe and configuration CRC (18_registers.md). -/
structure Reg where
  /-- class-C shadows that differ from the reset value, by offset; R406. -/
  shadow : List (Nat × Word)
  /-- class-C values in force that differ from the reset value, by offset; R406. -/
  force : List (Nat × Word)
  /-- armed register sets; R407. -/
  sets : List ArmedSet
  /-- UPD_AT_LO; Table 18.7. -/
  atLo : Word
  /-- UPD_AT_HI; Table 18.7. -/
  atHi : Word
  /-- UPD_STATUS.REFUSED; Table 18.7. -/
  refused : BitVec 9
  /-- UPD_STATUS.REPLACED; Table 18.7. -/
  replaced : Bool
  /-- UPD_STATUS.LATE; Table 18.7. -/
  late : Bool
  /-- CFG_CRC_REF_S; Table 18.7. -/
  refS : Word
  /-- CFG_CRC_REF_L; Table 18.7. -/
  refL : Word
  /-- CFG_CRC_CUR_S; Table 18.7. -/
  curS : Word
  /-- CFG_CRC_CUR_L; Table 18.7. -/
  curL : Word
  /-- STALE_S; Table 18.7. -/
  staleS : Bool
  /-- STALE_L; Table 18.7. -/
  staleL : Bool
  /-- FRESH_S; Table 18.7. -/
  freshS : Bool
  /-- FRESH_L; Table 18.7. -/
  freshL : Bool
  /-- MISMATCH_S; Table 18.7. -/
  mismS : Bool
  /-- MISMATCH_L; Table 18.7. -/
  mismL : Bool
  /-- PASSES; Table 18.7. -/
  passes : Byte
  /-- local time at which the shared partition became stale (model); R415. -/
  staleAtS : Nat
  /-- local time at which the local partition became stale (model); R415. -/
  staleAtL : Nat
  /-- F_CFG_STALE raised for the shared partition since its last commit; R415. -/
  lateS : Bool
  /-- F_CFG_STALE raised for the local partition since its last commit; R415. -/
  lateL : Bool
  /-- an application touched the shared partition during the running pass (model); R413. -/
  touchS : Bool
  /-- an application touched the local partition during the running pass (model); R413. -/
  touchL : Bool
  /-- CFG_LOCK.LOCKED; Table 18.7. -/
  locked : Bool
  /-- INT_STAT; Table 18.8. -/
  intStat : BitVec 6
  /-- the engine's own commit of step 10 has been made (model); R415. -/
  committed : Bool
  deriving DecidableEq, Repr

/-- The rings (10_rings_and_doorbells.md). -/
structure Rngs where
  /-- the sixteen ring pairs; R210 R225. -/
  q : List Ring
  /-- the event ring; R210 R220. -/
  eq : EventRing
  /-- consecutive starts from urgent rings; R221. -/
  urgentRun : Nat
  /-- urgent ring served last; R221. -/
  lastUrgent : Nat
  /-- normal ring served last; R221. -/
  lastNormal : Nat
  /-- starts left to that normal ring in its turn; R221. -/
  credit : Nat
  deriving DecidableEq, Repr

/-- The flight log (08_buffer_pool.md, R179 to R181). -/
structure Log where
  /-- entries collected on-die, oldest first; R180. -/
  onDie : List LogEntry
  /-- entries in DRAM by index; R179. -/
  dram : List (Nat × LogEntry)
  /-- index of the next entry to write; R180. -/
  next : Nat
  /-- wrap count; R180. -/
  wraps : Nat
  /-- starts since the log was initialised; R180. -/
  starts : Nat
  /-- log sequence of the next entry; R179. -/
  seq : Word
  /-- the CRC-32 that the header in DRAM holds; R180. -/
  hdrCrc : Word
  deriving DecidableEq, Repr

/-- The fault collector (15_fault_handling.md). -/
structure Flt where
  /-- FLT_FIRST_SRC.VALID; Table 15.3. -/
  valid : Bool
  /-- FLT_FIRST_SRC.SRC; Table 15.3. -/
  src : Byte
  /-- FLT_FIRST_SRC.SEV; Table 15.3. -/
  sev : Nat
  /-- time stamp of the first-error latch; R365. -/
  ts : Dword
  /-- FLT_OVF; Table 15.3. -/
  ovf : Bool
  /-- FLT_FIRST_TS_LO; Table 15.3. -/
  tsLo : Word
  /-- FLT_FIRST_TS_HI; Table 15.3. -/
  tsHi : Word
  /-- sticky bits; Table 15.3. -/
  sticky : BitVec 160
  /-- DEGRADE latches; R360. -/
  degrade : BitVec 160
  /-- SAFE latches; R360. -/
  safe : BitVec 160
  /-- DARK latches; R360. -/
  dark : BitVec 160
  /-- sources whose condition persists; R358. -/
  cond : BitVec 160
  /-- once-per-episode holds; R371. -/
  held : BitVec 160
  /-- the last fault-latch entry of a source: its log sequence and bytes 16 to 23 of its data (model); R368. -/
  entries : List (Nat × (Word × List Byte))
  /-- first source behind cause 2 or 9; Table 14.6. -/
  behind : Byte
  /-- FAULT_N asserted; R369. -/
  pin : Bool
  /-- the assertion of FAULT_N is the action of a raise and not that of a reset; Table 15.3. -/
  pinSev : Bool
  /-- REL_PENDING; Table 15.3. -/
  relPending : Bool
  /-- local time of the last restart of the minimum width (model); R369. -/
  pinSince : Nat
  deriving DecidableEq, Repr

/-- Buffer pool and DRAM (08_buffer_pool.md). -/
structure Pool where
  /-- the bytes of the pool, 0x0000_0000 to 0x05FF_FFFF; R164. -/
  mem : List Host.Cell
  /-- uncorrectable 64-byte units, by data address; R177. -/
  ue : List Nat
  /-- 64-byte units with a single-bit error that no access has met, by data address; R176. -/
  ce : List Nat
  /-- the handles that exist; R166. -/
  handles : List Handle
  /-- last generation used of each slot; R166. -/
  gens : List (Nat × Nat)
  /-- data moves in progress; R243. -/
  moves : List Move
  /-- name of the next data move (model); R243. -/
  nextMove : Nat
  /-- unit that the scrub reads next; R178. -/
  scrub : Nat
  /-- units of the uniformity map whose error has been raised (model); R84. -/
  mapUe : List Nat
  deriving DecidableEq, Repr

/-- Surfaces, layers and scenes (05_surfaces.md, 06_composition.md). -/
structure Scn where
  /-- defined surfaces; R101. -/
  surfs : List Surface
  /-- the working scene; R129. -/
  work : Scene
  /-- staged scenes; R130. -/
  staged : List Staged
  /-- the committed scene in force; none before the first commit; R130. -/
  cur : Option Staged
  /-- scene sequence of the next commit; R129. -/
  nextSeq : Word
  /-- coefficient sets 0 to 3; R125. -/
  coefs : List CoefSet
  /-- surfaces named by a scene or a post since the last tick, or still named at it; R131. -/
  inUse : List Nat
  /-- handles named by a shape post since the last tick, or still named at it; R131. -/
  inUseH : List Half
  /-- streaming state of the seven host layers; R133. -/
  runs : List LayerRun
  deriving DecidableEq, Repr

/-- The frame and the tick (02_frame_and_tick.md). -/
structure Frm where
  /-- every item of the set commands and protected writes in force; R26 R83. -/
  params : Params
  /-- armed set commands; R236. -/
  armed : List ArmedCmd
  /-- order of the next arming (model); R409. -/
  armSeq : Nat
  /-- frame number of the last tick; R23. -/
  frame : Word
  /-- a tick has occurred since reset (model); R23. -/
  ticked : Bool
  /-- length of the running period, ns; R29. -/
  period : Nat
  /-- length of the next period where it is fixed one tick ahead (model); R316. -/
  nextLen : Option Nat
  /-- that next period is stretched (model); R316. -/
  nextStr : Bool
  /-- local time of the last tick (model); R29. -/
  tickLoc : Nat
  /-- the running period is stretched; R45. -/
  stretched : Bool
  /-- the cut-off of the next frame has passed (model); R37. -/
  cutDone : Bool
  /-- the guard interval has begun (model); R42. -/
  blank : Bool
  /-- the composition or fallback fill of the next frame has begun (model); R36. -/
  compOn : Bool
  /-- local time at which it began (model); R36. -/
  compStart : Nat
  /-- rows of the next frame written; R76. -/
  rows : Nat
  /-- the last row of the next frame is written (model); R36. -/
  compDone : Bool
  /-- settings of the running composition (model); R85 R91. -/
  comp : Option CompSet
  /-- the frame decision for the next frame; R334. -/
  dec : Option Decision
  /-- why the next frame may not be shown; R78. -/
  fail : Option BarWhy
  /-- the next frame missed its guard; R42. -/
  under : Bool
  /-- consecutive skipped swaps that count; R44. -/
  skips : Nat
  /-- the last tick was a REPEAT_FRAME skip; R136. -/
  lastRepeat : Bool
  /-- what is known of the frame in A; R39. -/
  shown : Option Shown
  /-- cause 3 of Table 14.5 in force; R44. -/
  fb44 : Bool
  /-- cause 4 of Table 14.5 in force; R340. -/
  esc : Bool
  /-- the failed checks of R340 ask for the fallback path (model); R340. -/
  escNext : Bool
  /-- tick source in force; R25. -/
  src : TickSource
  /-- the sync loop; R30. -/
  sync : SyncLoop
  /-- resolution of the running ramp; R41. -/
  rampN : Nat
  /-- K of the running period; R45. -/
  rampK : Nat
  /-- K as set for the resolution of the running ramp, 0 for automatic (model); R41 R45. -/
  setK : Nat
  /-- f_pwm of the running period: numerator (clocks) (model); R45. -/
  fNum : Nat
  /-- f_pwm of the running period: denominator (ns) (model); R45. -/
  fDen : Nat
  /-- level of FSYNC_OUT; R33. -/
  fsyncOut : Bool
  /-- FSYNC_OUT has pulsed for the last tick (model); R33. -/
  foDone : Bool
  /-- level of FSYNC_IN (model); R28. -/
  fsyncIn : Bool
  /-- the array is dark by a power entry (A1); R423. -/
  powerDark : Bool
  /-- no frame is composed (from A1) (model); R423. -/
  sleepTicks : Bool
  /-- invalid tiles met by each layer in this composition (model); R114. -/
  ctfBad : List (Nat × List (Nat × Nat))
  /-- layers transparent for the rest of this composition; R137. -/
  dead : List Nat
  /-- source rows that the layers of this composition hold, fetched once: layer, row, luminance and alpha; R116 R122. -/
  lines : List (Nat × List (Nat × List (Nat × Nat)))
  /-- rows that the capture tap has written of this frame; R138. -/
  capRows : Nat
  /-- marks whose comparator has failed in this frame; R128. -/
  markBad : Half
  /-- kinds 1 to 3 of F_CUTOFF raised for this frame; R344. -/
  cutKinds : BitVec 3
  /-- verdict of the checker self-test for this frame; R344. -/
  cutTest : Option Bool
  /-- column maxima that the checker keeps of the frame being written; empty while all are 0; R344. -/
  colMax : List Nat
  /-- what the probe slot of this period could evaluate (model); R145. -/
  probed : Option ProbeRec
  deriving DecidableEq, Repr

/-- Photometric pipeline and curb governor (04_luminance_to_current.md). -/
structure Pho where
  /-- curb code in force, relight cap apart; R55. -/
  curb : Nat
  /-- curb code fixed at step 1 of Table 02.7 (model); R39. -/
  fixed : Nat
  /-- relight cap 1/2 in force; R158. -/
  cap : Bool
  /-- highest curb code that the window of the last load of the DAC had before it (model); R156. -/
  curbOld : Nat
  /-- local time of that load (model); R156. -/
  curbAt : Nat
  /-- attenuation of the next composition; R90. -/
  alpha : Nat
  /-- attenuation decided at step 1 for the next composition (model); R88. -/
  nextAlpha : Nat
  /-- D_G; R85. -/
  dG : Nat
  /-- D_G at the last tick; R258. -/
  dGTick : Nat
  /-- region factors D_q; R85. -/
  dq : List Nat
  /-- accumulator A_H; R95. -/
  aH : Nat
  /-- accumulator A_N; R95. -/
  aN : Nat
  /-- accumulator A_N0; R95. -/
  aN0 : Nat
  /-- tile accumulators A_t of the frame being written; R156. -/
  aTile : List Nat
  /-- the frame being written shows a mark; R82. -/
  shows : Bool
  /-- uniformity map in force, bytes other than 128; R84. -/
  map : List Host.Cell
  /-- s_I was below 1 at the last tick evaluated; R100. -/
  limited : Bool
  /-- an applied factor was below 4,096 at the last frame evaluated; R100. -/
  derated : Bool
  /-- s_I was below 1 at step 1 (model); R100. -/
  fixLim : Bool
  /-- an applied factor was below 4,096 at step 1 (model); R100. -/
  fixDer : Bool
  deriving DecidableEq, Repr

/-- The emitter array (03_emitter_array.md, 07_pixel_health.md). -/
structure Arr where
  /-- shadow latches S by row; a row not listed is all zero; R52. -/
  s : List (Nat × List Half)
  /-- active latches A by row; a row not listed is all zero; R53. -/
  a : List (Nat × List Half)
  /-- row CRCs of the frame being written; R76. -/
  crcS : List (Nat × Word)
  /-- row CRCs of the frame in A; R79. -/
  crcA : List (Nat × Word)
  /-- tile trim codes in force; R56. -/
  trims : List Byte
  /-- Q_t in force; R56. -/
  q : List Nat
  /-- ramp counters of the tiles at the last tick, against a reference of 0; R54. -/
  ramp : List Half
  /-- active causes of fast-dark; R64. -/
  causes : List DarkCause
  /-- tiles within an over-current opening; R157. -/
  tripOpen : List Nat
  /-- tiles that tripped and whose close the relight sequence brings (model); R157 R160. -/
  tripDark : BitVec 256
  /-- tiles whose switch has been open since the last tick (model); R151. -/
  wasOpen : BitVec 256
  /-- isolations held by R154; R154. -/
  hw154 : BitVec 256
  /-- isolations held by R159; R159. -/
  hw159 : BitVec 256
  /-- R154 isolations to be released at a tick; R155. -/
  rel154 : BitVec 256
  /-- R159 isolations to be released at a tick; R159. -/
  rel159 : BitVec 256
  /-- the isolation mask in force; R63. -/
  isol : BitVec 256
  /-- isolations that stay for the tick of the frame, fixed when its writing began (model); R40. -/
  isolFix : BitVec 256
  /-- order of arming at which the writing of the frame began (model); R40. -/
  fixSeq : Nat
  /-- next tile row that the relight sequence closes; R67. -/
  relight : Option Nat
  /-- tile rows that the relight sequence has closed; R67. -/
  relit : BitVec 8
  /-- tile trips of the last 1 s: tile and team time; R159. -/
  tileTrips : List (Nat × Nat)
  /-- tile and local time of the restart of its charge count, by its last close after a trip; R157. -/
  chargeAt : List (Nat × Nat)
  /-- local time of the last array trip (model); R158. -/
  arrTripAt : Option Nat
  /-- tile accumulators A_t of the frame in A; R156. -/
  aT : List Nat
  /-- array trips of the last 1 s, team time; R159. -/
  arrTrips : List Nat
  deriving DecidableEq, Repr

/-- Pixel health (07_pixel_health.md). -/
structure Hlt where
  /-- sticky bits OPEN, SHORT, STUCK of the fault pixel map, non-zero bytes; R149. -/
  map : List Host.Cell
  /-- what the last 16 periods evaluated, newest first; R148. -/
  hist : List PeriodRec
  /-- parts of the running period between changes of what can be evaluated (model); R142 R148. -/
  spans : List Span
  /-- local time at which the running part began (model); R142. -/
  spanAt : Nat
  /-- faults found in the running period; R144. -/
  found : List PixelFind
  /-- faults found in the probe slot of the running period; R144 R145. -/
  slotFound : List PixelFind
  /-- sticky bits to clear at the next tick; R150. -/
  clear : BitVec 3
  /-- tiles that R154 isolated since the last tick; R154. -/
  isolN : Nat
  /-- first pixel, in row-major order, that caused one of them (model); R154. -/
  isolPix : Option Nat
  /-- dead pixels whose neighbours the frame last shown filled; R149. -/
  filled : List Nat
  /-- fault-map units met uncorrectable since the last tick (model); R150. -/
  ueRows : List Nat
  deriving DecidableEq, Repr

/-- Safety functions (14_safety_functions.md). -/
structure Saf where
  /-- qualification of SIN0 to SIN3; R336. -/
  sin : List SinState
  /-- TPO0 and TPO1 are at the supply level, but for a pulse of the window that runs; R335. -/
  tpo : BitVec 2
  /-- local time at which the last test pulse of each TPO began (model); R335. -/
  tpoAt : List Nat
  /-- open pulse windows; R335. -/
  win : BitVec 2
  /-- test pulses run; R335. -/
  tpoOn : Bool
  /-- hallmark store, bytes other than 0; R337. -/
  hall : List Host.Cell
  /-- fallback store, bytes other than 0; R347. -/
  fall : List Host.Cell
  /-- fallback scenes marked absent or invalid; R348. -/
  fbBad : BitVec 8
  /-- cause 0 of Table 14.5; R345. -/
  start : Bool
  /-- the heartbeat monitor is armed; R351. -/
  hbArmed : Bool
  /-- a HEARTBEAT has executed since reset; Table 11.2. -/
  hbSeen : Bool
  /-- local time of the last restart of the monitor (model); R351. -/
  hbLast : Nat
  /-- local time of the last executed HEARTBEAT (model); Table 11.2. -/
  hbBeat : Nat
  /-- cause 1 of Table 14.5; R345. -/
  hbExp : Bool
  /-- DARK_N is qualified low; R354. -/
  darkPin : Bool
  /-- selection of the CAN listener; R353. -/
  canSel : CanSel
  /-- the CAN listener is timed out; R353. -/
  canOut : Bool
  /-- local time at which the CAN timeout was restarted (model); R353. -/
  canAt : Nat
  /-- marks that are not intact; R341. -/
  notIntact : Half
  /-- marks of which F_HALLMARK_PIXEL is held for its episode; R341. -/
  pixHeld : Half
  /-- state, scene and cause mask of the last EV_SAFETY_STATE (model); R350. -/
  lastState : Nat × Nat × BitVec 12
  /-- demand pattern, demanded and added set of the last EV_MARKS (model); R355. -/
  lastMarks : Nat × Half × Half
  /-- column of the checker's self-test; R344. -/
  testCol : Nat
  deriving DecidableEq, Repr

/-- Temperature and housekeeping (16_thermal.md). -/
structure Hk where
  /-- channel that the sequencer samples next; R375. -/
  next : Nat
  /-- the 32 channels; Table 16.3. -/
  ch : List HkChan
  /-- input of channel 31 sampled next; Table 16.2. -/
  rot : Nat
  /-- run state of the four inputs of channel 31; R389. -/
  rotCh : List HkChan
  /-- round count; R376. -/
  round : Nat
  /-- REFIN is out of its window or not yet three samples within it; R389. -/
  refBad : Bool
  /-- relaxation hold running; R388. -/
  hold : Bool
  /-- regions under a 50 % clamp; R388. -/
  clamp : BitVec 16
  /-- DRAM refresh doubled; R382. -/
  refresh2x : Bool
  /-- TRIPPED; R383. -/
  tripped : BitVec 18
  /-- starts of the trips of the last 60 s, local time; R385. -/
  trips : List Nat
  /-- LATCHOFF; R385. -/
  latchOff : Bool
  /-- restart condition met; Table 16.3. -/
  cool : Bool
  /-- duty D of VLED_ADJ; R70. -/
  adj : Nat
  /-- v_set of the headroom loop, µV; R72. -/
  vSet : Nat
  /-- consecutive rounds with h below 0.45 V; R75. -/
  lowRounds : Nat
  /-- frames that A held earlier in this round, each with its C_diag (model); R71. -/
  shownIn : List (Nat × List (Nat × List Half))
  /-- tiles whose latest report is 0.40 V; R143. -/
  tile40 : BitVec 256
  /-- the groom core has started the headroom loop; R70. -/
  loop : Bool
  /-- derating conditions of the last round (model); R381. -/
  evDer : BitVec 6
  /-- regions under a clamp at the last round (model); R381. -/
  evClamp : BitVec 16
  /-- a hold has begun since the last round (model); R381. -/
  holdNew : Bool
  deriving DecidableEq, Repr

/-- End-of-line calibration (17_calibration.md). -/
structure Cal where
  /-- the run of phases 1 to 3 in progress; R392. -/
  run : Option CalRun
  /-- flat-field mode and its LEVEL; R396. -/
  flat : Option Nat
  /-- staged trim codes and Q_t; R399. -/
  trims : Option (List Byte × List Nat)
  /-- staged ADC gain and offset corrections; R399. -/
  adc : Option (Int × Int)
  /-- staged current-reference trim and its error; R399. -/
  ref : Option (Half × Int)
  /-- staged uniformity map; R399. -/
  map : Option (List Host.Cell)
  /-- staged assay record; R400. -/
  assay : Option Assay
  /-- the calibration record in force; R470. -/
  held : Option CalRec
  /-- a stored record whose corrections await their tick (model); R398. -/
  pend : Option CalRec
  /-- an abandoned run makes the next frame a fallback frame (model); R393. -/
  abortFill : Bool
  deriving DecidableEq, Repr

/-- Sessions, settings and the change log (12_commands_system.md, 20_security_update.md). -/
structure Sec where
  /-- the configuration session; R262. -/
  session : Option Session
  /-- password failure count n, kept in the always-on domain; R263. -/
  fails : Nat
  /-- end of the lockout, local time; R263. -/
  lockEnd : Option Nat
  /-- the always-on domain holds the failure count and the lockout (model); R466. -/
  aonLoaded : Bool
  /-- the recovery challenge record; R264. -/
  challenge : Option (List Byte)
  /-- operations that wait for random bytes; R446. -/
  waits : List TrngWait
  /-- the settings record in force; R460. -/
  set : Settings
  /-- ordinary fields of the working copy; R465. -/
  work : OrdFields
  /-- the engine ID of the record read at this start-up; R287. -/
  startId : Option (BitVec 10)
  /-- touchmarks that are not removed, oldest first; R467. -/
  marks : List Touchmark
  /-- UP_TO of the newest archive touchmark; R469. -/
  upTo : Word
  /-- sequence of the next touchmark; R467. -/
  nextMark : Word
  /-- the condition of F_LOG_FULL: 4,096 touchmarks were reached, and no LOG_ARCHIVE since; R469. -/
  fullNow : Bool
  /-- HMAC field of the newest touchmark; R467. -/
  lastHmac : List Byte
  /-- blocks of the change-log region in use, oldest first; R467. -/
  region : List LogBlock
  /-- the team key K_T; zero before TEAM_PAIR; R298. -/
  teamKey : BitVec 128
  deriving DecidableEq, Repr

/-- The serial flash (20_security_update.md). -/
structure Fls where
  /-- the bytes of the two boot records; R449. -/
  boot : List (List Byte)
  /-- the bytes of the two settings copies, 0xFF beyond their end; R460. -/
  sets : List (List Byte)
  /-- the bytes of the two calibration records, 0xFF beyond their end; R470. -/
  cals : List (List Byte)
  /-- image slot A, bytes other than 0xFF; R451. -/
  slotA : List Host.Cell
  /-- image slot B, bytes other than 0xFF; R451. -/
  slotB : List Host.Cell
  /-- flash writes in progress; R448. -/
  jobs : List FlashJob
  /-- the field update; R284. -/
  upd : Update
  /-- the UPDATE_CONFIRM whose fuses are being blown; R453. -/
  blow : Option Sub
  /-- slot of the running image (true: B); none in halter mode; R450. -/
  run : Option Bool
  /-- the running slot was taken because the slot of the boot record failed its check; its record is still to be written (model); R450. -/
  swap : Bool
  /-- the running image is a trial image; R450. -/
  trial : Bool
  /-- version of the running image; R240. -/
  imgVer : Half
  /-- SEC_VERSION of the running image; R453. -/
  imgSec : Nat
  /-- applied ROM patch slots; R454. -/
  patches : Half
  /-- SEC_STATUS.SIGNED_BOOT; Table 18.13. -/
  signed : Bool
  deriving DecidableEq, Repr

/-- The serial lanes (09_lanes_and_host_port.md, R203 to R209). -/
structure Lan where
  /-- the eight lanes; R209. -/
  l : List Lane
  /-- trace ports moved to lane p; R184. -/
  onLaneP : BitVec 4
  deriving DecidableEq, Repr

/-- The team (13_team.md). -/
structure Team where
  /-- the engine ID; R276. -/
  id : Option (BitVec 10)
  /-- member of a team; R276. -/
  isMember : Bool
  /-- the lead in force; R276. -/
  lead : Option (BitVec 10)
  /-- this engine is the lead in force; Table 18.6. -/
  leading : Bool
  /-- lead term; R329. -/
  term : Word
  /-- lead distance; 65,535 unknown; R305. -/
  dist : Nat
  /-- parent port; R305. -/
  parent : Option (Fin 4)
  /-- own port path, as the last ENUM request gave it (model); R306. -/
  path : Dword
  /-- in tick sync; R313. -/
  tickSync : Bool
  /-- consecutive TIME_SYNC frames within 50 ns; R313. -/
  good : Nat
  /-- a TIME_SYNC has arrived within 10 ms (model); R313. -/
  heard : Bool
  /-- the offset is within the precision of R315 (model); R314. -/
  settled : Bool
  /-- this engine has left tick sync (model); R313. -/
  leftSync : Bool
  /-- members as the lead knows them; R326. -/
  members : List Member
  /-- DIVERGENT; R327. -/
  divergent : Bool
  /-- DIVERGENT ends at the next tick (model); R327. -/
  divOut : Bool
  /-- consecutive compared ticks with a mismatch; R327. -/
  mism : Nat
  /-- consecutive compared ticks with a match; R327. -/
  agree : Nat
  /-- excluded for version; R327. -/
  excluded : Bool
  /-- consecutive missed periods; R318. -/
  missed : Nat
  /-- a valid SCHEDULE has arrived in this period (model); R318. -/
  gotSched : Bool
  /-- schedule entries held; R317. -/
  entries : List SchedEntry
  /-- the team's minor revision m_min; R327. -/
  mMin : Byte
  /-- safe-state policy that the lead publishes; R328. -/
  policy : Nat
  /-- the lead's committed shared CRC; R317. -/
  leadCrc : Word
  /-- the lead's time quality; R317. -/
  leadQ : Byte
  /-- 64-bit tick number; R316. -/
  tickNo : Dword
  /-- on the lead: P_NOM values to apply from a tick; R320. -/
  teamP : List (Dword × Nat)
  /-- announced handback: configured lead and tick; R330. -/
  handback : Option (BitVec 10 × Dword)
  /-- EV_LEAD_CHANGE that waits for the first SCHEDULE of the new lead: the previous lead and the reason (model); R331. -/
  evLead : Option (Option (BitVec 10) × Nat)
  /-- originators of a propagated safe state that this engine follows; R328. -/
  origins : List (BitVec 10)
  /-- STATE frames received: originator, entered, and the frame whose tick applies them (model); R328. -/
  stPend : List (BitVec 10 × Bool × Word)
  /-- this engine has flooded its own safe state (model); R328. -/
  sent : Bool
  /-- STATE frames taken lately: originator, kind and time (model); R308. -/
  seen : List (BitVec 10 × Byte × Dword)
  /-- the backup becomes lead at its next tick (model); R329. -/
  lostUp : Bool
  /-- on an acting lead: the lead that it replaced (model); R330. -/
  confLead : Option (BitVec 10)
  /-- F_LEAD_LOST has been raised for the missing lead (model); R329. -/
  noLead : Bool
  /-- forwarded commands that await their targets; R321. -/
  fwds : List Forward
  /-- completions owed to origins; R322. -/
  owed : List OwedCpl
  /-- windows kept for origin engines and rings; R322. -/
  wins : List OriginWindow
  /-- use counter of the windows (model); R322. -/
  use : Nat
  /-- BULK streams; R324. -/
  streams : List Stream
  /-- commands of other origins that wait for the host data that they read; R324. -/
  reads : List (Sub × BitVec 512)
  /-- events forwarded since the last tick; R325. -/
  evSent : Nat
  /-- the next forwarded event carries LOST; R325. -/
  evLost : Bool
  deriving DecidableEq, Repr

/-- The trace ports (13_team.md, R295 to R304). -/
structure Trc where
  /-- the four trace ports; R296. -/
  ports : List Port
  /-- frames sent, oldest first (log entry 8) (model); R299. -/
  out : List Sent
  deriving DecidableEq, Repr

/-- The state of the engine. `pending` is the queue of commands that wait, first in, first out; `free` counts the
free values that have been drawn (log entry 10). -/
structure State where
  pending : List Instr
  free : Nat
  clk : Clk
  idn : Idn
  pwr : Pwr
  bus : Bus
  reg : Reg
  rng : Rngs
  lg : Log
  flt : Flt
  pool : Pool
  scn : Scn
  frm : Frm
  pho : Pho
  arr : Arr
  hlt : Hlt
  saf : Saf
  hk : Hk
  cal : Cal
  sec : Sec
  fls : Fls
  lan : Lan
  tm : Team
  trc : Trc
  deriving DecidableEq, Repr

/-- The reset values of `Clk`. -/
def Clk.reset : Clk :=
  { team := 0
    loc := 0
    disc := .freeRun
    ptmT1 := none
    ptmCtx := true
    ptmStep := true
    ptmSettled := false
    slew := 0
    rate := 0
    rateOver := 0
    ptmAt := 0
    holdAt := none
    offset := 0
    nowHi := 0
    edge := 0
    tickTime := 0
    tickFrame := 0 }

/-- The reset values of `Idn`. -/
def Idn.reset : Idn :=
  { pcieW := 0
    refclkSel := false
    clkMode := false
    flashMode := false
    boardId := 0
    emitter := 0x57
    serial := 0
    subVendor := none
    subId := none
    secLock := false
    debugLock := false
    rootKey := []
    recoveryKey := []
    secret := []
    fuses := 0
    waferTrims := List.replicate 256 0 }

/-- The reset values of `Pwr`. -/
def Pwr.reset : Pwr :=
  { mode := .reset
    vaon := true
    refAt := 0
    pwrEn := true
    supplies := true
    rstN := false
    step := 255
    prevStep := 255
    failed := 0
    failedRead := 0
    standbyCount := 0
    wakeCause := 0
    wakeLane := 0
    wakeStandby := false
    resetCause := 0
    entry := none
    pend := none
    wake := none
    wakeSeen := none
    sleepAt := 0
    otpTries := 0
    otpOk := false
    otpFailed := false
    configReady := false
    ready := false
    revert := none
    setDef := none
    hasDram := false
    selfRefresh := false
    farrier := false
    groom := false
    ostler := false
    wdogs := []
    stopped := []
    tap := .testLogicReset
    trngOk := true
    gpioLatch := 0
    coreClock := false }

/-- The reset values of `Bus`. -/
def Bus.reset : Bus :=
  { linkUp := false
    speed := 1
    width := 0
    reversed := false
    aerUnc := 0
    aerCor := 0
    l1 := false
    memEn := false
    master := false
    d3 := false
    bar0 := 0
    bar2 := 0
    bar4 := 0
    ptmEn := false
    aspmL1 := false
    msixEn := false
    funcMask := false
    cfg := []
    msix := List.replicate 32 ⟨0, 0, true⟩
    pba := 0
    corr := []
    held := []
    reads := 0
    out := [] }

/-- The reset values of `Reg`. -/
def Reg.reset : Reg :=
  { shadow := []
    force := []
    sets := []
    atLo := 0
    atHi := 0
    refused := 0
    replaced := false
    late := false
    refS := 0
    refL := 0
    curS := 0
    curL := 0
    staleS := false
    staleL := false
    freshS := false
    freshL := false
    mismS := false
    mismL := false
    passes := 0
    staleAtS := 0
    staleAtL := 0
    lateS := false
    lateL := false
    touchS := false
    touchL := false
    locked := false
    intStat := 0
    committed := false }

/-- The reset values of `Rngs`. -/
def Rngs.reset : Rngs :=
  { q := List.replicate 16 Ring.reset
    eq := EventRing.reset
    urgentRun := 0
    lastUrgent := 15
    lastNormal := 15
    credit := 0 }

/-- The reset values of `Log`. -/
def Log.reset : Log :=
  { onDie := []
    dram := []
    next := 0
    wraps := 0
    starts := 0
    seq := 0
    hdrCrc := 0 }

/-- The reset values of `Flt`. -/
def Flt.reset : Flt :=
  { valid := false
    src := 0
    sev := 0
    ts := 0
    ovf := false
    tsLo := 0
    tsHi := 0
    sticky := 0
    degrade := 0
    safe := 0
    dark := 0
    cond := 0
    held := 0
    entries := []
    behind := 0
    pin := true
    pinSev := false
    relPending := false
    pinSince := 0 }

/-- The reset values of `Pool`. -/
def Pool.reset : Pool :=
  { mem := []
    ue := []
    ce := []
    handles := []
    gens := []
    moves := []
    nextMove := 0
    scrub := 0
    mapUe := [] }

/-- The reset values of `Scn`. -/
def Scn.reset : Scn :=
  { surfs := []
    work := Scene.reset
    staged := []
    cur := none
    nextSeq := 0
    coefs := List.replicate 4 coefReset
    inUse := []
    inUseH := []
    runs := List.replicate 7 LayerRun.reset }

/-- The reset values of `Frm`. -/
def Frm.reset : Frm :=
  { params := Params.reset
    armed := []
    armSeq := 0
    frame := 0
    ticked := false
    period := 16666667
    nextLen := none
    nextStr := false
    tickLoc := 0
    stretched := false
    cutDone := false
    blank := false
    compOn := false
    compStart := 0
    rows := 0
    compDone := false
    comp := none
    dec := none
    fail := none
    under := false
    skips := 0
    lastRepeat := false
    shown := none
    fb44 := false
    esc := false
    escNext := false
    src := .internal
    sync := SyncLoop.reset
    rampN := 16
    rampK := 50
    setK := 0
    fNum := 0
    fDen := 1
    fsyncOut := false
    foDone := false
    fsyncIn := false
    powerDark := false
    sleepTicks := false
    ctfBad := []
    dead := []
    lines := []
    capRows := 0
    markBad := 0
    cutKinds := 0
    cutTest := none
    colMax := []
    probed := none }

/-- The reset values of `Pho`. -/
def Pho.reset : Pho :=
  { curb := 0
    fixed := 0
    cap := false
    curbOld := 0
    curbAt := 0
    alpha := 65536
    nextAlpha := 65536
    dG := 4096
    dGTick := 4096
    dq := List.replicate 16 4096
    aH := 0
    aN := 0
    aN0 := 0
    aTile := []
    shows := false
    map := []
    limited := false
    derated := false
    fixLim := false
    fixDer := false }

/-- The reset values of `Arr`. -/
def Arr.reset : Arr :=
  { s := []
    a := []
    crcS := []
    crcA := []
    trims := List.replicate 256 0
    q := List.replicate 256 32768
    ramp := List.replicate 256 0
    causes := [.reset]
    tripOpen := []
    tripDark := 0
    wasOpen := 0
    hw154 := 0
    hw159 := 0
    rel154 := 0
    rel159 := 0
    isol := 0
    isolFix := 0
    fixSeq := 0
    relight := none
    relit := 0
    tileTrips := []
    chargeAt := []
    arrTripAt := none
    aT := []
    arrTrips := [] }

/-- The reset values of `Hlt`. -/
def Hlt.reset : Hlt :=
  { map := []
    hist := []
    spans := []
    spanAt := 0
    found := []
    slotFound := []
    clear := 0
    isolN := 0
    isolPix := none
    filled := []
    ueRows := [] }

/-- The reset values of `Saf`. -/
def Saf.reset : Saf :=
  { sin := List.replicate 4 SinState.reset
    tpo := 0b11
    tpoAt := [0, 0]
    win := 0
    tpoOn := false
    hall := []
    fall := []
    fbBad := 0
    start := true
    hbArmed := false
    hbSeen := false
    hbLast := 0
    hbBeat := 0
    hbExp := false
    darkPin := false
    canSel := .none
    canOut := false
    canAt := 0
    notIntact := 0
    pixHeld := 0
    lastState := (0, 255, 0)
    lastMarks := (0, 0, 0)
    testCol := 0 }

/-- The reset values of `Hk`. -/
def Hk.reset : Hk :=
  { next := 0
    ch := List.replicate 32 HkChan.reset
    rot := 0
    rotCh := List.replicate 4 HkChan.reset
    round := 0
    refBad := false
    hold := false
    clamp := 0
    refresh2x := false
    tripped := 0
    trips := []
    latchOff := false
    cool := true
    adj := 0
    vSet := 4600000
    lowRounds := 0
    shownIn := []
    tile40 := 0
    loop := false
    evDer := 0
    evClamp := 0
    holdNew := false }

/-- The reset values of `Cal`. -/
def Cal.reset : Cal :=
  { run := none
    flat := none
    trims := none
    adc := none
    ref := none
    map := none
    assay := none
    held := none
    pend := none
    abortFill := false }

/-- The reset values of `Sec`. -/
def Sec.reset : Sec :=
  { session := none
    fails := 0
    lockEnd := none
    aonLoaded := false
    challenge := none
    waits := []
    set := Settings.reset
    work := OrdFields.reset
    startId := none
    marks := []
    upTo := 0
    nextMark := 1
    fullNow := false
    lastHmac := List.replicate 32 0
    region := []
    teamKey := 0 }

/-- The reset values of `Fls`. -/
def Fls.reset : Fls :=
  { boot := List.replicate 2 (List.replicate 64 0xFF)
    sets := [[], []]
    cals := [[], []]
    slotA := []
    slotB := []
    jobs := []
    upd := Update.reset
    blow := none
    run := none
    swap := false
    trial := false
    imgVer := 0
    imgSec := 0
    patches := 0
    signed := false }

/-- The reset values of `Lan`. -/
def Lan.reset : Lan :=
  { l := List.replicate 8 Lane.reset
    onLaneP := 0 }

/-- The reset values of `Team`. -/
def Team.reset : Team :=
  { id := none
    isMember := false
    lead := none
    leading := false
    term := 0
    dist := 65535
    parent := none
    path := 0
    tickSync := false
    good := 0
    heard := false
    settled := false
    leftSync := false
    members := []
    divergent := false
    divOut := false
    mism := 0
    agree := 0
    excluded := false
    missed := 0
    gotSched := false
    entries := []
    mMin := 4
    policy := 1
    leadCrc := 0
    leadQ := 0
    tickNo := 0
    teamP := []
    handback := none
    evLead := none
    origins := []
    stPend := []
    sent := false
    seen := []
    lostUp := false
    confLead := none
    noLead := false
    fwds := []
    owed := []
    wins := []
    use := 0
    streams := []
    reads := []
    evSent := 0
    evLost := false }

/-- The reset values of `Trc`. -/
def Trc.reset : Trc :=
  { ports := List.replicate 4 Port.reset
    out := [] }

/-- The machine right after reset: RST_N is held low after power-on, with the supplies valid (log entry 1). -/
def State.reset : State :=
  { pending := []
    free := 0
    clk := Clk.reset
    idn := Idn.reset
    pwr := Pwr.reset
    bus := Bus.reset
    reg := Reg.reset
    rng := Rngs.reset
    lg := Log.reset
    flt := Flt.reset
    pool := Pool.reset
    scn := Scn.reset
    frm := Frm.reset
    pho := Pho.reset
    arr := Arr.reset
    hlt := Hlt.reset
    saf := Saf.reset
    hk := Hk.reset
    cal := Cal.reset
    sec := Sec.reset
    fls := Fls.reset
    lan := Lan.reset
    tm := Team.reset
    trc := Trc.reset }

/-- Change the fields of `clk`. -/
def State.mapClk (s : State) (f : Clk → Clk) : State := { s with clk := f s.clk }

/-- Change the fields of `idn`. -/
def State.mapIdn (s : State) (f : Idn → Idn) : State := { s with idn := f s.idn }

/-- Change the fields of `pwr`. -/
def State.mapPwr (s : State) (f : Pwr → Pwr) : State := { s with pwr := f s.pwr }

/-- Change the fields of `bus`. -/
def State.mapBus (s : State) (f : Bus → Bus) : State := { s with bus := f s.bus }

/-- Change the fields of `reg`. -/
def State.mapReg (s : State) (f : Reg → Reg) : State := { s with reg := f s.reg }

/-- Change the fields of `rng`. -/
def State.mapRng (s : State) (f : Rngs → Rngs) : State := { s with rng := f s.rng }

/-- Change the fields of `lg`. -/
def State.mapLg (s : State) (f : Log → Log) : State := { s with lg := f s.lg }

/-- Change the fields of `flt`. -/
def State.mapFlt (s : State) (f : Flt → Flt) : State := { s with flt := f s.flt }

/-- Change the fields of `pool`. -/
def State.mapPool (s : State) (f : Pool → Pool) : State := { s with pool := f s.pool }

/-- Change the fields of `scn`. -/
def State.mapScn (s : State) (f : Scn → Scn) : State := { s with scn := f s.scn }

/-- Change the fields of `frm`. -/
def State.mapFrm (s : State) (f : Frm → Frm) : State := { s with frm := f s.frm }

/-- Change the fields of `pho`. -/
def State.mapPho (s : State) (f : Pho → Pho) : State := { s with pho := f s.pho }

/-- Change the fields of `arr`. -/
def State.mapArr (s : State) (f : Arr → Arr) : State := { s with arr := f s.arr }

/-- Change the fields of `hlt`. -/
def State.mapHlt (s : State) (f : Hlt → Hlt) : State := { s with hlt := f s.hlt }

/-- Change the fields of `saf`. -/
def State.mapSaf (s : State) (f : Saf → Saf) : State := { s with saf := f s.saf }

/-- Change the fields of `hk`. -/
def State.mapHk (s : State) (f : Hk → Hk) : State := { s with hk := f s.hk }

/-- Change the fields of `cal`. -/
def State.mapCal (s : State) (f : Cal → Cal) : State := { s with cal := f s.cal }

/-- Change the fields of `sec`. -/
def State.mapSec (s : State) (f : Sec → Sec) : State := { s with sec := f s.sec }

/-- Change the fields of `fls`. -/
def State.mapFls (s : State) (f : Fls → Fls) : State := { s with fls := f s.fls }

/-- Change the fields of `lan`. -/
def State.mapLan (s : State) (f : Lan → Lan) : State := { s with lan := f s.lan }

/-- Change the fields of `tm`. -/
def State.mapTm (s : State) (f : Team → Team) : State := { s with tm := f s.tm }

/-- Change the fields of `trc`. -/
def State.mapTrc (s : State) (f : Trc → Trc) : State := { s with trc := f s.trc }

end Sys2Proof.Machine
end

