-- ==== Sys2Proof/Machine/Codes.lean ====
section
/-!
DEFINITION. Status codes (Table 10.10, 17.5, 20.8), event codes (Table 10.11) and fault sources (Table 15.2).
-/
namespace Sys2Proof.Machine

def stOk : Half := 0x0000
def stOkZero : Half := 0x0001
def stOkDuplicate : Half := 0x0002
def stOkDeferred : Half := 0x0003
def stBadOpcode : Half := 0x0100
def stBadOperand : Half := 0x0101
def stBadTarget : Half := 0x0102
def stSeqReused : Half := 0x0103
def stSeqStale : Half := 0x0104
def stNoSpace : Half := 0x0200
def stBadHandle : Half := 0x0201
def stInUse : Half := 0x0202
def stQuota : Half := 0x0203
def stNotAuthorized : Half := 0x0300
def stLockedOut : Half := 0x0301
def stLogFull : Half := 0x0302
def stUnreachable : Half := 0x0400
def stDivergent : Half := 0x0401
def stVersion : Half := 0x0402
def stBusy : Half := 0x0500
def stAbortedByWake : Half := 0x0501
def stWrongState : Half := 0x0502
def stBudget : Half := 0x0503
def stMemError : Half := 0x0700
def stUpdConflict : Half := 0x0800
def stUpdIncomplete : Half := 0x0801
def stUpdFlash : Half := 0x0802
def stUpdSignature : Half := 0x0803
def stUpdRollback : Half := 0x0804
def stCalAborted : Half := 0x0900
def stCalRefin : Half := 0x0901
def stCalCalres : Half := 0x0902
def stCalTile : Half := 0x0903
def stCalMapRange : Half := 0x0904
def stCalFlash : Half := 0x0905

/-- A status 0x00xx is a success (Table 10.10). -/
def isSuccess (st : Half) : Bool := decide (st.toNat < 0x100)

def evTick : Nat := 0x0001
def evCutoff : Nat := 0x0002
def evRowMatch : Nat := 0x0003
def evComposeDone : Nat := 0x0004
def evBlank : Nat := 0x0005
def evUnderrun : Nat := 0x0006
def evLayerLate : Nat := 0x0010
def evCaptureDone : Nat := 0x0011
def evPoolFreed : Nat := 0x0020
def evFault : Nat := 0x0030
def evSafetyState : Nat := 0x0040
def evMarks : Nat := 0x0041
def evTeamMember : Nat := 0x0050
def evLeadChange : Nat := 0x0051
def evTimeStep : Nat := 0x0052
def evPowerState : Nat := 0x0060
def evWake : Nat := 0x0061
def evSettingsDefaulted : Nat := 0x0070
def evUpdateState : Nat := 0x0071
def evDerate : Nat := 0x0080

def fOtpLoad : Nat := 0x00
def fBootImage : Nat := 0x01
def fWdog : Nat := 0x02
def fMemCe : Nat := 0x10
def fMemUe : Nat := 0x11
def fAperture : Nat := 0x12
def fLinkDown : Nat := 0x20
def fLinkAer : Nat := 0x21
def fRingProtocol : Nat := 0x22
def fHostHeartbeat : Nat := 0x23
def fTraceLink : Nat := 0x30
def fTeamTime : Nat := 0x31
def fTeamCfg : Nat := 0x32
def fTeamVersion : Nat := 0x33
def fLeadLost : Nat := 0x34
def fFsyncLost : Nat := 0x40
def fUnderrun : Nat := 0x41
def fLayerLate : Nat := 0x42
def fScalerOverrun : Nat := 0x43
def fCtfDecode : Nat := 0x44
def fRowCrc : Nat := 0x50
def fRampSync : Nat := 0x51
def fPixelOpen : Nat := 0x52
def fPixelShort : Nat := 0x53
def fPixelStuck : Nat := 0x54
def fTileOvercurrent : Nat := 0x55
def fArrayOvercurrent : Nat := 0x56
def fHeadroom : Nat := 0x57
def fCurbLimit : Nat := 0x60
def fDerateActive : Nat := 0x61
def fPipeResidue : Nat := 0x62
def fTempShutdown : Nat := 0x70
def fTsensFail : Nat := 0x71
def fDramHot : Nat := 0x72
def fSupplyRange : Nat := 0x73
def fVledRange : Nat := 0x74
def fCutoff : Nat := 0x80
def fHallmarkCrc : Nat := 0x81
def fHallmarkPixel : Nat := 0x82
def fSinCross : Nat := 0x83
def fSinStuck : Nat := 0x84
def fDarkPin : Nat := 0x85
def fCanTimeout : Nat := 0x86
def fFallbackStore : Nat := 0x87
def fCfgCrc : Nat := 0x90
def fCfgStale : Nat := 0x91
def fRegAccess : Nat := 0x92
def fAuthFail : Nat := 0x93
def fLogFull : Nat := 0x94
def fRollback : Nat := 0x95

/-- Table 15.2: source ID, default severity, floor. -/
def sourceTable : List (Nat × Nat × Nat) :=
  [ (0x00, 3, 3), (0x01, 3, 1), (0x02, 4, 3), (0x10, 1, 0), (0x11, 3, 1), (0x12, 2, 0),
    (0x20, 2, 1), (0x21, 2, 1), (0x22, 2, 1), (0x23, 3, 1), (0x30, 2, 1), (0x31, 2, 1),
    (0x32, 3, 1), (0x33, 3, 1), (0x34, 3, 1), (0x40, 2, 1), (0x41, 2, 1), (0x42, 1, 0),
    (0x43, 2, 0), (0x44, 2, 0), (0x50, 3, 3), (0x51, 2, 1), (0x52, 2, 1), (0x53, 2, 1),
    (0x54, 2, 1), (0x55, 2, 1), (0x56, 3, 3), (0x57, 2, 1), (0x60, 1, 0), (0x61, 1, 0),
    (0x62, 3, 3), (0x70, 6, 6), (0x71, 3, 1), (0x72, 2, 1), (0x73, 5, 3), (0x74, 3, 1),
    (0x80, 5, 5), (0x81, 5, 5), (0x82, 3, 3), (0x83, 3, 3), (0x84, 3, 3), (0x85, 2, 1),
    (0x86, 2, 1), (0x87, 3, 3), (0x90, 5, 3), (0x91, 3, 1), (0x92, 2, 1), (0x93, 2, 1),
    (0x94, 2, 1), (0x95, 3, 1) ]

/-- R362: the source is listed in Table 15.2. -/
def sourceKnown (src : Nat) : Bool := sourceTable.any fun e => e.1 == src

/-- Table 15.2: the default severity; 0 for an unlisted ID. -/
def defaultSev (src : Nat) : Nat := ((sourceTable.find? fun e => e.1 == src).map fun e => e.2.1).getD 0

/-- Table 15.2: the floor; 0 for an unlisted ID. -/
def floorSev (src : Nat) : Nat := ((sourceTable.find? fun e => e.1 == src).map fun e => e.2.2).getD 0

end Sys2Proof.Machine
end

