-- ==== Sys2Proof/Machine/Space.lean ====
section
/-!
DEFINITION. What the PCI Express base specification prescribes for the configuration space of an endpoint with the features
of Table 09.6 (R192, R193): the fixed bits of each word, the bits that software writes and those that it clears by writing 1
(PRESUMED, assumption 16). The offsets of the capability structures and every bit that the standard leaves to the
implementation are free (assumption 13).
-/
namespace Sys2Proof.Machine

/-- One word of the configuration space: which bits are prescribed, their reset values, and, of these, the bits that
software can write and the bits that it clears by writing 1. -/
structure CfgRow where
  offset : Nat
  known  : Word
  value  : Word
  write  : Word
  clear  : Word
  deriving DecidableEq, Repr

/-- The type 0 header: no I/O space, INTx, BIST or expansion ROM; a capability list. -/
def cfgHeader : List CfgRow :=
  [⟨0x04, 0xFFFFFBFF, 0x00100000, 0x00000146, 0xF9000000⟩, ⟨0x0C, 0xFFFFFFFF, 0, 0x000000FF, 0⟩,
   ⟨0x28, 0xFFFFFFFF, 0, 0, 0⟩, ⟨0x30, 0xFFFFFFFF, 0, 0, 0⟩, ⟨0x34, 0xFFFFFF00, 0, 0, 0⟩, ⟨0x38, 0xFFFFFFFF, 0, 0, 0⟩,
   ⟨0x3C, 0xFFFFFFFF, 0, 0x000000FF, 0⟩]

/-- Power management (no D1, D2 or PME) and MSI-X. -/
def cfgPower : List CfgRow :=
  [⟨Config.pmCap, 0xFFCF00FF, 0x00030001, 0, 0⟩, ⟨Config.pmCap + 4, 0xFFFFFFF4, 0, 0, 0⟩,
   ⟨Config.msixCap, 0x000000FF, 0x00000011, 0, 0⟩]

/-- PCI Express: 8-bit tags and payloads up to 512 B, no FLR, L0s, LTR, OBFF, ARI, AtomicOps, TPH or 10-bit tags; speeds
Gen1 to Gen4. -/
def cfgExpress : List CfgRow :=
  [⟨Config.pcieCap, 0x81FF00FF, 0x00020010, 0, 0⟩, ⟨Config.pcieCap + 0x04, 0xF003FE3F, 0x00008C22, 0, 0⟩,
   ⟨Config.pcieCap + 0x08, 0xFFCFF6EF, 0x00002000, 0x000070EF, 0x000F0000⟩,
   ⟨Config.pcieCap + 0x0C, 0x00FB8FFF, 0x00400000, 0, 0⟩, ⟨Config.pcieCap + 0x10, 0xFBFFFCFF, 0, 0x000000CB, 0⟩,
   ⟨Config.pcieCap + 0x14, 0xFFFFFFFF, 0, 0, 0⟩, ⟨Config.pcieCap + 0x18, 0xFFFFFFFF, 0, 0, 0⟩,
   ⟨Config.pcieCap + 0x1C, 0xFFFFFFFF, 0, 0, 0⟩, ⟨Config.pcieCap + 0x20, 0xFFFFFFFF, 0, 0, 0⟩,
   ⟨Config.pcieCap + 0x24, 0x000FFBF0, 0x00000010, 0, 0⟩, ⟨Config.pcieCap + 0x28, 0xFFFF77F0, 0, 0x00000010, 0⟩,
   ⟨Config.pcieCap + 0x2C, 0x000001FF, 0x0000001E, 0, 0⟩, ⟨Config.pcieCap + 0x30, 0x0000FFDF, 0x00000004, 0x0000FF9F, 0⟩]

/-- Advanced Error Reporting without ECRC, the Device Serial Number, and PTM as requester. -/
def cfgExtended : List CfgRow :=
  [⟨Config.aerCap, 0x000FFFFF, 0x00020001, 0, 0⟩, ⟨Config.aerCap + 0x04, 0xFFFFFFFF, 0, 0, 0xFFFFFFFF⟩,
   ⟨Config.aerCap + 0x08, 0xFFFFFFFF, 0x00400000, 0x0057F010, 0⟩,
   ⟨Config.aerCap + 0x0C, 0xFFFFFFDF, 0x00462010, 0x0057F010, 0⟩,
   ⟨Config.aerCap + 0x10, 0xFFFFFFFF, 0, 0, 0xFFFFFFFF⟩,
   ⟨Config.aerCap + 0x14, 0xFFFF3FFF, 0x00002000, 0x000031C1, 0⟩, ⟨Config.aerCap + 0x18, 0xFFFFF1E0, 0, 0, 0⟩,
   ⟨Config.dsnCap, 0x000FFFFF, 0x00010003, 0, 0⟩, ⟨Config.ptmCap, 0x000FFFFF, 0x0001001F, 0, 0⟩,
   ⟨Config.ptmCap + 4, 0xFFFF00FF, 0x00000001, 0, 0⟩, ⟨Config.ptmCap + 8, 0xFFFFFFFF, 0, 0x0000FF01, 0⟩]

/-- What is prescribed of the word at an offset; of a word without a row, nothing. -/
def cfgRow (o : Nat) : CfgRow :=
  ((cfgHeader ++ cfgPower ++ cfgExpress ++ cfgExtended).find? fun r => r.offset == o).getD ⟨o, 0, 0, 0, 0⟩

/-- The reset value of a word: its prescribed bits, and the implementation's. -/
def CfgRow.reset (r : CfgRow) : Word := (r.value &&& r.known) ||| (Config.cfgWord r.offset &&& ~~~r.known)

/-- A word after a write. -/
def CfgRow.put (r : CfgRow) (old new : Word) : Word :=
  let m := (r.write &&& r.known) ||| (Config.cfgMask r.offset &&& ~~~r.known)
  (old &&& ~~~m &&& ~~~(new &&& r.clear)) ||| (new &&& m)

end Sys2Proof.Machine
end

