-- ==== Sys2Proof/Machine/Pixel.lean ====
section
/-!
DEFINITION. Surfaces, pixel formats and the compressed tile format (`05_surfaces.md`, R101 to R117). Pure
functions: `fetch` gives byte n of the byte space of the surface's handle.
-/
namespace Sys2Proof.Machine

/-- Division rounded up. -/
def ceilDiv (a b : Nat) : Nat := (a + b - 1) / b

/-- The next multiple of `b` at or above `a`. -/
def roundUp (a b : Nat) : Nat := ceilDiv a b * b

/-- `x` brought into 0 to `hi`. -/
def clampNat (x : Int) (hi : Nat) : Nat := (max 0 (min x hi)).toNat

/-- The low `n` bytes of the byte space at `a`, little-endian (R6). -/
def readLE (fetch : Nat → Byte) (a : Nat) : Nat → Nat
  | 0 => 0
  | n + 1 => (fetch a).toNat + 256 * readLE fetch (a + 1) n

/-- R107, Table 05.3: bits per pixel of a format code; no code is `none`. -/
def formatBits (f : Byte) : Option Nat :=
  match f.toNat with
  | 0x01 => some 8
  | 0x02 => some 16
  | 0x03 => some 16
  | 0x04 => some 8
  | 0x05 => some 1
  | 0x10 => some 16
  | 0x11 => some 24
  | 0x12 => some 32
  | 0x13 => some 32
  | _ => none

/-- Bits per pixel, 0 for a code that is no format. -/
def SurfDesc.bits (d : SurfDesc) : Nat := (formatBits d.format).getD 0

/-- Table 05.3: bytes of a 16 x 16 tile (column T). -/
def SurfDesc.tileBytes (d : SurfDesc) : Nat := 32 * SurfDesc.bits d

/-- Table 05.3: codes 0x10 to 0x13 are the colour formats. -/
def SurfDesc.isColour (d : SurfDesc) : Bool := decide (0x10 ≤ d.format.toNat)

/-- R110: CTF applies to formats of element width 8 or 16. -/
def SurfDesc.ctfAllowed (d : SurfDesc) : Bool := SurfDesc.bits d == 8 || SurfDesc.bits d == 16

/-- R104: an empty surface. -/
def SurfDesc.isEmpty (d : SurfDesc) : Bool := d.width == 0 || d.height == 0

/-- Tiles across. -/
def SurfDesc.across (d : SurfDesc) : Nat := ceilDiv d.width.toNat 16

/-- The number of CTF tiles, n_t. -/
def SurfDesc.tiles (d : SurfDesc) : Nat := SurfDesc.across d * ceilDiv d.height.toNat 16

/-- Table 05.2, check 7: the smallest size of the surface (R104 for an empty one). -/
def SurfDesc.minSize (d : SurfDesc) : Nat :=
  if SurfDesc.isEmpty d then 0
  else match d.layout.toNat with
    | 0 => d.pitch.toNat * d.height.toNat
    | 1 => d.pitch.toNat * ceilDiv d.height.toNat 16
    | _ => roundUp (8 * SurfDesc.tiles d) 64

/-- R104: the effective size; `total` is the length of the handle's byte space. -/
def SurfDesc.effSize (d : SurfDesc) (total : Nat) : Nat :=
  if d.size ≠ 0 then d.size.toNat
  else if SurfDesc.isEmpty d then 0
  else if d.layout = 2 then total - d.offset.toNat
  else SurfDesc.minSize d

/-- Table 05.2, check 4. -/
def SurfDesc.pitchOk (d : SurfDesc) : Bool :=
  match d.layout.toNat with
  | 0 => d.pitch.toNat % 64 == 0 && decide (ceilDiv (d.width.toNat * SurfDesc.bits d) 8 ≤ d.pitch.toNat)
  | 1 => d.pitch.toNat % 64 == 0 && decide (SurfDesc.across d * SurfDesc.tileBytes d ≤ d.pitch.toNat)
  | _ => d.pitch == 0

/-- R103, Table 05.2, checks 2 to 8; `total` is the length of the handle's byte space. -/
def SurfDesc.ok (d : SurfDesc) (total : Nat) : Bool :=
  (formatBits d.format).isSome && decide (d.layout.toNat ≤ 2) && (d.layout ≠ 2 || SurfDesc.ctfAllowed d)
  && decide (d.width.toNat ≤ 8192) && decide (d.height.toNat ≤ 4096) && d.offset.toNat % 64 == 0
  && SurfDesc.pitchOk d
  && (if SurfDesc.isColour d then decide (d.wR.toNat + d.wG.toNat + d.wB.toNat ≤ 65536)
      else d.wR == 0 && d.wG == 0 && d.wB == 0)
  && (d.yConst == 0 || d.format == 4 || d.format == 5)
  && decide (SurfDesc.minSize d ≤ SurfDesc.effSize d total)
  && decide (d.offset.toNat + SurfDesc.effSize d total ≤ total)

/-- R104: the descriptor with the default weights where a colour format has all three zero. -/
def SurfDesc.withDefaults (d : SurfDesc) : SurfDesc :=
  if SurfDesc.isColour d && d.wR == 0 && d.wG == 0 && d.wB == 0
  then { d with wR := 13933, wG := 46872, wB := 4731 } else d

/-- R105: the value of pixel (x, y) in the LINEAR layout. -/
def pixelLinear (fetch : Nat → Byte) (d : SurfDesc) (x y : Nat) : Nat :=
  let row := d.offset.toNat + y * d.pitch.toNat
  if SurfDesc.bits d = 1 then ((fetch (row + x / 8)).toNat >>> (x % 8)) % 2
  else readLE fetch (row + x * (SurfDesc.bits d / 8)) (SurfDesc.bits d / 8)

/-- R106: the value of pixel (x, y) in the TILED layout. -/
def pixelTiled (fetch : Nat → Byte) (d : SurfDesc) (x y : Nat) : Nat :=
  let base := d.offset.toNat + y / 16 * d.pitch.toNat + x / 16 * SurfDesc.tileBytes d
  let e := 16 * (y % 16) + x % 16
  if SurfDesc.bits d = 1 then ((fetch (base + e / 8)).toNat >>> (e % 8)) % 2
  else readLE fetch (base + e * (SurfDesc.bits d / 8)) (SurfDesc.bits d / 8)

/-- Table 05.5: payload length of modes 1 to 4 for element width E. -/
def ctfPayload (mode e : Nat) : Nat :=
  match mode with
  | 1 => 128
  | 2 => 256
  | 3 => if e = 8 then 144 else 160
  | _ => if e = 8 then 256 else 512

/-- Table 05.5: 4-bit entry n of the area at `p` (even entries in the low half). -/
def nibbleAt (fetch : Nat → Byte) (p n : Nat) : Nat :=
  ((fetch (p + n / 2)).toNat >>> (4 * (n % 2))) % 16

/-- R113: the elements of a delta tile, newest first; `acc` holds the elements already decoded. -/
def ctfDeltas (fetch : Nat → Byte) (mode e p v : Nat) : Nat → Nat → List Nat → List Nat
  | 0, _, acc => acc
  | k + 1, n, acc =>
    let d : Int :=
      if mode = 1 then
        let t := nibbleAt fetch p n
        if t < 8 then t else (t : Int) - 16
      else
        let t := (fetch (p + n)).toNat
        if t < 128 then t else (t : Int) - 256
    let pred := if n = 0 then v else if n % 16 = 0 then acc.getD 15 0 else acc.getD 0 0
    ctfDeltas fetch mode e p v k (n + 1) ((((pred : Int) + d) % (2 ^ e : Nat)).toNat :: acc)

/-- R113: the header of a CTF tile that passes the checks before its elements are decoded. -/
structure CtfHead where
  mode    : Nat
  value   : Nat
  palM1   : Nat
  payload : Nat
  deriving DecidableEq, Repr

/-- R113: the header of tile `i`, with the place of its payload, or the reason of Table 15.6 why the tile is invalid; for
a SOLID tile with an offset, which the table leaves out, 4 (DESIGN CHOICE, assumption 78). -/
def ctfHead (fetch : Nat → Byte) (d : SurfDesc) (effSize i : Nat) : Except Nat CtfHead :=
  let e := SurfDesc.bits d
  let off0 := d.offset.toNat
  let h := readLE fetch (off0 + 8 * i) 8
  let mode := h % 8
  let v := (h >>> 8) % 65536
  let pm1 := (h >>> 24) % 16
  let off := h >>> 32
  if mode > 4 then .error 1
  else if (h >>> 3) % 32 ≠ 0 ∨ (h >>> 28) % 16 ≠ 0 then .error 2
  else if v >>> e ≠ 0 ∨ (mode ≠ 3 ∧ pm1 ≠ 0) ∨ ((mode = 3 ∨ mode = 4) ∧ v ≠ 0) then .error 3
  else if mode = 0 then
    if off ≠ 0 then .error 4 else .ok ⟨0, v, 0, 0⟩
  else
    let p := off0 + roundUp (8 * SurfDesc.tiles d) 64 + off
    if off % 8 ≠ 0 ∨ p + ctfPayload mode e > off0 + effSize then .error 4 else .ok ⟨mode, v, pm1, p⟩

/-- R113: the 256 elements of tile `i` of a CTF surface, or the reason of Table 15.6 why the tile is invalid. -/
def ctfTile (fetch : Nat → Byte) (d : SurfDesc) (effSize i : Nat) : Except Nat (List Nat) :=
  let e := SurfDesc.bits d
  match ctfHead fetch d effSize i with
  | .error r => .error r
  | .ok h =>
    match h.mode with
    | 0 => .ok (List.replicate 256 h.value)
    | 4 => .ok ((List.range 256).map fun n => readLE fetch (h.payload + n * (e / 8)) (e / 8))
    | 3 =>
      let idx := (List.range 256).map fun n => nibbleAt fetch (h.payload + 16 * (e / 8)) n
      if idx.any (fun x => h.palM1 < x) then .error 5
      else .ok (idx.map fun x => readLE fetch (h.payload + x * (e / 8)) (e / 8))
    | m => .ok (ctfDeltas fetch m e h.payload h.value 256 0 []).reverse

/-- The elements of a tile, an invalid one as all 0 (R114). -/
def ctfElements (fetch : Nat → Byte) (d : SurfDesc) (effSize i : Nat) : List Nat :=
  match ctfTile fetch d effSize i with
  | .ok l => l
  | .error _ => List.replicate 256 0

/-- R108 and R109: the 16-bit luminance and straight alpha of a stored pixel value. -/
def luminance (d : SurfDesc) (v : Nat) : Nat × Nat :=
  let colour (r g b : Nat) : Nat :=
    (d.wR.toNat * (r * 257) + d.wG.toNat * (g * 257) + d.wB.toNat * (b * 257) + 32768) / 65536
  match d.format.toNat with
  | 0x01 => (v * 257, 65535)
  | 0x02 => (v, 65535)
  | 0x03 => (v % 256 * 257, v / 256 * 257)
  | 0x04 => (d.yConst.toNat, v * 257)
  | 0x05 => (d.yConst.toNat, v * 65535)
  | 0x10 =>
    let r := v / 2048
    let g := v / 32 % 64
    let b := v % 32
    (colour (r * 8 + r / 4) (g * 4 + g / 16) (b * 8 + b / 4), 65535)
  | 0x11 => (colour (v / 65536) (v / 256 % 256) (v % 256), 65535)
  | 0x12 => (colour (v / 65536 % 256) (v / 256 % 256) (v % 256), v / 16777216 * 257)
  | _ => (colour (v / 65536 % 256) (v / 256 % 256) (v % 256), 65535)

/-- The indices of the CTF tiles that a run of `n` pixels from (x0, y) uses. -/
def ctfTilesOf (d : SurfDesc) (x0 y n : Nat) : List Nat :=
  if n = 0 then [] else
  (List.range ((x0 + n - 1) / 16 - x0 / 16 + 1)).map fun k => y / 16 * SurfDesc.across d + x0 / 16 + k

/-- A run of `n` pixels of row `y` from column `x0`: luminance and alpha, an invalid CTF tile as elements of
0 (R114). -/
def pixelRun (fetch : Nat → Byte) (s : Surface) (x0 y n : Nat) : List (Nat × Nat) :=
  match s.desc.layout.toNat with
  | 0 => (List.range n).map fun k => luminance s.desc (pixelLinear fetch s.desc (x0 + k) y)
  | 1 => (List.range n).map fun k => luminance s.desc (pixelTiled fetch s.desc (x0 + k) y)
  | _ =>
    let rows := (ctfTilesOf s.desc x0 y n).map fun i =>
      ((ctfElements fetch s.desc s.effSize i).drop (16 * (y % 16))).take 16
    ((rows.flatten.drop (x0 % 16)).take n).map (luminance s.desc)

/-- R114: the invalid CTF tiles among those of a run, with their reasons. -/
def badTiles (fetch : Nat → Byte) (s : Surface) (x0 y n : Nat) : List (Nat × Nat) :=
  if s.desc.layout = 2 then
    (ctfTilesOf s.desc x0 y n).filterMap fun i =>
      match ctfTile fetch s.desc s.effSize i with
      | .ok _ => none
      | .error r => some (i, r)
  else []

/-- The bytes of the handle's byte space from which a run of pixels is fetched, as (first, length) pieces: rows
of LINEAR, whole tiles of TILED, headers of CTF and the payloads of the valid ones (R105, R106, R113, R115). -/
def runBytes (fetch : Nat → Byte) (s : Surface) (x0 y n : Nat) : List (Nat × Nat) :=
  let d := s.desc
  if n = 0 then [] else
  match d.layout.toNat with
  | 0 =>
    let a := d.offset.toNat + y * d.pitch.toNat
    let lo := x0 * SurfDesc.bits d / 8
    [(a + lo, ceilDiv ((x0 + n) * SurfDesc.bits d) 8 - lo)]
  | 1 =>
    [(d.offset.toNat + y / 16 * d.pitch.toNat + x0 / 16 * SurfDesc.tileBytes d,
      ((x0 + n - 1) / 16 - x0 / 16 + 1) * SurfDesc.tileBytes d)]
  | _ =>
    (ctfTilesOf d x0 y n).flatMap fun i =>
      (d.offset.toNat + 8 * i, 8) :: match ctfHead fetch d s.effSize i with
        | .ok h => if h.mode = 0 then [] else [(h.payload, ctfPayload h.mode (SurfDesc.bits d))]
        | .error _ => []

/-- R117: a surface that may be a capture target. -/
def SurfDesc.captureOk (d : SurfDesc) : Bool :=
  d.layout == 0 && d.format == 2 && d.width == 2048 && d.height == 512

end Sys2Proof.Machine
end

