-- ==== Sys2Proof/Machine/Blend.lean ====
section
/-!
DEFINITION. The arithmetic of layer composition (`06_composition.md`): blend modes, scalers, the shape
rasteriser and the fetch budget. Pure functions.
-/
namespace Sys2Proof.Machine

/-- R121: mul(a, b) = floor((a x b + 32,767) / 65,535). -/
def mulLum (a b : Nat) : Nat := (a * b + 32767) / 65535

/-- Table 06.3: the new D of one blend step; `ae` is the effective alpha. -/
def blendStep (m : Blend) (dd y ae : Nat) : Nat :=
  if ae = 0 then dd else
  min 65535 <| match m with
  | .sourceOver => mulLum y ae + mulLum dd (65535 - ae)
  | .multiply => mulLum dd (65535 - mulLum (65535 - y) ae)
  | .max => max dd (mulLum y ae)
  | .min => min dd (mulLum y ae + 65535 - ae)
  | .replace => y

/-- R122: the mean of one group of the pre-decimator. -/
def groupMean (g : List (Nat × Nat)) : Nat × Nat :=
  let n := g.length
  (((g.map Prod.fst).sum + n / 2) / n, ((g.map Prod.snd).sum + n / 2) / n)

/-- R122: groups of `k` adjacent pixels, the last possibly shorter. -/
def groupsOf (k : Nat) : Nat → List (Nat × Nat) → List (List (Nat × Nat))
  | 0, _ => []
  | fuel + 1, l => if l.isEmpty then [] else l.take k :: groupsOf k fuel (l.drop k)

/-- R122: the pre-decimated line. -/
def preDecimate (k : Nat) (l : List (Nat × Nat)) : List (Nat × Nat) :=
  (groupsOf k l.length l).map groupMean

/-- R124: source base and phase of output position `i` for `w` source and `dst` output positions. -/
def scalePos (i w dst : Nat) : Int × Nat :=
  let xs : Int := ((((2 * i + 1) * w * 32768) / dst : Nat) : Int) - 32768
  let p := (((xs % 65536) + 512) / 1024).toNat
  if p = 64 then (xs / 65536 + 1, 0) else (xs / 65536, p)

/-- R124: one filter output from taps and their coefficients. -/
def filterOut (cs : List Int) (vs : List Nat) : Nat :=
  clampNat (((List.zipWith (fun (c : Int) (v : Nat) => c * (v : Int)) cs vs).sum + 512) / 1024) 65535

/-- R125: coefficient set 0, linear interpolation. -/
def coefSet0 : CoefSet :=
  { h := (List.range 64).map fun p => [0, 0, 0, 1024 - 16 * (p : Int), 16 * (p : Int), 0, 0, 0]
    v := (List.range 64).map fun p => [0, 1024 - 16 * (p : Int), 16 * (p : Int), 0] }

/-- R125: every phase of a set has taps in the signed 12-bit range that sum to 1,024. -/
def CoefSet.ok (c : CoefSet) : Bool :=
  (c.h ++ c.v).all fun taps => taps.sum == 1024

/-- R124: the taps of the vertical filter for output row `j`: source rows and phase. -/
def vertTaps (j h dst : Nat) : List Nat × Nat :=
  let (base, p) := scalePos j h dst
  ((List.range 4).map fun t => clampNat (base - 1 + t) (h - 1), p)

/-- R124: the vertical filter over four lines. -/
def vertFilter (c : CoefSet) (p : Nat) (lines : List (List (Nat × Nat))) : List (Nat × Nat) :=
  let taps := c.v.getD p []
  match lines with
  | [a, b, d, e] =>
    List.zipWith (fun (x : (Nat × Nat) × (Nat × Nat)) (y : (Nat × Nat) × (Nat × Nat)) =>
      (filterOut taps [x.1.1, x.2.1, y.1.1, y.2.1], filterOut taps [x.1.2, x.2.2, y.1.2, y.2.2]))
      (a.zip b) (d.zip e)
  | _ => []

/-- R124: the horizontal filter at output column `i`. -/
def horFilter (c : CoefSet) (line : Array (Nat × Nat)) (dst i : Nat) : Nat × Nat :=
  let wp := line.size
  let (base, p) := scalePos i wp dst
  let taps := c.h.getD p []
  let vs := (List.range 8).map fun t => line.getD (clampNat (base - 3 + t) (wp - 1)) (0, 0)
  (filterOut taps (vs.map Prod.fst), filterOut taps (vs.map Prod.snd))

/-- R122, R123: the pre-decimated width. -/
def preWidth (w pd : Nat) : Nat := ceilDiv w pd

/-- R123: a V layer's ratios and pre-decimated width. -/
def scalerOk (srcW srcH dstW dstH pd : Nat) : Bool :=
  let wp := preWidth srcW pd
  decide (wp ≤ 2048) && decide (wp ≤ 8 * dstW) && decide (dstW ≤ 16 * wp)
  && decide (srcH ≤ 8 * dstH) && decide (dstH ≤ 16 * srcH)

/-- R119: a position inside a destination of length `len` that starts at `dst`. -/
def inDst (p : Nat) (dst : Int) (len : Nat) : Option Nat :=
  if dst ≤ (p : Int) ∧ (p : Int) < dst + len then some ((p : Int) - dst).toNat else none

/-- How many of the positions `dst` to `dst + len - 1` lie in 0 to `n - 1`. -/
def visLen (dst : Int) (len n : Nat) : Nat :=
  (min (dst + len) n - max dst 0).toNat

/-- Row `y` of a V layer (R119, R122 to R124): luminance and alpha of every array column; `get` gives a source row. -/
def vRow (get : Nat → List (Nat × Nat)) (l : LayerCfg) (sy sh : Nat) (cs : Nat → CoefSet) (y : Nat) : List (Nat × Nat) :=
  match inDst y l.dstY l.dstH with
  | none => List.replicate 2048 (0, 0)
  | some j =>
    let (rows, p) := vertTaps j sh l.dstH
    let lines := rows.map fun r => preDecimate l.predec (get (sy + r))
    let line := (vertFilter (cs l.coefV) p lines).toArray
    (List.range 2048).map fun x =>
      match inDst x l.dstX l.dstW with
      | none => (0, 0)
      | some i => horFilter (cs l.coefH) line l.dstW i

/-- Row `y` of a G layer (R119); `get` gives the part of a source row that lies on the array. -/
def gRow (get : Nat → List (Nat × Nat)) (l : LayerCfg) (sy sw sh : Nat) (y : Nat) : List (Nat × Nat) :=
  match inDst y l.dstY sh with
  | none => List.replicate 2048 (0, 0)
  | some v =>
    let c0 := (max l.dstX 0).toNat
    let n := visLen l.dstX sw 2048
    List.replicate (min c0 2048) (0, 0) ++ (get (sy + v)).take n
      ++ List.replicate (2048 - (c0 + n)) (0, 0)

/-- The source rows of a layer that array row `y` fetches. -/
def rowsFetched (isV : Bool) (l : LayerCfg) (sy sh y : Nat) : List Nat :=
  if isV then
    match inDst y l.dstY l.dstH with
    | none => []
    | some j => (vertTaps j sh l.dstH).1.map fun r => sy + r
  else
    match inDst y l.dstY sh with
    | none => []
    | some v => [sy + v]

/-- Cross product of two vectors. -/
def cross (a b : Int × Int) : Int := a.1 * b.2 - a.2 * b.1

/-- The successive edges of a polygon. -/
def edges (vs : List (Int × Int)) : List ((Int × Int) × (Int × Int)) :=
  vs.zip (vs.drop 1 ++ vs.take 1)

/-- Twice the shoelace area of a polygon. -/
def shoelace (vs : List (Int × Int)) : Int := ((edges vs).map fun e => cross e.1 e.2).sum

/-- R126: whether a point (in sixteenths of a pixel) belongs to a shape. -/
def inShape (px py : Int) : Shape → Bool
  | .rect _ x0 y0 x1 y1 => decide (x0 ≤ px) && decide (px < x1) && decide (y0 ≤ py) && decide (py < y1)
  | .ellipse _ cx cy ax ay =>
    decide ((px - cx) ^ 2 * ay ^ 2 + (py - cy) ^ 2 * ax ^ 2 ≤ ax ^ 2 * ay ^ 2)
  | .polygon _ vs =>
    let sg := (shoelace vs).sign
    sg ≠ 0 && (edges vs).all fun e =>
      decide (0 ≤ sg * cross (e.2.1 - e.1.1, e.2.2 - e.1.2) (px - e.1.1, py - e.1.2))

/-- The `VALUE` of a shape. -/
def Shape.value : Shape → Nat
  | .rect v _ _ _ _ => v
  | .ellipse v _ _ _ _ => v
  | .polygon v _ => v

/-- R126: the sixteen sample offsets. -/
def samplePoints : List (Nat × Nat) :=
  [2, 6, 10, 14].flatMap fun b => [2, 6, 10, 14].map fun a => (a, b)

/-- R126: the alpha of array pixel (x, y) from one shape. -/
def shapeAlpha (x y : Nat) (s : Shape) : Nat :=
  let n := (samplePoints.filter fun p => inShape (16 * x + p.1 : Nat) (16 * y + p.2 : Nat) s).length
  Shape.value s * n / 16

/-- R126: the alpha of S0, the maximum over all shapes. -/
def shapesAlpha (l : List Shape) (x y : Nat) : Nat :=
  (l.map (shapeAlpha x y)).foldl max 0

/-- Table 06.5: bytes counted for a layer (`isV`: V0 or V1) whose committed description is `l`. -/
def layerBytes (isV : Bool) (l : LayerCfg) (s : Surface) : Nat :=
  let d := s.desc
  let b := SurfDesc.bits d
  let hvis := visLen l.dstY l.dstH 512
  let w := if isV then l.srcW else visLen l.dstX l.srcW 2048
  let h := if isV then l.srcH else visLen l.dstY l.srcH 512
  let line := 64 * (ceilDiv (w * b) 512 + 1)
  let trow := if d.layout = 2 then (ceilDiv w 16 + 1) * (32 * b + 8) else (ceilDiv w 16 + 1) * SurfDesc.tileBytes d
  let n := if d.layout = 0 then h else ceilDiv h 16 + 1
  let n' := if isV then min n (4 * hvis) else n
  n' * (if d.layout = 0 then line else trow)

/-- R34: T_compose_est in ninths of a nanosecond: max(655 µs, B / 9.0 GB/s). -/
def composeEst9 (bytes : Nat) : Nat := max (9 * 655000) bytes

/-- R35: the lead of a scene in µs (`fix` = COMPOSE_LEAD_FIX in µs, `guardUs` = T_GUARD). -/
def leadUs (bytes fix guardUs : Nat) : Nat :=
  if fix = 0 then ceilDiv (composeEst9 bytes + 9000 * guardUs) 9000 else fix

/-- R35 with R27: the budget test. `pNom` in ns; P_MIN = P_NOM for INTERNAL, P_NOM / 1.02 otherwise. -/
def budgetOk (bytes fix guardUs pNom : Nat) (isInternal : Bool) : Bool :=
  let t := composeEst9 bytes + 9000 * guardUs
  (if isInternal then decide (t + 270000 ≤ 9 * pNom) else decide ((t + 270000) * 102 ≤ 900 * pNom))
  && (fix == 0 || decide (t ≤ 9000 * fix))

end Sys2Proof.Machine
end

