-- ==== Sys2Proof/Machine/Photo.lean ====
section
/-!
DEFINITION. The photometric pipeline and the curb governor's arithmetic (`04_luminance_to_current.md`), the
boundary of the cut-off guard (R342), neighbour fill (R152) and the CRC of R76. Pure functions.
-/
namespace Sys2Proof.Machine

/-- R76: one byte of the reflected CRC-32 of polynomial 0x04C1_1DB7. -/
def crcByte (c : BitVec 32) (b : Byte) : BitVec 32 :=
  (List.range 8).foldl (fun r _ => if r.getLsbD 0 then (r >>> 1) ^^^ 0xEDB88320#32 else r >>> 1)
    (c ^^^ b.zeroExtend 32)

/-- R76: CRC-32, initial value and final XOR 0xFFFF_FFFF. -/
def crc32 (l : List Byte) : Word := l.foldl crcByte 0xFFFFFFFF#32 ^^^ 0xFFFFFFFF#32

/-- The `n` little-endian bytes of a number (R6). -/
def leBytes : Nat → Nat → List Byte
  | _, 0 => []
  | v, n + 1 => BitVec.ofNat 8 v :: leBytes (v / 256) n

/-- The number that little-endian bytes spell (R6). -/
def ofLE : List Byte → Nat
  | [] => 0
  | b :: l => b.toNat + 256 * ofLE l

/-- R76: the row CRC over the row number and its 2,048 latch values. -/
def rowCrc (row : Nat) (codes : List Half) : Word :=
  crc32 (leBytes row 2 ++ codes.flatMap fun c => leBytes c.toNat 2)

/-- Table 03.1: the tile of pixel (x, y). -/
def tileOf (x y : Nat) : Nat := 32 * (y / 64) + x / 64

/-- R84: the uniformity gain. -/
def stage1 (y0 g : Nat) : Nat := min 65535 ((y0 * (128 + g) + 128) / 256)

/-- R152: the gain byte of a filled pixel. -/
def fillGain (g f : Nat) : Nat := min 255 (g + (128 + g) * f / 256)

/-- R86: the regional derating factor at pixel (x, y); `dq` lists the 16 region factors. -/
def regionFactor (dq : List Nat) (x y : Nat) : Nat :=
  let xh := clampNat ((2 * x + 1 : Nat) - 256) 3584
  let fy := clampNat ((2 * y + 1 : Nat) - 256) 512
  let i := min 6 (xh / 512)
  let fx := xh - 512 * i
  let dd (q : Nat) := dq.getD q 4096
  (dd i * (512 - fx) * (512 - fy) + dd (i + 1) * fx * (512 - fy)
    + dd (8 + i) * (512 - fx) * fy + dd (8 + i + 1) * fx * fy + 131072) / 262144

/-- R87: d_H for the hallmark floor code. -/
def floorFactor (cH : Nat) : Nat := ceilDiv (4096 * cH) 1023

/-- R87: regional derating. `d` is the factor of R86, 4,096 in GLOBAL mode. -/
def stage2 (y1 d dH : Nat) (h : Bool) : Nat :=
  (y1 * (if h then max d dH else d) + 2048) / 4096

/-- R89: hallmark precedence attenuation. -/
def stage3 (y2 alpha : Nat) (h : Bool) : Nat :=
  if h then y2 else (y2 * alpha + 32768) / 65536

/-- R342: the boundary row of column `x`; `vs` is the vertex list. -/
def boundary : List (Nat × Nat) → Nat → Int
  | [], _ => 0
  | [v], _ => v.2
  | v :: w :: rest, x =>
    if x ≤ v.1 then v.2
    else if x ≤ w.1 then
      let dx : Int := (w.1 : Int) - v.1
      (v.2 : Int) + Int.fdiv (2 * ((w.2 : Int) - v.2) * ((x : Int) - v.1) + dx) (2 * dx)
    else boundary (w :: rest) x

/-- R91, R342: pixel (x, y) lies on the clamped side; with no geometry every pixel does. -/
def clampedSide (g : Option CutGeom) (x y : Nat) : Bool :=
  match g with
  | none => true
  | some g => if g.high then decide (boundary g.verts x < y) else decide ((y : Int) < boundary g.verts x)

/-- R91: the cut-off clamp. -/
def stage4 (y3 limit : Nat) (clamped : Bool) : Nat := if clamped then min y3 limit else y3

/-- Table 04.3: the threshold matrix. -/
def thetaTable : List Nat := [0, 8, 2, 10, 12, 4, 14, 6, 3, 11, 1, 9, 15, 7, 13, 5]

/-- R92: the threshold of pixel (x, y) in frame `f`. -/
def theta (m : Dither) (f x y : Nat) : Nat :=
  let k : Nat × Nat := match m, f % 4 with
    | .spatialTemporal, 1 => (2, 2)
    | .spatialTemporal, 2 => (2, 0)
    | .spatialTemporal, 3 => (0, 2)
    | _, _ => (0, 0)
  thetaTable.getD (4 * ((y + k.2) % 4) + (x + k.1) % 4) 0

/-- R92: dither and quantisation to N bits. -/
def stage5 (m : Dither) (n f x y y4 : Nat) (clamped : Bool) : Nat :=
  let sd := 16 - n
  if clamped || m == Dither.off then y4 / 2 ^ sd
  else min (2 ^ n - 1) ((y4 + (2 * theta m f x y + 1) * 2 ^ sd / 32) / 2 ^ sd)

/-- What the pipeline makes of one pixel: the code C, and Y3' of R95. -/
structure PixOut where
  code : Nat
  yN0  : Nat
  h    : Bool
  deriving DecidableEq, Repr

/-- R81, Table 04.1: the stages on one pixel. `gain` is the byte of stage 1, `none` for a row of the fallback
path; `road` says that the clamp applies. -/
def pipeline (c : CompSet) (dH : Nat) (road : Bool) (g : Option CutGeom) (limit : Nat) (x y : Nat)
    (y0 : Nat) (h : Bool) (gain : Option Nat) : PixOut :=
  let y1 := match gain with
    | some b => stage1 y0 b
    | none => y0
  let y2 := stage2 y1 (if c.regional then regionFactor c.dq x y else 4096) (if c.regional then dH else 4096) h
  let cl := road && clampedSide g x y
  let y4 := stage4 (stage3 y2 c.alpha h) limit cl
  ⟨stage5 c.dither c.n c.frame.toNat x y y4 cl, stage4 y2 limit cl, h⟩

/-- R95: the governor's sums over one row: A_H, A_N, A_N0 and the 32 tile sums of R156. A pixel of a tile that is
not counted (R96) is passed over in the first three. -/
def rowSums (c : CompSet) (y : Nat) (counted : Nat → Bool) (px : List PixOut) :
    Nat × Nat × Nat × List Nat :=
  let term (i : Nat) (p : PixOut) (f : PixOut → Nat) : Nat := c.q.getD (tileOf i y) 32768 * f p
  let idx := px.zipIdx
  let sum (sel : PixOut → Bool) (f : PixOut → Nat) : Nat :=
    (idx.map fun (p, i) => if sel p && counted (tileOf i y) then term i p f else 0).sum
  (sum (fun p => p.h) PixOut.code, sum (fun p => !p.h) PixOut.code, sum (fun p => !p.h) PixOut.yN0,
    (List.range 32).map fun t =>
      (idx.map fun (p, i) => if i / 64 = t then term i p PixOut.code else 0).sum)

/-- R98: s_I in units of 1/65,536; `a` = A_H + A_N, `lim` in mA. -/
def scaleI (a n lim : Nat) : Nat :=
  if a = 0 then 65536 else min 65536 (65536 * (lim * 327680 * 2 ^ n) / a)

/-- R98: the curb code. `active`: precedence is active for this frame. -/
def curbCode (a n lim dG cH : Nat) (active : Bool) : Nat :=
  let sI := scaleI a n lim
  let c0 := sI * dG / 4096 * 1023 / 65536
  let cI := sI * 1023 / 65536
  if active then max c0 (min cH cI) else c0

/-- R88: s_U as a fraction (numerator, denominator). -/
def scaleU (aH aN0 n lim dG : Nat) : Nat × Nat :=
  let base := aH * 65536 + aN0 * 2 ^ n
  let x := lim * 327680 * 2 ^ n * 65536
  if base = 0 then (dG, 4096) else (min x base * dG, base * 4096)

/-- R88: the attenuation decided for the next composition. -/
def decideAlpha (shows : Bool) (aH aN0 n lim dG cH : Nat) : Nat :=
  let u := scaleU aH aN0 n lim dG
  if shows && decide (u.1 * 1023 < cH * u.2) && decide (0 < aN0) then
    let a1 := 65536 * (u.1 * 1023) / (u.2 * cH)
    let num := lim * 327680 * 1023 * 2 ^ n - aH * cH
    let a2 := 65536 * (num * 65536) / (cH * 2 ^ n * aN0)
    min 65536 (min a1 a2)
  else 65536

/-- I_pred as a fraction in µA (R95): 100 µA x A / (32,768 x 2^N). -/
def iPred (a n : Nat) : Nat × Nat := (100 * a, 32768 * 2 ^ n)

/-- R92, R344: C_cut. -/
def cCut (limit n : Nat) : Nat := limit / 2 ^ (16 - n)

end Sys2Proof.Machine
end

