-- ==== Sys2Proof/Machine/Store.lean ====
section
/-!
DEFINITION. The hallmark store and the fallback store (`14_safety_functions.md`, R337, R338, R347, R348, Tables
14.3 and 14.4, Table 12.6). Pure functions over the bytes of a store.
-/
namespace Sys2Proof.Machine

/-- The size of each store, 256 KiB. -/
def storeSize : Nat := 262144

/-- One mark header (Table 14.4). -/
structure Mark where
  format : Nat
  y      : Nat
  x      : Int
  yPos   : Int
  width  : Nat
  height : Nat
  pitch  : Nat
  data   : Nat
  crc    : Nat
  deriving DecidableEq, Repr

/-- A 16-bit value read as two's complement. -/
def signed16 (n : Nat) : Int := if n < 32768 then n else (n : Int) - 65536

/-- Header of mark `i`. -/
def markAt (st : Nat → Byte) (i : Nat) : Mark :=
  let a := 128 + 32 * i
  { format := readLE st a 1
    y := readLE st (a + 2) 2
    x := signed16 (readLE st (a + 4) 2)
    yPos := signed16 (readLE st (a + 6) 2)
    width := readLE st (a + 8) 2
    height := readLE st (a + 10) 2
    pitch := readLE st (a + 12) 4
    data := readLE st (a + 16) 4
    crc := readLE st (a + 20) 4 }

/-- Bits per mark pixel: A8 8, A1 1. -/
def Mark.bits (m : Mark) : Nat := if m.format = 4 then 8 else 1

/-- R338: a header in range, its data within the store and its `DATA_CRC` right. -/
def markOk (st : Nat → Byte) (i : Nat) : Bool :=
  let m := markAt st i
  let res := readLE st (128 + 32 * i + 1) 1 == 0 && readLE st (128 + 32 * i + 24) 8 == 0
  if m.format = 0 then res && m.width == 0 && m.height == 0
  else
    (m.format == 4 || m.format == 5) && res
    && decide (1 ≤ m.width ∧ m.width ≤ 2048 ∧ 1 ≤ m.height ∧ m.height ≤ 512)
    && m.pitch % 4 == 0 && decide (ceilDiv (m.width * m.bits) 8 ≤ m.pitch)
    && m.data % 4 == 0 && decide (640 ≤ m.data) && decide (m.data + m.pitch * m.height ≤ storeSize)
    && (crc32 ((List.range (m.pitch * m.height)).map fun k => st (m.data + k))).toNat == m.crc

/-- R337: the alpha of mark `m` at array pixel (x, y), 0 off the mark. -/
def markAlpha (st : Nat → Byte) (m : Mark) (x y : Nat) : Nat :=
  if m.format = 0 then 0 else
  match inDst x m.x m.width, inDst y m.yPos m.height with
  | some u, some v =>
    let row := m.data + v * m.pitch
    if m.format = 4 then (st (row + u)).toNat * 257
    else (((st (row + u / 8)).toNat >>> (u % 8)) % 2) * 65535
  | _, _ => 0

/-- R128: the expected CRC of a mark over its (Y, alpha) pairs on the array. -/
def markCrc (st : Nat → Byte) (m : Mark) : Word :=
  let x0 := (max m.x 0).toNat
  let y0 := (max m.yPos 0).toNat
  crc32 <| (List.range (visLen m.yPos m.height 512)).flatMap fun v =>
    (List.range (visLen m.x m.width 2048)).flatMap fun u =>
      leBytes m.y 2 ++ leBytes (markAlpha st m (x0 + u) (y0 + v)) 2

/-- R339: `MAP[p]`. -/
def storeMap (st : Nat → Byte) (p : Nat) : Half := BitVec.ofNat 16 (readLE st (4 + 2 * p) 2)

/-- R336: the assignment of SIN input `n`: 0 no supply, 1 TPO0, 2 TPO1, 3 invalid. -/
def sinAssign (st : Nat → Byte) (n : Nat) : Nat := ((st 2).toNat >>> (2 * n)) % 4

/-- The eight CAN rules of the safety record (Table 14.3). -/
def storeRules (st : Nat → Byte) : List Word :=
  (List.range 8).map fun k => BitVec.ofNat 32 (readLE st (36 + 4 * k) 4)

/-- The marks a store holds, bit i for mark i. -/
def loadedMarks (st : Nat → Byte) : Half :=
  (List.range 16).foldl (fun m i => if (markAt st i).format ≠ 0 then m ||| (1#16 <<< i) else m) 0

/-- Table 12.6: a rule with its zero bits zero. -/
def canRuleOk (r : Word) : Bool := r.toNat / 32 % 4 == 0 && decide (r.toNat / 2048 = 0)

/-- Table 12.6: the rule is enabled. -/
def canRuleOn (r : Word) : Bool := r.getLsbD 7

/-- Table 12.6: the scene of a rule. -/
def canRuleScene (r : Word) : Nat := r.toNat / 256 % 8

/-- Table 12.6: the two-bit field that a rule reads in the frame's data. -/
def canRuleField (r : Word) (data : List Byte) : Nat :=
  ((data.getD (r.toNat % 8) 0).toNat >>> (2 * (r.toNat / 8 % 4))) % 4

/-- R347: offset, size and CRC of the directory entry of scene `n`. -/
def sceneDir (st : Nat → Byte) (n : Nat) : Nat × Nat × Nat :=
  (readLE st (16 * n) 4, readLE st (16 * n + 4) 4, readLE st (16 * n + 8) 4)

/-- R347: the luminances of a run list, `left` pixels still to cover; a sum other than 2,048 is `none`. -/
def decodeRuns (st : Nat → Byte) : Nat → Nat → Nat → Option (List Nat)
  | 0, _, left => if left = 0 then some [] else none
  | fuel + 1, a, left =>
    if left = 0 then some [] else
    let r := readLE st a 4
    let len := r % 2048 + 1
    if left < len ∨ r / 2048 % 32 ≠ 0 ∨ storeSize < a + 4 then none
    else (decodeRuns st fuel (a + 4) (left - len)).map fun l => List.replicate len (r / 65536) ++ l

/-- R347: row `y` of fallback scene `n`. -/
def sceneRow (st : Nat → Byte) (n y : Nat) : Option (List Nat) :=
  let off := (sceneDir st n).1
  decodeRuns st 2048 (off + readLE st (off + 4 * y) 4) 2048

/-- R347: the directory names the scene. -/
def scenePresent (st : Nat → Byte) (n : Nat) : Bool := (sceneDir st n).1 != 0

/-- R348: a present scene passes its CRC and decodes in full. -/
def sceneOk (st : Nat → Byte) (n : Nat) : Bool :=
  let (off, size, crc) := sceneDir st n
  decide (off + size ≤ storeSize)
  && (crc32 ((List.range size).map fun k => st (off + k))).toNat == crc
  && (List.range 512).all fun y => (sceneRow st n y).isSome

/-- R338: the checks of the hallmark store at load; `fb` is the fallback store of the same image. -/
def hallmarkOk (st fb : Nat → Byte) : Bool :=
  readLE st 0 2 == 1
  && (List.range 4).all (fun n => sinAssign st n != 3)
  && (List.range 16).all (markOk st)
  && (List.range 16).all (fun p => storeMap st p &&& ~~~(loadedMarks st) == 0)
  && (storeRules st).all (fun r => !canRuleOn r || (scenePresent fb (canRuleScene r) && sceneOk fb (canRuleScene r)))

end Sys2Proof.Machine
end

