-- ==== Sys2Proof/Machine/Ops.lean ====
section
/-!
DEFINITION. The named operations over the state: cells of memory, the register file, time, the flight log, what the
engine sends to the host (completions, events, MSI-X) and to its trace neighbours.
-/
namespace Sys2Proof.Machine

/-! ### Cells: a list of (address, byte) in canonical form over a default byte -/

/-- The byte at an address; an unlisted address reads as `d`. -/
def cellGet (d : Byte) (m : List Host.Cell) (a : Nat) : Byte :=
  ((m.find? fun c => c.1 == a).map Prod.snd).getD d

/-- The listed cells of consecutive bytes from `a`: those that differ from the default. -/
def freshCells (d : Byte) : Nat → List Byte → List Host.Cell
  | _, [] => []
  | a, b :: bs => if b = d then freshCells d (a + 1) bs else (a, b) :: freshCells d (a + 1) bs

/-- Write consecutive bytes at `a`. -/
def cellsPut (d : Byte) (m : List Host.Cell) (a : Nat) (bs : List Byte) : List Host.Cell :=
  m.filter (fun c => c.1 < a) ++ (freshCells d a bs ++ m.filter (fun c => a + bs.length ≤ c.1))

/-- The `n` bytes from `a`. -/
def cellsGet (d : Byte) (m : List Host.Cell) (a n : Nat) : List Byte :=
  (List.range n).map fun k => cellGet d m (a + k)

/-- The canonical form: addresses strictly rising, no entry equal to the default. -/
abbrev cellsWf (d : Byte) (m : List Host.Cell) : Prop :=
  m.Pairwise (fun x y => x.1 < y.1) ∧ ∀ c ∈ m, c.2 ≠ d

/-- The canonical form of the pool's memory. -/
abbrev Memory.wf (m : List Host.Cell) : Prop := cellsWf 0 m

/-- Replace or add an entry of an association list. -/
def alPut {β : Type} (l : List (Nat × β)) (k : Nat) (v : β) : List (Nat × β) :=
  (k, v) :: l.filter fun e => e.1 != k

/-- Look an entry of an association list up. -/
def alGet {β : Type} (l : List (Nat × β)) (k : Nat) : Option β :=
  (l.find? fun e => e.1 == k).map Prod.snd

/-- The 64-byte unit of a data address, by its first address. -/
def unitOf (a : Nat) : Nat := a / 64 * 64

/-! ### Free values -/

/-- Draw the next free value: its number, and the state that has counted it. -/
def State.draw (s : State) : Nat × State := (s.free, { s with free := s.free + 1 })

/-- Draw `n` random bytes (R446). -/
def State.random (s : State) (n : Nat) : List Byte × State :=
  ((List.range n).map fun k => Config.freeByte (s.free + k), { s with free := s.free + n })

/-! ### The register file (R406): class-C fields -/

/-- Offset of field block `o` of ring `n` (R210). -/
def ringReg (n o : Nat) : Nat := 0x400 + 0x40 * n + o

/-- R309: a counter to which nothing applies a correction. -/
def Clk.undisciplined (c : Clk) : Clk := { c with slew := 0, rate := 0, rateOver := 0, holdAt := none }

/-- R310, R313: a correction by `d` ns, to be slewed in; its rate is kept for the time without a further one. -/
def Clk.slewBy (d : Int) (c : Clk) : Clk :=
  { c with slew := d, holdAt := none, rate := d, rateOver := c.loc - c.ptmAt, ptmAt := c.loc }

/-- R310, R313: without further corrections the counter keeps its last rate. -/
def Clk.hold (c : Clk) : Clk := { c with slew := 0, holdAt := c.holdAt.or (some c.loc) }

/-- The default severities of the eight sources of `FLT_SEVn` (Table 15.3). -/
def sevReset (n : Nat) : Nat :=
  (List.range 8).foldl (fun acc k => acc + defaultSev (8 * n + k) * 16 ^ k) 0

/-- Reset value of a class-C register (Tables 08.3, 10.1, 10.2, 15.3, 18.7, 18.8, 18.9, 18.10, 18.12). -/
def regReset (o : Nat) : Word :=
  if o = 0x138 then 100
  else if o = 0x200 then 17
  else if 0x400 ≤ o ∧ o < 0x800 ∧ o % 0x40 = 0x14 then
    BitVec.ofNat 32 (256 * ((o - 0x400) / 0x40) + if o = 0x414 then 16 else 0)
  else if o = 0x80C then 0x1000
  else if o = 0x940 then 64
  else if o = 0x944 then 32
  else if o = 0x1014 then 10
  else if 0x1040 ≤ o ∧ o < 0x1090 then BitVec.ofNat 32 (sevReset ((o - 0x1040) / 4))
  else if o = 0x200C then 0x3F
  else 0

/-- The writable bits that a class-C register holds of group `g` (Table 18.3). -/
def groupMask (g o : Nat) : Word :=
  if 0x400 ≤ o ∧ o < 0x800 then
    match g, o % 0x40 with
    | 0, 0x00 => 0xFFFFFFC0
    | 0, 0x04 => 0xFFFFFFFF
    | 0, 0x08 => 0xFFFFFFC0
    | 0, 0x0C => 0xFFFFFFFF
    | 0, 0x10 => 0x1FFF1FFF
    | 0, 0x14 => if o = 0x414 then 0xF else 0x1F
    | 1, 0x14 => 0x1F00
    | 1, 0x18 => 0x00FFFFFF
    | _, _ => 0
  else match g, o with
    | 0, 0x800 => 0xFFFFFFC0
    | 0, 0x804 => 0xFFFFFFFF
    | 0, 0x808 => 0x1FFF
    | 1, 0x80C => 0x1F00
    | 1, 0x810 => 0x00FFFFFF
    | 0, 0x200C => 0x36
    | 0, 0x2010 => 0xFFFFFFFF
    | 0, 0x2014 => 0xFFFFFFFF
    | 0, 0x5004 => 0xFF
    | 1, 0x200 => 0x1F
    | 1, 0x204 => 0x3F
    | 6, 0x134 => 0x3
    | 6, 0x138 => 0x3FFF
    | 6, 0x1014 => 0x1FF
    | g, o =>
      if g = 0 ∧ 0x900 ≤ o ∧ o ≤ 0x944 then 0x07FF07FF
      else if g = 5 ∧ 0x300 ≤ o ∧ o < 0x320 then 0xFFFFFFFF
      else if g = 6 ∧ 0x1040 ≤ o ∧ o < 0x1090 then 0xFFFFFFFF
      else 0

/-- All writable bits of a class-C register. -/
def classCMask (o : Nat) : Word := groupMask 0 o ||| groupMask 1 o ||| groupMask 5 o ||| groupMask 6 o

/-- The offsets of the class-C registers. -/
def classCRegs : List Nat :=
  [0x134, 0x138, 0x200, 0x204] ++ (List.range 8).map (fun n => 0x300 + 4 * n)
  ++ (List.range 16).flatMap (fun n => [0x00, 0x04, 0x08, 0x0C, 0x10, 0x14, 0x18].map fun o => ringReg n o)
  ++ [0x800, 0x804, 0x808, 0x80C, 0x810] ++ (List.range 18).map (fun n => 0x900 + 4 * n)
  ++ [0x1014] ++ (List.range 20).map (fun n => 0x1040 + 4 * n)
  ++ [0x200C, 0x2010, 0x2014, 0x5004]

/-- The value in force of a class-C register. -/
def State.cfg (s : State) (o : Nat) : Word := (alGet s.reg.force o).getD (regReset o)

/-- Keep an override list minimal: a value equal to the reset value is not listed. -/
def regPut (l : List (Nat × Word)) (o : Nat) (v : Word) : List (Nat × Word) :=
  if v = regReset o then l.filter fun e => e.1 != o else alPut l o v

/-- Bits `hi` to `lo` of a word as a number. -/
def bits (w : Word) (lo len : Nat) : Nat := w.toNat / 2 ^ lo % 2 ^ len

/-- The 64-bit value of two registers in force. -/
def State.cfg64 (s : State) (o : Nat) : Nat := (s.cfg o).toNat + 2 ^ 32 * (s.cfg (o + 4)).toNat

/-- Sizes of a ring pair in force. -/
def State.sqSize (s : State) (n : Nat) : Nat := bits (s.cfg (ringReg n 0x10)) 0 13
def State.cqSize (s : State) (n : Nat) : Nat := bits (s.cfg (ringReg n 0x10)) 16 13

/-! ### Time, identity, frames -/

/-- Team time now. -/
def State.now (s : State) : Dword := s.clk.team

/-! ### What the OTP says, with the defaults of R437 until its CRC has passed -/

/-- R437, R444: the root key hash is blank, or not available. -/
def State.rootBlank (s : State) : Bool := !s.pwr.otpOk || s.idn.rootKey.all (· == 0)

/-- R437, R444: `SEC_LOCK` is set, or counts as set. -/
def State.lockSet (s : State) : Bool := s.idn.secLock || !s.pwr.otpOk

/-- Table 20.1, R437, R471: JTAG is disabled. -/
def State.debugSet (s : State) : Bool := s.idn.debugLock || s.lockSet

/-- R4: the emitter variant. -/
def State.variant (s : State) : Byte := if s.pwr.otpOk then s.idn.emitter else 0

/-- Table 18.6: the device serial number. -/
def State.serialNo (s : State) : Dword := if s.pwr.otpOk then s.idn.serial else 0

/-- Table 09.7: the subsystem vendor ID and subsystem ID. -/
def State.subsystem (s : State) : Half × Half :=
  if s.pwr.otpOk then (s.idn.subVendor.getD 0x1F3D, s.idn.subId.getD 0x1048) else (0x1F3D, 0x1048)

/-- The engine ID that entries carry, 0x3FF when none is assigned (R276). -/
def State.engineId (s : State) : BitVec 10 := s.tm.id.getD 0x3FF

/-- Little-endian bytes of a 64-bit value. -/
def b8 (d : Dword) : List Byte := leBytes d.toNat 8
/-- Little-endian bytes of a number, 4, 2 and 1 bytes. -/
def b4 (n : Nat) : List Byte := leBytes n 4
def b2 (n : Nat) : List Byte := leBytes n 2
def b1 (n : Nat) : List Byte := leBytes n 1
/-- A flag as a number. -/
def flag (b : Bool) : Nat := if b then 1 else 0

/-- A time of `n` ns in ms; which whole number a part of a ms reads as is a free value (assumption 10). -/
def msOf (n : Nat) : Nat := n / 1000000 + flag (n % 1000000 != 0 && Config.msUp n)

/-- Data bytes padded with zeros to 16 (R47, R491). -/
def pad16 (l : List Byte) : List Byte := (l ++ List.replicate 16 0).take 16

/-- `n` bytes of a list, padded with zeros. -/
def padTo (n : Nat) (l : List Byte) : List Byte := (l ++ List.replicate n 0).take n

/-! ### The flight log (R179) -/

/-- Number of entries that the log region holds (`08_buffer_pool.md`, Flight log). -/
def logSize : Nat := 131070

/-- Collect one flight-log entry on-die (R179, R180). -/
def logAdd (kind code : Nat) (time : Dword) (data : List Byte) (s : State) : State :=
  s.mapLg fun l =>
    { l with
      onDie := l.onDie ++ [⟨time, l.seq, BitVec.ofNat 16 code, kind, false, s.engineId, pad16 data⟩]
      seq := l.seq + 1 }

/-- R180: the CRC-32 over the three values of the log header. -/
def Log.crc (l : Log) : Word := crc32 (b4 l.next ++ b4 l.wraps ++ b4 l.starts)

/-- R181: the header CRC is valid. -/
def Log.hdrOk (l : Log) : Bool := l.hdrCrc == l.crc

/-- R180: the header is written with its CRC. -/
def Log.sealed (l : Log) : Log := { l with hdrCrc := l.crc }

/-- The unit of the log header (Table 08.2). -/
def logHeader : Nat := 0x06200000

/-- The 64-byte unit of flight-log entry `k` (Table 08.2): the header takes the space of two entries. -/
def logUnit (k : Nat) : Nat := logHeader + 64 + 64 * (k / 2)

/-- R177: whole units that are written hold no error any more. -/
def unitsFresh (fresh : Nat → Bool) (s : State) : State :=
  s.mapPool fun p => { p with ue := p.ue.filter fun u => !fresh u, ce := p.ce.filter fun u => !fresh u }

/-- R177, R180: the units that a flush of the entries on-die writes whole: the header, and each pair of entries. -/
def Log.flushes (l : Log) (u : Nat) : Bool :=
  u == logHeader || (List.range (l.onDie.length - 1)).any fun k =>
    let i := (l.next + k) % logSize
    i % 2 == 0 && u == logUnit i

/-- R180: one entry is written at the next index. -/
def Log.put (l : Log) (e : LogEntry) : Log :=
  { l with
    dram := alPut l.dram l.next e
    next := (l.next + 1) % logSize
    wraps := if l.next + 1 = logSize then (l.wraps + 1) % 2 ^ 32 else l.wraps }

/-- R180: the flush writes the collected entries to DRAM, over the oldest when the log is full. -/
def logFlushOp (s : State) : State :=
  (unitsFresh s.lg.flushes s).mapLg fun l => Log.sealed { l.onDie.foldl Log.put l with onDie := [] }

/-! ### The host side (R195, R197, R218, R230) -/

/-- Issue memory requests or messages. While Bus Master Enable is 0 or the function is in D3hot it is held back
(R197; DESIGN CHOICE, assumption 16). It takes the link out of L1 (R198). -/
def Bus.send (l : List BusOut) (b : Bus) : Bus :=
  if b.master && !b.d3 then { b with out := b.out ++ l, l1 := l.isEmpty && b.l1 } else { b with held := b.held ++ l }

/-- One memory request or message. -/
def busSend (o : BusOut) (s : State) : State := s.mapBus (Bus.send [o])

/-- Answer a request of the host. -/
def busReply (o : BusOut) (s : State) : State := s.mapBus fun b => { b with out := b.out ++ [o], l1 := false }

/-- A word of the configuration space that software has written, or what the standard prescribes. -/
def State.cfgPlain (s : State) (o : Nat) : Word := (alGet s.bus.cfg o).getD (cfgRow o).reset

/-- R197: the largest memory read request: the smaller of Max_Read_Request_Size and 512 B. -/
def State.readSize (s : State) : Nat := min 512 (128 * 2 ^ bits (s.cfgPlain (Config.pcieCap + 8)) 12 3)

/-- R192: the largest memory write request: Max_Payload_Size, at most 512 B. -/
def State.payloadSize (s : State) : Nat := min 512 (128 * 2 ^ bits (s.cfgPlain (Config.pcieCap + 8)) 5 3)

/-- R192, R197: the requests for `n` bytes from address `a`: in ascending order, each of at most `size` bytes and within one
4 KiB page (PRESUMED, assumption 16). `fuel` bounds their number. -/
def requestCuts (size : Nat) : Nat → Nat → Nat → List (Nat × Nat)
  | 0, _, _ => []
  | fuel + 1, a, n =>
    if n = 0 then []
    else
      let k := min n (min size (4096 - a % 4096))
      (a, k) :: requestCuts size fuel (a + k) (n - k)

/-- R235: write bytes to host memory. -/
def hostWrite (addr : Dword) (bytes : List Byte) (s : State) : State :=
  s.mapBus <| Bus.send <| (requestCuts s.payloadSize bytes.length addr.toNat bytes.length).map fun c =>
    .memWrite (BitVec.ofNat 64 c.1) ((bytes.drop (c.1 - addr.toNat)).take c.2)

/-- R192: memory read requests, each with a tag of its own. -/
def Bus.readSend (l : List (Nat × Nat)) (b : Bus) : Bus :=
  let b := b.send (l.zipIdx.map fun e => .memRead (BitVec.ofNat 64 e.1.1) e.1.2 (Config.readTag (b.reads + e.2)))
  { b with reads := b.reads + l.length }

/-- One memory read request. -/
def readSend (addr : Dword) (n : Nat) (s : State) : State := s.mapBus (Bus.readSend [(addr.toNat, n)])

/-- R197, R235: a command of this engine's own host reads `n` bytes of its memory, in ascending address order. -/
def hostRead (b : Sub) (addr : Dword) (n : Nat) (s : State) : State :=
  if b.origin.isSome then s
  else s.mapBus (Bus.readSend (requestCuts s.readSize n addr.toNat n))

/-- R198: a request of the host brings the link out of L1. -/
def busAwake (s : State) : State := if s.bus.l1 then s.mapBus fun b => { b with l1 := false } else s

/-- R195: a message of vector `v`; kept pending while the vector or the function is masked. -/
def msixSend (v : Nat) (s : State) : State :=
  let e := s.bus.msix.getD v ⟨0, 0, true⟩
  if s.bus.funcMask || e.masked || !s.bus.msixEn then
    s.mapBus fun b => { b with pba := b.pba ||| (1#32 <<< v) }
  else busSend (.msix v e.addr e.data) s

/-- R418: causes added to `INT_STAT`; the engine interrupt is sent when `INT_STAT` AND `INT_EN` turns non-zero. -/
def intCause (c : Nat) (s : State) : State :=
  let en := (s.cfg 0x204).truncate 6
  let old := s.reg.intStat
  let new := old ||| (1#6 <<< c)
  let s := s.mapReg fun r => { r with intStat := new }
  if old &&& en = 0 ∧ new &&& en ≠ 0 then msixSend (bits (s.cfg 0x200) 0 5) s else s

/-- Change ring `n`. -/
def mapRing (n : Nat) (f : Ring → Ring) (s : State) : State :=
  s.mapRng fun r => { r with q := r.q.modify n f }

/-- Ring `n`. -/
def State.ring (s : State) (n : Nat) : Ring := s.rng.q.getD n Ring.reset

/-- R230: whether moderation lets the message go: `p` counted entries, the first at `t0`. -/
def modDue (p t0 now count time : Nat) : Bool :=
  decide (max 1 count ≤ p) || (decide (time ≠ 0) && decide (1 ≤ p) && decide (t0 + 1000 * time ≤ now))

/-- R230: evaluate the moderation of CQ `n`. -/
def cqModCheck (n : Nat) (s : State) : State :=
  let r := s.ring n
  let m := s.cfg (ringReg n 0x18)
  if modDue r.modCount r.modStart s.clk.loc (bits m 0 8) (bits m 8 16) then
    mapRing n (fun r => { r with modCount := 0 }) (msixSend (bits (s.cfg (ringReg n 0x14)) 8 5) s)
  else s

/-- R230: evaluate the moderation of the EQ. -/
def eqModCheck (s : State) : State :=
  let m := s.cfg 0x810
  if modDue s.rng.eq.modCount s.rng.eq.modStart s.clk.loc (bits m 0 8) (bits m 8 16) then
    (msixSend (bits (s.cfg 0x80C) 8 5) s).mapRng fun r => { r with eq := { r.eq with modCount := 0 } }
  else s

/-- The 32 bytes of an event entry (Table 10.8). -/
def eventBytes (e : Event) (phase lost : Bool) : List Byte :=
  b8 e.time ++ leBytes e.seq.toNat 4 ++ leBytes e.code.toNat 2
  ++ b2 (e.engine.toNat + 1024 * flag phase + 2048 * flag lost + 4096 * flag e.fwd) ++ pad16 e.data

/-- R220: write an event to the EQ, or drop it when the EQ is full. A disabled EQ takes nothing. -/
def eqWrite (e : Event) (s : State) : State :=
  let q := s.rng.eq
  let size := bits (s.cfg 0x808) 0 13
  if !q.enabled || !s.bus.linkUp then s
  else if (q.tail + 1) % size = q.head then
    intCause 3 <| s.mapRng fun r =>
      { r with eq := { r.eq with lost := if r.eq.lost = 0xFFFFFFFF then r.eq.lost else r.eq.lost + 1
                                 lostFlag := true } }
  else
    let addr := BitVec.ofNat 64 (s.cfg64 0x800 + 32 * q.tail)
    let s := busSend (.memWrite addr (eventBytes e q.phase (q.lostFlag || e.lost))) s
    eqModCheck <| s.mapRng fun r =>
      { r with eq := { r.eq with
          tail := (q.tail + 1) % size
          phase := if q.tail + 1 = size then !q.phase else q.phase
          lostFlag := false
          modCount := q.modCount + 1
          modStart := if q.modCount = 0 then s.clk.loc else q.modStart } }

/-! ### The trace side (R299 to R302) -/

/-- Table 13.4: the reliable types. -/
def TFrame.reliable : TFrame → Bool
  | .state _ => true
  | .enum _ => true
  | .cmd _ _ => true
  | .e2eAck _ _ => true
  | .cpl _ _ => true
  | .event _ => true
  | .bulk _ _ => true
  | _ => false

/-- The 32 bytes of a completion entry (Table 10.7). -/
def cplBytes (c : Completion) (phase : Bool) : List Byte :=
  b4 c.seq.toNat ++ b2 c.status.toNat ++ b1 c.ring.toNat
  ++ b1 (flag phase + 2 * flag c.dup + 4 * flag c.gap) ++ b8 c.tag ++ b8 c.tDone ++ b8 c.result

/-- Table 13.4: `TYPE`. -/
def TFrame.code : TFrame → Nat
  | .hello _ => 0x01
  | .acknak _ => 0x02
  | .timeSync _ => 0x03
  | .pdelayReq _ => 0x04
  | .pdelayResp _ _ _ => 0x05
  | .schedule _ => 0x06
  | .digest _ => 0x07
  | .state _ => 0x08
  | .enum _ => 0x09
  | .cmd _ _ => 0x0A
  | .e2eAck _ _ => 0x0B
  | .cpl _ _ => 0x0C
  | .event _ => 0x0D
  | .bulk _ _ => 0x0E

/-- Table 13.3: `DST` of a ROUTED frame; a digest and an event are for the lead (assumption 82). -/
def TFrame.dst : TFrame → Option (BitVec 11)
  | .cmd d _ => some d
  | .e2eAck d _ => some d
  | .cpl d _ => some d
  | .bulk d _ => some d
  | .digest _ => some 0x400
  | .event _ => some 0x400
  | _ => none

/-- R306: the 32 bytes of an ENUM frame: of a record, and of a request and a reply as assumption 82 lays them out. -/
def EnumPl.bytes : EnumPl → List Byte
  | .record r =>
    b2 (r.engine.toNat + 2 ^ 15 * flag r.configured) ++ b8 r.path ++ b1 r.dist.toNat ++ b2 r.csRev.toNat ++ b1 0
  | .request p => b2 0 ++ b8 p ++ List.replicate 3 0 ++ b1 1
  | .reply p d i => b2 i.toNat ++ b8 p ++ b1 d.toNat ++ b2 0 ++ b1 2

/-- Table 13.4: the payload. -/
def TFrame.payload : TFrame → List Byte
  | .hello p =>
    padTo 48 (b2 (p.engine.toNat + 2 ^ 15 * flag p.assigned) ++ b1 p.csMajor.toNat ++ b1 p.csMinor.toNat ++ b2 p.image.toNat
      ++ b1 (p.role.toNat + 4 * flag p.backup) ++ b1 p.port.toNat ++ b2 p.version.toNat ++ b2 p.dist.toNat
      ++ b4 p.term.toNat ++ leBytes p.nonce.toNat 16)
  | .acknak _ => []
  | .timeSync p =>
    padTo 32 (b8 p.origin ++ b8 p.correction ++ b2 p.hops.toNat ++ b2 p.lead.toNat ++ b4 p.term.toNat ++ b1 p.quality.toNat)
  | .pdelayReq n => b4 n.toNat
  | .pdelayResp n t2 t3 => b4 n.toNat ++ b8 t2 ++ b8 t3
  | .schedule p =>
    padTo 64 (b8 p.tick ++ b8 p.time ++ b4 p.len0.toNat ++ b4 p.len1.toNat ++ b4 p.len2.toNat ++ b2 p.lead.toNat
      ++ b1 p.mMin.toNat ++ b1 p.policy.toNat ++ b4 p.term.toNat ++ b4 p.sharedCrc.toNat ++ b1 p.quality.toNat
      ++ (match p.handback with
        | some (l, t) => b1 1 ++ b2 l.toNat ++ b8 t
        | none => []))
  | .digest p =>
    padTo 32 (b2 p.engine.toNat ++ b1 p.csMajor.toNat ++ b1 p.csMinor.toNat ++ b2 p.image.toNat ++ b1 p.state.toNat
      ++ b1 p.quality.toNat ++ b4 p.sharedCrc.toNat ++ b4 p.frame.toNat ++ b2 p.leadUs.toNat ++ b1 (flag p.stale))
  | .state p =>
    padTo 32 (b1 p.kind.toNat ++ b1 0 ++ b2 p.engine.toNat ++ b4 p.term.toNat ++ b8 p.time ++ p.data)
  | .enum p => padTo 32 (EnumPl.bytes p)
  | .cmd _ p => b2 p.origin.toNat ++ b1 p.ring.toNat ++ b1 (flag p.retry) ++ leBytes p.entry.toNat 64
  | .e2eAck _ p =>
    padTo 12 (b2 p.origin.toNat ++ b1 p.ring.toNat ++ b1 p.kind.toNat ++ b4 p.seq.toNat ++ b2 p.engine.toNat)
  | .cpl _ p =>
    b2 p.origin.toNat ++ b1 p.ring.toNat ++ b1 (flag p.duplicate + 2 * flag p.retry) ++ b2 p.engine.toNat ++ b2 0
      ++ cplBytes p.cpl false
  | .event e => eventBytes e false e.lost
  | .bulk _ p => b4 p.stream.toNat ++ b4 p.offset.toNat ++ padTo ((p.data.length + 3) / 4 * 4) p.data

/-- R297: the hello key. -/
def State.helloKey (s : State) : List Byte :=
  (Config.hmac (leBytes s.sec.teamKey.toNat 16) [0x46, 0x4C, 0x56, 0x2D, 0x48, 0x45, 0x4C, 0x4C, 0x4F]).take 16

/-- R297, R299, Table 13.3: a frame on the lane: its header and payload, their tag, and the CRC. -/
def State.wire (s : State) (p : Nat) (q : Port) (rseq : Word) (retx : Bool) (f : TFrame) : List Byte :=
  let nak := match f with
    | .acknak n => n
    | _ => false
  let body := b1 f.code ++ b1 (flag f.reliable + 2 * flag nak + 4 * flag retx + 8 * flag f.dst.isSome)
    ++ b2 f.payload.length ++ b8 q.txFcnt ++ b4 rseq.toNat ++ b4 q.rxNext.toNat
    ++ b2 (s.engineId.toNat + 1024 * p) ++ b2 (f.dst.getD 0).toNat ++ f.payload
  let tag := match f with
    | .hello h => Config.gmac s.helloKey ((leBytes h.nonce.toNat 16).take 12) body
    | _ => Config.gmac (leBytes q.txKey.toNat 16) (b4 0 ++ b8 q.txFcnt) body
  let all := body ++ padTo 8 tag
  all ++ b4 (crc32 all).toNat

/-- Bytes of a frame on the lane (Table 13.3): header 24, tag 8, CRC 4 and the payload. -/
def TFrame.size : TFrame → Nat
  | .hello _ => 36 + 48
  | .acknak _ => 36
  | .timeSync _ => 36 + 32
  | .pdelayReq _ => 36 + 4
  | .pdelayResp _ _ _ => 36 + 20
  | .schedule _ => 36 + 64
  | .digest _ => 36 + 32
  | .state _ => 36 + 32
  | .enum _ => 36 + 32
  | .cmd _ _ => 36 + 68
  | .e2eAck _ _ => 36 + 12
  | .cpl _ _ => 36 + 40
  | .event _ => 36 + 32
  | .bulk _ p => 36 + 8 + (p.data.length + 3) / 4 * 4

/-- Port `p`. -/
def State.port (s : State) (p : Fin 4) : Port := s.trc.ports.getD p.val Port.reset

/-- Change port `p`. -/
def mapPort (p : Fin 4) (f : Port → Port) (s : State) : State :=
  s.mapTrc fun t => { t with ports := t.ports.modify p.val f }

/-- R299, R301: put a frame on the lane of port `p`, with the next frame counter and the present `RACK`. -/
def portEmit (p : Fin 4) (rseq : Word) (retx : Bool) (f : TFrame) (s : State) : State :=
  let q := s.port p
  let s := s.mapTrc fun t =>
    { t with out := t.out ++ [⟨p.val, q.txFcnt, rseq, q.rxNext, retx, f, s.wire p.val q rseq retx f⟩] }
  mapPort p (fun q => { q with txFcnt := q.txFcnt + 1, ackDue := false }) s

/-- R301: the replay buffer has room: 64 frames or 16 KiB. -/
def Port.room (q : Port) (f : TFrame) : Bool :=
  decide (q.replay.length < 64) && decide ((q.replay.map fun e => e.2.size).sum + f.size ≤ 16384)

/-- R301: send a frame on port `p`; a reliable frame is numbered and kept, and waits when the replay buffer is
full. Nothing is sent on a port that is not UP. -/
def portSend (p : Fin 4) (f : TFrame) (s : State) : State :=
  let q := s.port p
  if q.state ≠ .up then s
  else if !f.reliable then portEmit p 0 false f s
  else if q.queue.isEmpty && q.room f then
    mapPort p (fun q => { q with replay := q.replay ++ [(q.txRseq, f)], txRseq := q.txRseq + 1 })
      (portEmit p q.txRseq false f s)
  else mapPort p (fun q => { q with queue := q.queue ++ [f] }) s

/-- The ports. -/
def allPorts : List (Fin 4) := [0, 1, 2, 3]

/-- Flood a frame over every UP port but one (R308: standby ports included where `std`). -/
def flood (std : Bool) (except : Option (Fin 4)) (f : TFrame) (s : State) : State :=
  allPorts.foldl (fun s p => if some p = except || (!std && (s.port p).standby) then s else portSend p f s) s

/-- Send towards the lead: over the parent port (R305). -/
def sendUp (f : TFrame) (s : State) : State :=
  match s.tm.parent with
  | some p => portSend p f s
  | none => s

/-- Send down the tree: over every port that is neither the parent nor a standby port (R305). -/
def sendDown (f : TFrame) (s : State) : State := flood false s.tm.parent f s

/-- R325: the events that a follower sends to the lead. -/
def forwardedEvents : List Nat :=
  [evFault, evSafetyState, evMarks, evTeamMember, evPowerState, evUpdateState, evSettingsDefaulted, evDerate,
    evLayerLate]

/-- R325: forward an event to the lead, at most 64 per tick. -/
def forwardEvent (e : Event) (s : State) : State :=
  if !(s.tm.isMember && !s.tm.leading && forwardedEvents.contains e.code.toNat) then s
  else if 64 ≤ s.tm.evSent then s.mapTm fun t => { t with evLost := true }
  else
    (sendUp (.event { e with fwd := true, lost := s.tm.evLost }) s).mapTm fun t =>
      { t with evSent := t.evSent + 1, evLost := false }

/-- Emit an event (R220, R231): it takes the next event sequence, enters the flight log and the EQ, and is
forwarded to the lead where R325 says so. -/
def emitAt (time : Dword) (code : Nat) (data : List Byte) (s : State) : State :=
  let e : Event := ⟨time, s.rng.eq.seq, BitVec.ofNat 16 code, s.engineId, false, false, pad16 data⟩
  let s := s.mapRng fun r => { r with eq := { r.eq with seq := r.eq.seq + 1 } }
  forwardEvent e (eqWrite e (logAdd 2 code time data s))

/-- Emit an event with the team time of now. -/
def emit (code : Nat) (data : List Byte) (s : State) : State := emitAt s.now code data s

/-! ### The pool -/

/-- The data address of byte `off` of a handle's byte space (R101, R164). -/
def Handle.addr (h : Handle) (off : Nat) : Nat := h.blocks.getD (off / 65536) 0 * 65536 + off % 65536

/-- Length of a handle's byte space. -/
def Handle.size (h : Handle) : Nat := h.blocks.length * 65536

/-- The 16-bit value of a handle (R166). -/
def Handle.value (h : Handle) : Half := BitVec.ofNat 16 (h.slot + 2048 * h.gen)

/-- The handle that a value names, a freeing one included (R166, R242). -/
def State.handleAny (s : State) (v : Half) : Option Handle := s.pool.handles.find? fun h => h.value == v

/-- The handle that a value names for a new command; a freeing handle, or one still being zeroed, is not valid
(R166, R172). -/
def State.handle (s : State) (v : Half) : Option Handle :=
  match s.handleAny v with
  | some h => if h.freeing || h.waiting.isSome then none else some h
  | none => none

/-- Byte `off` of a handle's byte space. -/
def State.poolByte (s : State) (h : Handle) (off : Nat) : Byte := cellGet 0 s.pool.mem (h.addr off)

/-- `n` bytes of a handle's byte space. -/
def State.poolBytes (s : State) (h : Handle) (off n : Nat) : List Byte :=
  (List.range n).map fun k => s.poolByte h (off + k)

/-- Write bytes at a data address. A whole aligned unit that is written holds no error any more (R177). -/
def memWrite (a : Nat) (bs : List Byte) (s : State) : State :=
  s.mapPool fun p =>
    { p with
      mem := cellsPut 0 p.mem a bs
      ue := p.ue.filter fun u => !(decide (a ≤ u) && decide (u + 64 ≤ a + bs.length))
      ce := p.ce.filter fun u => !(decide (a ≤ u) && decide (u + 64 ≤ a + bs.length)) }

/-- Write bytes into a handle's byte space, block by block. -/
def poolWrite (h : Handle) : Nat → Nat → List Byte → State → State
  | 0, _, _, s => s
  | fuel + 1, off, bs, s =>
    if bs.isEmpty then s else
    let n := 65536 - off % 65536
    poolWrite h fuel (off + n) (bs.drop n) (memWrite (h.addr off) (bs.take n) s)

/-- The units of a handle's byte range, by data address. -/
def Handle.units (h : Handle) (off n : Nat) : List Nat :=
  if n = 0 then [] else
  (List.range ((off + n - 1) / 64 - off / 64 + 1)).map fun k => unitOf (h.addr ((off / 64 + k) * 64))

/-- The units that a range of data addresses touches. -/
def unitsOf (a n : Nat) : List Nat :=
  if n = 0 then [] else (List.range ((a + n - 1) / 64 - a / 64 + 1)).map fun k => (a / 64 + k) * 64

/-- The uncorrectable units of a byte range of a handle. -/
def State.ueOf (s : State) (h : Handle) (off n : Nat) : List Nat :=
  (h.units off n).filter fun u => s.pool.ue.contains u

/-! ### Errors of configuration and bus -/

/-- R199: an uncorrectable error is logged in AER, by its status bit. -/
def aerLog (bit : Nat) (s : State) : State := s.mapBus fun b => { b with aerUnc := b.aerUnc ||| (1#32 <<< bit) }

/-- The status bit of Completer Abort that the standard gives (PRESUMED, assumption 16). -/
def completerAbort : Nat := 15

/-- The status bit of Unsupported Request that the standard gives (PRESUMED, assumption 16). -/
def unsupportedRequest : Nat := 20

/-- The link-level message of a discarded posted write (R199), logged as Completer Abort. -/
def errNonfatal (s : State) : State := busReply .errNonfatal (aerLog completerAbort s)

end Sys2Proof.Machine
end

