-- ==== Sys2Proof/Machine/Entry.lean ====
section
/-!
DEFINITION. Submission entries (`10_rings_and_doorbells.md`, Table 10.4): the row of Tables 11.1 and 12.1 of each
ring command, and the 64 bytes that spell it. The bytes serve the duplicate digest (R225) and the CMD frame of a
forwarded command (Table 13.4).
-/
namespace Sys2Proof.Machine

/-- The Targets column of R233 and R261. -/
inductive TargetKind where
  | any
  | single
  | localOnly
  deriving DecidableEq, Repr

/-- A row of Table 11.1 or 12.1. -/
structure CmdRow where
  op      : Nat
  target  : TargetKind
  admin   : Bool
  atTick  : Bool
  session : Bool
  halter  : Bool
  deriving DecidableEq, Repr

/-- A ring command as its entry spells it: its flags, its row, its operands as (byte offset, value). -/
structure Spelled where
  sub : Sub
  row : CmdRow
  ops : List (Nat × Nat)
  deriving DecidableEq, Repr

/-- Row of a command that any ring accepts, without a session. -/
def rowAny (op : Nat) (t : TargetKind) (atTick : Bool) : CmdRow := ⟨op, t, false, atTick, false, false⟩
/-- Row of an admin-ring command. -/
def rowAdm (op : Nat) (t : TargetKind) (session halter : Bool) : CmdRow := ⟨op, t, true, false, session, halter⟩

/-- The operands of a copy fence, Table 11.6. -/
def fenceOpsAt (f : FenceOps) : List (Nat × Nat) := [(28, f.valid.toNat), (29, f.ring.toNat), (32, f.seq.toNat)]

/-- The descriptor of Table 05.1 at byte 32. -/
def descOpsAt (d : SurfDesc) : List (Nat × Nat) :=
  [ (32, d.handle.toNat), (36, d.offset.toNat), (40, d.width.toNat), (42, d.height.toNat), (44, d.format.toNat),
    (45, d.layout.toNat), (48, d.pitch.toNat), (52, d.size.toNat), (56, d.wR.toNat), (58, d.wG.toNat),
    (60, d.wB.toNat), (62, d.yConst.toNat) ]

/-- Form 0 of `LAYER_SET`, Table 11.7: bytes 16 to 63. -/
def layerOpsAt (layer : Nat) (o : LayerOps) : List (Nat × Nat) :=
  [ (16, layer), (17, 0), (20, o.surface.toNat), (22, o.srcX.toNat), (24, o.srcY.toNat), (26, o.srcW.toNat),
    (28, o.srcH.toNat), (30, o.dstX.toNat), (32, o.dstY.toNat), (34, o.dstW.toNat), (36, o.dstH.toNat),
    (38, o.predec.toNat), (39, o.coef.toNat), (40, o.blend.toNat), (41, o.notReady.toNat),
    (42, o.streaming.toNat), (44, o.alpha.toNat), (46, o.s0Y.toNat), (48, o.glareSafe.toNat) ]

/-- Bytes of a list, from a byte offset. -/
def listAt (o : Nat) (l : List Byte) : List (Nat × Nat) := l.zipIdx.map fun e => (o + e.2, e.1.toNat)

/-- The entry of a ring command; `none` for every other command. -/
def spelled : Instr → Option Spelled
  | .nop b => some ⟨b, ⟨0x00, .any, false, false, false, true⟩, []⟩
  | .echo b v => some ⟨b, ⟨0x01, .any, false, false, false, true⟩, [(16, v.toNat)]⟩
  | .ident b d => some ⟨b, ⟨0x02, .single, false, false, false, true⟩, [(24, d.toNat)]⟩
  | .heartbeat b => some ⟨b, rowAny 0x03 .any false, []⟩
  | .poolAlloc b n c f => some ⟨b, rowAny 0x10 .single false, [(16, n.toNat), (18, c.toNat), (19, f.toNat)]⟩
  | .poolFree b h => some ⟨b, rowAny 0x11 .single false, [(16, h.toNat)]⟩
  | .poolQuery b h d => some ⟨b, rowAny 0x12 .single false, [(16, h.toNat), (24, d.toNat)]⟩
  | .copyIn b h o a n =>
    some ⟨b, rowAny 0x13 .single false, [(16, h.toNat), (20, o.toNat), (24, a.toNat), (32, n.toNat)]⟩
  | .copyOut b h o a n =>
    some ⟨b, rowAny 0x14 .single false, [(16, h.toNat), (20, o.toNat), (24, a.toNat), (32, n.toNat)]⟩
  | .fill b h o n w p =>
    some ⟨b, rowAny 0x15 .single false,
      [(16, h.toNat), (20, o.toNat), (32, n.toNat), (36, w.toNat), (40, p.toNat)]⟩
  | .surfaceDefine b i d => some ⟨b, rowAny 0x20 .single false, (16, i.toNat) :: descOpsAt d⟩
  | .surfaceRetire b i => some ⟨b, rowAny 0x21 .any false, [(16, i.toNat)]⟩
  | .layerSet b (.params l o) => some ⟨b, rowAny 0x22 .any false, layerOpsAt l.toNat o⟩
  | .layerSet b (.coefs n h o) =>
    some ⟨b, rowAny 0x22 .any false, [(17, 1), (18, n.toNat), (20, h.toNat), (24, o.toNat)]⟩
  | .layerSet b (.order m l) => some ⟨b, rowAny 0x22 .any false, (17, 2) :: (20, m.toNat) :: listAt 21 (l.take 7)⟩
  | .layerSet b (.bad f) => some ⟨b, rowAny 0x22 .any false, [(17, f.toNat)]⟩
  | .layerPost b o =>
    some ⟨b, rowAny 0x23 .any false,
      [(16, o.layer.toNat), (18, o.surface.toNat), (20, o.srcX.toNat), (22, o.srcY.toNat), (24, o.srcW.toNat),
        (26, o.srcH.toNat)] ++ fenceOpsAt o.fence⟩
  | .shapesPost b h o n f =>
    some ⟨b, rowAny 0x24 .single false, [(16, h.toNat), (20, o.toNat), (24, n.toNat)] ++ fenceOpsAt f⟩
  | .captureSet b i t m => some ⟨b, rowAny 0x25 .single false, [(16, i.toNat), (18, t.toNat), (19, m.toNat)]⟩
  | .sceneCommit b f => some ⟨b, rowAny 0x30 .any true, [(60, f.toNat)]⟩
  | .sceneQuery b w d => some ⟨b, rowAny 0x31 .single false, [(16, w.toNat), (24, d.toNat)]⟩
  | .timingSet b o =>
    some ⟨b, rowAny 0x38 .any true,
      [(16, o.mask.toNat), (20, o.pNom.toNat), (24, o.tGuard.toNat), (28, o.leadFix.toNat), (32, o.scan.toNat),
        (33, o.events.toNat), (34, o.rowMatch.toNat), (60, o.frame.toNat)]⟩
  | .syncSet b o =>
    some ⟨b, rowAny 0x39 .any true,
      [(16, o.mask.toNat), (18, o.source.toNat), (19, o.edge.toNat), (20, o.ms.toNat), (21, o.ns.toNat),
        (24, o.phase.toNat), (28, o.foEnable.toNat), (29, o.foDiv.toNat), (30, o.foCam.toNat),
        (32, o.foWidth.toNat), (36, o.foOffset.toNat), (60, o.frame.toNat)]⟩
  | .pwmSet b o =>
    some ⟨b, rowAny 0x3A .any true,
      [(16, o.mask.toNat), (18, o.n.toNat), (19, o.dither.toNat), (20, o.k.toNat), (22, o.oCam.toNat),
        (60, o.frame.toNat)]⟩
  | .curbSet b o =>
    some ⟨b, rowAny 0x40 .any true, [(16, o.mask.toNat), (20, o.iLimit.toNat), (22, o.hT.toNat), (60, o.frame.toNat)]⟩
  | .derateSet b o =>
    some ⟨b, rowAny 0x41 .any true,
      [(16, o.mask.toNat), (18, o.mode.toNat), (20, o.knee.toNat), (22, o.tZero.toNat), (60, o.frame.toNat)]⟩
  | .cutoffSet b o =>
    some ⟨b, ⟨0x42, .single, false, true, true, false⟩,
      [(16, o.mask.toNat), (18, o.side.toNat), (19, o.count.toNat), (20, o.limit.toNat), (24, o.handle.toNat),
        (28, o.offset.toNat), (60, o.frame.toNat)]⟩
  | .probeSet b e f => some ⟨b, rowAny 0x43 .any true, [(16, e.toNat), (60, f.toNat)]⟩
  | .pixmapRead b o =>
    some ⟨b, rowAny 0x44 .single false,
      [(16, o.firstRow.toNat), (18, o.rows.toNat), (24, o.dest.toNat), (32, o.summary.toNat)]⟩
  | .neighbourFillSet b f t => some ⟨b, rowAny 0x45 .any true, [(16, f.toNat), (60, t.toNat)]⟩
  | .hallmarkSelect b m a f =>
    some ⟨b, rowAny 0x50 .any true, [(16, m.toNat), (18, a.toNat), (60, f.toNat)]⟩
  | .safetyStatus b => some ⟨b, rowAny 0x51 .single false, []⟩
  | .fallbackSet b o =>
    some ⟨b, rowAny 0x52 .any true,
      [(16, o.mask.toNat), (18, o.dflt.toNat), (19, o.force.toNat), (20, o.hb.toNat), (60, o.frame.toNat)]⟩
  | .canListenSet b o =>
    some ⟨b, rowAny 0x53 .any true,
      [(16, o.mask.toNat), (18, o.mode.toNat), (19, o.sa.toNat), (20, o.pgn.toNat), (24, o.timeout.toNat),
        (60, o.frame.toNat)] ++ ((o.rules.take 8).zipIdx.map fun e => (28 + 4 * e.2, e.1.toNat))⟩
  | .roadMode b m v f => some ⟨b, rowAny 0x54 .any true, [(16, m.toNat), (18, v.toNat), (60, f.toNat)]⟩
  | .teamConfig b o =>
    some ⟨b, rowAny 0x60 .single true,
      [(16, o.mask.toNat), (18, o.role.toNat), (19, o.backup.toNat), (28, o.ports.toNat), (29, o.gen.toNat),
        (60, o.frame.toNat)] ++ ((o.groups.take 4).zipIdx.map fun e => (20 + 2 * e.2, e.1.toNat))⟩
  | .teamStatus b d => some ⟨b, rowAny 0x61 .single false, [(24, d.toNat)]⟩
  | .teamPair b k => some ⟨b, rowAdm 0x62 .localOnly true false, [(16, k.toNat)]⟩
  | .timeSet b m v => some ⟨b, rowAdm 0x63 .localOnly false false, [(16, m.toNat), (24, v.toNat)]⟩
  | .timeQuery b d => some ⟨b, rowAny 0x64 .single false, [(24, d.toNat)]⟩
  | .powerState b v => some ⟨b, rowAdm 0x70 .any false false, [(16, v.toNat)]⟩
  | .calRun b p l => some ⟨b, rowAdm 0x78 .localOnly true false, [(16, p.toNat), (20, l.toNat)]⟩
  | .calLoadMap b h o => some ⟨b, rowAdm 0x79 .localOnly true false, [(16, h.toNat), (20, o.toNat)]⟩
  | .calStore b => some ⟨b, rowAdm 0x7A .localOnly true false, []⟩
  | .calRead b w o d n =>
    some ⟨b, rowAdm 0x7B .localOnly false false, [(16, w.toNat), (20, o.toNat), (24, d.toNat), (32, n.toNat)]⟩
  | .updateOpen b n => some ⟨b, rowAdm 0x80 .single false true, [(20, n.toNat)]⟩
  | .updateWrite b o h n _ =>
    some ⟨b, rowAdm 0x81 .single false true, [(20, o.toNat), (24, h.toNat), (32, n.toNat)]⟩
  | .updateClose b => some ⟨b, rowAdm 0x82 .single false true, []⟩
  | .updateConfirm b => some ⟨b, rowAdm 0x83 .single false false, []⟩
  | .updateStatus b => some ⟨b, rowAdm 0x84 .single false true, []⟩
  | .authLogin b o _ =>
    some ⟨b, rowAdm 0x88 .single false false,
      [(16, o.mode.toNat), (18, o.operator.toNat), (20, o.pwLen.toNat)] ++ listAt 24 (o.password.take 32)⟩
  | .authLogout b => some ⟨b, rowAdm 0x89 .single false false, []⟩
  | .protectedWrite b i v => some ⟨b, rowAdm 0x8A .single true false, [(16, i.toNat), (20, v.toNat)]⟩
  | .passwordSet b l n o h _ =>
    some ⟨b, rowAdm 0x8B .localOnly false false,
      [(16, l.toNat), (17, n.toNat), (18, o.toNat), (24, h.toNat)]⟩
  | .logRead b l f d n =>
    some ⟨b, rowAdm 0x8C .single false true, [(16, l.toNat), (20, f.toNat), (24, d.toNat), (32, n.toNat)]⟩
  | .logArchive b u => some ⟨b, rowAdm 0x8D .single true false, [(20, u.toNat)]⟩
  | .settingsRead b w o d n =>
    some ⟨b, rowAdm 0x90 .single false false, [(16, w.toNat), (20, o.toNat), (24, d.toNat), (32, n.toNat)]⟩
  | .settingsWrite b f l v =>
    some ⟨b, rowAdm 0x91 .single true false, [(16, f.toNat), (18, l.toNat)] ++ listAt 20 (v.take 32)⟩
  | .cfgCommit b => some ⟨b, rowAdm 0x92 .single true false, []⟩
  | .linkTest b o =>
    some ⟨b, rowAny 0x98 .single false,
      [(16, o.lanes.toNat), (17, o.action.toNat), (18, o.pattern.toNat), (19, o.flags.toNat),
        (20, o.loopback.toNat), (21, o.rate.toNat), (24, o.duration.toNat)]⟩
  | .eyeScan b l f h o =>
    some ⟨b, rowAny 0x99 .single false, [(16, l.toNat), (17, f.toNat), (18, h.toNat), (20, o.toNat)]⟩
  | .faultRead b d => some ⟨b, rowAny 0xA0 .single false, [(24, d.toNat)]⟩
  | .faultAck b v => some ⟨b, rowAny 0xA1 .single false, [(16, v.toNat)]⟩
  | .thermRearm b => some ⟨b, rowAny 0xA2 .single false, []⟩
  | _ => none

/-- `FLAGS` of Table 10.5. -/
def Sub.flags (b : Sub) : Nat := flag b.ioc + 2 * flag b.fence + 4 * flag b.atTick + 8 * flag b.barrier

/-- The 64 bytes of an entry, byte 0 in bits [7:0] (Table 10.4). -/
def Spelled.entry (p : Spelled) : BitVec 512 :=
  BitVec.ofNat 512 <|
    p.row.op + 2 ^ 8 * Sub.flags p.sub + 2 ^ 16 * p.sub.target.toNat + 2 ^ 32 * p.sub.seq.toNat
      + 2 ^ 64 * p.sub.tag.toNat + (p.ops.map fun e => e.2 * 2 ^ (8 * e.1)).sum

/-- R225: the digest, over bytes 0 to 3 and 8 to 63. -/
def digestOf (e : BitVec 512) : Word :=
  let l := leBytes e.toNat 64
  crc32 (l.take 4 ++ l.drop 8)

end Sys2Proof.Machine
end

