-- ==== Sys2Proof/Machine/Done.lean ====
section
/-!
DEFINITION. Completions: the completion entry and its ring (R218, R219, R230), the duplicate windows (R225, R226,
R227), the flight-log record (R492), and the answers of forwarded commands (R321 to R323).
-/
namespace Sys2Proof.Machine

/-- R492: the flight-log record of a completion; `origin` for a command executed for another engine. -/
def logCompletion (op : Nat) (origin : Option (BitVec 10)) (c : Completion) (s : State) : State :=
  logAdd 1 c.status.toNat c.tDone
    (b4 c.seq.toNat ++ b1 c.ring.toNat ++ b1 op
      ++ b1 (2 * flag c.dup + 4 * flag c.gap + 8 * flag origin.isSome) ++ b1 0
      ++ b2 (origin.getD 0x3FF).toNat ++ leBytes c.result.toNat 6) s

/-- R218: write a completion to the CQ of its ring. A ring that is disabled, or a link that is down, takes none
(R196, R212). -/
def cqWrite (op : Nat) (ioc : Bool) (c : Completion) (s : State) : State :=
  let n := c.ring.toNat
  let r := s.ring n
  let s := logCompletion op none c s
  if !r.enabled || !s.bus.linkUp then s else
  let size := s.cqSize n
  let s := busSend (.memWrite (BitVec.ofNat 64 (s.cfg64 (ringReg n 0x08) + 32 * r.cqTail)) (cplBytes c r.cqPhase)) s
  let loc := s.clk.loc
  let s := mapRing n (fun r =>
    { r with
      cqTail := if r.cqTail + 1 < size then r.cqTail + 1 else 0
      cqPhase := if r.cqTail + 1 < size then r.cqPhase else !r.cqPhase
      modStart := if ioc && r.modCount = 0 then loc else r.modStart
      modCount := if ioc then r.modCount + 1 else r.modCount }) s
  if ioc then cqModCheck n s else s

/-- R225: an entry that starts takes its place in the window. -/
def windowPut (w : List WinEntry) (e : WinEntry) : List WinEntry := w.filter (fun x => x.seq != e.seq) ++ [e]

/-- R225: the window keeps the 64 entries executed last; entries that still run keep their place beside them. -/
def windowTrim (w : List WinEntry) : List WinEntry :=
  let done := w.filter WinEntry.done
  w.filter (fun e => !e.done) ++ done.drop (done.length - 64)

/-- R225: the entry of `seq` is executed: its completion is written. -/
def windowDone (w : List WinEntry) (seq : Word) (st : Half) (res tDone : Dword) : List WinEntry :=
  match w.find? fun e => e.seq == seq with
  | none => w
  | some e =>
    windowTrim (w.filter (fun x => x.seq != seq)
      ++ [{ e with done := true, status := st, result := res, tDone := tDone }])

/-- R226: an entry classified as executed enters the window and advances `LAST_SEQ`. -/
def windowOpen (n : Nat) (seq digest : Word) (s : State) : State :=
  mapRing n (fun r =>
    if r.window.any (fun e => e.seq == seq && !e.done) then r else
    { r with
      seqValid := true
      lastSeq := seq
      window := windowPut r.window ⟨seq, false, 0, 0, 0, digest⟩ }) s

/-- Table 10.9: the status of a repeat. -/
def dupStatus (st : Half) : Half := if isSuccess st then stOkDuplicate else st

/-- R226: the completion of a repeat of a window entry. -/
def dupCompletion (n : Nat) (e : WinEntry) (tag : Dword) : Completion :=
  { seq := e.seq, status := dupStatus e.status, ring := BitVec.ofNat 8 n, dup := true, gap := false, tag := tag
    tDone := e.tDone, result := e.result }

/-- R227: the held repeats of `seq` are completed directly after the original. Their flags are those of the original,
IOC among them, since the digests agree. -/
def heldRelease (op n : Nat) (ioc : Bool) (seq : Word) (s : State) : State :=
  let r := s.ring n
  match r.window.find? (fun e => e.seq == seq) with
  | none => s
  | some e =>
    let s := (r.held.filter fun h => h.1 == seq).foldl
      (fun s h => cqWrite op ioc (dupCompletion n e h.2) s) s
    mapRing n (fun r => { r with held := r.held.filter fun h => h.1 != seq }) s

/-- R212, R227: an entry that had started when its ring was disabled ends with no completion: it takes its place in the
window, and the repeats that the ring has held for it since are completed. Once its window has been cleared, it has no place. -/
def mutedDone (op : Nat) (sub : Sub) (st : Half) (res tDone : Dword) (s : State) : State :=
  let n := sub.ring.val
  let s := mapRing n (fun r => { r with muted := r.muted.erase sub }) s
  if sub.reply = .lost then s
  else
    heldRelease op n sub.ioc sub.seq
      (mapRing n (fun r => { r with window := windowDone r.window sub.seq st res tDone }) s)

/-- R218, R225, R227: the completion of an entry of ring `sub.ring` of this engine. -/
def ownDone (op : Nat) (sub : Sub) (st : Half) (res tDone : Dword) (s : State) : State :=
  let n := sub.ring.val
  if sub.reply ≠ .due then mutedDone op sub st res tDone s else
  let s := mapRing n (fun r =>
    { r with
      window := windowDone r.window sub.seq st res tDone
      running := r.running.filter fun b => b.seq != sub.seq }) s
  let s := cqWrite op sub.ioc
    { seq := sub.seq, status := st, ring := BitVec.ofNat 8 n, dup := false, gap := sub.gap, tag := sub.tag
      tDone := tDone, result := res } s
  heldRelease op n sub.ioc sub.seq s

/-- The window that this engine keeps for an origin engine and ring (R322). -/
def State.originWin (s : State) (o : BitVec 10) (n : Nat) : Option OriginWindow :=
  s.tm.wins.find? fun w => w.origin == o && w.ring == n

/-- R322: change the window of an origin pair; a new pair drops the least recently used of 64. -/
def mapOrigin (o : BitVec 10) (n : Nat) (f : OriginWindow → OriginWindow) (s : State) : State :=
  s.mapTm fun t =>
    let w := (t.wins.find? fun w => w.origin == o && w.ring == n).getD ⟨o, n, false, 0, [], 0⟩
    let rest := t.wins.filter fun w => !(w.origin == o && w.ring == n)
    let oldest := (rest.map OriginWindow.used).foldl min t.use
    let rest := if rest.length < 64 then rest else rest.filter fun w => w.used != oldest
    { t with wins := rest ++ [{ f w with used := t.use }], use := t.use + 1 }

/-- A target that has answered or is counted unreachable. -/
def TargetState.isFinal : TargetState → Bool
  | .answered _ => true
  | .unreachable => true
  | _ => false

/-- The status, result and end of execution of one target (R322, R323). -/
def TargetState.outcome : TargetState → Half × Dword × Dword
  | .answered c => (c.status, c.result, c.tDone)
  | _ => (stUnreachable, 0, 0)

/-- R323: `STATUS`, `RESULT` and `T_DONE` of the one completion. -/
def combine (f : Forward) (now : Dword) : Half × Dword × Dword :=
  let outs := f.targets.map fun t => (t.1, t.2.outcome)
  if !f.group then
    match outs with
    | [(_, st, r, t)] => (st, r, if st = stUnreachable then now else t)
    | _ => (stUnreachable, 0, now)
  else
    let bad := outs.filter fun o => !isSuccess o.2.1
    let low := bad.foldl (fun (m : Option (BitVec 10 × Half)) o =>
      match m with
      | none => some (o.1, o.2.1)
      | some b => if o.1.toNat < b.1.toNat then some (o.1, o.2.1) else m) none
    let t := (outs.map fun o => o.2.2.2.toNat).foldl max 0
    let res := (outs.length - bad.length) + 2 ^ 16 * bad.length
      + (match low with
        | some b => 2 ^ 32 * b.1.toNat + 2 ^ 48 * b.2.toNat
        | none => 0)
    ((low.map Prod.snd).getD stOk, BitVec.ofNat 64 res, if t = 0 then now else BitVec.ofNat 64 t)

/-- R322: send a completion to its origin and keep it until the origin acknowledges it. It goes up to the lead,
which forwards it, or down from the lead; `acks` are the targets to which its acknowledgement is passed on. -/
def cplSend (op : Nat) (o : BitVec 10) (dup retry : Bool) (acks : List (BitVec 10)) (c : Completion) (s : State) : State :=
  let pl : CplPl := ⟨o.zeroExtend 16, c.ring, dup, retry, s.engineId.zeroExtend 16, c⟩
  let s := logCompletion op (some o) c s
  let s := s.mapTm fun t => { t with owed := t.owed.filter (fun w => w.pl != pl) ++ [⟨o, pl, acks⟩] }
  if s.tm.leading then sendDown (.cpl (o.zeroExtend 11) pl) s else sendUp (.cpl 0x400 pl) s

/-- R321, R322: the lead sends the CMD of a forwarded command down the tree. -/
def cmdDown (f : Forward) (retry : Bool) (dst : BitVec 11) (s : State) : State :=
  sendDown (.cmd dst
    ⟨(f.sub.origin.getD s.engineId).zeroExtend 16, BitVec.ofNat 8 f.sub.ring.val, retry, f.entry⟩) s

/-- R323: write the completion of a forwarded command once every target is final. -/
def fwdSettle (f : Forward) (s : State) : State :=
  let s := s.mapTm fun t =>
    { t with fwds := t.fwds.map fun g =>
        if g.sub.ring == f.sub.ring && g.sub.seq == f.sub.seq && g.sub.origin == f.sub.origin
            && g.sub.reply == f.sub.reply then f else g }
  if f.targets.all fun t => t.2.isFinal then
    let s := s.mapTm fun t =>
      { t with
        fwds := t.fwds.filter fun g => g != f
        streams := t.streams.filter fun x => !(x.out && x.fin.isNone && f.sub.origin.isNone && x.number == f.sub.seq) }
    let (st, r, t) := combine f s.now
    let op := f.entry.toNat % 256
    match f.sub.origin with
    | none => ownDone op f.sub st r t s
    | some o =>
      let acks := (f.targets.filter fun x => x.1 != s.engineId && x.2 != .unreachable).map Prod.fst
      cplSend op o false false acks
        { seq := f.sub.seq, status := st, ring := BitVec.ofNat 8 f.sub.ring.val, dup := false, gap := f.sub.gap
          tag := f.sub.tag, tDone := t, result := r } s
  else s

/-- The forwarded command of an origin (none: this engine), ring and sequence whose completion has become `r`. -/
def State.fwdBy (s : State) (o : Option (BitVec 10)) (ring : Nat) (seq : Word) (r : Reply) : Option Forward :=
  s.tm.fwds.find? fun f => f.sub.origin == o && f.sub.ring.val == ring && f.sub.seq == seq && f.sub.reply == r

/-- The forwarded command of an origin (none: this engine), ring and sequence. A frame names no more than these: where a ring
was disabled and its window cleared since (R212), it is the latest command of that number (DEDUCED, assumption 82). -/
def State.fwd (s : State) (o : Option (BitVec 10)) (ring : Nat) (seq : Word) : Option Forward :=
  (s.fwdBy o ring seq .due <|> s.fwdBy o ring seq .muted) <|> s.fwdBy o ring seq .lost

/-- A target's new state in a forwarded command. -/
def fwdMark (f : Option Forward) (eng : BitVec 10) (g : TargetState → TargetState) (s : State) : State :=
  match f with
  | none => s
  | some f =>
    fwdSettle { f with targets := f.targets.map fun t => if t.1 = eng && !t.2.isFinal then (t.1, g t.2) else t } s

/-- A target's new state in the forwarded command of an origin, ring and sequence. -/
def fwdTarget (o : Option (BitVec 10)) (ring : Nat) (seq : Word) (eng : BitVec 10) (g : TargetState → TargetState)
    (s : State) : State :=
  fwdMark (s.fwd o ring seq) eng g s

/-- R322: the completion of a command executed for another origin, or on the lead for itself as one of the
targets of a command it forwards. -/
def otherDone (op : Nat) (sub : Sub) (o : BitVec 10) (st : Half) (res tDone : Dword) (s : State) : State :=
  let c : Completion :=
    { seq := sub.seq, status := st, ring := BitVec.ofNat 8 sub.ring.val, dup := false, gap := sub.gap, tag := sub.tag
      tDone := tDone, result := res }
  let s := mapOrigin o sub.ring.val (fun w => { w with window := windowDone w.window sub.seq st res tDone }) s
  if (s.fwd (some o) sub.ring.val sub.seq).isSome then
    fwdTarget (some o) sub.ring.val sub.seq s.engineId (fun _ => .answered c) (logCompletion op (some o) c s)
  else cplSend op o false false [] c s

/-- Complete a command whose execution ended at `tDone` (R218). `RESULT` is zero on every status outside 0x00xx (Table
10.7). A lead that is itself a target of a group command of its own ring answers into the forwarded command. -/
def finishAt (op : Nat) (sub : Sub) (st : Half) (result tDone : Dword) (s : State) : State :=
  let res := if isSuccess st then result else 0
  match sub.origin with
  | some o => otherDone op sub o st res tDone s
  | none =>
    match s.fwdBy none sub.ring.val sub.seq sub.reply with
    | some f =>
      fwdMark (some f) s.engineId
        (fun _ => .answered
          { seq := sub.seq, status := st, ring := BitVec.ofNat 8 sub.ring.val, dup := false, gap := sub.gap
            tag := sub.tag, tDone := tDone, result := res }) s
    | none => ownDone op sub st res tDone s

/-- Complete a command now. -/
def finish (op : Nat) (sub : Sub) (st : Half) (result : Dword) (s : State) : State := finishAt op sub st result s.now s

/-- A command has started and completes in a later step: it joins the ring's running commands. -/
def keepRunning (sub : Sub) (s : State) : State :=
  match sub.origin with
  | none =>
    mapRing sub.ring.val (fun r =>
      { r with running := if r.running.contains sub then r.running else r.running ++ [sub] }) s
  | some _ => s

/-! ### Started entries of a ring (R212) -/

/-- An operation that waits for random bytes, for the command it belongs to. -/
def TrngWait.mapSub (f : Sub → Sub) : TrngWait → TrngWait
  | .password b o p => .password (f b) o p
  | .challenge b h => .challenge (f b) h
  | .port p => .port p

/-- Every started command of this engine's rings that has not completed. -/
def State.mapSubs (f : Sub → Sub) (s : State) : State :=
  { s with
    pool := { s.pool with
      handles := s.pool.handles.map fun h => { h with waiting := h.waiting.map f }
      moves := s.pool.moves.map fun m => { m with sub := f m.sub } }
    tm := { s.tm with fwds := s.tm.fwds.map fun w => { w with sub := f w.sub } }
    cal := { s.cal with run := s.cal.run.map fun r => { r with sub := f r.sub } }
    fls := { s.fls with
      jobs := s.fls.jobs.map fun j => { j with sub := j.sub.map f }
      blow := s.fls.blow.map f
      upd := { s.fls.upd with waiting := s.fls.upd.waiting.map f } }
    sec := { s.sec with waits := s.sec.waits.map fun w => w.mapSub f }
    lan := { s.lan with l := s.lan.l.map fun l => { l with scan := l.scan.map fun x => { x with sub := f x.sub } } }
    pwr := { s.pwr with
      entry := s.pwr.entry.map fun e => { e with sub := f e.sub }
      pend := s.pwr.pend.map fun e => (e.1, f e.2) } }

/-- R212: an entry of ring `n` of this engine whose completion stood at `a` is now at `b`. -/
def Sub.turn (n : Nat) (a b : Reply) (x : Sub) : Sub :=
  if x.origin = none ∧ x.ring.val = n ∧ x.reply = a then { x with reply := b } else x

end Sys2Proof.Machine
end

