-- ==== Sys2Proof/Machine/Flags.lean ====
section
/-!
DEFINITION. The fault collector (`15_fault_handling.md`), the causes of the safe states (`14_safety_functions.md`,
R339, R343, R345, R346, R349, R350), fast-dark and relighting (R64, R67).
-/
namespace Sys2Proof.Machine

/-- Bit `i` of a set, set or cleared. -/
def bitPut {w : Nat} (m : BitVec w) (i : Nat) (b : Bool) : BitVec w :=
  if b then m ||| (BitVec.ofNat w (2 ^ i)) else m &&& ~~~(BitVec.ofNat w (2 ^ i))

/-- Number of set bits. -/
def popcount {w : Nat} (m : BitVec w) : Nat := ((List.range w).filter fun i => m.getLsbD i).length

/-- R336: the SIN demand pattern, bit x while SINx is in demand. -/
def State.pattern (s : State) : Nat :=
  ((s.saf.sin.zipIdx).map fun e => if e.1.demand then 2 ^ e.2 else 0).sum

/-- The bytes of the hallmark store and of the fallback store. -/
def State.hallByte (s : State) (a : Nat) : Byte := cellGet 0 s.saf.hall a
def State.fallByte (s : State) (a : Nat) : Byte := cellGet 0 s.saf.fall a

/-- R339: the demanded marks. -/
def State.demanded (s : State) : Half := storeMap s.hallByte s.pattern

/-- R343: road mode now. -/
def State.road (s : State) : Bool :=
  if s.frm.params.roadSrc = 0 then s.frm.params.roadCmd
  else (s.saf.sin.getD (s.frm.params.roadSrc - 1) SinState.reset).demand

/-- R360: some DEGRADE, SAFE or DARK latch holds. -/
def State.latched (s : State) : Bool := s.flt.degrade != 0 || s.flt.safe != 0 || s.flt.dark != 0

/-- Table 14.5: the causes that hold. Cause 0 begins at first light. -/
def State.causes (s : State) : BitVec 12 :=
  let l : List Bool :=
    [ s.saf.start && s.frm.ticked, s.saf.hbExp, s.latched, s.frm.fb44, s.frm.esc, s.frm.params.force != 0,
      s.tm.divergent, !s.tm.origins.isEmpty, s.saf.darkPin, s.flt.dark != 0, s.arr.causes.contains .thermal,
      s.pwr.mode == .halter ]
  l.zipIdx.foldl (fun m e => bitPut m e.2 e.1) 0

/-- R345: 0 no safe state, 1 FALLBACK_BEAM, 2 DARK. -/
def safeLevel (c : BitVec 12) : Nat := if c >>> 8 ≠ 0 then 2 else if c ≠ 0 then 1 else 0

/-- R347, R348: a fallback scene that is present and not marked invalid. -/
def State.sceneUsable (s : State) (n : Nat) : Bool :=
  decide (n < 8) && scenePresent s.fallByte n && !s.saf.fbBad.getLsbD n

/-- R346: the fallback scene under a set of causes; 0xFE is the empty scene. -/
def State.fbSelect (s : State) (c : BitVec 12) : Nat :=
  let p := s.frm.params
  let pick : Nat :=
    if p.force ≠ 0 then p.force - 1
    else if c ≠ 0 ∧ c &&& 0xF3F = 0 then p.dfltScene
    else if p.can.on && p.can.rules.any canRuleOn && !s.saf.canOut then
      match s.saf.canSel with
      | .scene n => n
      | .empty => 0xFE
      | .none => p.dfltScene
    else p.dfltScene
  if pick = 0xFE then 0xFE
  else if s.sceneUsable pick then pick
  else if s.sceneUsable p.dfltScene then p.dfltScene else 0xFE

/-! ### Fast-dark (R64, R67) -/

/-- Isolation requests of the driver in force (R419). -/
def State.isolReq (s : State) : BitVec 256 :=
  (List.range 8).foldl (fun m n => m ||| ((s.cfg (0x300 + 4 * n)).zeroExtend 256 <<< (32 * n))) 0

/-- R62: the switch of tile `t` is closed. -/
def State.tileClosed (s : State) (t : Nat) : Bool :=
  s.arr.causes.isEmpty && !s.frm.powerDark && !s.arr.isol.getLsbD t && !s.arr.tripOpen.contains t
  && s.arr.relit.getLsbD (t / 32)

/-- The closed tiles as a mask. -/
def State.closedTiles (s : State) : BitVec 256 :=
  (List.range 256).foldl (fun m t => bitPut m t (s.tileClosed t)) 0

/-- R67, R158: the curb code that the DAC holds. -/
def State.curbLoaded (s : State) : Nat := if s.pho.cap then s.pho.curb / 2 else s.pho.curb

/-- R46: whole PWM clocks from the tick to local time `t`, rounded up where `up`. -/
def State.pwmClocks (s : State) (up : Bool) (t : Nat) : Nat :=
  ((t - s.frm.tickLoc) * s.frm.fNum + (if up then s.frm.fDen - 1 else 0)) / s.frm.fDen

/-- R142: the part of the period that runs up to now. -/
def State.spanNow (s : State) : Span :=
  { a := s.pwmClocks true s.hlt.spanAt, b := s.pwmClocks false s.clk.loc, closed := s.closedTiles
    curbOk := decide (64 ≤ s.curbLoaded), low := s.hk.tile40 }

/-- R142: what can be evaluated changes now: the part of the period up to here is kept. -/
def spanCut (s : State) : State :=
  s.mapHlt fun h => { h with spans := h.spans ++ [s.spanNow], spanAt := s.clk.loc }

/-- R148, R151: the switches of the tiles `m` open now: what a tick says of the period keeps that they were closed up
to here, and open from here on. -/
def tilesOpen (m : BitVec 256) (s : State) : State :=
  (spanCut s).mapArr fun a => { a with wasOpen := a.wasOpen ||| m }

/-- R64: a cause of fast-dark starts; a relight in progress stops (R68), and fast-dark overrides the reclose of a tile
(R160). -/
def darkAdd (c : DarkCause) (s : State) : State :=
  (tilesOpen (BitVec.allOnes 256) s).mapArr fun a =>
    { a with causes := if a.causes.contains c then a.causes else a.causes ++ [c], relight := none, relit := 0
             tripDark := a.tripOpen.foldl (fun m t => bitPut m t true) a.tripDark, tripOpen := [] }

/-- R67: start the relight sequence when no cause of fast-dark is left. -/
def relightStart (s : State) : State :=
  if s.arr.causes.isEmpty && !s.frm.powerDark && s.arr.relit != 0xFF then
    s.mapArr fun a => { a with relight := some 0 }
  else s

/-- R64, R67: a cause of fast-dark is released. -/
def darkRemove (c : DarkCause) (s : State) : State :=
  if s.arr.causes.contains c then
    relightStart (s.mapArr fun a => { a with causes := a.causes.filter fun x => x != c })
  else s

/-! ### Safety events (R350, R355) -/

/-- R355: data of `EV_SAFETY_STATE`. -/
def State.safetyData (s : State) (frame : Word) (st scene : Nat) (mask : BitVec 12) : List Byte :=
  b4 frame.toNat ++ b1 st ++ b1 scene ++ b2 mask.toNat
  ++ b1 (if mask &&& 0x204 ≠ 0 then s.flt.behind.toNat else 0)
  ++ b1 (flag s.frm.params.can.on + 2 * flag s.saf.canOut)

/-- R350: emit `EV_SAFETY_STATE`; the state, scene and cause mask it carries are kept. -/
def safetyEmit (frame : Word) (st scene : Nat) (mask : BitVec 12) (s : State) : State :=
  (emit evSafetyState (s.safetyData frame st scene mask) s).mapSaf fun f => { f with lastState := (st, scene, mask) }

/-- R350: emit `EV_SAFETY_STATE` when state, scene or cause mask differ from the last one emitted. -/
def safetyEvent (frame : Word) (st scene : Nat) (mask : BitVec 12) (s : State) : State :=
  let l := s.saf.lastState
  if l = (st, scene, mask) then s else
  let s := safetyEmit frame st scene mask s
  if l.1 ≠ st ∨ l.2.1 ≠ scene then intCause 2 s else s

/-- R328: flood a STATE frame of this engine. -/
def stateFlood (kind : Nat) (data : List Byte) (s : State) : State :=
  if s.tm.isMember then
    flood true none
      (.state ⟨BitVec.ofNat 8 kind, s.engineId.zeroExtend 16, s.tm.term, s.now, data⟩) s
  else s

/-- The `GROUPS` of this engine, the kind data of its STATE frames (log entry 25). -/
def State.groupBytes (s : State) : List Byte := s.frm.params.groups.flatMap fun g => b2 g.toNat

/-- What a change of the causes brings about at once: `EV_SAFETY_STATE` at the entry into DARK (R350), the STATE
frame of a member that enters a safe state by a cause other than propagation (R328). -/
def safetyNote (before : BitVec 12) (s : State) : State :=
  let c := s.causes
  let s := if safeLevel before < 2 ∧ safeLevel c = 2 then intCause 2 (safetyEmit s.frm.frame 2 0xFF c s) else s
  if c &&& 0xF7F ≠ 0 ∧ !s.tm.sent then
    (stateFlood 2 s.groupBytes s).mapTm fun t => { t with sent := s.tm.isMember }
  else s

/-- R355: data of `EV_MARKS`. -/
def State.marksData (s : State) : List Byte :=
  let sh := s.frm.shown
  b2 s.demanded.toNat ++ b2 s.frm.params.addMarks.toNat
  ++ b2 ((sh.map fun (h : Shown) => h.demanded ||| h.added).getD 0).toNat
  ++ b1 (((s.saf.sin.zipIdx).map fun e => if e.1.level then 2 ^ e.2 else 0).sum + 16 * s.pattern) ++ b1 0
  ++ b4 ((sh.map Shown.frame).getD 0).toNat ++ b2 s.saf.notIntact.toNat

/-- R355: emit `EV_MARKS` when the demand pattern, the demanded set or the added set has changed. -/
def marksEvent (s : State) : State :=
  let k := (s.pattern, s.demanded, s.frm.params.addMarks)
  if k = s.saf.lastMarks then s
  else (emit evMarks s.marksData s).mapSaf fun f => { f with lastMarks := k }

/-! ### The frame that is being written (R43, R88, R95) -/

/-- R23, R319: the number that the next tick takes: one more than the low half of the tick number. -/
def State.nextFrame (s : State) : Word := if s.frm.ticked then s.tm.tickNo.truncate 32 + 1 else 0

/-- R130: the scene in force for frame `f`: the staged scene due at it whose first frame is nearest, else the
committed one. -/
def State.sceneFor (s : State) (f : Word) : Option Staged :=
  (s.scn.staged.foldl (fun (m : Option Staged) g =>
    if 2 ^ 31 ≤ (f - g.first).toNat then m
    else match m with
      | none => some g
      | some b => if (f - g.first).toNat < (f - b.first).toNat then some g else m) none).or s.scn.cur

/-- The composition lead in force for the next cut-off, µs (R35, R37): without a scene, that of no bytes. -/
def State.lead (s : State) : Nat :=
  leadUs (((s.sceneFor s.nextFrame).map Staged.bytes).getD 0) s.frm.params.leadFix s.frm.params.tGuard

/-- R160: the isolations that pixel health still holds. -/
def State.isolHw (s : State) : BitVec 256 :=
  (s.arr.hw154 &&& ~~~s.arr.rel154) ||| (s.arr.hw159 &&& ~~~s.arr.rel159)

/-- R419: the isolations wanted, of either kind. -/
def State.isolWant (s : State) : BitVec 256 := s.isolReq ||| s.isolHw

/-- The request bits that a list of register values holds. -/
def reqOf (l : List (Nat × Word)) : BitVec 256 :=
  (List.range 8).foldl (fun m n => m ||| (((alGet l (0x300 + 4 * n)).getD 0).zeroExtend 256 <<< (32 * n))) 0

/-- R96: the isolations that stay for the next tick: those wanted under a group 5 set armed for it. -/
def State.isolStay (s : State) : BitVec 256 :=
  match s.reg.sets.find? fun a => a.group == 5 && a.whenTo == .tick with
  | some a => reqOf a.values ||| s.isolHw
  | none => s.isolWant

/-- R152: the dead pixels, by y x 2,048 + x: open or short, in a tile that is not isolated. -/
def State.deadNow (s : State) : List Nat :=
  (s.hlt.map.filter fun c =>
    c.2.toNat % 4 != 0 && !s.arr.isol.getLsbD (tileOf (c.1 % 2048) (c.1 / 2048))).map Prod.fst

/-- R56, R57: the trim codes and Q_t of the calibration record: the stored one that awaits its tick, the one in force,
or those of the wafer test with a ratio of 1. -/
def State.baseTrims (s : State) : List Byte × List Nat :=
  match s.cal.pend.or s.cal.held with
  | some r => (r.trims, r.q)
  | none => (s.idn.waferTrims, List.replicate 256 32768)

/-- R396: the trim codes and Q_t that the target tick of a composition loads. -/
def State.nextTrims (s : State) : List Byte × List Nat :=
  if s.cal.flat.isSome then s.cal.trims.getD s.baseTrims else s.baseTrims

/-- R40, R85, R88, R91: the settings of a composition or fill that begins now. -/
def State.compSet (s : State) : CompSet :=
  let p := s.frm.params
  let fill := if s.cal.flat.isSome then 0 else p.fillF
  { frame := s.nextFrame, n := p.dutyN, dither := p.dither, dq := s.pho.dq, alpha := s.pho.alpha, fillF := fill
    regional := p.regional && s.cal.flat.isNone, bottomUp := p.bottomUp, rowMatch := p.rowMatch
    isolAt := s.arr.isol &&& s.isolStay, flat := s.cal.flat, q := s.nextTrims.2
    map := (s.cal.pend.map CalRec.map).getD s.pho.map, iLimit := p.iLimit, cH := p.floorC
    deadPix := if fill = 0 then [] else s.deadNow, trims := s.nextTrims.1, k := p.pwmK, takes := s.cal.pend.isSome
    zero := s.cal.run.isSome }

/-- The sums, CRCs and marks of the frame being written start again; a failed test of the checker bars the frame
whatever is written for it (R344). -/
def clearWrite (s : State) : State :=
  let s := s.mapPho fun p => { p with aH := 0, aN := 0, aN0 := 0, aTile := List.replicate 256 0, shows := false }
  let s := s.mapArr fun a => { a with crcS := [], isolFix := s.isolStay, fixSeq := s.frm.armSeq }
  s.mapFrm fun f =>
    { f with rows := 0, compDone := false, ctfBad := [], dead := [], lines := [], capRows := 0, colMax := []
             fail := if f.cutTest = some false then some .cutoff else none }

/-- R43: a post consumed by a composition that is not shown counts as fresh again, unless a newer one replaced
it. -/
def LayerRun.fresh (r : LayerRun) : LayerRun :=
  match r.used with
  | none => r
  | some p => if r.cand.isSome then { r with used := none } else { r with cand := some p, used := none, again := true }

/-- R43: the posts of every layer. -/
def postsFresh (s : State) : State := s.mapScn fun c => { c with runs := c.runs.map LayerRun.fresh }

/-- R349, R393: the writing of the next frame turns into a fallback fill, if its load point is not past. Road
mode, and but for an abandoned calibration run (`marks`, R393) the demanded marks, stay those of the frame decision
(R334). -/
def fillInstead (marks : Bool) (s : State) : State :=
  match s.frm.dec with
  | none => s
  | some d =>
    if s.frm.cutDone && !d.fallback && !s.frm.blank
      && decide (s.clk.loc + 1000 * s.frm.params.tGuard + 660000 ≤ s.frm.tickLoc + s.frm.period) then
      let c := s.causes
      let sel := s.fbSelect c
      let s := clearWrite (postsFresh s)
      s.mapFrm fun f =>
        { f with
          dec := some { d with fallback := true, scene := sel, causes := c, skipRep := false
                               demanded := if marks then s.demanded else d.demanded
                               uses := List.replicate 7 .off }
          comp := some s.compSet, compOn := true, compStart := s.clk.loc }
    else s

/-- R282, R393: abandon a run of phases 1 to 3. -/
def calAbort (s : State) : State :=
  match s.cal.run with
  | none => s
  | some r =>
    let s := s.mapCal fun c => { c with run := none, abortFill := true }
    fillInstead true (finish 0x78 r.sub stCalAborted 0 s)

/-- R282: a SIN demand, DARK_N or a source at SAFE or above also ends flat-field mode. -/
def calLeave (s : State) : State := calAbort (s.mapCal fun c => { c with flat := none })

/-- R345, Table 14.5: the causes among `c` whose state is FALLBACK_BEAM. -/
def beamCauses (c : BitVec 12) : BitVec 12 := c &&& 0x0FF

/-- What follows when a cause of Table 14.5 arises: a run of calibration is abandoned (R393), on a cause of
FALLBACK_BEAM the frame being written turns into the fallback scene (R349), and the team and the host hear of it. -/
def causeArise (before : BitVec 12) (s : State) : State :=
  let new := s.causes &&& ~~~before
  if new = 0 then s
  else
    let s := calAbort s
    safetyNote before (if beamCauses new = 0 then s else fillInstead false s)

/-! ### Raises (R358 to R369) -/

/-- R364: the programmed severity of a source. -/
def State.sevSet (s : State) (src : Nat) : Nat := min 6 (bits (s.cfg (0x1040 + 4 * (src / 8))) (4 * (src % 8)) 4)

/-- R359: the severity applied to a raise. -/
def State.sevOf (s : State) (src minSev : Nat) : Nat := max (s.sevSet src) (max (floorSev src) minSev)

/-- R360: the latch of the severity. -/
def latchSet (src sev : Nat) (s : State) : State :=
  s.mapFlt fun f =>
    { f with
      behind := if f.degrade = 0 ∧ f.safe = 0 ∧ f.dark = 0 then BitVec.ofNat 8 src else f.behind
      degrade := if sev = 4 then bitPut f.degrade src true else f.degrade
      safe := if sev = 5 then bitPut f.safe src true else f.safe
      dark := if 6 ≤ sev then bitPut f.dark src true else f.dark }

/-- R365: a raise goes before another of the same cycle: higher applied severity, then lower source ID (assumption 80). -/
def raiseBefore (src sev src' sev' : Nat) : Bool := decide (sev' < sev) || (sev == sev' && decide (src < src'))

/-- R365: sticky bit, first-error latch or overflow. -/
def latchFirst (src sev : Nat) (time : Dword) (s : State) : State :=
  s.mapFlt fun f =>
    let f := { f with sticky := bitPut f.sticky src true, ovf := f.ovf || f.valid }
    if f.valid then f else { f with valid := true, src := BitVec.ofNat 8 src, sev := sev, ts := time }

/-- The engine runs its start-up or a state behind it. -/
def State.started (s : State) : Bool :=
  match s.pwr.mode with
  | .off => false
  | .standby => false
  | .reset => false
  | _ => true

/-- R369: FAULT_N is asserted, the minimum width restarts, a pending release is cancelled. -/
def pinAssert (s : State) : State :=
  s.mapFlt fun f => { f with pin := true, pinSev := true, relPending := false, pinSince := s.clk.loc }

/-- R351: the severity of the source governs more than FAULT_N and the record. -/
def sevActs (src : Nat) : Bool := src != fHostHeartbeat

/-- R358 to R369: one raise of a source, with the minimum severity of its home rule and its source data. -/
def raiseMin (src minSev : Nat) (data : List Byte) (s : State) : State :=
  let sev := s.sevOf src minSev
  if sev = 0 then s else
  let before := s.causes
  let filled := !s.flt.valid
  let seq := s.lg.seq
  let s := latchFirst src sev s.now (logAdd 5 src s.now data s)
  let s := if 3 ≤ sev then intCause 0 (pinAssert s) else s
  let s := if src = fCfgCrc ∨ src = fCfgStale then intCause 4 s else s
  let s := if 4 ≤ sev && sevActs src then latchSet src sev s else s
  let s := s.mapFlt fun f => { f with entries := alPut f.entries src (seq, padTo 8 data) }
  let s := if 6 ≤ sev && sevActs src then darkAdd .fault s else s
  let s := if 2 ≤ sev then
      emit evFault
        (b1 src ++ b1 sev
          ++ b1 (flag filled + 2 * flag (!filled)
              + 4 * flag (decide (max (s.sevSet src) (floorSev src) < minSev)))
          ++ b1 0 ++ b4 seq.toNat ++ padTo 8 data) s
    else s
  let s := if 5 ≤ sev && sevActs src then calLeave s else s
  causeArise before s

/-- A raise without a minimum severity. -/
def raise (src : Nat) (data : List Byte) (s : State) : State := raiseMin src 0 data s

/-- A raise that waits for others of its cycle: source, minimum severity of its home rule, source data. -/
structure Raise where
  src    : Nat
  minSev : Nat
  data   : List Byte
  deriving DecidableEq, Repr

/-- R365: insert a raise before the first one that it goes before. -/
def raiseInsert (s : State) (r : Raise) : List Raise → List Raise
  | [] => [r]
  | x :: xs =>
    if raiseBefore r.src (s.sevOf r.src r.minSev) x.src (s.sevOf x.src x.minSev) then r :: x :: xs
    else x :: raiseInsert s r xs

/-- R365: the raises of one cycle, in the order in which the first-error latch prefers them. -/
def raiseAll (l : List Raise) (s : State) : State :=
  (l.foldl (fun q r => raiseInsert s r q) []).foldl (fun s r => raiseMin r.src r.minSev r.data s) s

/-- R365: a raise that waits for the others of its cycle. -/
def waitRaise (src : Nat) (data : List Byte) (q : List Raise × State) : List Raise × State :=
  (q.1 ++ [⟨src, 0, data⟩], q.2)

/-- R365: the cycle ends, and what waits is raised. -/
def raised (q : List Raise × State) : State := raiseAll q.1 q.2

/-- R358: the condition of a source begins or ends. -/
def condSet (src : Nat) (b : Bool) (s : State) : State :=
  s.mapFlt fun f => { f with cond := bitPut f.cond src b }

/-- R371: a source that is raised once per episode: its hold. -/
def heldSet (src : Nat) (b : Bool) (s : State) : State :=
  s.mapFlt fun f => { f with held := bitPut f.held src b }

/-- Raise a source unless its episode has raised it already. -/
def raiseOnce (src : Nat) (data : List Byte) (s : State) : State :=
  if s.flt.held.getLsbD src then s else raise src data (heldSet src true s)

/-- R368: `EV_FAULT` for the release of a SAFE or DARK latch, with the fault-latch entry of the source's last raise (DEDUCED,
assumption 86). -/
def releaseEvent (src sev : Nat) (s : State) : State :=
  let e := (alGet s.flt.entries src).getD (0, [])
  emit evFault (b1 src ++ b1 sev ++ b1 8 ++ b1 0 ++ b4 e.1.toNat ++ e.2) s

/-- R360, R371: release the latches of a source; the last DARK latch ends its fast-dark cause. -/
def latchRelease (src : Nat) (s : State) : State :=
  let hadSafe := s.flt.safe.getLsbD src
  let hadDark := s.flt.dark.getLsbD src
  let s := s.mapFlt fun f =>
    { f with degrade := bitPut f.degrade src false, safe := bitPut f.safe src false
             dark := bitPut f.dark src false }
  let s := if hadSafe then releaseEvent src 5 s else s
  let s := if hadDark then releaseEvent src 6 s else s
  if hadDark && s.flt.dark == 0 then darkRemove .fault s else s

/-- R370: FAULT_N is released when a request is present and its conditions hold. -/
def pinRelease (s : State) : State :=
  let w := 1000000 * max 1 (bits (s.cfg 0x1014) 0 8)
  let auto := (s.cfg 0x1014).getLsbD 8
  if s.flt.pin && (s.flt.relPending || auto) && !s.latched && s.pwr.mode != .halter && s.pwr.mode != .reset
    && s.pwr.mode != .off && s.pwr.mode != .standby && decide (s.flt.pinSince + w ≤ s.clk.loc) then
    s.mapFlt fun f => { f with pin := false, pinSev := false, relPending := false }
  else s

/-- `F_MEM_UE` or `F_MEM_CE` data (Table 15.6). -/
def memData (unit kind words layer : Nat) (frame : Word) : List Byte :=
  b4 unit ++ b1 kind ++ b1 words ++ b1 layer ++ b1 0 ++ b4 frame.toNat

/-- Table 15.6: the words of a unit that a memory error met: at least one, else a free value (assumption 10). -/
def memWords (k : Nat) : Byte := if Config.freeByte k = 0 then 1 else Config.freeByte k

/-- Table 15.6: a memory error that an access of kind `kind` meets, with the layer and the frame number of the kinds that have
them; which words it stands in is a free value (assumption 10). -/
def frameMem (src unit kind layer : Nat) (frame : Word) (q : List Raise × State) : List Raise × State :=
  let (k, s) := q.2.draw
  waitRaise src (memData unit kind (memWords k).toNat layer frame) (q.1, s)

/-- Note units newly met uncorrectable. -/
def noteUe (ue : List Nat) (s : State) : State :=
  s.mapPool fun p => { p with ue := p.ue ++ ((ue.map unitOf).eraseDups.filter fun u => !p.ue.contains u) }

/-- Units in which single-bit errors have arisen. -/
def noteCe (ce : List Nat) (s : State) : State :=
  s.mapPool fun p => { p with ce := p.ce ++ ((ce.map unitOf).eraseDups.filter fun u => !p.ce.contains u) }

/-- R176: the units of an access whose single-bit errors it meets; an uncorrectable unit is none of them. -/
def State.ceOf (s : State) (units : List Nat) : List Nat :=
  s.pool.ce.filter fun u => units.contains u && !s.pool.ue.contains u

/-- R176: an access reads `units`: the single-bit errors that it meets are corrected, the units are rewritten, and `F_MEM_CE`
is raised. -/
def frameCe (kind layer : Nat) (frame : Word) (units : List Nat) (q : List Raise × State) : List Raise × State :=
  let hits := q.2.ceOf units
  hits.foldl (fun q u => frameMem fMemCe (unitOf u) kind layer frame q)
    (q.1, q.2.mapPool fun p => { p with ce := p.ce.filter fun u => !hits.contains u })

/-- R176: an access that is no fetch for a frame reads `units` and finds those of `bad` uncorrectable. -/
def unitRaises (kind : Nat) (units bad : List Nat) (q : List Raise × State) : List Raise × State :=
  let q := bad.foldl (fun q u => frameMem fMemUe u kind 0 0 q) (frameCe kind 0 0 units q)
  (q.1, q.2.mapPool fun p => { p with ue := p.ue ++ bad.filter fun u => !p.ue.contains u })

/-- R176, R365: the memory errors that one access meets are raised in one instant. -/
def meetUnits (kind : Nat) (units bad : List Nat) (s : State) : State := raised (unitRaises kind units bad ([], s))

/-- R176: the single-bit errors that an access of kind `kind` meets. -/
def meetCe (kind : Nat) (units : List Nat) (s : State) : State := meetUnits kind units [] s

/-- R176: the uncorrectable units that an access of kind `kind` meets. -/
def raiseUe (kind : Nat) (units : List Nat) (s : State) : State := meetUnits kind [] units s

/-- R199: an uncorrectable error is logged in AER; which status bit it sets is a free value (assumption 16). -/
def aerUncorrectable (s : State) : State :=
  let (k, s) := s.draw
  aerLog (Config.freePick k % 32) s

/-- R199: an uncorrectable error is logged in AER, and raises. -/
def aerRaise (s : State) : State := raise fLinkAer [] (aerUncorrectable s)

/-- R199, R235: a read of the memory of this engine's own host failed. -/
def readFailed (b : Sub) (d : HostRead) (s : State) : State :=
  match b.origin, d with
  | none, .fail _ => aerRaise s
  | _, _ => s

/-- R405: data of `F_REG_ACCESS`. -/
def regAccess (off kind bar be : Nat) (s : State) : State :=
  raise fRegAccess (b4 off ++ b1 kind ++ b1 bar ++ b1 be ++ b1 0) s

/-- Table 15.6: `F_RING_PROTOCOL`. -/
def ringData (reason queue bell value : Nat) : List Byte := b1 reason ++ b1 queue ++ b1 bell ++ b1 0 ++ b4 value

/-- Raise `F_RING_PROTOCOL`. -/
def ringProtocol (reason queue bell value : Nat) (s : State) : State :=
  raise fRingProtocol (ringData reason queue bell value) s

/-- R450, Table 20.4: `F_BOOT_IMAGE`. -/
def bootImage (kind reason copy : Nat) (s : State) : State :=
  raise fBootImage (b1 kind ++ b1 reason ++ b1 copy) s

end Sys2Proof.Machine
end

