-- ==== Sys2Proof/Machine/Alloc.lean ====
section
/-!
DEFINITION. Blocks, handles, reserves and limits of the buffer pool (`08_buffer_pool.md`, R165 to R172), and the
references of R131.
-/
namespace Sys2Proof.Machine

/-- R165: the pool's blocks. -/
def poolBlocks : Nat := 1536

/-- R170: the blocks held, those of a freeing handle included. -/
def State.heldBlocks (s : State) : List Nat :=
  s.pool.handles.flatMap Handle.blocks ++ s.tm.streams.flatMap Stream.blocks

/-- R169: u_x. Blocks of the trace-forward agent are charged to channel 16. -/
def State.held (s : State) (c : Nat) : Nat :=
  ((s.pool.handles.filter fun h => h.channel = c).map fun h => h.blocks.length).sum
    + (if c = 16 then (s.tm.streams.map fun t => t.blocks.length).sum else 0)

/-- The free blocks in ascending order. -/
def State.freeBlocks (s : State) : List Nat :=
  let h := s.heldBlocks
  (List.range poolBlocks).filter fun b => !h.contains b

/-- R167: `RESERVE` and the effective `LIMIT` of a channel. -/
def State.reserve (s : State) (c : Nat) : Nat := bits (s.cfg (0x900 + 4 * c)) 0 11
def State.limit (s : State) (c : Nat) : Nat :=
  let l := bits (s.cfg (0x900 + 4 * c)) 16 11
  if l = 0 then poolBlocks else l

/-- R169: the sum of the unused reserves of every channel other than `c`. -/
def State.unusedOthers (s : State) (c : Nat) : Nat :=
  ((List.range 18).map fun x => if x = c then 0 else s.reserve x - s.held x).sum

/-- The first blocks of the runs of `n` free blocks. -/
def runsOf (free : List Nat) (n : Nat) : List Nat :=
  free.filter fun b => (List.range n).all fun k => free.contains (b + k)

/-- R169: the tests of Table 08.4; the status on failure. -/
def State.allocTest (s : State) (c n : Nat) (contiguous : Bool) : Option Half :=
  let free := s.freeBlocks
  if s.limit c < s.held c + n then some stQuota
  else if free.length < n + s.unusedOthers c then some stNoSpace
  else if contiguous && (runsOf free n).isEmpty then some stNoSpace
  else none

/-- Take `n` of the free blocks, each a free choice of the engine (R165; assumption 10). -/
def pickBlocks : Nat → List Nat → State → List Nat × State
  | 0, _, s => ([], s)
  | n + 1, free, s =>
    let (k, s) := s.draw
    match free[Config.freePick k % free.length]? with
    | none => ([], s)
    | some b =>
      let (l, s) := pickBlocks n (free.erase b) s
      (b :: l, s)

/-- The block list of a granted allocation (R165). -/
def State.takeBlocks (s : State) (n : Nat) (contiguous : Bool) : List Nat × State :=
  if contiguous then
    let starts := runsOf s.freeBlocks n
    let (k, s) := s.draw
    let b := starts.getD (Config.freePick k % starts.length) 0
    ((List.range n).map fun i => b + i, s)
  else pickBlocks n s.freeBlocks s

/-- R166: the next generation of a slot. -/
def nextGen (s : State) (slot : Nat) : Nat := ((alGet s.pool.gens slot).getD 0) % 31 + 1

/-- R165, R166: allocate a handle; its slot is a free choice among the unused ones. -/
def newHandle (c n : Nat) (contiguous : Bool) (waiting : Option Sub) (s : State) : Handle × State :=
  let (blocks, s) := s.takeBlocks n contiguous
  let used := s.pool.handles.map Handle.slot
  let slots := (List.range poolBlocks).filter fun k => !used.contains k
  let (k, s) := s.draw
  let slot := slots.getD (Config.freePick k % slots.length) 0
  let gen := nextGen s slot
  let h : Handle := ⟨slot, gen, c, blocks, false, waiting, false⟩
  (h, s.mapPool fun p => { p with handles := p.handles ++ [h], gens := alPut p.gens slot gen })

/-- R177: zeroing writes whole units. -/
def zeroBlocks (bs : List Nat) (s : State) : State :=
  s.mapPool fun p =>
    { p with
      mem := p.mem.filter fun c => !bs.contains (c.1 / 65536)
      ue := p.ue.filter fun u => !bs.contains (u / 65536)
      ce := p.ce.filter fun u => !bs.contains (u / 65536) }

/-! ### References (R131) -/

/-- The staged scenes and the scene in force. -/
def State.boundScenes (s : State) : List Staged := s.scn.staged ++ s.scn.cur.toList

/-- The surfaces bound to a scene, the capture surface included: an undefined capture surface so fails check 1 of Table 06.4
(DESIGN CHOICE, assumption 79). -/
def Scene.surfaces (c : Scene) : List Nat :=
  ((c.layers.map LayerCfg.surface) ++ [c.capSurf]).filter fun i => i != 0

/-- The defined surfaces on a handle. -/
def State.surfacesOn (s : State) (h : Handle) : List Nat :=
  (s.scn.surfs.filter fun d => d.desc.handle == h.value).map Surface.id

/-- R131: a surface is bound to a scene in force or staged. -/
def State.sceneBound (s : State) (id : Nat) : Bool :=
  s.boundScenes.any fun g => g.scene.surfaces.contains id

/-- The posts that keep a reference: the newest post, the candidate, the one consumed by the composition that
runs, and the one last shown. -/
def LayerRun.posts (r : LayerRun) : List Post :=
  r.newest.toList ++ r.cand.toList ++ r.used.toList ++ r.shown.toList

/-- The surfaces of the frame shown. -/
def State.shownSurfs (s : State) : List Nat := (s.frm.shown.map Shown.surfs).getD []

/-- R131, R172: the surfaces that a layer's pending posts name, and the one that it showed last. -/
def LayerRun.surfs (r : LayerRun) : List Nat :=
  ((r.newest.toList ++ r.cand.toList ++ r.used.toList).map Post.surface ++ [r.lastSurf]).filter fun i => i != 0

/-- R131: the surfaces that a scene, a pending post, a layer that showed it last or the frame shown names. -/
def State.surfsNamed (s : State) : List Nat :=
  (s.boundScenes.flatMap fun g => g.scene.surfaces) ++ s.shownSurfs ++ s.scn.runs.flatMap LayerRun.surfs

/-- R131: the handles that a pending shape post, or the one last shown, names. -/
def State.handlesNamed (s : State) : List Half :=
  (s.scn.runs.flatMap LayerRun.posts).filterMap fun p => if p.surface = 0 then some p.handle else none

/-- R131: a reference is left, or was left at the last tick. -/
def State.surfUsed (s : State) (id : Nat) : Bool := s.scn.inUse.contains id || s.surfsNamed.contains id

/-- R131: at a tick, only the references that remain are kept. -/
def usesTick (s : State) : State :=
  s.mapScn fun c => { c with inUse := s.surfsNamed, inUseH := s.handlesNamed }

/-- R131: note what a scene or a post names. -/
def usesAdd (surfs : List Nat) (handles : List Half) (s : State) : State :=
  s.mapScn fun c => { c with inUse := c.inUse ++ surfs, inUseH := c.inUseH ++ handles }

/-- R131: the handle is in use, directly by a shape post or by a surface on it. -/
def State.postOnHandle (s : State) (h : Handle) : Bool :=
  s.scn.inUseH.contains h.value || s.handlesNamed.contains h.value || (s.surfacesOn h).any s.surfUsed

/-- R131: a data move executes on the handle. -/
def State.moveOn (s : State) (h : Handle) : Bool := s.pool.moves.any fun m => m.handle == h.value

/-- R171, R172: the blocks of a handle return to the pool and its surfaces are retired. -/
def returnBlocks (h : Handle) (s : State) : State :=
  let on := s.surfacesOn h
  let s := s.mapScn fun c => { c with surfs := c.surfs.filter fun d => !on.contains d.id }
  s.mapPool fun p => { p with handles := p.handles.filter fun x => x.slot != h.slot }

/-- R172: the free of a freeing handle completes, with `EV_POOL_FREED`. -/
def freeNow (h : Handle) (s : State) : State :=
  emit evPoolFreed (b2 h.value.toNat ++ b2 h.blocks.length ++ b4 s.frm.frame.toNat) (returnBlocks h s)

/-- Change the handle of a slot. -/
def mapHandle (slot : Nat) (f : Handle → Handle) (s : State) : State :=
  s.mapPool fun p => { p with handles := p.handles.map fun h => if h.slot = slot then f h else h }

/-- R172: at a tick whose swap is not skipped, freeing handles without reference or data move give their blocks
back; one with a data move keeps in mind that no reference remains. -/
def freeingTick (s : State) : State :=
  (s.pool.handles.filter Handle.freeing).foldl
    (fun s h =>
      if s.postOnHandle h then s
      else if s.moveOn h then mapHandle h.slot (fun h => { h with noRef := true }) s
      else freeNow h s) s

/-- R172: the last data move on a freeing handle ends after that tick. -/
def freeingMove (v : Half) (s : State) : State :=
  match s.handleAny v with
  | some h => if h.freeing && h.noRef && !s.moveOn h then freeNow h s else s
  | none => s

end Sys2Proof.Machine
end

