-- ==== Sys2Proof/Machine/EntryDecode.lean ====
section
/-!
DEFINITION. Reading a submission entry (`10_rings_and_doorbells.md`, Tables 10.4 and 10.5; the operand tables of chapters
11 and 12): the command that 64 bytes spell. `Entry.lean` holds the other direction; an entry whose reserved bits are
not zero is one that the command read from it does not spell (R228, checks 1 and 3).
-/
namespace Sys2Proof.Machine

/-- Bytes `k` to `k + 1` of an entry, and so on: its fields as numbers of their width. -/
def e8 (e : BitVec 512) (k : Nat) : Byte := BitVec.ofNat 8 (e.toNat / 2 ^ (8 * k))
def e16 (e : BitVec 512) (k : Nat) : Half := BitVec.ofNat 16 (e.toNat / 2 ^ (8 * k))
def e32 (e : BitVec 512) (k : Nat) : Word := BitVec.ofNat 32 (e.toNat / 2 ^ (8 * k))
def e64 (e : BitVec 512) (k : Nat) : Dword := BitVec.ofNat 64 (e.toNat / 2 ^ (8 * k))

/-- `n` bytes from byte `k` on. -/
def eList (e : BitVec 512) (k n : Nat) : List Byte := (List.range n).map fun i => e8 e (k + i)

/-- `OPCODE`. -/
def entryOp (e : BitVec 512) : Nat := (e8 e 0).toNat

/-- R228, check 1: the reserved bits of word 0, those of `FLAGS` among them, are zero. -/
def entryWord0Ok (e : BitVec 512) : Bool := e.toNat / 2 ^ 12 % 2 ^ 4 == 0 && e.toNat / 2 ^ 27 % 2 ^ 5 == 0

/-- Tables 10.4 and 10.5: the head of an entry of ring `n`. -/
def entrySub (n : Fin 16) (gap : Bool) (origin : Option (BitVec 10)) (e : BitVec 512) : Sub :=
  { ring := n, seq := e32 e 4, tag := e64 e 8, ioc := e.getLsbD 8, fence := e.getLsbD 9, atTick := e.getLsbD 10
    barrier := e.getLsbD 11, target := BitVec.ofNat 11 (e.toNat / 2 ^ 16), gap := gap, origin := origin
    reply := .due }

/-- Table 11.6: a copy fence. -/
def entryFence (e : BitVec 512) : FenceOps := ⟨e8 e 28, e8 e 29, e32 e 32⟩

/-- Table 05.1 at byte 32: a surface descriptor. -/
def entryDesc (e : BitVec 512) : SurfDesc :=
  { handle := e16 e 32, offset := e32 e 36, width := e16 e 40, height := e16 e 42, format := e8 e 44, layout := e8 e 45
    pitch := e32 e 48, size := e32 e 52, wR := e16 e 56, wG := e16 e 58, wB := e16 e 60, yConst := e16 e 62 }

/-- Tables 11.7 and 11.8: the form of a `LAYER_SET`. -/
def entryLayer (e : BitVec 512) : LayerForm :=
  match (e8 e 17).toNat with
  | 0 =>
    .params (e8 e 16)
      { surface := e16 e 20, srcX := e16 e 22, srcY := e16 e 24, srcW := e16 e 26, srcH := e16 e 28, dstX := e16 e 30
        dstY := e16 e 32, dstW := e16 e 34, dstH := e16 e 36, predec := e8 e 38, coef := e8 e 39, blend := e8 e 40
        notReady := e8 e 41, streaming := e8 e 42, alpha := e16 e 44, s0Y := e16 e 46, glareSafe := e16 e 48 }
  | 1 => .coefs (e8 e 18) (e16 e 20) (e32 e 24)
  | 2 => .order (e8 e 20) (eList e 21 7)
  | _ => .bad (e8 e 17)

/-- The commands of chapter 11, by `OPCODE` (Table 11.1). -/
def entryPicture (b : Sub) (e : BitVec 512) : Option Instr :=
  match entryOp e with
  | 0x00 => some (.nop b)
  | 0x01 => some (.echo b (e64 e 16))
  | 0x02 => some (.ident b (e64 e 24))
  | 0x03 => some (.heartbeat b)
  | 0x10 => some (.poolAlloc b (e16 e 16) (e8 e 18) (e8 e 19))
  | 0x11 => some (.poolFree b (e16 e 16))
  | 0x12 => some (.poolQuery b (e16 e 16) (e64 e 24))
  | 0x13 => some (.copyIn b (e16 e 16) (e32 e 20) (e64 e 24) (e32 e 32))
  | 0x14 => some (.copyOut b (e16 e 16) (e32 e 20) (e64 e 24) (e32 e 32))
  | 0x15 => some (.fill b (e16 e 16) (e32 e 20) (e32 e 32) (e8 e 36) (e64 e 40))
  | 0x20 => some (.surfaceDefine b (e16 e 16) (entryDesc e))
  | 0x21 => some (.surfaceRetire b (e16 e 16))
  | 0x22 => some (.layerSet b (entryLayer e))
  | 0x23 => some (.layerPost b ⟨e8 e 16, e16 e 18, e16 e 20, e16 e 22, e16 e 24, e16 e 26, entryFence e⟩)
  | 0x24 => some (.shapesPost b (e16 e 16) (e32 e 20) (e8 e 24) (entryFence e))
  | 0x25 => some (.captureSet b (e16 e 16) (e8 e 18) (e8 e 19))
  | 0x30 => some (.sceneCommit b (e32 e 60))
  | 0x31 => some (.sceneQuery b (e8 e 16) (e64 e 24))
  | 0x38 => some (.timingSet b ⟨e16 e 16, e32 e 20, e16 e 24, e32 e 28, e8 e 32, e8 e 33, e16 e 34, e32 e 60⟩)
  | 0x39 =>
    some (.syncSet b ⟨e16 e 16, e8 e 18, e8 e 19, e8 e 20, e8 e 21, e32 e 24, e8 e 28, e8 e 29, e8 e 30, e16 e 32,
      e32 e 36, e32 e 60⟩)
  | 0x3A => some (.pwmSet b ⟨e16 e 16, e8 e 18, e8 e 19, e16 e 20, e16 e 22, e32 e 60⟩)
  | 0x40 => some (.curbSet b ⟨e16 e 16, e16 e 20, e16 e 22, e32 e 60⟩)
  | 0x41 => some (.derateSet b ⟨e16 e 16, e8 e 18, e16 e 20, e16 e 22, e32 e 60⟩)
  | 0x42 => some (.cutoffSet b ⟨e16 e 16, e8 e 18, e8 e 19, e16 e 20, e16 e 24, e32 e 28, e32 e 60⟩)
  | 0x43 => some (.probeSet b (e8 e 16) (e32 e 60))
  | 0x44 => some (.pixmapRead b ⟨e16 e 16, e16 e 18, e64 e 24, e64 e 32⟩)
  | 0x45 => some (.neighbourFillSet b (e8 e 16) (e32 e 60))
  | _ => none

/-- The commands of chapter 12, by `OPCODE` (Table 12.1); `d` is what the host's memory answers to those that read it. -/
def entryService (b : Sub) (d : HostRead) (e : BitVec 512) : Option Instr :=
  match entryOp e with
  | 0x50 => some (.hallmarkSelect b (e16 e 16) (e16 e 18) (e32 e 60))
  | 0x51 => some (.safetyStatus b)
  | 0x52 => some (.fallbackSet b ⟨e16 e 16, e8 e 18, e8 e 19, e16 e 20, e32 e 60⟩)
  | 0x53 =>
    some (.canListenSet b ⟨e16 e 16, e8 e 18, e8 e 19, BitVec.ofNat 24 (e32 e 20).toNat, e16 e 24,
      (List.range 8).map fun k => e32 e (28 + 4 * k), e32 e 60⟩)
  | 0x54 => some (.roadMode b (e16 e 16) (e8 e 18) (e32 e 60))
  | 0x60 =>
    some (.teamConfig b ⟨e16 e 16, e8 e 18, e8 e 19, (List.range 4).map fun k => e16 e (20 + 2 * k), e8 e 28, e8 e 29,
      e32 e 60⟩)
  | 0x61 => some (.teamStatus b (e64 e 24))
  | 0x62 => some (.teamPair b (BitVec.ofNat 128 (e.toNat / 2 ^ 128)))
  | 0x63 => some (.timeSet b (e8 e 16) (e64 e 24))
  | 0x64 => some (.timeQuery b (e64 e 24))
  | 0x70 => some (.powerState b (e8 e 16))
  | 0x78 => some (.calRun b (e8 e 16) (e16 e 20))
  | 0x79 => some (.calLoadMap b (e16 e 16) (e32 e 20))
  | 0x7A => some (.calStore b)
  | 0x7B => some (.calRead b (e8 e 16) (e32 e 20) (e64 e 24) (e32 e 32))
  | 0x80 => some (.updateOpen b (e32 e 20))
  | 0x81 => some (.updateWrite b (e32 e 20) (e64 e 24) (e32 e 32) d)
  | 0x82 => some (.updateClose b)
  | 0x83 => some (.updateConfirm b)
  | 0x84 => some (.updateStatus b)
  | 0x88 => some (.authLogin b ⟨e8 e 16, e16 e 18, e8 e 20, eList e 24 32⟩ d)
  | 0x89 => some (.authLogout b)
  | 0x8A => some (.protectedWrite b (e16 e 16) (e32 e 20))
  | 0x8B => some (.passwordSet b (e8 e 16) (e8 e 17) (e16 e 18) (e64 e 24) d)
  | 0x8C => some (.logRead b (e8 e 16) (e32 e 20) (e64 e 24) (e32 e 32))
  | 0x8D => some (.logArchive b (e32 e 20))
  | 0x90 => some (.settingsRead b (e8 e 16) (e32 e 20) (e64 e 24) (e32 e 32))
  | 0x91 => some (.settingsWrite b (e16 e 16) (e8 e 18) (eList e 20 32))
  | 0x92 => some (.cfgCommit b)
  | 0x98 => some (.linkTest b ⟨e8 e 16, e8 e 17, e8 e 18, e8 e 19, e8 e 20, e8 e 21, e32 e 24⟩)
  | 0x99 => some (.eyeScan b (e8 e 16) (e8 e 17) (e16 e 18) (e32 e 20))
  | 0xA0 => some (.faultRead b (e64 e 24))
  | 0xA1 => some (.faultAck b (e8 e 16))
  | 0xA2 => some (.thermRearm b)
  | _ => none

/-- The command that an entry spells; none for an unassigned `OPCODE`. -/
def decodeEntry (b : Sub) (d : HostRead) (e : BitVec 512) : Option Instr :=
  if entryOp e < 0x50 then entryPicture b e else entryService b d e

/-- R7, Table 05.1: the reserved bits [7:2] of `LAYOUT` are zero. -/
def fieldBitsOk : Instr → Bool
  | .surfaceDefine _ _ d => decide (d.layout.toNat < 4)
  | _ => true

/-- R228, checks 1 to 3: the command, or the status of the first check that fails. -/
def entryRead (b : Sub) (d : HostRead) (e : BitVec 512) : Instr ⊕ Half :=
  if !entryWord0Ok e then .inr stBadOperand
  else match decodeEntry b d e with
    | none => .inr stBadOpcode
    | some i => if (spelled i).map Spelled.entry == some e && fieldBitsOk i then .inl i else .inr stBadOperand

end Sys2Proof.Machine
end

