-- ==== Sys2Proof/Machine/Timing.lean ====
section
/-!
DEFINITION. Changes that wait for a tick (R130, R236, R237), and the relations between the timing parameters (`02_frame_and_tick.md`,
R26, R27, R33, R35, R45).
-/
namespace Sys2Proof.Machine

/-! ### Arming (R130, R236, R237) -/

/-- R236: the tick at which a change takes effect that is armed now: the first whose step 1 of Table 02.7 is
still to come. -/
def State.nextTick (s : State) : Word := if s.frm.blank then s.nextFrame + 1 else s.nextFrame

/-- R130: the frame whose cut-off was last. -/
def State.cutFrame (s : State) : Word := if s.frm.cutDone then s.nextFrame else s.frm.frame

/-- R130: frame `f` has passed. -/
def State.passed (s : State) (f : Word) : Bool :=
  decide (2 ^ 31 ≤ (f - s.frm.frame).toNat) || (s.frm.ticked && decide ((s.cutFrame - f).toNat < 2 ^ 31))

/-- R236: number of set commands armed, the P_NOM of a group or the team on its lead (R320) among them; a `CUTOFF_SET` that
writes the flash holds its place. -/
def State.armedSets (s : State) : Nat :=
  (s.frm.armed.filter ArmedCmd.counted).length + s.tm.teamP.length
    + (s.fls.jobs.filter fun j => match j.act with
        | .cutoff _ _ _ _ => true
        | .marked _ (.cutoff _ _ _ _) => true
        | _ => false).length

/-- Arm changes for a tick (R409: in the order of arming). -/
def armAt (frame : Word) (changes : List Change) (counted given : Bool) (s : State) : State :=
  s.mapFrm fun f =>
    { f with armed := f.armed ++ [⟨frame, changes, f.armSeq, counted, given⟩], armSeq := f.armSeq + 1 }

/-- R236: the frame of a set command: the next tick, or `FRAME` with AT_TICK. -/
def State.setFrame (s : State) (b : Sub) (frame : Word) : Word := if b.atTick then frame else s.nextTick

/-- R236: `FRAME` is zero without AT_TICK. -/
def frameOperandOk (b : Sub) (frame : Word) : Bool := b.atTick || frame == 0

/-- R236: the changes of an accepted set command are armed, and its completion says for which tick; the budget of R35 is checked
last (R254). -/
def armSet (op : Nat) (b : Sub) (frame : Word) (budget : Bool) (changes : List Change) (own : Nat) (s : State) : State :=
  if b.atTick && s.passed frame then finish op b stWrongState 0 s
  else if 16 ≤ s.armedSets then finish op b stBusy 0 s
  else if !budget then finish op b stBudget 0 s
  else
    let f := s.setFrame b frame
    finish op b stOkDeferred (BitVec.ofNat 64 (own % 2 ^ 32 + 2 ^ 32 * f.toNat)) (armAt f changes true b.atTick s)

/-- Apply one change to the parameters. -/
def Params.apply (p : Params) : Change → Params
  | .pNom v => { p with pNom := v }
  | .tGuard v => { p with tGuard := v }
  | .leadFix v => { p with leadFix := v }
  | .scan b => { p with bottomUp := b }
  | .rowMatch v => { p with rowMatch := v }
  | .events v => { p with events := v }
  | .source b => { p with fsyncSrc := b }
  | .ratio m n => { p with ms := m, ns := n }
  | .edge b => { p with falling := b }
  | .phase v => { p with phase := v }
  | .fsyncOut e d c w o => { p with foEnable := e, foDiv := d, foCam := c, foWidth := w, foOffset := o }
  | .dutyN v => { p with dutyN := v }
  | .pwmK v => { p with pwmK := v }
  | .oCam v => { p with oCam := v }
  | .dither d => { p with dither := d }
  | .iLimit v => { p with iLimit := v }
  | .hT v => { p with hT := v }
  | .regional b => { p with regional := b }
  | .knee v => { p with knee := v }
  | .tZero v => { p with tZero := v }
  | .cutGeom g => { p with cutGeom := g }
  | .cutLimit v => { p with cutLimit := v }
  | .probe a b => { p with onProbe := a, offProbe := b }
  | .fill v => { p with fillF := v }
  | .addMarks m => { p with addMarks := m }
  | .dfltScene v => { p with dfltScene := v }
  | .force v => { p with force := v }
  | .canMode r o => { p with can := { p.can with rate := r, on := o } }
  | .canFilter g a => { p with can := { p.can with pgn := g, sa := a } }
  | .canTimeout v => { p with can := { p.can with timeout := v } }
  | .canRules r => { p with can := { p.can with rules := r } }
  | .road b => { p with roadCmd := b }
  | .role r => { p with role := r }
  | .backup b => { p with backup := b }
  | .groups g => { p with groups := g }
  | .ports e g => { p with ports := e, gens := g }
  | .floorC v => { p with floorC := v }
  | .roadSrc v => { p with roadSrc := v }
  | .policy v => { p with policy := v }
  | .idle b => { p with idle := b }

/-- R237: the values in force with every earlier armed change applied. -/
def State.view (s : State) : Params :=
  let p := (s.frm.armed.flatMap ArmedCmd.changes).foldl Params.apply s.frm.params
  match s.tm.teamP.getLast? with
  | some e => { p with pNom := e.2 }
  | none => p

/-- R236: `MASK` selects only defined bits, and fields that it does not select are zero. -/
def maskOk (mask : Half) (defined : Nat) (fields : List (Nat × Nat)) : Bool :=
  decide (mask.toNat < 2 ^ defined) && fields.all fun e => mask.getLsbD e.1 || e.2 == 0

/-- The changes whose `MASK` bit is set. -/
def selected (mask : Half) (l : List (Nat × List Change)) : List Change :=
  (l.filter fun e => mask.getLsbD e.1).flatMap Prod.snd

/-- A set command with a `MASK` (R236): operand checks, `MASK` = 0, then `check` (a failing status), then arming. -/
def setCmd (op : Nat) (b : Sub) (mask : Half) (frame : Word) (shape : Bool) (check : Option Half)
    (changes : List Change) (own : Nat) (s : State) : State :=
  if !shape || !frameOperandOk b frame then finish op b stBadOperand 0 s
  else if mask = 0 then finish op b stOk 0 s
  else
    let budget := check != some stBudget
    match check, budget with
    | some st, true => finish op b st 0 s
    | _, _ => armSet op b frame budget changes own s

/-! ### Timing relations (R26, R27, R33, R35, R45, R237) -/

/-- This engine acts as a follower (R25, R307, R330): a member of a team, or about to be one, that is not the lead in
force. -/
def State.actsFollower (s : State) : Bool := s.frm.params.role != .alone && !s.tm.leading

/-- R25: under the parameters `p` the source is TEAM: this engine acts as a follower, or a role that `p` changes makes it
one. -/
def State.teamWith (s : State) (p : Params) : Bool :=
  if p.role = s.frm.params.role then s.actsFollower else p.role == .follower

/-- R27: the source that the parameters select is INTERNAL; `team` says that it is TEAM (R25). -/
def Params.isInternal (p : Params) (team : Bool) : Bool := !team && !p.fsyncSrc

/-- R27: P_MIN as a fraction of nanoseconds, for a source that is INTERNAL or not. -/
def Params.pMinOf (p : Params) (internal : Bool) : Nat × Nat := if internal then (p.pNom, 1) else (100 * p.pNom, 102)

/-- R27: P_MIN as a fraction of nanoseconds. -/
def Params.pMin (p : Params) (team : Bool) : Nat × Nat := p.pMinOf (p.isInternal team)

/-- R45: automatic K, floor(200 MHz x P_MIN / 2^N). -/
def kAuto (pMin : Nat × Nat) (n : Nat) : Nat := pMin.1 / (pMin.2 * 5 * 2 ^ n)

/-- R45: the K that applies. -/
def Params.kEff (p : Params) (team : Bool) : Nat := if p.pwmK ≠ 0 then p.pwmK else kAuto (p.pMin team) p.dutyN

/-- R45: f_pwm lies within 50 to 200 MHz for every period from P_MIN to 1.02 x P_NOM. -/
def Params.pwmOk (p : Params) (team : Bool) : Bool :=
  let c := p.kEff team * 2 ^ p.dutyN
  decide (c * 5 * (p.pMin team).2 ≤ (p.pMin team).1) && decide (102 * p.pNom ≤ c * 20 * 100)

/-- Table 02.2 and the relations of R33 and R45 between the timing parameters. -/
def Params.timingOk (p : Params) (team : Bool) : Bool :=
  decide (2083334 ≤ p.pNom ∧ p.pNom ≤ 25000000) && decide (10 ≤ p.tGuard ∧ p.tGuard ≤ 200)
  && (p.leadFix == 0
      || (decide (675 ≤ p.leadFix) && decide ((1000 * p.leadFix + 30000) * (p.pMin team).2 ≤ (p.pMin team).1)))
  && decide (p.rowMatch ≤ 511 ∨ p.rowMatch = 0xFFFF)
  && decide (1 ≤ p.ms ∧ p.ms ≤ 16 ∧ 1 ≤ p.ns ∧ p.ns ≤ 16) && decide (p.phase + 1 ≤ p.pNom)
  && decide (1 ≤ p.foDiv ∧ p.foDiv ≤ 16 ∧ 1 ≤ p.foWidth ∧ p.foWidth ≤ 1000)
  && decide (p.foOffset + 1000 * p.foWidth + 1000 ≤ p.pNom)
  && decide (8 ≤ p.dutyN ∧ p.dutyN ≤ 16) && p.pwmOk team && decide (p.oCam < 2 ^ p.dutyN)

/-- B of the committed scene. -/
def State.curBytes (s : State) : Nat := (s.scn.cur.map Staged.bytes).getD 0

/-- R237, R254: relations first, R35 last; the values in force with every earlier armed change and these. -/
def State.timingCheck (s : State) (l : List Change) : Option Half :=
  let p := l.foldl Params.apply s.view
  if !p.timingOk (s.teamWith p) then some stBadOperand
  else if s.scn.cur.isSome && !budgetOk s.curBytes p.leadFix p.tGuard p.pNom (p.isInternal (s.teamWith p)) then
    some stBudget
  else none

/-- The fields of `TIMING_SET` by `MASK` bit. -/
def TimingOps.fields (o : TimingOps) : List (Nat × Nat) :=
  [(0, o.pNom.toNat), (1, o.tGuard.toNat), (2, o.leadFix.toNat), (3, o.scan.toNat), (4, o.rowMatch.toNat),
    (5, o.events.toNat)]

/-- The changes that `TIMING_SET` selects. -/
def TimingOps.changes (o : TimingOps) : List Change :=
  selected o.mask
    [(0, [.pNom o.pNom.toNat]), (1, [.tGuard o.tGuard.toNat]), (2, [.leadFix o.leadFix.toNat]),
      (3, [.scan (o.scan == 1)]), (4, [.rowMatch o.rowMatch.toNat]), (5, [.events (o.events.truncate 5)])]

/-- R236: the shape of a `TIMING_SET`: its `MASK`, and the fields that have fewer values than their bytes. -/
def TimingOps.shapeOk (o : TimingOps) : Bool :=
  maskOk o.mask 6 (TimingOps.fields o) && decide (o.scan.toNat ≤ 1) && decide (o.events.toNat ≤ 31)

/-- Table 11.11: the operands of a `TIMING_SET` entry. -/
def entryTiming (e : BitVec 512) : TimingOps :=
  ⟨e16 e 16, e32 e 20, e16 e 24, e32 e 28, e8 e 32, e8 e 33, e16 e 34, e32 e 60⟩

end Sys2Proof.Machine
end

