-- ==== Sys2Proof/Machine/Operands.lean ====
section
/-!
DEFINITION. What every ring command shares: when it is served, the checks of R228, forwarding (R320, R321), the
session (R261, R262), and answers to the host of the origin (R235, R324).
-/
namespace Sys2Proof.Machine

/-- The answer of a command. -/
abbrev Answer := Host.Outcome State Fault Refusal

/-! ### Starting -/

/-- R219: the CQ of ring `n` can take one more completion beside those owed. It holds one entry less than its size, so that
a full queue differs from an empty one (DESIGN CHOICE, assumption 87). -/
def State.cqRoom (s : State) (n : Nat) : Bool :=
  let r := s.ring n
  let size := s.cqSize n
  decide ((r.cqTail + size - r.cqHead) % size + r.running.length + r.held.length + 1 < size)

/-- R221, R223: the FENCE or BARRIER of an entry is met: nothing of its ring still runs. -/
def State.fenceMet (s : State) (b : Sub) : Bool :=
  let r := s.ring b.ring.val
  !(b.fence || b.barrier) || (r.running.isEmpty && r.held.isEmpty)

/-- A ring command can start now: the farrier core serves rings (R202, R213, R423), the ring is enabled (R212), its
CQ has room (R219) and its FENCE is met (R221); a forwarded command needs a member (R321). -/
def State.serves (s : State) (p : Spelled) : Bool :=
  s.pwr.ready && s.pwr.farrier
  && (match s.pwr.mode with
      | .idle => true
      | .active => true
      | .halter => p.sub.ring.val == 0
      | _ => false)
  && (s.pwr.entry.isNone || p.row.op == 0x70)
  && (match p.sub.origin with
      | none => (s.ring p.sub.ring.val).enabled && s.cqRoom p.sub.ring.val && s.fenceMet p.sub
      | some _ => s.tm.isMember)

/-- R226, R322: an entry classified as executed enters the window of its origin and ring. -/
def originOpen (seq digest : Word) (w : OriginWindow) : OriginWindow :=
  if w.window.any (fun e => e.seq == seq && !e.done) then w else
  { w with seqValid := true, lastSeq := seq, window := windowPut w.window ⟨seq, false, 0, 0, 0, digest⟩ }

/-- R226: the entry is classified as executed: it enters the window of its ring, or of its origin (R322). -/
def startWindow (p : Spelled) (s : State) : State :=
  match p.sub.origin with
  | none => windowOpen p.sub.ring.val p.sub.seq (digestOf p.entry) s
  | some o => mapOrigin o p.sub.ring.val (originOpen p.sub.seq (digestOf p.entry)) s

/-! ### Checks 4 to 8 of R228 -/

/-- A group or team target (Table 10.6). -/
def groupTarget (t : BitVec 11) : Bool :=
  decide (0x600 ≤ t.toNat ∧ t.toNat ≤ 0x6FF) || t == 0x7FF

/-- R217, R233, R261: the command accepts the `TARGET`. -/
def targetOk (k : TargetKind) (t : BitVec 11) : Bool :=
  match k with
  | .any => decide (t.toNat ≤ 0x400) || groupTarget t
  | .single => decide (t.toNat ≤ 0x400)
  | .localOnly => t == 0x400

/-- Checks 4 to 7 of R228. -/
def State.entryCheck (s : State) (p : Spelled) : Option Half :=
  if p.row.admin && p.sub.ring.val != 0 then some stNotAuthorized
  else if s.pwr.mode == .halter && !p.row.halter then some stWrongState
  else if !targetOk p.row.target p.sub.target then some stBadTarget
  else if p.sub.atTick && !p.row.atTick then some stBadOperand
  else none

/-- R262: the session is open for the origin of the command: the engine of the login, and its ring 0. -/
def State.sessionOk (s : State) (b : Sub) : Bool :=
  match s.sec.session with
  | some e => b.ring.val == 0 && e.origin == b.origin
  | none => false

/-- R262: an executed command that needs a session restarts its 600 s. -/
def sessionTouch (s : State) : State :=
  s.mapSec fun c => { c with session := c.session.map fun e => { e with last := s.clk.loc } }

/-- Execution on this engine: agreement (R327), session (check 8), then the command itself. -/
def runHere (p : Spelled) (body : State → State) (s : State) : State :=
  if s.tm.divergent && groupTarget p.sub.target then finish p.row.op p.sub stDivergent 0 s
  else if s.tm.excluded && p.sub.origin.isSome then finish p.row.op p.sub stVersion 0 s
  else if !p.row.session then body s
  else if s.sessionOk p.sub then body (sessionTouch s)
  else finish p.row.op p.sub stNotAuthorized 0 s

/-! ### Forwarding (R320, R321) -/

/-- A member, or this engine, is in the group that a target names (Table 12.7, R321). -/
def inGroup (groups : List Half) (t : BitVec 11) : Bool :=
  t == 0x7FF || groups.any fun g => g.getLsbD 15 && g.toNat % 256 + 0x600 == t.toNat

/-- R321: the targets that a `TARGET` has on the lead. A group has the members that list it; which do is the `k`-th free choice
(assumption 25). -/
def State.targetsOf (s : State) (k : Nat) (t : BitVec 11) : List (BitVec 10) :=
  if groupTarget t then
    (if inGroup s.frm.params.groups t then [s.engineId] else [])
      ++ (s.tm.members.filter fun m => t == 0x7FF || Config.listsGroup k m.groups m.id t).map Member.id
  else (s.tm.members.filter fun m => m.id.toNat == t.toNat).map Member.id

/-- Byte `k` of an entry, `n` bytes long. -/
def entryField (e : BitVec 512) (k n : Nat) : Nat := e.toNat / 2 ^ (8 * k) % 2 ^ (8 * n)

/-- R320: a `TIMING_SET` entry without `MASK` bit 0 and its P_NOM. -/
def withoutPNom (e : BitVec 512) : BitVec 512 :=
  BitVec.ofNat 512 (e.toNat - 2 ^ 128 * (entryField e 16 2 % 2) - 2 ^ 160 * entryField e 20 4)

/-- R320: the engines whose composition lead does not fit a new P_NOM (R35 with P_MIN of R27): every member by its latest
digest, and the lead by its committed scene. -/
def State.leadTooLong (s : State) (pNom : Nat) : List (BitVec 10) :=
  let p := { s.view with pNom := pNom }
  ((s.tm.members.filter fun m => decide (100 * pNom < 102 * 1000 * (m.leadUs + 30))).map Member.id)
    ++ (if s.scn.cur.isSome && !budgetOk s.curBytes p.leadFix p.tGuard p.pNom (p.isInternal (s.teamWith p)) then [s.engineId]
        else [])

/-- The first tick that the lead can still schedule (R317, R320): its last SCHEDULE fixed the period before it. -/
def State.schedulable (s : State) : Dword := s.tm.tickNo + 3

/-- The 64-bit tick that a frame number names next (R23). -/
def State.tickOf (s : State) (f : Word) : Dword := s.tm.tickNo + (f - s.frm.frame).zeroExtend 64

/-- R321, R327: the status with which the lead answers a command that it cannot forward: no engine has the target, or its one
target is excluded from commands. -/
def State.leadRefuses (s : State) (k : Nat) (t : BitVec 11) : Option Half :=
  if (s.targetsOf k t).isEmpty then some stUnreachable
  else if !groupTarget t && s.tm.members.any (fun m => m.id.toNat == t.toNat && m.state.getLsbD 5) then some stVersion
  else none

/-- The lead starts a forwarded command: CMD to every other target, and its own part (R321). -/
def leadStart (k : Nat) (b : Sub) (entry : BitVec 512) (body : State → State) (s : State) : State :=
  let op := entry.toNat % 256
  let t := b.target
  let targets := s.targetsOf k t
  let f : Forward := ⟨b, entry, groupTarget t, targets.map fun x => (x, .waiting 1)⟩
  let others := targets.filter fun x => x != s.engineId
  match s.leadRefuses k t with
  | some st => finish op b st 0 s
  | none =>
    let s := keepRunning b (s.mapTm fun m => { m with fwds := m.fwds ++ [f] })
    let s := if others.isEmpty then s else cmdDown f false t s
    if targets.contains s.engineId then body s else s

/-- R323: the answer of a group command that every target of `bad` refused and no target executed. -/
def leadRefuse (b : Sub) (entry : BitVec 512) (targets bad : List (BitVec 10)) (st : Half) (s : State) : State :=
  let c (x : BitVec 10) : Completion :=
    ⟨b.seq, if bad.contains x then st else stOk, BitVec.ofNat 8 b.ring.val, false, b.gap, b.tag, s.now, 0⟩
  let f : Forward := ⟨b, entry, true, targets.map fun x => (x, .answered (c x))⟩
  fwdSettle f (keepRunning b (s.mapTm fun m => { m with fwds := m.fwds ++ [f] }))

/-- R234, R254, R320: the status with which the lead refuses the operands of a group or team `TIMING_SET`: they are out of
range, their relations do not hold with the values in force, `FRAME` has passed, or 16 set commands are armed (R236). -/
def State.leadTimingBad (s : State) (b : Sub) (o : TimingOps) : Option Half :=
  let p := (TimingOps.changes o).foldl Params.apply s.view
  if !(TimingOps.shapeOk o && frameOperandOk b o.frame && p.timingOk (s.teamWith p)) then some stBadOperand
  else if b.atTick && s.passed o.frame then some stWrongState
  else if 16 ≤ s.armedSets then some stBusy
  else none

/-- R320: a group or team `TIMING_SET` with `MASK` bit 0 on the lead. -/
def leadTiming (k : Nat) (b : Sub) (entry : BitVec 512) (body : State → State) (s : State) : State :=
  let targets := s.targetsOf k b.target
  let o := entryTiming entry
  let bad := s.leadTooLong o.pNom.toNat
  if targets.isEmpty then finish 0x38 b stUnreachable 0 s
  else match s.leadTimingBad b o with
  | some st => leadRefuse b entry targets targets st s
  | none =>
    if !bad.isEmpty then leadRefuse b entry (targets ++ bad.filter fun x => !targets.contains x) bad stBudget s
    else
      let tick := if b.atTick then max s.schedulable.toNat (s.tickOf o.frame).toNat else s.schedulable.toNat
      let s := s.mapTm fun m => { m with teamP := m.teamP ++ [(BitVec.ofNat 64 tick, o.pNom.toNat)] }
      if o.mask = 1 then leadRefuse b entry targets [] stOk s
      else leadStart k b (withoutPNom entry) body s

/-- R321: what the lead does with a command that names another engine, a group or the team, whose targets are the `k`-th free
choice. -/
def leadForward (k : Nat) (b : Sub) (entry : BitVec 512) (body : State → State) (s : State) : State :=
  let s := if groupTarget b.target then s.draw.2 else s
  if groupTarget b.target && entry.toNat % 256 == 0x38 && entryField entry 16 2 % 2 == 1 then leadTiming k b entry body s
  else leadStart k b entry body s

/-! ### The host data of a forwarded command (R324; assumption 21) -/

/-- R324: the pieces of one chunk of at most 64 KiB, 1,016 bytes each (Table 13.4); a piece of fewer bytes, which may
hold none, ends the chunk (assumption 21). -/
def chunkPieces (off : Nat) (l : List Byte) : List (Word × List Byte) :=
  (List.range (l.length / 1016 + 1)).map fun k => (BitVec.ofNat 32 (off + 1016 * k), (l.drop (1016 * k)).take 1016)

/-- R324: the pieces of a stream with their offsets, chunk by chunk. -/
def bulkPieces (off : Nat) (l : List Byte) : List (Word × List Byte) :=
  (List.range (ceilDiv l.length 65536)).flatMap fun c =>
    chunkPieces (off + 65536 * c) ((l.drop (65536 * c)).take 65536)

/-- Send a routed frame towards an engine: down from the lead, else up (assumption 19). -/
def routeSend (f : TFrame) (s : State) : State := if s.tm.leading then sendDown f s else sendUp f s

/-- R324: the pieces in flight: those of the oldest chunk that is not acknowledged. -/
def Stream.flight (t : Stream) : List (Word × List Byte) :=
  match t.sent with
  | [] => []
  | e :: _ => t.sent.filter fun x => x.1.toNat / 65536 == e.1.toNat / 65536

/-- R324: where the data address of a piece of the chunk in flight lies: each chunk is staged in a block of its own, and the
blocks are those of the chunks in order. -/
def Stream.stagedAt (t : Stream) (off : Word) : Nat :=
  let left := (t.sent.map fun e => e.1.toNat / 65536).eraseDups.length
  65536 * t.blocks.getD (t.blocks.length - left) 0 + off.toNat % 65536

/-- R176, R324: send the pieces in flight of a stream. The engine reads them where they are staged: an access of kind 11. What a
piece holds of an uncorrectable unit is a free value (DESIGN CHOICE, assumption 21). -/
def streamSend (t : Stream) (s : State) : State :=
  let units := t.flight.flatMap fun e => unitsOf (t.stagedAt e.1) e.2.length
  let bad := units.eraseDups.filter fun u => s.pool.ue.contains u
  let s := meetUnits 11 units bad s
  t.flight.foldl (fun s e =>
    let (r, s) := if bad.isEmpty then ([], s) else s.random e.2.length
    let data := e.2.zipIdx.map fun x => if bad.contains (unitOf (t.stagedAt e.1 + x.2)) then r.getD x.2 0 else x.1
    routeSend (.bulk t.peer ⟨t.number, e.1, data⟩) s) s

/-- R324: the pieces of a stream are staged: the blocks hold them, chunk by chunk. -/
def streamStage (t : Stream) (s : State) : State :=
  let chunks := (t.sent.map fun e => e.1.toNat / 65536).eraseDups
  t.sent.foldl (fun s e =>
    memWrite (65536 * t.blocks.getD (chunks.idxOf (e.1.toNat / 65536)) 0 + e.1.toNat % 65536) e.2 s)
    (zeroBlocks t.blocks s)

/-- R324: open a stream to an engine, in blocks of channel 16; `fin` is the command that completes after its last chunk. -/
def streamOpen (number : Word) (peer : BitVec 11) (pieces : List (Word × List Byte)) (blocks : Nat)
    (fin : Option (Nat × Sub × Half × Dword)) (s : State) : State :=
  let (bs, s) := s.takeBlocks blocks false
  let t : Stream := ⟨number, peer, pieces, [], bs, fin, true⟩
  streamSend t (streamStage t (s.mapTm fun m => { m with streams := m.streams ++ [t] }))

/-- R324: how many bytes of host memory the command of an entry reads, from the address in its bytes 24 to 31. -/
def entryReads (e : BitVec 512) : Nat :=
  match entryOp e with
  | 0x13 => (e32 e 32).toNat
  | 0x81 => (e32 e 32).toNat
  | 0x88 => if e8 e 16 = 2 then 64 else 0
  | _ => 0

/-- R324: the pieces of data that a command reads. When its host refuses part of them, the last chunk ends early. -/
def readPieces (n : Nat) : HostRead → List (Word × List Byte)
  | .ok l => bulkPieces 0 (padTo n l)
  | .fail l =>
    bulkPieces 0 (l.take n) ++ (if l.length % 65536 = 0 then chunkPieces l.length [] else [])

/-- R324: the origin has the data that its forwarded command reads: they travel to the target. -/
def serveOpen (b : Sub) (n : Nat) (d : HostRead) (s : State) : State :=
  streamOpen b.seq b.target (readPieces n d) (ceilDiv n 65536) none s

/-- R324: the origin of a forwarded command reads its host for it; the data of a `COPY_IN` come with `DATA_MOVE_DONE`. -/
def originServe (b : Sub) (e : BitVec 512) (d : HostRead) (s : State) : State :=
  let n := entryReads e
  if n = 0 then s
  else
    let s := hostRead b (e64 e 24) n s
    if entryOp e = 0x13 then s.mapPool fun p =>
      { p with moves := p.moves ++ [⟨p.nextMove, .serve, 0, 0, e64 e 24, n, b⟩], nextMove := p.nextMove + 1 }
    else serveOpen b n d (readFailed b d s)

/-- R324: a stream of the data that the command of an entry reads cannot take its blocks. -/
def State.serveFull (s : State) (e : BitVec 512) : Bool :=
  let n := entryReads e
  n != 0 && (s.allocTest 16 (ceilDiv n 65536) false).isSome

/-- R321: a command whose target is not this engine alone; `d` is what the host's memory answers to its reads. -/
def forwardOut (p : Spelled) (d : HostRead) (body : State → State) (s : State) : State :=
  let b := p.sub
  if !s.tm.isMember then finish p.row.op b stUnreachable 0 s
  else if s.tm.divergent && groupTarget b.target then finish p.row.op b stDivergent 0 s
  else if s.serveFull p.entry then finish p.row.op b stNoSpace 0 s
  else if s.tm.leading then
    (if (s.leadRefuses s.free b.target).isSome then leadForward s.free b p.entry (runHere p body) s
     else originServe b p.entry d (leadForward s.free b p.entry (runHere p body) s))
  else match s.tm.parent with
    | none => finish p.row.op b stUnreachable 0 s
    | some _ =>
      originServe b p.entry d <|
      let f : Forward := ⟨b, p.entry, false, [(s.tm.lead.getD 0x3FF, .waiting 1)]⟩
      sendUp (.cmd 0x400 ⟨s.engineId.zeroExtend 16, BitVec.ofNat 8 b.ring.val, false, p.entry⟩)
        (keepRunning b (s.mapTm fun m => { m with fwds := m.fwds ++ [f] }))

/-- The command executes on this engine alone: it came here as CMD, or names this engine (Table 10.6). -/
def State.namesSelf (s : State) (b : Sub) : Bool :=
  b.origin.isSome || b.target == 0x400 || (s.tm.id.map fun i => i.toNat == b.target.toNat) == some true

/-- A ring command that starts: R226, then R228. -/
def ringStart (p : Spelled) (d : HostRead) (body : State → State) (s : State) : State :=
  let s := startWindow p s
  match s.entryCheck p with
  | some st => finish p.row.op p.sub st 0 s
  | none => if s.namesSelf p.sub then runHere p body s else forwardOut p d body s

/-- R235: what the host's memory answers to a command that reads it as it starts. -/
def hostAnswer : Instr → HostRead
  | .updateWrite _ _ _ _ d => d
  | .authLogin _ _ d => d
  | .passwordSet _ _ _ _ _ d => d
  | _ => .ok []

/-- A ring command: nothing happens while it cannot start. -/
def ringCmd (i : Instr) (body : State → State) (s : State) : Answer :=
  match spelled i with
  | none => .next s
  | some p => .next (if s.serves p then ringStart p (hostAnswer i) body s else s)

/-! ### Answers to the host of the origin (R235, R324) -/

/-- Stream offset at which the second host address of a command begins (assumption 21). -/
def secondHost : Nat := 0x80000000

/-- Tables 11.2 to 11.13, 12.7, R290: the optional host addresses of the commands, by `OPCODE` and first or second address. -/
def hostOptional (op k : Nat) : Bool :=
  [(0x02, 0), (0x12, 0), (0x31, 0), (0x44, 1), (0x61, 0), (0x64, 0), (0xA0, 0)].contains (op, k)

/-- R235: the writes of a command in ascending address order. -/
def hostOrder : List (Nat × Dword × List Byte) → List (Nat × Dword × List Byte)
  | [a, b] => if b.2.1.toNat < a.2.1.toNat then [b, a] else [a, b]
  | l => l

/-- Complete a command with its host writes: (first or second address, the address, the bytes). An engine that
executes for another origin sends them as BULK (R324); address 0 of an optional host address is not used (R235). -/
def reply (op : Nat) (b : Sub) (st : Half) (res : Dword) (w : List (Nat × Dword × List Byte)) (s : State) : State :=
  let w := hostOrder (w.filter fun e => !(hostOptional op e.1 && e.2.1 == 0) && !e.2.2.isEmpty)
  match b.origin with
  | none => finish op b st res (w.foldl (fun s e => hostWrite e.2.1 e.2.2 s) s)
  | some o =>
    let n := (w.map fun e => e.2.2.length).sum
    if n = 0 then finish op b st res s
    else if (s.allocTest 16 (ceilDiv n 65536) false).isSome then finish op b stNoSpace 0 s
    else
      let pieces := w.flatMap fun e => bulkPieces (secondHost * e.1) e.2.2
      streamOpen b.seq (o.zeroExtend 11) pieces (ceilDiv n 65536) (some (op, b, st, res)) s

end Sys2Proof.Machine
end

