-- ==== Sys2Proof/Machine/Status.lean ====
section
/-!
DEFINITION. Status words that several commands and registers report: DEV_STATE (Table 18.6), the IDENT result
(Table 11.3), time quality (R314), the member state byte (Table 13.5), the safe state.
-/
namespace Sys2Proof.Machine

/-- A number of `w` bits at bit `lo` of a word that is being put together. -/
def at_ (v lo w : Nat) : Nat := v % 2 ^ w * 2 ^ lo

/-- The safe state (R345): 0 none, 1 FALLBACK_BEAM, 2 DARK. -/
def State.safe (s : State) : Nat := safeLevel s.causes

/-! ### JTAG (R444, R471) -/

/-- IEEE 1149.1: the state after a rising edge of TCK with `tms` on TMS (PRESUMED, assumption 72). -/
def TapState.next (tms : Bool) (t : TapState) : TapState :=
  match t, tms with
  | .testLogicReset, true => .testLogicReset
  | .testLogicReset, false => .runTestIdle
  | .runTestIdle, true => .selectDR
  | .runTestIdle, false => .runTestIdle
  | .selectDR, true => .selectIR
  | .selectDR, false => .captureDR
  | .captureDR, true => .exit1DR
  | .captureDR, false => .shiftDR
  | .shiftDR, true => .exit1DR
  | .shiftDR, false => .shiftDR
  | .exit1DR, true => .updateDR
  | .exit1DR, false => .pauseDR
  | .pauseDR, true => .exit2DR
  | .pauseDR, false => .pauseDR
  | .exit2DR, true => .updateDR
  | .exit2DR, false => .shiftDR
  | .updateDR, true => .selectDR
  | .updateDR, false => .runTestIdle
  | .selectIR, true => .testLogicReset
  | .selectIR, false => .captureIR
  | .captureIR, true => .exit1IR
  | .captureIR, false => .shiftIR
  | .shiftIR, true => .exit1IR
  | .shiftIR, false => .shiftIR
  | .exit1IR, true => .updateIR
  | .exit1IR, false => .pauseIR
  | .pauseIR, true => .exit2IR
  | .pauseIR, false => .pauseIR
  | .exit2IR, true => .updateIR
  | .exit2IR, false => .shiftIR
  | .updateIR, true => .selectDR
  | .updateIR, false => .runTestIdle

/-- Table 20.1, R471: a rising edge of TCK with TRST_N high. While JTAG is disabled the TAP is held in Test-Logic-Reset. No row
of the table carries an edge: with its pins not driven, TRST_N is pulled down and the TAP stays where it is (assumption 72). -/
def tapClock (tms : Bool) (s : State) : State :=
  s.mapPwr fun p => { p with tap := if s.debugSet then .testLogicReset else p.tap.next tms }

/-- Table 20.1: the TAP as it stands, held in Test-Logic-Reset while JTAG is disabled. -/
def State.tapNow (s : State) : TapState := if s.debugSet then .testLogicReset else s.pwr.tap

/-- Table 20.1, IEEE 1149.1: TDO is driven while a register is shifted, and else high-impedance. -/
def State.tdoDriven (s : State) : Bool := s.tapNow == .shiftDR || s.tapNow == .shiftIR

/-! ### Words -/

/-- `DEV_STATE.POWER`, Table 18.6. -/
def State.powerCode (s : State) : Nat :=
  match s.pwr.mode with
  | .sleep => 5
  | .halter => 4
  | .idle => if s.pwr.entry.isSome then 3 else 1
  | .active => if s.pwr.entry.isSome then 3 else 2
  | _ => 0

/-- `DEV_STATE.SYNC`, R32. -/
def State.syncCode (s : State) : Nat :=
  if s.frm.src ≠ .fsync then 0 else
  match s.frm.sync.state with
  | .free => 0
  | .acquiring => 1
  | .locked => 2
  | .holdover => 3

/-- `DEV_STATE`, Table 18.6. -/
def State.devState (s : State) : Word :=
  BitVec.ofNat 32 <|
    flag s.pwr.ready + at_ s.syncCode 1 2 + at_ s.powerCode 3 3 + at_ s.safe 6 2 + at_ (flag s.road) 8 1
    + at_ (flag s.tm.isMember) 9 1 + at_ (flag s.tm.leading) 10 1 + at_ (flag s.tm.divergent) 11 1
    + at_ (flag s.fls.trial) 12 1 + at_ (flag (s.reg.staleS || s.reg.staleL)) 13 1 + at_ (flag s.flt.pin) 14 1
    + at_ s.engineId.toNat 16 10 + at_ (flag s.tm.id.isSome) 26 1

/-- R240: a running image exists: not in halter mode. -/
def State.imageRuns (s : State) : Bool := s.pwr.mode != .halter

/-- Major and minor of the running image (Table 20.6), zero in halter mode. -/
def State.imgMajor (s : State) : Nat := if s.imageRuns then s.fls.imgVer.toNat / 256 else 0
def State.imgMinor (s : State) : Nat := if s.imageRuns then s.fls.imgVer.toNat % 256 else 0

/-- `DEV_REV`, bits [31:0] of the `IDENT` result. -/
def devRev : Nat := Config.stepping.toNat + 256 * Config.romVersion.toNat + 0x04010000

/-- The `IDENT` result, Table 11.3. -/
def State.identResult (s : State) : Dword :=
  BitVec.ofNat 64 <|
    devRev + at_ s.variant.toNat 32 8 + at_ s.imgMajor 40 8 + at_ s.imgMinor 48 8
    + at_ (flag (s.pwr.mode == .halter)) 56 1 + at_ (flag s.lockSet) 57 1
    + at_ (flag (s.fls.trial && s.imageRuns)) 58 1

/-- R314: the class of the time quality. -/
def State.timeClass (s : State) : Nat :=
  if !s.actsFollower then
    (if s.clk.disc = .ptm ∧ !s.clk.ptmSettled then 1 else 3)
  else if !s.tm.isMember then 0
  else if !s.tm.heard then 1
  else if s.tm.settled then 3
  else if s.clk.offset.natAbs ≤ 500 then 2
  else 1

/-- R314: the time quality byte. -/
def State.quality (s : State) : Byte :=
  let own := !s.actsFollower
  let ptm := if own then decide (s.clk.disc = .ptm) && s.clk.ptmSettled && s.bus.ptmEn && s.clk.ptmCtx
    else s.tm.leadQ.getLsbD 3
  let sync := s.tm.leading || (!own && s.tm.tickSync)
  BitVec.ofNat 8 (s.timeClass + 8 * flag ptm + 16 * flag sync)

/-- `TIME_QUERY` and `TT_QUALITY`: 0 free-run, 1 PTM, 2 team (R314). -/
def State.discCode (s : State) : Nat :=
  match s.clk.disc with
  | .ptm => 1
  | .team => 2
  | _ => 0

/-- Hops to the lead, saturating in a byte. -/
def State.hops (s : State) : Nat :=
  if s.actsFollower then min 255 s.tm.dist else 0

/-- Table 13.5: the member state byte. -/
def State.memberState (s : State) : Byte :=
  let m := match s.pwr.mode with
    | .halter => 5
    | .idle => if s.safe = 2 then 4 else if s.safe = 1 then 3 else 1
    | .active => if s.safe = 2 then 4 else if s.safe = 1 then 3 else 2
    | _ => 0
  BitVec.ofNat 8 (m + 8 * flag s.tm.divergent + 16 * flag (s.actsFollower && !s.tm.tickSync)
    + 32 * flag s.tm.excluded)

/-- R351: ms left before the heartbeat expires (R271): 32,767 while the monitor is not armed, 0 after expiry. Which
whole number a part of a ms reads as is a free value (assumption 10). -/
def State.hbLeft (s : State) : Nat :=
  if !s.saf.hbArmed then 32767
  else if s.saf.hbExp then 0
  else
    msOf (1000000 * s.frm.params.hbTimeout - (s.clk.loc - s.saf.hbLast))

end Sys2Proof.Machine
end

