-- ==== Sys2Proof/Machine/PoolCmds.lean ====
section
/-!
DEFINITION. Pool and data-movement commands, the BAR4 aperture and the scrub (`11_commands_light.md`, R241 to R243;
`08_buffer_pool.md`, R165 to R178).
-/
namespace Sys2Proof.Machine

/-! ### Allocation -/

/-- Table 11.4: the channel charged, `none` for operands out of range. -/
def allocChannel (sub : Sub) (count : Half) (channel flags : Byte) : Option Nat :=
  if count = 0 ∨ poolBlocks < count.toNat ∨ 4 ≤ flags.toNat then none
  else if flags.getLsbD 1 then
    if channel.toNat < 16 ∨ channel.toNat = 17 then some channel.toNat else none
  else if channel = 0 then some sub.ring.val else none

/-- R165, R169: the allocation; its completion waits for zeroing. -/
def poolAllocBody (sub : Sub) (count : Half) (channel flags : Byte) (s : State) : State :=
  match allocChannel sub count channel flags with
  | none => finish 0x10 sub stBadOperand 0 s
  | some c =>
    match s.allocTest c count.toNat (flags.getLsbD 0) with
    | some st => finish 0x10 sub st 0 s
    | none => keepRunning sub (newHandle c count.toNat (flags.getLsbD 0) (some sub) s).2

/-- `POOL_ALLOC` (R165, R169, R241). -/
def execPoolAlloc (sub : Sub) (count : Half) (channel flags : Byte) (s : State) : Answer :=
  ringCmd (.poolAlloc sub count channel flags) (poolAllocBody sub count channel flags) s

/-- R241: the result of an allocation. -/
def Handle.allocResult (h : Handle) : Dword :=
  BitVec.ofNat 64 (h.value.toNat + at_ h.blocks.length 16 16 + at_ (h.blocks.getD 0 0) 32 16)

/-- `ZEROING_DONE` (R165): every byte of the blocks is zero and the `POOL_ALLOC` completes. -/
def execZeroingDone (handle : Half) (s : State) : Answer :=
  .next <| match s.handleAny handle with
    | none => s
    | some h =>
      match h.waiting with
      | none => s
      | some sub =>
        finish 0x10 sub stOk h.allocResult
          (mapHandle h.slot (fun h => { h with waiting := none }) (zeroBlocks h.blocks s))

/-! ### Freeing and queries -/

/-- R171. -/
def poolFreeBody (sub : Sub) (handle : Half) (s : State) : State :=
  match s.handle handle with
  | none => finish 0x11 sub stBadHandle 0 s
  | some h =>
    if (s.surfacesOn h).any s.sceneBound then finish 0x11 sub stInUse 0 s
    else if s.postOnHandle h || s.moveOn h then
      finish 0x11 sub stOkDeferred 0 (mapHandle h.slot (fun h => { h with freeing := true }) s)
    else finish 0x11 sub stOk 0 (returnBlocks h s)

/-- `POOL_FREE` (R171). -/
def execPoolFree (sub : Sub) (handle : Half) (s : State) : Answer :=
  ringCmd (.poolFree sub handle) (poolFreeBody sub handle) s

/-- The length of the longest run of free blocks. -/
def longestRun (free : List Nat) : Nat :=
  (free.foldl (fun (a : Nat × Nat × Nat) b =>
    let run := if a.2.1 + 1 = b ∧ 0 < a.2.2 then a.2.2 + 1 else 1
    (max a.1 run, b, run)) (0, 0, 0)).1

/-- Table 11.5, `HANDLE` 0: `RESULT` and the 18 records. -/
def State.poolSummary (s : State) : Dword × List Byte :=
  let free := s.freeBlocks
  (BitVec.ofNat 64 (free.length + at_ (longestRun free) 16 16 + at_ s.pool.handles.length 32 16),
    (List.range 18).flatMap fun c => b2 (s.held c) ++ b2 (s.reserve c) ++ b2 (s.limit c) ++ b2 0)

/-- Table 11.5, a handle: `RESULT` and its block list. -/
def Handle.report (h : Handle) : Dword × List Byte :=
  (BitVec.ofNat 64 (at_ h.blocks.length 0 16 + at_ h.channel 16 5 + at_ (flag h.freeing) 21 1
      + at_ (h.blocks.getD 0 0) 32 16),
    h.blocks.flatMap b2)

/-- R242. -/
def poolQueryBody (sub : Sub) (handle : Half) (dest : Dword) (s : State) : State :=
  if handle = 0 then reply 0x12 sub stOk s.poolSummary.1 [(0, dest, s.poolSummary.2)] s
  else match s.handleAny handle with
    | none => finish 0x12 sub stBadHandle 0 s
    | some h => reply 0x12 sub stOk h.report.1 [(0, dest, h.report.2)] s

/-- `POOL_QUERY` (R242). -/
def execPoolQuery (sub : Sub) (handle : Half) (dest : Dword) (s : State) : Answer :=
  ringCmd (.poolQuery sub handle dest) (poolQueryBody sub handle dest) s

/-! ### Data moves (R243) -/

/-- R243: start a data move: `HANDLE`, the ranges, then the move; a zero `LENGTH` moves nothing. -/
def moveBody (op : Nat) (kind : MoveKind) (sub : Sub) (handle : Half) (offset : Word) (host : Dword) (length : Word)
    (ok : Bool) (s : State) : State :=
  match s.handle handle with
  | none => finish op sub stBadHandle 0 s
  | some h =>
    if h.size < offset.toNat + length.toNat ∨ !ok then finish op sub stBadOperand 0 s
    else if length = 0 then finish op sub stOkZero 0 s
    else keepRunning sub <| (if kind = .copyIn then hostRead sub host length.toNat s else s).mapPool fun p =>
      { p with
        moves := p.moves ++ [⟨p.nextMove, kind, handle, offset.toNat, host, length.toNat, sub⟩]
        nextMove := p.nextMove + 1 }

/-- `COPY_IN`. -/
def execCopyIn (sub : Sub) (handle : Half) (offset : Word) (host : Dword) (length : Word) (s : State) : Answer :=
  ringCmd (.copyIn sub handle offset host length) (moveBody 0x13 .copyIn sub handle offset host length true) s

/-- `COPY_OUT`. -/
def execCopyOut (sub : Sub) (handle : Half) (offset : Word) (host : Dword) (length : Word) (s : State) : Answer :=
  ringCmd (.copyOut sub handle offset host length) (moveBody 0x14 .copyOut sub handle offset host length true) s

/-- Table 11.4: the ranges of `FILL`. -/
def fillOk (offset length : Word) (width : Byte) (pattern : Dword) : Bool :=
  [1, 2, 4, 8].contains width.toNat && offset.toNat % width.toNat == 0 && length.toNat % width.toNat == 0
    && decide (pattern.toNat < 2 ^ (8 * width.toNat))

/-- `FILL`. -/
def execFill (sub : Sub) (handle : Half) (offset length : Word) (width : Byte) (pattern : Dword) (s : State) :
    Answer :=
  ringCmd (.fill sub handle offset length width pattern)
    (moveBody 0x15 (.fill width.toNat pattern) sub handle offset 0 length
      (fillOk offset length width pattern)) s

/-- `OPCODE` of a data move. -/
def MoveKind.op : MoveKind → Nat
  | .copyIn => 0x13
  | .copyOut => 0x14
  | .fill _ _ => 0x15
  | .serve => 0x13

/-- Table 08.5: the first uncorrectable unit that stops an access of `n` bytes from `off` of a handle, with the
number of bytes before it. A write stops only at a unit that it covers in part. -/
def State.stopUnit (s : State) (h : Handle) (off n : Nat) (isWrite : Bool) : Option (Nat × Nat) :=
  ((h.units off n).zipIdx.find? fun e =>
    let start := (off / 64 + e.2) * 64
    s.pool.ue.contains e.1 && !(isWrite && decide (off ≤ start ∧ start + 64 ≤ off + n))).map
    fun e => ((off / 64 + e.2) * 64 - off, e.1)

/-- Table 08.5: the units that a write of `n` bytes at `off` of a handle covers in part. -/
def Handle.partUnits (h : Handle) (off n : Nat) : List Nat :=
  ((h.units off n).zipIdx.filter fun e =>
    let start := (off / 64 + e.2) * 64
    !decide (off ≤ start ∧ start + 64 ≤ off + n)).map Prod.fst

/-- Write `bs` at `off` of a handle, up to an uncorrectable unit covered in part; whether all was written. -/
def moveWrite (h : Handle) (off : Nat) (bs : List Byte) (s : State) : Bool × State :=
  match s.stopUnit h off bs.length true with
  | none => (true, poolWrite h (bs.length + 1) off bs (meetUnits 7 (h.partUnits off bs.length) [] s))
  | some (n, u) => (false, poolWrite h (n + 1) off (bs.take n) (meetUnits 7 (h.partUnits off n) [u] s))

/-- R243: the bytes that a `FILL` writes. -/
def fillBytes (width pattern length : Nat) : List Byte :=
  let p := leBytes pattern width
  (List.range length).map fun k => p.getD (k % width) 0

/-- R235, R243: the data of a move; the state after it and its status. -/
def moveRun (m : Move) (h : Handle) (host : HostRead) (s : State) : Half × State :=
  match m.kind with
  | .copyIn =>
    match host with
    | .ok bs =>
      let (ok, s) := moveWrite h m.offset (padTo m.length bs) s
      (if ok then stOk else stMemError, s)
    | .fail bs => (stMemError, readFailed m.sub host (moveWrite h m.offset (bs.take m.length) s).2)
  | .fill w p =>
    let (ok, s) := moveWrite h m.offset (fillBytes w p.toNat m.length) s
    (if ok then stOk else stMemError, s)
  | .serve => (stOk, s)
  | .copyOut =>
    match s.stopUnit h m.offset m.length false with
    | none => (stOk, meetUnits 6 (h.units m.offset m.length) [] s)
    | some (n, u) => (stMemError, meetUnits 6 (h.units m.offset n) [u] s)

/-- The bytes that a `COPY_OUT` moves to the host. -/
def moveOut (m : Move) (h : Handle) (s : State) : List Byte :=
  match m.kind with
  | .copyOut =>
    match s.stopUnit h m.offset m.length false with
    | none => s.poolBytes h m.offset m.length
    | some (n, _) => s.poolBytes h m.offset n
  | _ => []

/-- R197: the data that a move of this engine's own host asks for cannot have come: its read request is held back, or the
link is down. -/
def State.moveWaits (s : State) (m : Move) (host : HostRead) : Bool :=
  let reads := match m.kind with
    | .copyIn => m.sub.origin.isNone
    | .serve => true
    | _ => false
  match host with
  | .ok _ => reads && (!s.bus.linkUp || s.bus.held.any fun o => match o with
    | .memRead a _ _ => decide (m.host.toNat ≤ a.toNat ∧ a.toNat < m.host.toNat + m.length)
    | _ => false)
  | .fail _ => false

/-- R324: the data that have come for a command of another origin which reads `n` bytes: all, or those before the end of a
stream that ends early; none while more are to come. -/
def readGot (got : List (Word × List Byte)) (n : Nat) : Option HostRead :=
  let l := got.flatMap Prod.snd
  if n ≤ l.length then some (.ok (l.take n))
  else match got.getLast? with
    | some e => if e.2.length < 1016 ∧ (l.length % 65536 ≠ 0 ∨ e.2 = []) then some (.fail l) else none
    | none => none

/-- R324: what has come of the data of the command that `b` names. -/
def State.readOf (s : State) (b : Sub) (n : Nat) : Option HostRead :=
  (s.tm.streams.find? fun t => !t.out && t.number == b.seq && some t.peer == b.origin.map fun o => o.zeroExtend 11).bind
    fun t => readGot t.got n

/-- R324: the stream of such a command ends with it. -/
def readDrop (b : Sub) (s : State) : State :=
  s.mapTm fun t => { t with streams := t.streams.filter fun x =>
    !(!x.out && x.number == b.seq && some x.peer == b.origin.map fun o => o.zeroExtend 11) }

/-- R324: the data of a `COPY_IN`: what this engine's host answered, or what has come from the origin's. -/
def State.moveData (s : State) (m : Move) (host : HostRead) : Option HostRead :=
  match m.kind, m.sub.origin with
  | .copyIn, some _ => s.readOf m.sub m.length
  | _, _ => some host

/-- The bytes of a full eye scan (R208). -/
def eyeBytes : Nat := 16256

/-- R243: a move that writes the pool. -/
def Move.writes (m : Move) : Bool :=
  match m.kind with
  | .copyOut => false
  | .serve => false
  | _ => true

/-- R222: a command that started as number `id` on the ring of `b` writes `n` bytes of a handle from `off` on; one that started
before it on that ring and still runs, a data move or a full eye scan, writes some of them too: it ends first. -/
def State.writeBehind (s : State) (id : Nat) (b : Sub) (handle : Half) (off n : Nat) : Bool :=
  let before (id' : Nat) (b' : Sub) (handle' : Half) (off' n' : Nat) : Bool :=
    decide (id' < id) && b'.ring == b.ring && b'.origin == b.origin && handle' == handle
      && decide (off' < off + n ∧ off < off' + n')
  (s.pool.moves.any fun x => x.writes && before x.id x.sub x.handle x.offset x.length)
  || (s.lan.l.filterMap Lane.scan).any fun x => x.full && before x.id x.sub x.handle x.offset eyeBytes

/-- R222: a move waits for an earlier command of its ring that writes what it writes. -/
def State.moveBehind (s : State) (m : Move) : Bool := m.writes && s.writeBehind m.id m.sub m.handle m.offset m.length

/-- R324: a forwarded command whose stream can take no blocks completes with `ST_NO_SPACE` and waits for its targets no more. -/
def serveRefuse (f : Forward) (s : State) : State :=
  finish (entryOp f.entry) f.sub stNoSpace 0 (s.mapTm fun t => { t with fwds := t.fwds.filter fun g => g != f })

/-- `DATA_MOVE_DONE` (R243): the move takes effect as one (assumption 15); `ue` are units newly met
uncorrectable, `ce` units in which single-bit errors have arisen. -/
def execDataMoveDone (id : Nat) (host : HostRead) (ue ce : List Nat) (s : State) : Answer :=
  .next <| match s.pool.moves.find? fun m => m.id == id with
    | none => s
    | some m =>
      if s.moveWaits m host || s.moveBehind m then s else
      match s.moveData m host with
      | none => s
      | some host =>
      let s := if m.kind = .copyIn then readDrop m.sub s else s
      let s := noteCe ce (noteUe ue (s.mapPool fun p => { p with moves := p.moves.filter fun x => x.id != id }))
      if m.kind = .serve then
        (let s := readFailed m.sub host s
         match s.fwdBy none m.sub.ring.val m.sub.seq m.sub.reply with
         | none => s
         | some f => if s.serveFull f.entry then serveRefuse f s else serveOpen m.sub m.length host s) else
      match s.handleAny m.handle with
      | none => finish m.kind.op m.sub stMemError 0 s
      | some h =>
        let out := moveOut m h s
        let (st, s) := moveRun m h host s
        reply m.kind.op m.sub st (BitVec.ofNat 64 m.length) [(0, m.host, out)] (freeingMove m.handle s)

/-! ### The BAR4 aperture (R173, R174) -/

/-- R174: the access lies in allocated blocks of the pool. The blocks of an allocation that is still being zeroed, and those
that channel 16 holds for a staged stream, count as allocated (DESIGN CHOICE, assumption 87). -/
def State.apertureOk (s : State) (a n : Nat) : Bool :=
  decide (a + n ≤ poolBlocks * 65536) && s.heldBlocks.contains (a / 65536) && !s.pwr.selfRefresh
    && s.heldBlocks.contains ((a + n - 1) / 65536)

/-- R174: `F_APERTURE`; Table 15.6 gives it no data. -/
def apertureRefused (s : State) : State := raise fAperture [] s

/-- BAR4 is answered: the link is up, Memory Space Enable is set, the function is not in D3hot (R197). -/
def State.memOn (s : State) : Bool := s.bus.linkUp && s.bus.memEn && !s.bus.d3 && s.pwr.configReady

/-- R199: a memory request that no BAR decodes is an Unsupported Request, which the standard assigns to the endpoint that
receives it; the log of AER raises `F_LINK_AER`. While the function is not ready, it answers no such request (R201). -/
def undecoded (posted : Bool) (s : State) : State :=
  if s.bus.linkUp && s.pwr.configReady && !s.memOn then
    raise fLinkAer [] (busReply (if posted then .errNonfatal else .readUnsupported) (aerLog unsupportedRequest s))
  else s

/-- `BAR4_READ` (R174, R176): zero data outside allocated blocks; poisoned data with an uncorrectable unit, which AER reports
(Table 08.5). -/
def execBar4Read (offset : BitVec 27) (length : Nat) (ue ce : List Nat) (s : State) : Answer :=
  .next <|
    if !s.memOn then undecoded false s
    else if !s.apertureOk offset.toNat length then
      busReply (.bar4Data (List.replicate length 0) false) (apertureRefused s)
    else
      let s := noteCe ce (noteUe ue s)
      let units := unitsOf offset.toNat length
      let bad := units.filter fun u => s.pool.ue.contains u
      let q := unitRaises 4 units bad ([], s)
      busReply (.bar4Data (cellsGet 0 s.pool.mem offset.toNat length) (!bad.isEmpty))
        (raised (if bad.isEmpty then q else waitRaise fLinkAer [] (q.1, aerUncorrectable q.2)))

/-- The bytes of a BAR4 write at `a` that fall into the unit `u`. -/
def unitPart (a : Nat) (bytes : List (Option Byte)) (u : Nat) : List (Option Byte) :=
  (List.range 64).map fun k => if a ≤ u + k ∧ u + k < a + bytes.length then bytes.getD (u + k - a) none else none

/-- R174: the write of one unit's bytes: whole, as a read-modify-write, or discarded when the unit is uncorrectable. -/
def unitWrite (a : Nat) (bytes : List (Option Byte)) (u : Nat) (s : State) : State :=
  let idx := unitPart a bytes u
  if idx.all Option.isSome then memWrite u (idx.map fun b => b.getD 0) s
  else if idx.all Option.isNone then s
  else if s.pool.ue.contains u then s
  else memWrite u ((List.range 64).map fun k => (idx.getD k none).getD (cellGet 0 s.pool.mem (u + k))) s

/-- R174: the write covers unit `u` in part. -/
def unitPartial (a : Nat) (bytes : List (Option Byte)) (u : Nat) : Bool :=
  (unitPart a bytes u).any Option.isSome && (unitPart a bytes u).any Option.isNone

/-- `BAR4_WRITE` (R174, R176); a byte without its enable is `none`. A write discarded for a unit is reported, and logged in AER
(R199). -/
def execBar4Write (offset : BitVec 27) (bytes : List (Option Byte)) (ue ce : List Nat) (s : State) : Answer :=
  .next <|
    if !s.memOn then undecoded true s
    else if !s.apertureOk offset.toNat bytes.length then apertureRefused (busAwake s)
    else
      let s := busAwake s
      let s := noteCe ce (noteUe ue s)
      let units := unitsOf offset.toNat bytes.length
      let part := units.filter fun u => unitPartial offset.toNat bytes u
      let bad := part.filter fun u => s.pool.ue.contains u
      let q := unitRaises 5 part bad ([], s)
      let t := units.foldl (fun s u => unitWrite offset.toNat bytes u s) q.2
      if bad.isEmpty then raised (q.1, t) else raised (waitRaise fLinkAer [] (q.1, errNonfatal t))

/-! ### The scrub (R178) -/

/-- The unit that the scrub reads next, as a data address. -/
def State.scrubUnit (s : State) : Nat := 64 * s.pool.scrub

/-- R178: the scrub runs while the DRAM is trained and neither in SLEEP nor in reset. -/
def State.scrubOn (s : State) : Bool :=
  s.pwr.hasDram && !s.pwr.selfRefresh && s.pwr.mode != .sleep && s.pwr.mode != .reset && s.pwr.mode != .standby
    && s.pwr.mode != .off

/-- R176, R177: what the scrub finds in unit `u`, where `r` is a new find: an uncorrectable unit stays so, and a single-bit
error stays until it is met. The words that such an error of earlier stands in are a free value (assumption 10). -/
def State.scrubFinds (s : State) (u : Nat) (r : ScrubResult) : ScrubResult :=
  match r with
  | .uncorrectable w => .uncorrectable w
  | .corrected w => if s.pool.ue.contains u then .uncorrectable (memWords s.free) else .corrected w
  | .clean =>
    if s.pool.ue.contains u then .uncorrectable (memWords s.free)
    else if s.pool.ce.contains u then .corrected (memWords s.free) else .clean

/-- `SCRUB_READ` (R176, R178). -/
def execScrubRead (r : ScrubResult) (s : State) : Answer :=
  .next <|
    if !s.scrubOn then s
    else
      let u := s.scrubUnit
      let s := s.mapPool fun p => { p with scrub := if p.scrub + 1 < 0x1C0000 then p.scrub + 1 else 0 }
      let find := s.scrubFinds u r
      let s := if find = r then s else s.draw.2
      match find with
      | .clean => s
      | .corrected w =>
        raise fMemCe (memData u 0 w.toNat 0 0) (s.mapPool fun p => { p with ce := p.ce.filter fun x => x != u })
      | .uncorrectable w => raise fMemUe (memData u 0 w.toNat 0 0) (noteUe [u] s)

end Sys2Proof.Machine
end

