-- ==== Sys2Proof/Machine/SetCmds.lean ====
section
/-!
DEFINITION. The set commands (`11_commands_light.md`, R236 to R238, R254 to R258; `12_commands_system.md`, R270,
R272 to R275) and what an application does to the configuration CRC (R238, R413).
-/
namespace Sys2Proof.Machine

/-! ### Configuration items (R411 to R413) -/

/-- Table 18.4: the change touches the shared partition. -/
def Change.isShared : Change → Bool
  | .pNom _ => true
  | .dutyN _ => true
  | .pwmK _ => true
  | .oCam _ => true
  | .dither _ => true
  | .floorC _ => true
  | .policy _ => true
  | _ => false

/-- R411: the change is one of a configuration item; the move between IDLE and ACTIVE is not. -/
def Change.isItem : Change → Bool
  | .idle _ => false
  | _ => true

/-- R413: an application that touches items of the partitions named. -/
def cfgTouch (sh lo : Bool) (s : State) : State :=
  s.mapReg fun r =>
    { r with
      staleAtS := if sh && !r.staleS then s.clk.loc else r.staleAtS
      staleAtL := if lo && !r.staleL then s.clk.loc else r.staleAtL
      staleS := r.staleS || sh, staleL := r.staleL || lo
      freshS := r.freshS && !sh, freshL := r.freshL && !lo
      touchS := r.touchS || sh, touchL := r.touchL || lo }

/-- R238: the application of changes touches their partitions. -/
def touchChanges (l : List Change) (s : State) : State :=
  cfgTouch (l.any Change.isShared) (l.any fun c => c.isItem && !c.isShared) s

/-! ### Timing (R254 to R256) -/

/-- R320: the part of a group or team `TIMING_SET` that the lead itself executes. -/
def State.timingPart (s : State) (sub : Sub) (o : TimingOps) : TimingOps :=
  if s.tm.leading && groupTarget sub.target then { o with mask := o.mask &&& 0xFFFE, pNom := 0 } else o

/-- `TIMING_SET`. -/
def timingBody (sub : Sub) (o : TimingOps) (s : State) : State :=
  let o := s.timingPart sub o
  let l := TimingOps.changes o
  let p := l.foldl Params.apply s.view
  setCmd 0x38 sub o.mask o.frame
    (TimingOps.shapeOk o)
    (if s.actsFollower && o.mask.getLsbD 0 then some stWrongState else s.timingCheck l) l
    (leadUs s.curBytes p.leadFix p.tGuard) s

/-- `TIMING_SET` (R254 to R256). -/
def execTimingSet (sub : Sub) (o : TimingOps) (s : State) : Answer := ringCmd (.timingSet sub o) (timingBody sub o) s

/-- The fields of `SYNC_SET` by `MASK` bit. -/
def SyncOps.fields (o : SyncOps) : List (Nat × Nat) :=
  [(0, o.source.toNat), (1, o.ms.toNat), (1, o.ns.toNat), (2, o.edge.toNat), (3, o.phase.toNat),
    (4, o.foEnable.toNat), (4, o.foDiv.toNat), (4, o.foCam.toNat), (4, o.foWidth.toNat), (4, o.foOffset.toNat)]

/-- The changes that `SYNC_SET` selects. -/
def SyncOps.changes (o : SyncOps) : List Change :=
  selected o.mask
    [(0, [.source (o.source == 1)]), (1, [.ratio o.ms.toNat o.ns.toNat]), (2, [.edge (o.edge == 1)]),
      (3, [.phase o.phase.toNat]),
      (4, [.fsyncOut (o.foEnable == 1) o.foDiv.toNat (o.foCam == 1) o.foWidth.toNat o.foOffset.toNat])]

/-- `SYNC_SET`. -/
def syncBody (sub : Sub) (o : SyncOps) (s : State) : State :=
  let l := SyncOps.changes o
  setCmd 0x39 sub o.mask o.frame
    (maskOk o.mask 5 (SyncOps.fields o) && decide (o.source.toNat ≤ 1) && decide (o.edge.toNat ≤ 1)
      && decide (o.foEnable.toNat ≤ 1) && decide (o.foCam.toNat ≤ 1))
    (if s.actsFollower && o.mask &&& 0xF != 0 then some stWrongState else s.timingCheck l) l 0 s

/-- `SYNC_SET` (R254 to R256). -/
def execSyncSet (sub : Sub) (o : SyncOps) (s : State) : Answer := ringCmd (.syncSet sub o) (syncBody sub o) s

/-- Table 11.11: the dither modes. -/
def ditherOf (b : Byte) : Dither :=
  match b.toNat with
  | 0 => .spatialTemporal
  | 1 => .spatial
  | _ => .off

/-- The changes that `PWM_SET` selects. -/
def PwmOps.changes (o : PwmOps) : List Change :=
  selected o.mask
    [(0, [.dutyN o.n.toNat]), (1, [.pwmK o.k.toNat]), (2, [.oCam o.oCam.toNat]), (3, [.dither (ditherOf o.dither)])]

/-- R256: K that will apply, and f_pwm at P_NOM in units of 10 kHz. -/
def Params.pwmResult (p : Params) (team : Bool) : Nat :=
  p.kEff team % 65536 + 65536 * (p.kEff team * 2 ^ p.dutyN * 100000 / p.pNom % 65536)

/-- `PWM_SET`. -/
def pwmBody (sub : Sub) (o : PwmOps) (s : State) : State :=
  let l := PwmOps.changes o
  let p := l.foldl Params.apply s.view
  setCmd 0x3A sub o.mask o.frame
    (maskOk o.mask 4 [(0, o.n.toNat), (1, o.k.toNat), (2, o.oCam.toNat), (3, o.dither.toNat)]
      && decide (o.dither.toNat ≤ 2) && (!o.mask.getLsbD 0 || decide (8 ≤ o.n.toNat ∧ o.n.toNat ≤ 16)))
    (s.timingCheck l) l (p.pwmResult (s.teamWith p)) s

/-- `PWM_SET` (R41, R254, R256). -/
def execPwmSet (sub : Sub) (o : PwmOps) (s : State) : Answer := ringCmd (.pwmSet sub o) (pwmBody sub o) s

/-! ### Array and photometry (R83, R258) -/

/-- R258: I_pred of the frame shown, in mA, saturating. -/
def State.iPredMa (s : State) : Nat :=
  match s.frm.shown with
  | some h => min 65535 (h.iPred.1 / (1000 * h.iPred.2))
  | none => 0

/-- `CURB_SET`. -/
def curbBody (sub : Sub) (o : CurbOps) (s : State) : State :=
  let l := selected o.mask [(0, [.iLimit o.iLimit.toNat]), (1, [.hT o.hT.toNat])]
  setCmd 0x40 sub o.mask o.frame
    (maskOk o.mask 2 [(0, o.iLimit.toNat), (1, o.hT.toNat)]
      && (!o.mask.getLsbD 0 || decide (100 ≤ o.iLimit.toNat ∧ o.iLimit.toNat ≤ 12500))
      && (!o.mask.getLsbD 1 || (decide (500 ≤ o.hT.toNat ∧ o.hT.toNat ≤ 800) && o.hT.toNat % 25 == 0)))
    none l ((l.foldl Params.apply s.view).iLimit + 65536 * s.iPredMa) s

/-- `CURB_SET` (R258). -/
def execCurbSet (sub : Sub) (o : CurbOps) (s : State) : Answer := ringCmd (.curbSet sub o) (curbBody sub o) s

/-- Table 11.12: knee and T_zero in force with the changes. -/
def Params.derateOk (p : Params) : Bool :=
  decide (80 ≤ p.knee ∧ p.knee ≤ 140) && decide (p.knee + 10 ≤ p.tZero ∧ p.tZero ≤ 150)

/-- `DERATE_SET`. -/
def derateBody (sub : Sub) (o : DerateOps) (s : State) : State :=
  let l := selected o.mask
    [(0, [.regional (o.mode == 1)]), (1, [.knee o.knee.toInt]), (2, [.tZero o.tZero.toInt])]
  setCmd 0x41 sub o.mask o.frame
    (maskOk o.mask 3 [(0, o.mode.toNat), (1, o.knee.toNat), (2, o.tZero.toNat)] && decide (o.mode.toNat ≤ 1)
      && (l.foldl Params.apply s.view).derateOk)
    none l s.pho.dGTick s

/-- `DERATE_SET` (R258). -/
def execDerateSet (sub : Sub) (o : DerateOps) (s : State) : Answer := ringCmd (.derateSet sub o) (derateBody sub o) s

/-- `PROBE_SET` (R147). -/
def execProbeSet (sub : Sub) (enables : Byte) (frame : Word) (s : State) : Answer :=
  ringCmd (.probeSet sub enables frame)
    (setCmd 0x43 sub 1 frame (decide (enables.toNat ≤ 3)) none
      [.probe (enables.getLsbD 0) (enables.getLsbD 1)] 0) s

/-- `NEIGHBOUR_FILL_SET` (R152). -/
def execNeighbourFillSet (sub : Sub) (strength : Byte) (frame : Word) (s : State) : Answer :=
  ringCmd (.neighbourFillSet sub strength frame)
    (setCmd 0x45 sub 1 frame (decide (strength.toNat ≤ 64)) none [.fill strength.toNat] 0) s

/-! ### Safety (R270 to R274) -/

/-- `HALLMARK_SELECT`. -/
def hallmarkSelectBody (sub : Sub) (mask add : Half) (frame : Word) (s : State) : State :=
  let p := selected mask [(0, [.addMarks add])]
  let after := s.demanded ||| (p.foldl Params.apply s.view).addMarks
  setCmd 0x50 sub mask frame
    (maskOk mask 1 [(0, add.toNat)] && add &&& ~~~(loadedMarks s.hallByte) == 0)
    none p (s.demanded.toNat + 65536 * after.toNat) s

/-- `HALLMARK_SELECT` (R270). -/
def execHallmarkSelect (sub : Sub) (mask add : Half) (frame : Word) (s : State) : Answer :=
  ringCmd (.hallmarkSelect sub mask add frame) (hallmarkSelectBody sub mask add frame) s

/-- R272: `HB_TIMEOUT` applies at execution and restarts the monitor (Table 12.5). -/
def hbTimeoutApply (ms : Nat) (s : State) : State :=
  touchChanges [.force 0] <|
    (s.mapFrm fun f => { f with params := { f.params with hbTimeout := ms } }).mapSaf fun f =>
      { f with hbLast := s.clk.loc }

/-- Table 12.5: the operands of `FALLBACK_SET`; the default scene is one that is loaded. -/
def State.fallbackOk (s : State) (o : FallbackOps) : Bool :=
  maskOk o.mask 3 [(0, o.dflt.toNat), (1, o.hb.toNat), (2, o.force.toNat)]
  && (!o.mask.getLsbD 0 || (decide (o.dflt.toNat ≤ 7) && s.sceneUsable o.dflt.toNat))
  && (!o.mask.getLsbD 1 || decide (50 ≤ o.hb.toNat ∧ o.hb.toNat ≤ 10000))
  && decide (o.force.toNat ≤ 8)

/-- `FALLBACK_SET`: `HB_TIMEOUT` alone arms nothing; with other fields it applies only if the command is
accepted. -/
def fallbackSetBody (sub : Sub) (o : FallbackOps) (s : State) : State :=
  let l := selected o.mask [(0, [.dfltScene o.dflt.toNat]), (2, [.force o.force.toNat])]
  if !s.fallbackOk o || !frameOperandOk sub o.frame then finish 0x52 sub stBadOperand 0 s
  else if o.mask = 0 then finish 0x52 sub stOk 0 s
  else if sub.atTick && s.passed o.frame then finish 0x52 sub stWrongState 0 s
  else if o.mask = 2 then finish 0x52 sub stOk 0 (hbTimeoutApply o.hb.toNat s)
  else if 16 ≤ s.armedSets then finish 0x52 sub stBusy 0 s
  else armSet 0x52 sub o.frame true l 0 (if o.mask.getLsbD 1 then hbTimeoutApply o.hb.toNat s else s)

/-- `FALLBACK_SET` (R272). -/
def execFallbackSet (sub : Sub) (o : FallbackOps) (s : State) : Answer :=
  ringCmd (.fallbackSet sub o) (fallbackSetBody sub o) s

/-- Table 12.5: the operands of `CAN_LISTEN_SET`. -/
def canSetOk (o : CanOps) : Bool :=
  maskOk o.mask 4
    ([(0, o.mode.toNat), (1, o.pgn.toNat), (1, o.sa.toNat), (2, o.timeout.toNat)]
      ++ o.rules.map fun r => (3, r.toNat))
  && decide (o.mode.toNat ≤ 7)
  && (!o.mask.getLsbD 1 || (decide (o.pgn.toNat < 2 ^ 18) && o.sa != 254))
  && (!o.mask.getLsbD 2 || decide (1 ≤ o.timeout.toNat ∧ o.timeout.toNat ≤ 600))
  && (!o.mask.getLsbD 3 || o.rules.all canRuleOk)

/-- The changes that `CAN_LISTEN_SET` selects. -/
def CanOps.changes (o : CanOps) : List Change :=
  selected o.mask
    [(0, [.canMode (o.mode.toNat % 4) (o.mode.getLsbD 2)]), (1, [.canFilter (o.pgn.truncate 18) o.sa]),
      (2, [.canTimeout o.timeout.toNat]), (3, [.canRules o.rules])]

/-- `CAN_LISTEN_SET` (R273). -/
def execCanListenSet (sub : Sub) (o : CanOps) (s : State) : Answer :=
  ringCmd (.canListenSet sub o)
    (fun s => setCmd 0x53 sub o.mask o.frame (canSetOk o) none (CanOps.changes o) 0 s) s

/-- `ROAD_MODE` (R274): only while protected item 2 is 0. -/
def execRoadMode (sub : Sub) (mask : Half) (on : Byte) (frame : Word) (s : State) : Answer :=
  ringCmd (.roadMode sub mask on frame) (fun s =>
    setCmd 0x54 sub mask frame (maskOk mask 1 [(0, on.toNat)] && decide (on.toNat ≤ 1))
      (if s.view.roadSrc ≠ 0 then some stWrongState else none) (selected mask [(0, [.road (on == 1)])]) 0 s) s

/-! ### `TEAM_CONFIG` (R275) -/

/-- Table 12.7: the roles. -/
def roleOf (b : Byte) : Option Role :=
  match b.toNat with
  | 0 => some .alone
  | 1 => some .lead
  | 2 => some .follower
  | _ => none

/-- Table 12.7: a group entry has its bits [14:8] zero. -/
def groupEntryOk (g : Half) : Bool := g.toNat / 256 % 128 == 0

/-- The changes that `TEAM_CONFIG` selects. -/
def TeamOps.changes (o : TeamOps) : List Change :=
  selected o.mask
    [(0, [.role ((roleOf o.role).getD .alone)]), (1, [.backup (o.backup == 1)]), (2, [.groups o.groups]),
      (3, [.ports (o.ports.truncate 4) (o.gen.truncate 4)])]

/-- Table 12.7: the operands; `BACKUP` needs the role FOLLOWER (R275). -/
def State.teamConfigOk (s : State) (o : TeamOps) : Bool :=
  let p := (TeamOps.changes o).foldl Params.apply s.view
  maskOk o.mask 4
    ([(0, o.role.toNat), (1, o.backup.toNat), (3, o.ports.toNat), (3, o.gen.toNat)]
      ++ o.groups.map fun g => (2, g.toNat))
  && (roleOf o.role).isSome && decide (o.backup.toNat ≤ 1) && o.groups.all groupEntryOk
  && decide (o.ports.toNat ≤ 15) && decide (o.gen.toNat ≤ 15)
  && !(p.backup && o.mask.getLsbD 1 && p.role != .follower)

/-- `TEAM_CONFIG` (R275). -/
def execTeamConfig (sub : Sub) (o : TeamOps) (s : State) : Answer :=
  ringCmd (.teamConfig sub o)
    (fun s => setCmd 0x60 sub o.mask o.frame (s.teamConfigOk o) none (TeamOps.changes o) 0 s) s

end Sys2Proof.Machine
end

