-- ==== Sys2Proof/Machine/TeamOps.lean ====
section
/-!
DEFINITION. What the team commands share (`13_team.md`): ports that start and go down (R296 to R303), the tree (R305,
R308), roles and leads (R275, R307, R329, R330), and the part that the tick has in team work (R317, R318, R326, R328).
-/
namespace Sys2Proof.Machine

/-! ### Events and names -/

/-- The command-set revision of this engine, 1.4 (R1). -/
def csMajor : Nat := 1
def csMinor : Nat := 4

/-- The configured engine ID (R276, Table 20.11): that of the record read at this start-up (R287). -/
def State.configuredId (s : State) : Option (BitVec 10) := s.sec.startId

/-- R331: `EV_TEAM_MEMBER`. -/
def memberEvent (id : BitVec 10) (change dist : Nat) (state quality : Byte) (path : Dword) (s : State) : State :=
  emit evTeamMember
    (b2 id.toNat ++ b1 change ++ b1 (min 255 dist) ++ b1 state.toNat ++ b1 quality.toNat ++ b2 0 ++ b8 path) s

/-- R331: `EV_TEAM_MEMBER` on the member itself. -/
def selfEvent (change : Nat) (s : State) : State :=
  memberEvent s.engineId change s.hops s.memberState s.quality s.tm.path s

/-- R331: `EV_LEAD_CHANGE`; `frame` is the number of the new lead's first firm entry. -/
def leadEvent (new prev : Option (BitVec 10)) (term frame : Word) (reason : Nat) (s : State) : State :=
  emit evLeadChange
    (b2 (new.getD 0x3FF).toNat ++ b2 (prev.getD 0x3FF).toNat ++ b4 term.toNat ++ b4 frame.toNat ++ b1 reason) s

/-- R331: `EV_TIME_STEP`: team time moves by `d` ns. -/
def timeStepBy (d : Int) (cause : Nat) (s : State) : State :=
  let s := s.mapClk fun c => { c with team := c.team + BitVec.ofInt 64 d, slew := 0 }
  emit evTimeStep (b8 (BitVec.ofInt 64 d) ++ b1 s.discCode ++ b1 cause) s

/-- The event when this engine becomes a member (R331). -/
def memberUpdate (s : State) : State :=
  let now := s.frm.params.role != .alone && s.tm.id.isSome && s.tm.lead.isSome
  if now = s.tm.isMember then s
  else
    let s := s.mapTm fun t => { t with isMember := now }
    selfEvent (if now then 1 else 2) s

/-! ### Ports (R295 to R303) -/

/-- R184, R295: the port is enabled; in halter mode port 0 alone (R185). -/
def State.portOn (s : State) (p : Fin 4) : Bool :=
  if s.pwr.mode == .halter then p == 0 else s.frm.params.role != .alone && s.frm.params.ports.getLsbD p.val

/-- R184, R185: the lane of port `p`. -/
def State.portLane (s : State) (p : Fin 4) : Nat :=
  if s.lan.onLaneP.getLsbD p.val && s.pwr.mode != .halter then p.val else 4 + p.val

/-- A lane that runs a test has no other use meanwhile (R207). -/
def State.laneTested (s : State) (n : Nat) : Bool := (s.lan.l.getD n Lane.reset).test.isSome

/-- Lane `n`. -/
def State.lane (s : State) (n : Nat) : Lane := s.lan.l.getD n Lane.reset

/-- Change lane `n`. -/
def mapLane (n : Nat) (f : Lane → Lane) (s : State) : State := s.mapLan fun x => { x with l := x.l.modify n f }

/-- R184: the receiver of a lane goes off: it sees no signal and has no lock. -/
def laneQuiet (n : Nat) (s : State) : State := mapLane n (fun l => { l with sigDet := false, cdrLock := false }) s

/-- R331: `F_TRACE_LINK`. -/
def traceFault (p : Fin 4) (reason : Nat) (s : State) : State :=
  raise fTraceLink
    (b1 p.val ++ b1 reason ++ b2 0 ++ b4 (if reason = 7 then 0 else (((s.port p).rxFcnt.getD 0).toNat))) s

/-- R296, R446: the port draws its nonce and starts; its receiver locks, and the CTLE adapts and is then held (R190). The
peaking that it settles at is a free value (assumption 81). -/
def portBegin (p : Fin 4) (s : State) : State :=
  let (n, s) := s.random 16
  let (k, s) := s.draw
  let s := mapLane (s.portLane p) (fun l =>
    { l with sigDet := true, cdrLock := true, ctle := BitVec.ofNat 4 (Config.freePick k) }) s
  mapPort p (fun q =>
    { Port.reset with state := .starting, signal := q.signal, ownNonce := BitVec.ofNat 128 (ofLE n)
                      delays := [], discards := q.discards, cut := q.cut }) s

/-- R296, R298, R446: an enabled port with signal starts; with the zero key on a locked engine it stays down, and it
waits while the random number generator withholds output. -/
def portStart (p : Fin 4) (s : State) : State :=
  let q := s.port p
  if !s.portOn p || !q.signal || q.state != .down || s.laneTested (s.portLane p) || s.pwr.mode == .sleep then s
  else if s.lockSet && s.sec.teamKey == 0 then traceFault p 5 s
  else if s.pwr.trngOk then portBegin p s
  else s.mapSec fun c =>
    { c with waits := if c.waits.contains (.port p.val) then c.waits else c.waits ++ [.port p.val] }

/-- Table 12.7: the code of a role. -/
def Role.code : Role → Nat
  | .alone => 0
  | .lead => 1
  | .follower => 2

/-- Table 13.4: the HELLO of port `p`. -/
def State.helloOf (s : State) (p : Fin 4) : HelloPl :=
  { engine := s.engineId.zeroExtend 15, assigned := s.tm.id.isSome, csMajor := BitVec.ofNat 8 csMajor
    csMinor := BitVec.ofNat 8 csMinor, image := BitVec.ofNat 16 (256 * s.imgMajor + s.imgMinor)
    role := BitVec.ofNat 2 (Role.code s.frm.params.role), backup := s.frm.params.backup
    port := BitVec.ofNat 8 p.val, version := 1, dist := BitVec.ofNat 16 (if s.tm.leading then 0 else s.tm.dist)
    term := s.tm.term, nonce := (s.port p).ownNonce }

/-- HELLO goes out on a port that starts or is UP (R296, R305). -/
def helloOut (p : Fin 4) (s : State) : State :=
  if (s.port p).state = .down then s else portEmit p 0 false (.hello (s.helloOf p)) s

/-- HELLO on every UP port: the lead distance or the term has changed (DESIGN CHOICE, assumption 23). -/
def helloAll (s : State) : State :=
  allPorts.foldl (fun s p => if (s.port p).state = .up then helloOut p s else s) s

/-! ### The tree (R305) -/

/-- What a port offers: lead distance and neighbour. -/
def Port.offer (q : Port) : Option (Nat × Nat) :=
  match q.state, q.peer with
  | .up, some h => if h.dist = 0xFFFF then none else some (h.dist.toNat, h.engine.toNat)
  | _, _ => none

/-- R305: the better of two offers: distance, then neighbour ID, then own port. -/
def offerLess (a b : Nat × Nat × Fin 4) : Bool :=
  decide (a.1 < b.1) || (a.1 == b.1 && (decide (a.2.1 < b.2.1)
    || (a.2.1 == b.2.1 && decide (a.2.2.val < b.2.2.val))))

/-- R305: what the ports offer; a child's distance is one through this engine, and offers nothing. -/
def State.offers (s : State) : List (Nat × Nat × Fin 4) :=
  allPorts.filterMap fun p =>
    let q := s.port p
    q.offer.bind fun o => if q.child && decide (s.tm.dist < o.1) then none else some (o.1, o.2, p)

/-- R305: the best of offers. -/
def bestOf (l : List (Nat × Nat × Fin 4)) : Option (Nat × Nat × Fin 4) :=
  l.foldl (fun m o => match m with
    | none => some o
    | some b => if offerLess o b then some o else m) none

/-- R305: the best offer; a link that broke while it carried the tree stays aside as long as another offers a path (R308). -/
def State.bestOffer (s : State) : Option (Nat × Nat × Fin 4) :=
  (bestOf (s.offers.filter fun o => !(s.port o.2.2).cut)).or (bestOf s.offers)

/-- R305, R308: parent, lead distance, standby and child ports. A link that broke is a standby link when it comes up again,
unless the engine beyond it has no other path. Whether a neighbour farther away has taken this engine as its parent is told
by no frame: it counts as a child (DESIGN CHOICE, assumption 23). -/
def treeSet (parent : Option (Fin 4)) (dist : Nat) (s : State) : State :=
  let s := s.mapTm fun t => { t with parent := parent, dist := dist }
  allPorts.foldl (fun s p =>
    mapPort p (fun q =>
      let up := q.state == .up && some p != parent
      let cut := q.cut && some p != parent && (q.state != .up || q.offer.isSome)
      let sb := up && (cut || match q.offer with
        | some o => !s.tm.leading && decide (o.1 ≤ dist)
        | none => false)
      { q with standby := sb, child := up && !sb, cut := cut }) s) s

/-- R305: without a path to the lead: what children offered went through this engine, and is forgotten. -/
def treeLose (s : State) : State :=
  treeSet none 65535 (allPorts.foldl (fun s p =>
    mapPort p (fun q => if q.child then { q with peer := q.peer.map fun h => { h with dist := 0xFFFF } } else q) s) s)

/-- R305: the tree as the HELLOs of the neighbours give it. -/
def treeUpdate (s : State) : State :=
  if s.frm.params.role == .alone then s
  else
    let old := s.tm.dist
    let s :=
      if s.tm.leading then treeSet none 0 s
      else match s.bestOffer with
        | none => treeLose s
        | some (d, _, p) =>
          if 31 ≤ d then raiseOnce fTeamCfg [] (treeLose s) else
            heldSet fTeamCfg false (treeSet (some p) (d + 1) s)
    if s.tm.dist = old then s else helloAll s

/-- R308: on a heal frame the engine that holds the block point unblocks it. No frame tells which of its standby ports is the
block point of the loop that broke: each is unblocked, and the tree is taken anew with the next ENUM request (assumption 23). -/
def unblock (s : State) : State :=
  allPorts.foldl (fun s p => mapPort p (fun q =>
    if q.standby then { q with standby := false, child := true } else q) s) s

/-! ### Port down (R303, R308) -/

/-- R303, R308: port `p` goes down for a reason of Table 13.6, 0 for disabling by `TEAM_CONFIG`: its replay buffer
and queue are dropped, a break in the tree is flooded as a heal frame, and the port starts again. -/
def portDownOp (p : Fin 4) (reason : Nat) (s : State) : State :=
  let q := s.port p
  let s := if reason = 0 && !s.laneTested (s.portLane p) then laneQuiet (s.portLane p) s else s
  let carried := q.state == .up && !q.standby
  let s1 := mapPort p (fun q =>
    { Port.reset with signal := q.signal && reason != 1, discards := q.discards
                      cut := reason != 0 && (carried || q.cut) }) s
  if q.state == .down then s1
  else
    let s2 := if (q.state == .up || reason == 6) && reason != 0 then
        raise fTraceLink (b1 p.val ++ b1 reason ++ b2 0 ++ b4 ((q.rxFcnt.getD 0).toNat)) s1
      else s1
    let s3 := if carried then stateFlood 1 [] s2 else s2
    portStart p (treeUpdate s3)

/-- R295: the ports follow the role and `PORTS`. -/
def portsSync (s : State) : State :=
  allPorts.foldl (fun s p => if s.portOn p then portStart p s else portDownOp p 0 s) s

/-! ### Roles and leads -/

/-- R25, R27: the tick source that the role and the parameters ask for. -/
def State.wantSrc (s : State) : TickSource :=
  if s.actsFollower then .team else if s.frm.params.fsyncSrc then .fsync else .internal

/-- Team state of an engine that follows no lead yet. -/
def Team.fresh (t : Team) : Team :=
  { t with lead := none, leading := false, dist := 65535, parent := none, path := 0, tickSync := false, good := 0
           heard := false, settled := false, leftSync := false, divergent := false, divOut := false, mism := 0
           agree := 0, excluded := false, missed := 0, gotSched := false, entries := [], teamP := []
           handback := none, lostUp := false, noLead := false, confLead := none }

/-- R307, R330: this engine follows the lead that it heard. `frame` is the number of that lead's first firm entry;
`EV_LEAD_CHANGE` waits for it (R331). -/
def followLead (id : BitVec 10) (term : Word) (frame : Option Word) (reason : Nat) (s : State) : State :=
  let prev := s.tm.lead
  let wasLead := s.tm.leading
  let s := s.mapTm fun t =>
    if wasLead then { t.fresh with lead := some id, term := term, members := [], evLead := none }
    else { t with lead := some id, term := term, noLead := false, lostUp := false, handback := none, evLead := none }
  let s := s.mapClk fun c => { c.undisciplined with disc := .team }
  let s := match frame with
    | some f => leadEvent (some id) prev term f reason s
    | none => s.mapTm fun t => { t with evLead := some (prev, reason) }
  treeUpdate (memberUpdate s)

/-- R307, R330: what a lead does when it hears another lead: a higher term wins; under the same term a lower or equal
ID wins, with `F_TEAM_CFG`. -/
def leadHeard (id : BitVec 10) (term : Word) (frame : Option Word) (s : State) : State :=
  if !s.tm.leading then s
  else if s.tm.term.toNat < term.toNat then followLead id term frame 0 s
  else if term = s.tm.term && decide (id.toNat ≤ s.engineId.toNat) then
    followLead id term frame 3 (raise fTeamCfg [] s)
  else s

/-- R275, R295: a change of role. -/
def roleChange (r : Role) (s : State) : State :=
  let prev := s.tm.lead
  let disc (d : Discipline) (s : State) : State :=
    s.mapClk fun c => if d = .team ∨ c.disc = .team then { c.undisciplined with disc := d } else { c with slew := 0 }
  match r with
  | .alone =>
    let s := s.mapTm fun t => { t.fresh with members := [], isMember := false, id := s.configuredId, origins := []
                                             stPend := [], sent := false }
    disc .freeRun (if prev.isSome then selfEvent 2 s else s)
  | .lead =>
    let id := s.configuredId.getD 0
    let s := s.mapTm fun t => { t.fresh with id := some id, lead := some id, leading := true, dist := 0, members := [] }
    helloAll (memberUpdate (leadEvent (some id) prev s.tm.term (s.tm.tickNo.truncate 32 + 2) 0 (disc .freeRun s)))
  | .follower =>
    let s := s.mapTm fun t => { t.fresh with id := s.configuredId, members := [] }
    helloAll (memberUpdate (disc .team s))

/-! ### The lead's members (R306, R326) -/

/-- R306: shorter port path first, then the lower path value. -/
def pathLess (d1 p1 d2 p2 : Nat) : Bool := decide (d1 < d2) || (d1 == d2 && decide (p1 < p2))

/-- R327: m_min on the lead. -/
def State.minMinor (s : State) : Byte :=
  BitVec.ofNat 8 ((s.tm.members.filter fun m => m.major.toNat = csMajor).foldl
    (fun n m => min n m.minor.toNat) csMinor)

/-- R328: the policy in force. -/
def State.policyNow (s : State) : Nat := if s.tm.leading then s.frm.params.policy else s.tm.policy

/-! ### The team's part in the tick -/

/-- R320: P_NOM of the period that starts at tick `n`. -/
def State.nomAt (s : State) (n : Dword) : Nat :=
  ((s.tm.teamP.foldl (fun (m : Option (Dword × Nat)) e =>
    if n.toNat < e.1.toNat then m
    else match m with
      | none => some e
      | some b => if b.1.toNat ≤ e.1.toNat then some e else m) none).map Prod.snd).getD s.frm.params.pNom

/-- R317: the SCHEDULE that the lead sends after its tick. -/
def State.scheduleOf (s : State) : SchedulePl :=
  let n := s.tm.tickNo
  { tick := n + 2
    time := s.clk.tickTime + BitVec.ofNat 64 (s.frm.period + s.frm.nextLen.getD s.frm.params.pNom)
    len0 := BitVec.ofNat 32 (s.nomAt (n + 2)), len1 := BitVec.ofNat 32 (s.nomAt (n + 3))
    len2 := BitVec.ofNat 32 (s.nomAt (n + 4)), lead := s.engineId.zeroExtend 16, mMin := s.minMinor
    policy := BitVec.ofNat 8 s.frm.params.policy, term := s.tm.term, sharedCrc := s.reg.refS, quality := s.quality
    handback := s.tm.handback.map fun h => (h.1.zeroExtend 16, h.2) }

/-- R326: the DIGEST of a member. -/
def State.digestOf (s : State) : DigestPl :=
  { engine := s.engineId.zeroExtend 16, csMajor := BitVec.ofNat 8 csMajor, csMinor := BitVec.ofNat 8 csMinor
    image := BitVec.ofNat 16 (256 * s.imgMajor + s.imgMinor), state := s.memberState, quality := s.quality
    sharedCrc := s.reg.refS, frame := s.frm.frame
    leadUs := BitVec.ofNat 16 (leadUs s.curBytes s.frm.params.leadFix s.frm.params.tGuard), stale := s.reg.staleS }

/-- R318: a follower counts the periods without a SCHEDULE. -/
def missTick (s : State) : State :=
  if s.actsFollower && s.tm.lead.isSome && !s.tm.excluded then
    s.mapTm fun t => { t with missed := if t.gotSched then 0 else t.missed + 1, gotSched := false }
  else s

/-- R329: the backup lead takes over at its tick. -/
def takeOver (s : State) : State :=
  if !s.tm.lostUp then s
  else
    let prev := s.tm.lead
    let term := s.tm.term + 1
    let s := s.mapTm fun t =>
      { t with leading := true, lead := t.id, term := term, lostUp := false, noLead := false, confLead := prev
               parent := none, dist := 0, members := [], divergent := false, divOut := false, mism := 0, agree := 0
               missed := 0, handback := none }
    let s := s.mapClk fun c => { c.undisciplined with disc := .freeRun }
    helloAll (treeUpdate (leadEvent s.tm.id prev term (s.tm.tickNo.truncate 32 + 2) 1 s))

/-- R330: once the configured lead that joined reports FINE, the acting lead announces the handback. -/
def announceHandback (s : State) : State :=
  if s.tm.leading && s.frm.params.role != .lead && s.tm.handback.isNone then
    match s.tm.confLead with
    | none => s
    | some l =>
      if s.tm.members.any fun m => m.id == l && m.quality.toNat % 8 == 3 then
        s.mapTm fun t => { t with handback := some (l, t.tickNo + 4) }
      else s
  else s

/-- R317, R326: what goes out in the settle window: SCHEDULE from the lead, DIGEST from a follower. -/
def settleSend (s : State) : State :=
  if !s.tm.isMember then s
  else if s.tm.leading then
    let s := announceHandback s
    sendDown (.schedule s.scheduleOf) s
  else sendUp (.digest s.digestOf) s

/-- R328: the STATE frames that this tick applies. -/
def stateTick (s : State) : State :=
  let due := s.tm.stPend.filter fun e => decide ((s.frm.frame - e.2.2).toNat < 2 ^ 31)
  if due.isEmpty then s
  else
    s.mapTm fun t =>
      { t with
        stPend := t.stPend.filter fun e => !decide ((s.frm.frame - e.2.2).toNat < 2 ^ 31)
        origins := due.foldl (fun l e =>
          if e.2.1 then (if l.contains e.1 then l else l ++ [e.1]) else l.filter fun x => x != e.1) t.origins }

/-- R328: the end of this engine's own safe state: it shows a composed frame and no cause but propagation holds. -/
def stateEnd (s : State) : State :=
  let composed := match s.frm.shown with
    | some h => !h.fallback
    | none => false
  if s.tm.sent && s.causes &&& 0xF7F = 0 && (composed || !s.tm.origins.isEmpty) then
    (stateFlood 3 s.groupBytes s).mapTm fun t => { t with sent := false }
  else s

end Sys2Proof.Machine
end

