-- ==== Sys2Proof/Machine/Apply.lean ====
section
/-!
DEFINITION. The taking effect of updates: register groups (`18_registers.md`, R407 to R410, with the checks of R168 and
R211), armed set commands (R40, R236 to R238), in the order of R409; and forward steps of team time (R408).
-/
namespace Sys2Proof.Machine

/-! ### Register groups -/

/-- The shadow of a class-C register (R406). -/
def State.shadowVal (s : State) (o : Nat) : Word := (alGet s.reg.shadow o).getD (regReset o)

/-- R407: the shadow fields of a group. -/
def State.groupValues (s : State) (g : Nat) : List (Nat × Word) :=
  (classCRegs.filter fun o => groupMask g o != 0).map fun o => (o, s.shadowVal o &&& groupMask g o)

/-- The value in force of a register once a set of group `g` is applied. -/
def mergeReg (s : State) (g : Nat) (values : List (Nat × Word)) (o : Nat) : Word :=
  match alGet values o with
  | some v => (s.cfg o &&& ~~~(groupMask g o)) ||| v
  | none => s.cfg o

/-- The values in force once a set of group `g` is applied. -/
def mergeAll (s : State) (g : Nat) (values : List (Nat × Word)) : State :=
  s.mapReg fun r => { r with force := values.foldl (fun l e => regPut l e.1 (mergeReg s g values e.1)) r.force }

/-- R168: the quotas of the 18 channels. -/
def quotaOk (s : State) : Bool :=
  let c := List.range 18
  c.all (fun x => decide (s.reserve x ≤ 1536) && decide (bits (s.cfg (0x900 + 4 * x)) 16 11 ≤ 1536)
    && decide (s.reserve x ≤ s.limit x))
  && decide ((c.map s.reserve).sum ≤ 1536)

/-- R211: a ring size. -/
def sizeOk (n : Nat) : Bool := n == 0 || [16, 32, 64, 128, 256, 512, 1024, 2048, 4096].contains n

/-- R211: the checks of ring `n`; `t` is the state with the new values. -/
def ringOk (s t : State) (n : Nat) : Bool :=
  let sq := t.sqSize n
  let cq := t.cqSize n
  sizeOk sq && sizeOk cq && ((sq == 0) == (cq == 0))
  && (!((s.ring n).enabled && sq != 0)
      || (t.sqSize n == s.sqSize n && t.cqSize n == s.cqSize n
          && t.cfg64 (ringReg n 0x00) == s.cfg64 (ringReg n 0x00)
          && t.cfg64 (ringReg n 0x08) == s.cfg64 (ringReg n 0x08)))

/-- Size of the event ring in force. -/
def State.eqSize (s : State) : Nat := bits (s.cfg 0x808) 0 13

/-- R211: the checks of the event ring. -/
def eqOk (s t : State) : Bool :=
  sizeOk t.eqSize
  && (!(s.rng.eq.enabled && t.eqSize != 0) || (t.eqSize == s.eqSize && t.cfg64 0x800 == s.cfg64 0x800))

/-- R407: the checks that run when a set of group `g` is applied. -/
def groupOk (s t : State) (g : Nat) : Bool :=
  if g = 0 then quotaOk t && (List.range 16).all (ringOk s t) && eqOk s t
  else if g = 6 then decide (1 ≤ bits (t.cfg 0x138) 0 14 ∧ bits (t.cfg 0x138) 0 14 ≤ 10000)
  else true

/-- R212: ring `n` becomes enabled. -/
def ringEnable (n : Nat) (s : State) : State :=
  mapRing n (fun r =>
    { r with
      enabled := true, sqTail := 0, sqHead := 0, cqTail := 0, cqHead := 0, cqPhase := true, halted := false
      fetched := [], modCount := 0, modStart := 0, sqLate := none, cqLate := none }) s

/-- R212: ring `n` becomes disabled: entries not started are discarded, started ones run on without completions. Entries
counted towards a message bring none (R230; DESIGN CHOICE, assumption 87). -/
def ringDisable (n : Nat) (s : State) : State :=
  mapRing n (fun r =>
    { r with
      enabled := false, halted := false, fetched := [], held := [], running := [], modCount := 0
      muted := r.muted ++ r.running.map (Sub.turn n .due .muted), sqLate := none, cqLate := none })
    (s.mapSubs (Sub.turn n .due .muted))

/-- R212: the rings follow their sizes. -/
def ringsSync (s : State) : State :=
  let s := (List.range 16).foldl (fun s n =>
    let on := s.sqSize n != 0
    if on && !(s.ring n).enabled then ringEnable n s
    else if !on && (s.ring n).enabled then ringDisable n s
    else s) s
  s.mapRng fun r =>
    let on := s.eqSize != 0
    if on && !r.eq.enabled then
      { r with eq := { r.eq with enabled := true, tail := 0, head := 0, phase := true, modCount := 0, modStart := 0
                                 late := none } }
    else if !on && r.eq.enabled then { r with eq := { r.eq with enabled := false, modCount := 0, late := none } }
    else r

/-- R418: the engine interrupt when `INT_STAT` AND `INT_EN` turns non-zero by a change of `INT_EN`. -/
def intRecheck (before : State) (s : State) : State :=
  let st := s.reg.intStat
  if st &&& (before.cfg 0x204).truncate 6 = 0 ∧ st &&& (s.cfg 0x204).truncate 6 ≠ 0 then
    msixSend (bits (s.cfg 0x200) 0 5) s
  else s

/-- R407: a group is refused: kind 7 of `F_REG_ACCESS` at `UPD_STROBE`. -/
def groupRefuse (g : Nat) (s : State) : State :=
  regAccess 0x100 7 0 0xF (s.mapReg fun r => { r with refused := bitPut r.refused g true })

/-- R407, R408, Table 18.3: the values of a set of group `g` take effect, or the whole group is refused. -/
def applySet (g : Nat) (values : List (Nat × Word)) (s : State) : State :=
  let t := mergeAll s g values
  if !groupOk s t g then groupRefuse g s
  else
    let u := cfgTouch false (!values.isEmpty) t
    if g = 0 then ringsSync u
    else if g = 1 then
      eqModCheck ((List.range 16).foldl (fun s n => cqModCheck n s) (intRecheck s u))
    else if g = 5 then (tilesOpen u.isolReq u).mapArr fun a => { a with isol := a.isol ||| u.isolReq }
    else u

/-! ### Time steps (R408) -/

/-- R408: the sets armed for an instant that team time has reached are applied. -/
def dueAtTime (s : State) : State :=
  let due := s.reg.sets.filter fun a => a.whenTo == .atTime && decide (a.target.toNat ≤ s.now.toNat)
  let s := s.mapReg fun r => { r with sets := r.sets.filter fun a => !due.contains a }
  due.foldl (fun s a => applySet a.group a.values s) s

/-- R408: a step of team time, with `EV_TIME_STEP`, and the sets whose instant it passes. -/
def timeJump (d : Int) (cause : Nat) (s : State) : State := dueAtTime (timeStepBy d cause s)

/-! ### Set commands -/

/-- Table 19.6: `EV_POWER_STATE`. -/
def powerEvent (new prev abort abandoned : Nat) (s : State) : State :=
  emit evPowerState (b1 new ++ b1 prev ++ b1 abort ++ b1 abandoned ++ b4 s.frm.frame.toNat) s

/-- R280: the move between IDLE and ACTIVE. -/
def modeMove (idle : Bool) (s : State) : State :=
  match s.pwr.mode, idle with
  | .active, true => powerEvent 3 4 0 0 (s.mapPwr fun p => { p with mode := .idle })
  | .idle, false => powerEvent 4 3 0 0 (s.mapPwr fun p => { p with mode := .active })
  | _, _ => s

/-- R353: a change of rate, PGN or SA restarts the timeout. -/
def canRestart (before : State) (s : State) : State :=
  let a := before.frm.params.can
  let b := s.frm.params.can
  if a.rate ≠ b.rate ∨ a.pgn ≠ b.pgn ∨ a.sa ≠ b.sa then s.mapSaf fun f => { f with canAt := s.clk.loc } else s

/-- What one change brings about beside its value. -/
def changeEffect (before : State) (c : Change) (s : State) : State :=
  match c with
  | .idle b => modeMove b s
  | .canMode _ _ => canRestart before s
  | .canFilter _ _ => canRestart before s
  | .role r => if r = before.frm.params.role then s else portsSync (roleChange r s)
  | .ports _ _ => portsSync s
  | .force _ => causeArise before.causes s
  | .fsyncOut e _ _ _ _ => if e then s else s.mapFrm fun f => { f with fsyncOut := false }
  | _ => s

/-- One change takes effect. -/
def applyChange (c : Change) (s : State) : State :=
  changeEffect s c (s.mapFrm fun f => { f with params := f.params.apply c })

/-- R238: the changes of a set command take effect. -/
def applyChanges (l : List Change) (s : State) : State :=
  touchChanges l (l.foldl (fun s c => applyChange c s) s)

/-! ### The updates of a tick (R40, R409) -/

/-- An armed register set or set command. -/
inductive Armed where
  | regs (a : ArmedSet)
  | cmd (c : ArmedCmd)
  deriving DecidableEq, Repr

/-- Merge the two lists by their order of arming. -/
def mergeArmed : Nat → List ArmedSet → List ArmedCmd → List Armed
  | 0, _, _ => []
  | _ + 1, [], cs => cs.map .cmd
  | _ + 1, as, [] => as.map .regs
  | n + 1, a :: as, c :: cs =>
    if a.order < c.order then .regs a :: mergeArmed n as (c :: cs) else .cmd c :: mergeArmed n (a :: as) cs

/-- R40: a register set armed for a tick that the tick with number `f` applies; group 5 needs a swap and a strobe
before the writing of the frame. -/
def State.setDue (s : State) (f : Word) (swap : Bool) (a : ArmedSet) : Bool :=
  a.whenTo == .tick && decide ((f - a.target.truncate 32).toNat < 2 ^ 31)
  && (a.group != 5 || (swap && decide (a.order < s.arr.fixSeq)))

/-- R236: a set command that the tick with number `f` applies. -/
def ArmedCmd.due (f : Word) (c : ArmedCmd) : Bool := decide ((f - c.frame).toNat < 2 ^ 31)

/-- R409: what the tick with number `f` applies, in order. -/
def State.armedDue (s : State) (f : Word) (swap : Bool) : List Armed :=
  let as := s.reg.sets.filter (s.setDue f swap)
  let cs := s.frm.armed.filter (ArmedCmd.due f)
  mergeArmed (as.length + cs.length) as cs

/-- The updates of the tick with number `f` take effect. -/
def applyTick (f : Word) (swap : Bool) (s : State) : State :=
  let due := s.armedDue f swap
  let gone := s.setDue f swap
  let s := s.mapReg fun r => { r with sets := r.sets.filter fun a => !gone a }
  let s := s.mapFrm fun x => { x with armed := x.armed.filter fun c => !c.due f }
  due.foldl (fun s e => match e with
    | .regs a => applySet a.group a.values s
    | .cmd c => applyChanges c.changes s) s

end Sys2Proof.Machine
end

