-- ==== Sys2Proof/Machine/LaneOps.lean ====
section
/-!
DEFINITION. What the serial lanes share (`09_lanes_and_host_port.md`, R182 to R185, R203 to R209): the use of a lane,
its counters and the end of a test.
-/
namespace Sys2Proof.Machine

/-- Table 09.2: the lanes of the strapped PCI Express width. -/
def State.pcieLanes (s : State) : Nat :=
  match s.idn.pcieW.toNat with
  | 0 => 4
  | 1 => 2
  | 2 => 1
  | _ => 0

/-- R209: lane `n` belongs to the PCI Express link; in halter mode the link has lane 0 alone (R185). -/
def State.laneHost (s : State) (n : Nat) : Bool :=
  if s.pwr.mode == .halter then n == 0 && s.pcieLanes != 0 else decide (n < s.pcieLanes)

/-- Table 09.7: the link width that `PCIE_W` straps; one lane in halter mode (R185). -/
def State.maxWidth (s : State) : Nat := if s.pwr.mode == .halter then min 1 s.pcieLanes else s.pcieLanes

/-- R184: the enabled trace port that lane `n` carries. -/
def State.lanePort (s : State) (n : Nat) : Option (Fin 4) := allPorts.find? fun p => s.portOn p && s.portLane p == n

/-- Table 09.12: bits that a lane counts in 10,000 ns, by `RATE` code. -/
def rateBits (code : Nat) : Nat := [12500, 25000, 50000, 80000, 103125, 160000].getD code 0

/-- Table 09.12: the code of the link's speed: Gen4 has code 5. -/
def speedCode (gen : Nat) : Nat := if gen = 4 then 5 else gen

/-- R209: the `RATE` code of lane `n`. -/
def State.laneRate (s : State) (n : Nat) : Nat :=
  match (s.lane n).test with
  | some t => t.rate
  | none =>
    if s.laneHost n then (if s.bus.linkUp then speedCode s.bus.speed else 1)
    else match s.lanePort n with
      | some p => if s.frm.params.gens.getLsbD p.val && s.pwr.mode != .halter then 4 else 1
      | none => 0

/-- R184, R207, R209: lane `n` has a use or a test, and its receiver is on. -/
def State.laneOn (s : State) (n : Nat) : Bool := s.laneTested n || s.laneHost n || (s.lanePort n).isSome

/-- R184: the lanes that carry no use are powered down. -/
def lanesSettle (s : State) : State := (List.range 8).foldl (fun s n => if s.laneOn n then s else laneQuiet n s) s

/-- R189: the taps, in units of 1/48 of full swing, that the engine accepts. -/
def tapsOk (pre main post : Nat) : Bool :=
  pre + main + post == 48 && decide (16 + pre + post ≤ main ∧ pre ≤ 12 ∧ post ≤ 16)

/-- R189: FS and LF that the engine reports at Gen3 and Gen4. -/
def txFs : Nat := 48
def txLf : Nat := 16

/-- R189: the taps of the −3.5 dB and of the −6.0 dB de-emphasis, to the nearest 1/48 (DEDUCED, assumption 81). -/
def deEmphasis (six : Bool) : Nat × Nat × Nat := if six then (0, 36, 12) else (0, 40, 8)

/-- R189: the taps of presets P0 to P10 of the standard, to the nearest 1/48 within the rules (PRESUMED, assumption 81). -/
def linkPreset (n : Nat) : Nat × Nat × Nat :=
  [(0, 36, 12), (0, 40, 8), (0, 38, 10), (0, 42, 6), (0, 48, 0), (5, 43, 0), (6, 42, 0), (5, 33, 10), (6, 36, 6), (8, 40, 0),
   (0, 32, 16)].getD n (0, 48, 0)

/-- The taps in use on lane `n`. -/
def tapsPut (n : Nat) (t : Nat × Nat × Nat) (s : State) : State :=
  mapLane n (fun l =>
    { l with pre := BitVec.ofNat 5 t.1, main := BitVec.ofNat 6 t.2.1, post := BitVec.ofNat 5 t.2.2 }) s

/-- R189: a request of the link partner for a preset or for coefficients: the engine reports FS and LF, and rejects
coefficients outside the rules, with which the taps in use stay. -/
def eqRequest (n : Nat) (t : Nat × Nat × Nat) (s : State) : State :=
  let ok := tapsOk t.1 t.2.1 t.2.2
  busReply (.txEq n txFs txLf (!ok)) (if ok then tapsPut n t s else s)

/-- R189, R190: a lane of the link trains: its receiver locks; at Gen1 and Gen2 its transmitter takes the de-emphasis that the
link selects; at Gen3 and Gen4 the link partner asks for a preset or for coefficients, and the receiver adapts its CTLE, which
is then held. What is selected and adapted is a free value (assumption 81). -/
def laneTrain (speed n : Nat) (s : State) : State :=
  let (k, s) := s.draw
  let (a, s) := s.draw
  let (b, s) := s.draw
  let (c, s) := s.draw
  let (d, s) := s.draw
  let pick (k m : Nat) : Nat := Config.freePick k % m
  let s := mapLane n (fun l => { l with sigDet := true, cdrLock := true }) s
  if speed ≤ 2 then tapsPut n (deEmphasis (pick k 2 == 1)) s
  else
    mapLane n (fun l => { l with ctle := BitVec.ofNat 4 (Config.freePick d) })
      (eqRequest n (if pick k 2 = 0 then linkPreset (pick a 11) else (pick a 32, pick b 64, pick c 32)) s)

/-- R192: the lanes of a link of `width` lanes; a reversed link takes them from the other end. -/
def State.linkLanes (s : State) (width : Nat) : List Nat :=
  (List.range width).map fun k => if s.bus.reversed then s.maxWidth - 1 - k else k

/-! ### The patterns and the checker (R203, R204) -/

/-- Table 09.10: the exponents of the polynomial of a pattern code. -/
def prbsTaps (code : Nat) : Nat × Nat := [(1, 1), (7, 6), (9, 5), (15, 14), (23, 18), (31, 28)].getD code (1, 1)

/-- Table 09.10: the bit that follows `past`, the newest bit first. -/
def prbsNext (code : Nat) (past : List Bool) : Bool :=
  xor (past.getD ((prbsTaps code).1 - 1) false) (past.getD ((prbsTaps code).2 - 1) false)

/-- R203: `n` bits of a pattern after `past`, oldest first. -/
def prbsBits (code : Nat) : Nat → List Bool → List Bool
  | 0, _ => []
  | n + 1, past => let b := prbsNext code past; b :: prbsBits code n (b :: past)

/-- R203: a bit on the line, with the invert option. -/
def lineBit (invert b : Bool) : Bool := xor invert b

/-- R203: `n` line bits that the generator of a test sends after the pattern bits `past`. -/
def LaneTest.sends (t : LaneTest) (past : List Bool) (n : Nat) : List Bool :=
  if t.generator then (prbsBits t.pattern n past).map (lineBit t.invert) else []

/-- R204: which of `line`, oldest first, differ from the checker's prediction after `past`, newest first; the prediction goes
on from the received bits while it seeds itself, and from its own while it is locked. -/
def prbsErrors (code : Nat) (invert locked : Bool) : List Bool → List Bool → List Bool
  | _, [] => []
  | past, x :: rest =>
    let want := prbsNext code past
    let got := lineBit invert x
    (got != want) :: prbsErrors code invert locked ((if locked then want else got) :: past) rest

/-- R204: the checker locks: its last 64 bits match its prediction. -/
def prbsLocks (errors : List Bool) : Bool := decide (64 ≤ errors.length) && (errors.drop (errors.length - 64)).all (!·)

/-- R204: the checker loses lock: more than 32 of its last 64 bits are in error. -/
def prbsLoses (errors : List Bool) : Bool := decide (32 < ((errors.drop (errors.length - 64)).filter id).length)

/-- R204, R206: the line bits that reach the checker of a test in its k-th count, of which `past` came before: those of its
own generator in a near-end loopback, in which free bits say where the lane falsifies them; else what the lane receives. -/
def LaneTest.receives (t : LaneTest) (k n : Nat) (past : List Bool) : List Bool :=
  let rx := (List.range n).map (Config.rxBit k)
  if t.generator && (t.loopback == 1 || t.loopback == 2) then List.zipWith xor (t.sends past n) rx else rx

/-- R204: how many of `n` bits a locked checker counts as errors, in its k-th count. Its prediction stands where a free value
puts it (assumption 24). -/
def LaneTest.errors (t : LaneTest) (k n : Nat) : Nat :=
  let past := (List.range 31).map (Config.rxBit (k + 1))
  ((prbsErrors t.pattern t.invert true past (t.receives k n past)).filter id).length

/-- R204, R205: the bits counted up to now by a locked checker, in units of 1/10,000 bit, and the errors among them. -/
def laneCount (n : Nat) (s : State) : State :=
  let l := s.lane n
  match l.test with
  | none => s
  | some t =>
    if !l.prbsLock then s
    else
      let add := (s.clk.loc - l.since) * rateBits (s.laneRate n)
      let (k, s) := s.draw
      let (_, s) := s.draw
      mapLane n (fun l =>
        { l with
          bitCount := l.bitCount + add, since := s.clk.loc
          errCnt := BitVec.ofNat 32
            (min 0xFFFFFFFF (l.errCnt.toNat + t.errors k ((l.bitCount + add) / 10000 - l.bitCount / 10000))) }) s

/-- R184, R209: signal detect and clock recovery of lane `n` follow what its port receives; a lane without a port has its
receiver off. -/
def laneRx (n : Nat) (s : State) : State :=
  match s.lanePort n with
  | some p => mapLane n (fun l => { l with sigDet := (s.port p).signal, cdrLock := (s.port p).signal }) s
  | none => laneQuiet n s

/-- R207: the test of lane `n` ends, and the lane returns to its use. -/
def laneTestStop (n : Nat) (s : State) : State :=
  if (s.lane n).test.isNone then s
  else
    let s := laneRx n (mapLane n (fun l => { l with test := none, prbsLock := false }) (laneCount n s))
    match s.lanePort n with
    | some p => portStart p s
    | none => s

/-- R207: every lane test ends. -/
def laneTestsStop (s : State) : State := (List.range 8).foldl (fun s n => laneTestStop n s) s

end Sys2Proof.Machine
end

