-- ==== Sys2Proof/Machine/PowerOps.lean ====
section
/-!
DEFINITION. Requests for a power state and wakes (`12_commands_system.md`, R280, R281; `19_power_reset_boot.md`, R423
to R427): what several commands share.
-/
namespace Sys2Proof.Machine

/-- The `POWER_STATE` code of a state (R280); 0 for start-up. -/
def Mode.powerCode : Mode → Nat
  | .standby => 1
  | .sleep => 2
  | .idle => 3
  | .active => 4
  | _ => 0

/-- R425: the request takes the pending slot; one that it replaces completes `ST_BUSY`. -/
def pendPut (st : Byte) (sub : Sub) (s : State) : State :=
  let s := match s.pwr.pend with
    | some (_, old) => finish 0x70 old stBusy 0 s
    | none => s
  keepRunning sub (s.mapPwr fun p => { p with pend := some (st, sub) })

/-- R280: SLEEP and STANDBY are refused now. -/
def State.entryRefused (s : State) : Bool :=
  s.demanded != 0 || decide (s.safe ≠ 0) || s.cal.run.isSome || s.cal.flat.isSome || s.fls.upd.state == 1

/-- R280: a move between IDLE and ACTIVE waits for its tick. -/
def State.movePending (s : State) : Bool :=
  s.frm.armed.any fun c => c.changes.any fun x => match x with
    | .idle _ => true
    | _ => false

/-- Table 19.2, step 1. A request that waited in the pending slot is running already. -/
def entryBegin (standby : Bool) (sub : Sub) (s : State) : State :=
  let s := if (s.ring sub.ring.val).running.contains sub then s else keepRunning sub s
  laneTestsStop (s.mapPwr fun p => 
    { p with entry := some ⟨standby, sub, p.mode, 0, false, s.clk.loc⟩ })

/-- R280: a request that is executed or taken from the pending slot while no transition is in progress. A wake in the same
cycle, which is the same instant of the local counter, keeps an entry from starting (R424). -/
def powerRequest (sub : Sub) (st : Byte) (s : State) : State :=
  if st.toNat ≤ 2 then
    if s.entryRefused then finish 0x70 sub stWrongState 0 s
    else if s.pwr.wakeSeen = some s.clk.loc then finish 0x70 sub stAbortedByWake 0 s
    else entryBegin (st == 1) sub s
  else
    let idle := st == 3
    if s.pwr.mode == (if idle then .idle else .active) && !s.movePending then finish 0x70 sub stOk 0 s
    else
      let f := s.nextTick
      finish 0x70 sub stOkDeferred (BitVec.ofNat 64 (2 ^ 32 * f.toNat)) (armAt f [.idle idle] false false s)

/-- R280, R281: `POWER_STATE`. -/
def powerBody (sub : Sub) (st : Byte) (s : State) : State :=
  if st = 0 ∨ 4 < st.toNat then finish 0x70 sub stBadOperand 0 s
  else if s.pwr.entry.isSome then pendPut st sub s
  else powerRequest sub st s

/-- R425: when a transition ends, the pending request is started. -/
def pendStart (s : State) : State :=
  match s.pwr.pend with
  | some (st, sub) => powerRequest sub st (s.mapPwr fun p => { p with pend := none })
  | none => s

/-- Table 19.6: `EV_WAKE`. -/
def wakeEvent (time : Dword) (cause lane : Nat) (abandoned : Bool) (ms : Nat) (s : State) : State :=
  emitAt time evWake
    (b1 cause ++ b1 lane ++ b1 (flag abandoned) ++ b1 0 ++ b4 ms ++ b4 s.pwr.standbyCount.toNat) s

/-- R426: `PWR_WAKE_CAUSE`. -/
def wakeRecord (cause lane : Nat) (standby : Bool) (s : State) : State :=
  s.mapPwr fun p =>
    { p with wakeCause := BitVec.ofNat 4 cause, wakeLane := BitVec.ofNat 3 lane, wakeStandby := standby }

/-- Table 19.3: what an entry that has passed abort point `a` undoes. -/
def entryUndo (a : Nat) (prev : Mode) (s : State) : State :=
  let s := if 3 ≤ a then
      portsSync ((s.mapPwr fun p => { p with mode := prev, coreClock := true }).mapFrm fun f =>
        { f with stretched := true })
    else s
  let s := if 2 ≤ a then s.mapPwr fun p => { p with selfRefresh := false } else s
  if 1 ≤ a then relightStart (s.mapFrm fun f => { f with powerDark := false, sleepTicks := false }) else s

/-- R424: a wake abandons the entry in progress; one in the cycle of its step 1 finds it not started. -/
def entryAbandon (cause lane : Nat) (e : PowerEntry) (s : State) : State :=
  let s := s.mapPwr fun p => { p with entry := none }
  if e.begun = s.clk.loc then pendStart (finish 0x70 e.sub stAbortedByWake 0 s)
  else
    let s := wakeRecord cause lane false s
    let s := finish 0x70 e.sub stAbortedByWake 0 (entryUndo e.abort e.prev s)
    let s := powerEvent e.prev.powerCode e.prev.powerCode e.abort 1 s
    pendStart (wakeEvent s.now cause lane true 0 s)

/-- R426: of two causes that qualify in one cycle the lower code counts; else the first. -/
def State.wakeTakes (s : State) (cause : Nat) : Bool :=
  match s.pwr.wake with
  | none => true
  | some w => w.at_ == s.clk.loc && decide (cause < w.cause)

/-- R424, R426, R427: wake cause `cause` qualifies: it abandons an entry that has not passed A4, or starts the wake from
SLEEP. The fetch of an entry follows its doorbell by a read of host memory (R216), so that no doorbell shares the cycle in which
an entry starts (DEDUCED, assumption 33). -/
def wakeQualify (cause lane : Nat) (s : State) : State :=
  if !(s.cfg 0x200C ||| 9).getLsbD (cause - 1) then s
  else
    match s.pwr.entry with
    | none => if cause = 6 then s else s.mapPwr fun p => { p with wakeSeen := some s.clk.loc }
    | some e =>
      if e.abort < 4 then entryAbandon cause lane e s
      else if s.wakeTakes cause then
        wakeRecord cause lane false (s.mapPwr fun p => { p with wake := some ⟨cause, lane, s.now, s.clk.loc⟩ })
      else s

end Sys2Proof.Machine
end

