-- ==== Sys2Proof/Machine/Bell.lean ====
section
/-!
DEFINITION. BAR2: the doorbells (`10_rings_and_doorbells.md`, R214, R215; `19_power_reset_boot.md`, R429) and the MSI-X
structures (`09_lanes_and_host_port.md`, R195).
-/
namespace Sys2Proof.Machine

/-! ### MSI-X (R195) -/

/-- R195: the messages of vectors that are pending and no longer masked are sent. -/
def msixRelease (s : State) : State :=
  (List.range 32).foldl (fun s v =>
    let e := s.bus.msix.getD v ⟨0, 0, true⟩
    if s.bus.pba.getLsbD v && !e.masked && !s.bus.funcMask && s.bus.msixEn then
      busSend (.msix v e.addr e.data) (s.mapBus fun b => { b with pba := b.pba &&& ~~~(1#32 <<< v) })
    else s) s

/-- The words of an MSI-X table entry: address, data, vector control. -/
def MsixEntry.word (e : MsixEntry) : Nat → Word
  | 0 => e.addr.truncate 32
  | 1 => (e.addr >>> 32).truncate 32
  | 2 => e.data
  | _ => BitVec.ofNat 32 (flag e.masked)

/-- A write of one of them; the message address is a whole double word. -/
def MsixEntry.put (e : MsixEntry) (k : Nat) (v : Word) : MsixEntry :=
  match k with
  | 0 => { e with addr := (e.addr &&& 0xFFFFFFFF00000000) ||| (v &&& 0xFFFFFFFC).zeroExtend 64 }
  | 1 => { e with addr := (e.addr &&& 0xFFFFFFFF) ||| (v.zeroExtend 64 <<< 32) }
  | 2 => { e with data := v }
  | _ => { e with masked := v.getLsbD 0 }

/-- R195: a write to the MSI-X table; the pending bit array is read-only. -/
def msixWrite (o : Nat) (v : Word) (s : State) : State :=
  if 0x800 ≤ o ∧ o < 0xA00 then
    msixRelease (s.mapBus fun b => { b with msix := b.msix.modify ((o - 0x800) / 16) fun e => e.put (o / 4 % 4) v })
  else s

/-! ### Doorbells (R215) -/

/-- The index of a doorbell write (R214). -/
def bellIndex (v : Word) : BitVec 13 := v.truncate 13

/-- R215: an SQ tail is accepted or discarded. A tail that announces more entries than the queue can hold beside those not
fetched yet is accepted as it stands (DESIGN CHOICE, assumption 87). -/
def sqAccept (n : Nat) (i : BitVec 13) (s : State) : State :=
  if !s.pwr.ready then ringProtocol 4 n 0 i.toNat s
  else if !(s.ring n).enabled then ringProtocol 2 n 0 i.toNat s
  else if s.sqSize n ≤ i.toNat then ringProtocol 1 n 0 i.toNat s
  else mapRing n (fun r => { r with sqTail := i.toNat, sqIndex := i }) s

/-- The head of a queue of `size` entries may move from `head` to `i`: it releases only written entries. -/
def releaseOk (size head tail i : Nat) : Bool := decide ((i + size - head) % size ≤ (tail + size - head) % size)

/-- R215: a CQ head is accepted or discarded. Of several reasons the first in the order not ready, disabled, index, release
is reported (DESIGN CHOICE, assumption 87). -/
def cqAccept (n : Nat) (i : BitVec 13) (s : State) : State :=
  let r := s.ring n
  if !s.pwr.ready then ringProtocol 4 n 1 i.toNat s
  else if !r.enabled then ringProtocol 2 n 1 i.toNat s
  else if s.cqSize n ≤ i.toNat then ringProtocol 1 n 1 i.toNat s
  else if !releaseOk (s.cqSize n) r.cqHead r.cqTail i.toNat then ringProtocol 3 n 1 i.toNat s
  else mapRing n (fun r => { r with cqHead := i.toNat, cqIndex := i }) s

/-- R215: an EQ head is accepted or discarded. -/
def eqAccept (i : BitVec 13) (s : State) : State :=
  let q := s.rng.eq
  if !s.pwr.ready then ringProtocol 4 16 2 i.toNat s
  else if !q.enabled then ringProtocol 2 16 2 i.toNat s
  else if s.eqSize ≤ i.toNat then ringProtocol 1 16 2 i.toNat s
  else if !releaseOk s.eqSize q.head q.tail i.toNat then ringProtocol 3 16 2 i.toNat s
  else s.mapRng fun r => { r with eq := { r.eq with head := i.toNat, index := i } }

/-- R427, R429: the host's accesses are those of SLEEP: from A3 of an entry to step 6 of the wake. -/
def State.sleepSpan (s : State) : Bool := s.pwr.mode == .sleep

/-- A doorbell write; in SLEEP its last index is held (R429). -/
def sqBell (n : Nat) (v : Word) (s : State) : State :=
  if s.sleepSpan then mapRing n (fun r => { r with sqLate := some (bellIndex v) }) s else sqAccept n (bellIndex v) s

/-- A CQ head write. -/
def cqBell (n : Nat) (v : Word) (s : State) : State :=
  if s.sleepSpan then mapRing n (fun r => { r with cqLate := some (bellIndex v) }) s else cqAccept n (bellIndex v) s

/-- An EQ head write. -/
def eqBell (v : Word) (s : State) : State :=
  if s.sleepSpan then s.mapRng fun r => { r with eq := { r.eq with late := some (bellIndex v) } }
  else eqAccept (bellIndex v) s

/-- R427: at step 6 of the wake the held doorbells are accepted. -/
def bellsLate (s : State) : State :=
  let s := (List.range 16).foldl (fun s n =>
    let r := s.ring n
    let s := mapRing n (fun r => { r with sqLate := none, cqLate := none }) s
    let s := match r.cqLate with
      | some i => cqAccept n i s
      | none => s
    match r.sqLate with
    | some i => sqAccept n i s
    | none => s) s
  match s.rng.eq.late with
  | some i => eqAccept i (s.mapRng fun r => { r with eq := { r.eq with late := none } })
  | none => s

/-! ### The map of BAR2 (Table 10.3) -/

/-- The implemented offsets of BAR2. -/
def bar2Has (o : Nat) : Bool :=
  (decide (o < 0x80) && o % 8 == 0) || (decide (0x400 ≤ o ∧ o < 0x480) && o % 8 == 0) || o == 0x480
  || decide (0x800 ≤ o ∧ o < 0xA00) || decide (0xC00 ≤ o ∧ o < 0xC08)

/-- The value at an implemented offset. -/
def State.bar2Read (s : State) (o : Nat) : Word :=
  if o < 0x80 then (s.ring (o / 8)).sqIndex.zeroExtend 32
  else if o < 0x480 then (s.ring ((o - 0x400) / 8)).cqIndex.zeroExtend 32
  else if o = 0x480 then s.rng.eq.index.zeroExtend 32
  else if o < 0xA00 then (s.bus.msix.getD ((o - 0x800) / 16) ⟨0, 0, true⟩).word (o / 4 % 4)
  else if o = 0xC00 then s.bus.pba else 0

/-- A write at an implemented offset. -/
def bar2Write (o : Nat) (v : Word) (s : State) : State :=
  if o < 0x80 then sqBell (o / 8) v s
  else if o < 0x480 then cqBell ((o - 0x400) / 8) v s
  else if o = 0x480 then eqBell v s
  else msixWrite o v s

/-- R198, R426: a BAR2 write brings the link out of L1 and is wake cause 6. -/
def bar2Op (f : State → State) (s : State) : Answer := .next <| 
  if s.memOn then wakeQualify 6 0 (f (busAwake s)) else undecoded true s

/-- `SQ_TAIL_DOORBELL` (R215). -/
def execSqTailDoorbell (ring : Fin 16) (value : Word) (s : State) : Answer := bar2Op (sqBell ring.val value) s

/-- `CQ_HEAD_DOORBELL` (R215). -/
def execCqHeadDoorbell (ring : Fin 16) (value : Word) (s : State) : Answer := bar2Op (cqBell ring.val value) s

/-- `EQ_HEAD_DOORBELL` (R215). -/
def execEqHeadDoorbell (value : Word) (s : State) : Answer := bar2Op (eqBell value) s

/-- `MSIX_TABLE_WRITE` (R195): one double word at an offset of BAR2; a reserved one is a bus error (R402). -/
def execMsixTableWrite (offset : Half) (value : Word) (s : State) : Answer :=
  .next <|
    if !s.memOn then undecoded true s
    else
      let o := offset.toNat / 4 * 4
      let s := busAwake s
      wakeQualify 6 0 (if bar2Has o then bar2Write o value s else regAccess o 4 2 0xF (errNonfatal s))

end Sys2Proof.Machine
end

