-- ==== Sys2Proof/Machine/Drive.lean ====
section
/-!
DEFINITION. What the codes in A drive (`02_frame_and_tick.md`, R46; `03_emitter_array.md`, R51 to R60;
`07_pixel_health.md`, R156 to R158): units of the array, phase groups and ramps, the current of a pixel, of a tile and of
the array, and the charges at which tile and array trip. Currents are exact: a numerator over a denominator, in µA.
-/
namespace Sys2Proof.Machine

/-! ### Units of the array (Table 03.1) -/

/-- R51: the phase block that holds pixel (x, y). -/
def phaseBlockOf (x y : Nat) : Nat × Nat := (x / 8, y / 8)

/-- R51: the thermal region that holds pixel (x, y). -/
def regionOf (x y : Nat) : Nat := 8 * (y / 256) + x / 256

/-- R46: the phase group of pixel (x, y). -/
def phaseGroup (x y : Nat) : Nat := 8 * (y % 8) + x % 8

/-! ### The ramp (R46, R54) -/

/-- R46: the offset o_g of group `g`, in PWM clocks. -/
def groupOffset (n oCam g : Nat) : Nat := (g * 2 ^ (n - 6) + oCam) % 2 ^ n

/-- R46: the ramp value j of group `g` in PWM clock `t` after the tick. -/
def rampValue (n oCam g t : Nat) : Nat := (t + 2 ^ n - groupOffset n oCam g) % 2 ^ n

/-- R52: the comparator, on bits [N-1:0] of A. -/
def comparator (n code j : Nat) : Bool := decide (j < code % 2 ^ n)

/-- R52: the PWM clocks of one PWM period in which the comparator of a code is true. -/
def onClocks (n code : Nat) : Nat := ((List.range (2 ^ n)).filter fun j => comparator n code j).length

/-- R46: a pixel of code `code` in group `g` sinks current in PWM clock `t` after the tick. -/
def sinks (n oCam g code t : Nat) : Bool := comparator n code (rampValue n oCam g t)

/-- R142: the first place at or after clock `a` at which group `g` begins an on-interval. -/
def onStart (n oCam g a : Nat) : Nat := a + (groupOffset n oCam g + 2 ^ n - a % 2 ^ n) % 2 ^ n

/-- R54: the ramp value that tile `t` gives group `g` in PWM clock `k`, from its own counter. -/
def State.tileRamp (s : State) (t g k : Nat) : Nat :=
  rampValue s.frm.rampN s.frm.params.oCam g (k + (s.arr.ramp.getD t 0).toNat)

/-! ### The schedule of a calibration run (R391, R392; Table 17.2) -/

/-- R392: ns that the run takes for phase `p`; a phase that is not requested takes none. -/
def CalRun.span (r : CalRun) (p : Nat) : Nat :=
  if !r.phases.getLsbD (p - 1) then 0 else if p = 1 then 60000000 else if p = 2 then 80000000 else 1040000000

/-- Table 17.2: the phase that runs `t` ns after the start tick, by the nominal schedule; 0 before the first and after the
last. -/
def CalRun.phaseAt (r : CalRun) (t : Nat) : Nat :=
  if t < 20000000 then 0
  else if t < 20000000 + r.span 1 then 1
  else if t < 20000000 + r.span 1 + r.span 2 then 2
  else if t < 20000000 + r.span 1 + r.span 2 + r.span 3 then 3
  else 0

/-- Table 17.2: the phase of the calibration run in progress; 0 outside a phase. -/
def State.calPhase (s : State) : Nat :=
  match s.cal.run with
  | some r => if r.running then r.phaseAt (s.clk.loc - r.start) else 0
  | none => 0

/-- R391: CALRES is driven; otherwise the land is high-impedance. -/
def State.calresDriven (s : State) : Bool := s.calPhase == 2

/-- Table 17.2, step 5: the tile under test, whose sinks are forced on. -/
def State.calTile (s : State) : Option Nat :=
  match s.cal.run with
  | some r =>
    let t := s.clk.loc - r.start - (36000000 + r.span 1 + r.span 2)
    if s.calPhase = 3 ∧ 36000000 + r.span 1 + r.span 2 ≤ s.clk.loc - r.start ∧ t / 4000000 < 256 then some (t / 4000000)
    else none
  | none => none

/-! ### Currents (R55, R59, R60) -/

/-- The code that A holds for pixel (x, y) (R53). -/
def State.codeA (s : State) (x y : Nat) : Nat := (((alGet s.arr.a y).getD []).getD x 0).toNat

/-- R55: the denominator of an on-current. -/
def onDen : Nat := 32768 * 1023

/-- R55: the on-current of the pixels of tile `t` over `onDen`, in µA: 100 µA times tau_t times f_c; none flows with the
switch open. -/
def State.onCurrent (s : State) (t : Nat) : Nat :=
  if s.tileClosed t then 100 * s.arr.q.getD t 0 * s.curbLoaded else 0

/-- R55: the current of pixel (x, y) averaged over a period, over `onDen` times 2^N. -/
def State.avgCurrent (s : State) (x y : Nat) : Nat := s.onCurrent (tileOf x y) * (s.codeA x y % 2 ^ s.frm.rampN)

/-- R46, R55: the current of pixel (x, y) in PWM clock `k` after the tick, over `onDen`. The sinks of a tile under test are
forced on at full current, with curb factor 1 (Table 17.2), while its switch is closed. -/
def State.pixelCurrent (s : State) (x y k : Nat) : Nat :=
  if s.calTile = some (tileOf x y) then (if s.tileClosed (tileOf x y) then 100 * onDen else 0)
  else if comparator s.frm.rampN (s.codeA x y) (s.tileRamp (tileOf x y) (phaseGroup x y) k) then s.onCurrent (tileOf x y)
  else 0

/-- The sum of a quantity over all pixels. -/
def overPixels (f : Nat → Nat → Nat) : Nat :=
  ((List.range 512).map fun y => ((List.range 2048).map fun x => f x y).sum).sum

/-- The sum of a quantity over all phase blocks, by column and row of the block. -/
def overBlocks (f : Nat → Nat → Nat) : Nat := ((List.range 64).map fun v => ((List.range 256).map fun u => f u v).sum).sum

/-- R59: the array current in PWM clock `k` after the tick, over `onDen`. -/
def State.arrayCurrent (s : State) (k : Nat) : Nat := overPixels fun x y => s.pixelCurrent x y k

/-- R60: the average array current of the period, over `onDen` times 2^N. -/
def State.arrayAverage (s : State) : Nat := overPixels s.avgCurrent

/-- The codes of phase block (u, v). -/
def State.blockCodes (s : State) (u v : Nat) : List Nat :=
  (List.range 64).map fun g => s.codeA (8 * u + g % 8) (8 * v + g / 8) % 2 ^ s.frm.rampN

/-- R59: the bound I_peak,max, over `onDen`. -/
def State.peakBound (s : State) : Nat :=
  overBlocks fun u v =>
    s.onCurrent (tileOf (8 * u) (8 * v)) * ((64 * (s.blockCodes u v).foldl max 0 + 2 ^ s.frm.rampN - 1) / 2 ^ s.frm.rampN)

/-- R60: the phase-group step I_step, over `onDen`. -/
def State.groupStep (s : State) : Nat := overBlocks fun u v => s.onCurrent (tileOf (8 * u) (8 * v))

/-- R60: no code of a phase block exceeds 1.15 times the block's mean code. -/
def State.smooth (s : State) : Bool :=
  (List.range 64).all fun v => (List.range 256).all fun u =>
    let l := s.blockCodes u v
    l.all fun c => decide (6400 * c ≤ 115 * l.sum)

/-- R60: the bound 1.15 x I_avg + I_step of smooth content, over 100 times `onDen` times 2^N. -/
def State.smoothBound (s : State) : Nat := 115 * s.arrayAverage + 100 * 2 ^ s.frm.rampN * s.groupStep

/-! ### Over-current thresholds (R156 to R158) -/

/-- R156: the local time at which the PWM period that runs began, and whether it is the last, partial one of a stretched
period. -/
def State.window (s : State) : Nat × Bool :=
  let k := s.pwmClocks false s.clk.loc / 2 ^ s.frm.rampN
  let start (k : Nat) : Nat := s.frm.tickLoc + k * 2 ^ s.frm.rampN * s.frm.fDen / max 1 s.frm.fNum
  (start k, s.frm.stretched && decide (s.frm.tickLoc + s.frm.period < start (k + 1)))

/-- R157: the local time from which tile `t` counts its charge: its close after a trip, or the start of the window. -/
def State.chargeFrom (s : State) (t : Nat) : Nat := max s.window.1 ((alGet s.arr.chargeAt t).getD 0)

/-- R156: c_w, the highest curb code loaded during the window. -/
def State.windowCurb (s : State) : Nat :=
  if s.window.1 < s.pho.curbAt then max s.pho.curbOld s.curbLoaded else s.curbLoaded

/-- R156: `t` is the state in which the curb DAC has loaded another code than in `s`; the highest code that the window had
before it is kept. -/
def curbLoad (t s : State) : State := t.mapPho fun p => { p with curbOld := s.windowCurb, curbAt := s.clk.loc }

/-- R156: T_pwm in ns, numerator and denominator. -/
def State.tPwm (s : State) : Nat × Nat := (2 ^ s.frm.rampN * s.frm.fDen, max 1 s.frm.fNum)

/-- R156: Q_t,pred in µA ns, numerator and denominator; of a tile under test by its forced current (R393). -/
def State.tilePred (s : State) (t : Nat) : Nat × Nat :=
  if s.calTile = some t then (4096 * 100 * s.tPwm.1, s.tPwm.2)
  else (100 * s.arr.aT.getD t 0 * s.windowCurb * s.tPwm.1, onDen * 2 ^ s.frm.rampN * s.tPwm.2)

/-- R156: a charge in µA ns, drawn by tile `t` since `chargeFrom`, trips it: more than 1.10 x Q_t,pred + 1 mA x T_pwm.
The last, partial PWM period of a stretched period is not checked. -/
def State.chargeTrips (s : State) (t charge : Nat) : Bool :=
  let q := s.tilePred t
  !s.window.2 && decide (11 * q.1 * s.tPwm.2 + 10000 * s.tPwm.1 * q.2 < 10 * charge * q.2 * s.tPwm.2)

/-- R156: a current of `ma` mA for `ns` ns trips a tile. -/
def currentTrips (ma ns : Nat) : Bool := decide (450 < ma) && decide (200 ≤ ns)

/-- R156, R157: the check window of tile `t` lets what its comparators measured trip it. -/
def State.tileTrips (s : State) (m : TileTrip) : Bool := s.chargeTrips m.tile.toNat m.charge || currentTrips m.ma m.ns

/-- R158: the array current that the check allows, in µA: the I_limit of the frame shown, in mA, or the forced current of
the tile under test (R393). -/
def State.arrayPred (s : State) : Nat :=
  if s.calTile.isSome then 4096 * 100 else 1000 * (s.frm.shown.map Shown.iLimit).getD s.frm.params.iLimit

/-- R158: a charge in µA ns, drawn by all tiles since the window began, trips the array: more than
1.10 x I_limit x T_pwm. -/
def State.arrayTrips (s : State) (charge : Nat) : Bool :=
  decide (11 * s.arrayPred * s.tPwm.1 < 10 * charge * s.tPwm.2)

end Sys2Proof.Machine
end

