-- ==== Sys2Proof/Machine/Scenes.lean ====
section
/-!
DEFINITION. Surfaces, layers, posts, capture set-up and scenes: the commands (`11_commands_light.md`, R244 to R253;
`05_surfaces.md`, R101 to R104; `06_composition.md`, R118 to R133).
-/
namespace Sys2Proof.Machine

/-! ### Surfaces -/

/-- A defined surface. -/
def State.surf (s : State) (id : Nat) : Option Surface := s.scn.surfs.find? fun d => d.id == id

/-- R103, R244: `SURFACE_DEFINE`. -/
def surfaceDefineBody (sub : Sub) (id : Half) (d : SurfDesc) (s : State) : State :=
  if 4 ≤ d.layout.toNat ∨ id = 0 ∨ 4095 < id.toNat then finish 0x20 sub stBadOperand 0 s
  else if (s.surf id.toNat).isSome then finish 0x20 sub stInUse 0 s
  else match s.handle d.handle with
    | none => finish 0x20 sub stBadHandle 0 s
    | some h =>
      if !SurfDesc.ok d h.size then finish 0x20 sub stBadOperand 0 s
      else
        let eff := SurfDesc.effSize d h.size
        finish 0x20 sub stOk (BitVec.ofNat 64 (id.toNat + 2 ^ 32 * eff))
          (s.mapScn fun c => { c with surfs := c.surfs ++ [⟨id.toNat, SurfDesc.withDefaults d, eff⟩] })

/-- `SURFACE_DEFINE` (R103). -/
def execSurfaceDefine (sub : Sub) (id : Half) (d : SurfDesc) (s : State) : Answer :=
  ringCmd (.surfaceDefine sub id d) (surfaceDefineBody sub id d) s

/-- R102, R131, R244: `SURFACE_RETIRE`. -/
def surfaceRetireBody (sub : Sub) (id : Half) (s : State) : State :=
  if (s.surf id.toNat).isNone then finish 0x21 sub stBadHandle 0 s
  else if s.surfUsed id.toNat then finish 0x21 sub stInUse 0 s
  else finish 0x21 sub stOk 0 (s.mapScn fun c => { c with surfs := c.surfs.filter fun d => d.id != id.toNat })

/-- `SURFACE_RETIRE` (R102). -/
def execSurfaceRetire (sub : Sub) (id : Half) (s : State) : Answer :=
  ringCmd (.surfaceRetire sub id) (surfaceRetireBody sub id) s

/-! ### Pool data that a command reads at execution (R246, R257, R397) -/

/-- What reading `n` bytes at `off` of a handle gives a command: `ST_BAD_HANDLE`, `ST_BAD_OPERAND` beyond the
handle, `ST_MEM_ERROR` with the uncorrectable units, or the bytes. -/
inductive PoolRead where
  | bad (st : Half)
  | units (l : List Nat)
  | data (l : List Byte)
  deriving DecidableEq, Repr

/-- R228: pool data whose `OFFSET` is a multiple of 64: the operand table names `HANDLE` before `OFFSET`. -/
def State.unaligned (s : State) (handle : Half) (off : Nat) : Bool := (s.handle handle).isSome && off % 64 != 0

/-- Read pool data for a command at execution. -/
def State.poolRead (s : State) (handle : Half) (off n : Nat) : PoolRead :=
  match s.handle handle with
  | none => .bad stBadHandle
  | some h =>
    if h.size < off + n then .bad stBadOperand
    else if !(s.ueOf h off n).isEmpty then .units (s.ueOf h off n)
    else .data (s.poolBytes h off n)

/-- R176: the single-bit errors that such a read meets. -/
def copied (handle : Half) (off n : Nat) (s : State) : State :=
  match s.handle handle with
  | none => s
  | some h => meetCe 10 (h.units off n) s

/-! ### The shape list (R247, Table 11.9) -/

/-- A little-endian number of a list's bytes. -/
def leAt (l : List Byte) (k n : Nat) : Nat := ofLE ((l.drop k).take n)

/-- A 24-bit signed coordinate. -/
def coordAt (l : List Byte) (k : Nat) : Int :=
  let v := leAt l k 3
  if v < 0x800000 then v else (v : Int) - 0x1000000

/-- R247: a coordinate in range. -/
def coordOk (v : Int) : Bool := decide (-65536 ≤ v) && decide (v ≤ 65535)

/-- Bytes `k` and on are zero. -/
def zeroFrom (l : List Byte) (k : Nat) : Bool := (l.drop k).all fun b => b == 0

/-- One shape record of 64 bytes, or none when it fails Table 11.9. -/
def parseShape (r : List Byte) : Option Shape :=
  let v := leAt r 2 2
  match leAt r 0 1 with
  | 0 =>
    let c := [coordAt r 4, coordAt r 7, coordAt r 10, coordAt r 13]
    if leAt r 1 1 = 0 ∧ zeroFrom r 16 ∧ c.all coordOk then
      some (.rect v (coordAt r 4) (coordAt r 7) (coordAt r 10) (coordAt r 13)) else none
  | 1 =>
    let c := [coordAt r 4, coordAt r 7, coordAt r 10, coordAt r 13]
    if leAt r 1 1 = 0 ∧ zeroFrom r 16 ∧ c.all coordOk ∧ 1 ≤ coordAt r 10 ∧ 1 ≤ coordAt r 13 then
      some (.ellipse v (coordAt r 4) (coordAt r 7) (coordAt r 10) (coordAt r 13)) else none
  | 2 =>
    let n := leAt r 1 1
    let vs := (List.range n).map fun i => (coordAt r (4 + 6 * i), coordAt r (7 + 6 * i))
    if 3 ≤ n ∧ n ≤ 8 ∧ zeroFrom r (4 + 6 * n) ∧ vs.all (fun p => coordOk p.1 && coordOk p.2) then
      some (.polygon v vs) else none
  | _ => none

/-- A list of `n` shape records; none when one fails. -/
def parseShapes (l : List Byte) : Nat → Option (List Shape)
  | 0 => some []
  | n + 1 =>
    match parseShape (l.take 64), parseShapes (l.drop 64) n with
    | some a, some b => some (a :: b)
    | _, _ => none

/-! ### `LAYER_SET` (R118, R245, R246) -/

/-- Table 11.7: the blend modes. -/
def blendOf (b : Byte) : Option Blend :=
  match b.toNat with
  | 0 => some .sourceOver
  | 1 => some .multiply
  | 2 => some .max
  | 3 => some .min
  | 4 => some .replace
  | _ => none

/-- Table 11.7: the not-ready policies. -/
def notReadyOf (b : Byte) : Option NotReady :=
  match b.toNat with
  | 0 => some .hold
  | 1 => some .transparent
  | 2 => some .conservative
  | 3 => some .repeatFrame
  | _ => none

/-- Table 06.2: the ranges of a V or G layer, and the fields that do not apply to it (R245). -/
def LayerOps.vgOk (isV : Bool) (o : LayerOps) : Bool :=
  decide (o.surface.toNat ≤ 4095) && decide (o.srcX.toNat ≤ 8191) && decide (o.srcY.toNat ≤ 4095)
  && decide (o.srcW.toNat ≤ 8192) && decide (o.srcH.toNat ≤ 4096)
  && decide (-8192 ≤ o.dstX.toInt) && decide (o.dstX.toInt ≤ 8191)
  && decide (-8192 ≤ o.dstY.toInt) && decide (o.dstY.toInt ≤ 8191)
  && o.s0Y == 0 && o.glareSafe == 0
  && (if isV then
        decide (o.dstW.toNat ≤ 16384) && decide (o.dstH.toNat ≤ 16384) && [1, 2, 4].contains o.predec.toNat
          && decide (o.coef.toNat ≤ 15)
      else o.dstW == 0 && o.dstH == 0 && o.predec == 0 && o.coef == 0)

/-- The shape operands of an S0 block: handle, offset, count (Table 11.7). -/
def LayerOps.shapeOffset (o : LayerOps) : Nat := o.srcX.toNat + 2 ^ 16 * o.srcY.toNat
def LayerOps.shapeCount (o : LayerOps) : Nat := o.srcW.toNat

/-- Table 11.7, R245, R246: the operands of S0 apart from the list itself. -/
def LayerOps.s0Ok (o : LayerOps) (streaming : Bool) : Bool :=
  decide (o.srcW.toNat ≤ 64) && o.srcH == 0 && LayerOps.shapeOffset o % 64 == 0
  && o.dstX == 0 && o.dstY == 0 && o.dstW == 0 && o.dstH == 0 && o.predec == 0 && o.coef == 0
  && (!(streaming || o.srcW == 0) || (o.surface == 0 && LayerOps.shapeOffset o == 0))
  && (!streaming || o.srcW == 0)

/-- The layer that form 0 sets. -/
def LayerOps.toCfg (o : LayerOps) (layer : Nat) (b : Blend) (n : NotReady) : LayerCfg :=
  let isV := decide (layer < 2)
  let isS := layer == 6
  { surface := if isS then 0 else o.surface.toNat
    srcX := if isS then 0 else o.srcX.toNat
    srcY := if isS then 0 else o.srcY.toNat
    srcW := if isS then 0 else o.srcW.toNat
    srcH := if isS then 0 else o.srcH.toNat
    dstX := o.dstX.toInt, dstY := o.dstY.toInt
    dstW := if isV then o.dstW.toNat else if isS then 0 else o.srcW.toNat
    dstH := if isV then o.dstH.toNat else if isS then 0 else o.srcH.toNat
    predec := if isV then o.predec.toNat else 1
    coefH := o.coef.toNat % 4, coefV := o.coef.toNat / 4 % 4
    blend := b, notReady := n, streaming := o.streaming == 1, alpha := o.alpha.toNat
    s0Y := o.s0Y.toNat, glareSafe := o.glareSafe.toNat
    shHandle := if isS then o.surface else 0
    shOffset := if isS then LayerOps.shapeOffset o else 0
    shCount := if isS then LayerOps.shapeCount o else 0 }

/-- Change the working scene. -/
def mapWork (f : Scene → Scene) (s : State) : State := s.mapScn fun c => { c with work := f c.work }

/-- The named layer takes its block; S0 also its shape list. -/
def setLayer (layer : Nat) (c : LayerCfg) (shapes : Option (List Shape)) (s : State) : State :=
  mapWork (fun w => { w with layers := w.layers.set layer c, shapes := shapes.getD w.shapes }) s

/-- Form 0 (R245, R246). -/
def layerParams (sub : Sub) (layer : Nat) (o : LayerOps) (s : State) : State :=
  match blendOf o.blend, notReadyOf o.notReady with
  | some b, some n =>
    let streaming := o.streaming == 1
    if 6 < layer ∨ 1 < o.streaming.toNat then finish 0x22 sub stBadOperand 0 s
    else if layer < 6 then
      if LayerOps.vgOk (decide (layer < 2)) o then finish 0x22 sub stOk 0 (setLayer layer (LayerOps.toCfg o layer b n) none s)
      else finish 0x22 sub stBadOperand 0 s
    else if !LayerOps.s0Ok o streaming then finish 0x22 sub stBadOperand 0 s
    else if LayerOps.shapeCount o = 0 then
      finish 0x22 sub stOk 0 (setLayer 6 (LayerOps.toCfg o 6 b n) (some []) s)
    else match s.poolRead o.surface (LayerOps.shapeOffset o) (64 * LayerOps.shapeCount o) with
      | .bad st => finish 0x22 sub st 0 s
      | .units l => finish 0x22 sub stMemError 0 (raiseUe 10 l s)
      | .data bs =>
        let s := copied o.surface (LayerOps.shapeOffset o) (64 * LayerOps.shapeCount o) s
        match parseShapes bs (LayerOps.shapeCount o) with
        | none => finish 0x22 sub stBadOperand 0 s
        | some sh => finish 0x22 sub stOk 0 (setLayer 6 (LayerOps.toCfg o 6 b n) (some sh) s)
  | _, _ => finish 0x22 sub stBadOperand 0 s

/-- A signed 16-bit coefficient of a block. -/
def coefAt (l : List Byte) (k : Nat) : Int :=
  let v := leAt l (2 * k) 2
  if v < 32768 then v else (v : Int) - 65536

/-- Table 11.8, form 1: the block of 1,536 bytes. -/
def parseCoefs (l : List Byte) : CoefSet :=
  { h := (List.range 64).map fun p => (List.range 8).map fun t => coefAt l (8 * p + t)
    v := (List.range 64).map fun p => (List.range 4).map fun t => coefAt l (512 + 4 * p + t) }

/-- R125: signed 12-bit taps whose sum is 1,024 in every phase. -/
def coefsOk (c : CoefSet) : Bool :=
  CoefSet.ok c && (c.h ++ c.v).all fun taps => taps.all fun t => decide (-2048 ≤ t ∧ t ≤ 2047)

/-- Form 1 (R125, R246). -/
def layerCoefs (sub : Sub) (set : Byte) (handle : Half) (offset : Word) (s : State) : State :=
  if set = 0 ∨ 3 < set.toNat then finish 0x22 sub stBadOperand 0 s
  else if s.unaligned handle offset.toNat then finish 0x22 sub stBadOperand 0 s
  else match s.poolRead handle offset.toNat 1536 with
    | .bad st => finish 0x22 sub st 0 s
    | .units l => finish 0x22 sub stMemError 0 (raiseUe 10 l s)
    | .data bs =>
      let c := parseCoefs bs
      let s := copied handle offset.toNat 1536 s
      if coefsOk c then finish 0x22 sub stOk 0 (s.mapScn fun x => { x with coefs := x.coefs.set set.toNat c })
      else finish 0x22 sub stBadOperand 0 s

/-- Form 2 (R120, R245): layer indices 0 to 6; the permutation is checked at commit. -/
def layerOrder (sub : Sub) (mode : Byte) (idx : List Byte) (s : State) : State :=
  if 1 < mode.toNat ∨ (mode = 0 ∧ idx.any (· != 0)) ∨ idx.any (fun i => decide (6 < i.toNat)) then finish 0x22 sub stBadOperand 0 s
  else
    let order := if mode = 0 then List.range 7 else (padTo 7 idx).map BitVec.toNat
    finish 0x22 sub stOk 0 (mapWork (fun w => { w with orderMode := mode.toNat, order := order }) s)

/-- `LAYER_SET` by its form. -/
def layerSetBody (sub : Sub) (f : LayerForm) (s : State) : State :=
  match f with
  | .params layer o => layerParams sub layer.toNat o s
  | .coefs set handle offset => layerCoefs sub set handle offset s
  | .order mode idx => layerOrder sub mode idx s
  | .bad _ => finish 0x22 sub stBadOperand 0 s

/-- `LAYER_SET` (R245). -/
def execLayerSet (sub : Sub) (f : LayerForm) (s : State) : Answer :=
  ringCmd (.layerSet sub f) (layerSetBody sub f) s

/-! ### Posts (R133, R248) -/

/-- R248: `STREAMING` of a layer in the scene that will be in force at the next cut-off: the newest staged scene if
there is one. -/
def State.streamingNext (s : State) (layer : Nat) : Bool :=
  let sc := match s.scn.staged.getLast? with
    | some g => g.scene
    | none => (s.scn.cur.map Staged.scene).getD Scene.reset
  ((sc.layers[layer]?).map LayerCfg.streaming).getD false

/-- Table 11.6: the fence operands, none when out of range. -/
def fenceOf (sub : Sub) (f : FenceOps) : Option (Option Fence) :=
  if f.valid = 0 then (if f.ring = 0 ∧ f.seq = 0 then some none else none)
  else if f.valid = 1 ∧ f.ring.toNat ≤ 15 then some (some ⟨sub.origin, f.ring.toNat, f.seq⟩)
  else none

/-- R37, R248: the frame whose cut-off first considers a post. -/
def State.postFrame (s : State) : Word := if s.frm.cutDone then s.nextFrame + 1 else s.nextFrame

/-- R133, R248: the checks that a post shares, then the post: `LAYER`, the surface or handle that it names, the ranges of
its other operands (`ok`) with the fence, then `STREAMING` (log entry 79). -/
def postBody (op : Nat) (sub : Sub) (layer : Nat) (named ok : Bool) (fence : FenceOps)
    (mk : Option Fence → Post) (s : State) : State :=
  if 6 < layer then finish op sub stBadOperand 0 s
  else if !named then finish op sub stBadHandle 0 s
  else match fenceOf sub fence with
  | none => finish op sub stBadOperand 0 s
  | some f =>
    if !ok then finish op sub stBadOperand 0 s
    else if !s.streamingNext layer then finish op sub stWrongState 0 s
    else
      finish op sub stOk (s.postFrame.zeroExtend 64)
        (usesAdd (if layer = 6 then [] else [(mk f).surface]) (if layer = 6 then [(mk f).handle] else [])
          (s.mapScn fun c => { c with runs := c.runs.modify layer fun r => { r with newest := some (mk f) } }))

/-- R172: a surface that a new post can name: defined, and not on a freeing handle. -/
def State.postable (s : State) (id : Nat) : Bool :=
  match s.surf id with
  | some d => (s.handle d.desc.handle).isSome
  | none => false

/-- `LAYER_POST` (R248). -/
def execLayerPost (sub : Sub) (o : PostOps) (s : State) : Answer :=
  ringCmd (.layerPost sub o) (fun s =>
    postBody 0x23 sub (if o.layer.toNat ≤ 5 then o.layer.toNat else 7) (s.postable o.surface.toNat) true o.fence
      (fun f => ⟨o.surface.toNat, 0, 0, 0, o.srcX.toNat, o.srcY.toNat, o.srcW.toNat, o.srcH.toNat, f, none⟩) s) s

/-- `SHAPES_POST` (R248). -/
def execShapesPost (sub : Sub) (handle : Half) (offset : Word) (count : Byte) (fence : FenceOps) (s : State) : Answer :=
  ringCmd (.shapesPost sub handle offset count fence) (fun s =>
    postBody 0x24 sub 6 (s.handle handle).isSome (decide (count.toNat ≤ 64) && offset.toNat % 64 == 0) fence
      (fun f => ⟨0, handle, offset.toNat, count.toNat, 0, 0, 0, 0, f, none⟩) s) s

/-! ### Capture set-up (R117, R251) -/

/-- Table 11.6: the capture modes. -/
def captureModeOf (b : Byte) : Option CaptureMode :=
  match b.toNat with
  | 0 => some .off
  | 1 => some .continuous
  | 2 => some .single
  | _ => none

/-- `CAPTURE_SET` on the working scene. -/
def captureSetBody (sub : Sub) (surface : Half) (tap mode : Byte) (s : State) : State :=
  let put (m : CaptureMode) : State :=
    mapWork (fun w => { w with capSurf := surface.toNat, capTap := tap.toNat, capMode := m }) s
  match captureModeOf mode with
  | some .off =>
    if surface = 0 ∧ tap.toNat ≤ 1 then finish 0x25 sub stOk 0 (put .off) else finish 0x25 sub stBadOperand 0 s
  | m => match s.surf surface.toNat with
    | none => finish 0x25 sub stBadHandle 0 s
    | some d => match m with
      | none => finish 0x25 sub stBadOperand 0 s
      | some m =>
        if SurfDesc.captureOk d.desc ∧ tap.toNat ≤ 1 then finish 0x25 sub stOk 0 (put m)
        else finish 0x25 sub stBadOperand 0 s

/-- `CAPTURE_SET` (R251). -/
def execCaptureSet (sub : Sub) (surface : Half) (tap mode : Byte) (s : State) : Answer :=
  ringCmd (.captureSet sub surface tap mode) (captureSetBody sub surface tap mode) s

/-! ### Scenes (R129 to R132) -/

/-- R104, R118: a V or G layer that composes something. -/
def State.layerOn (s : State) (layer : Nat) (l : LayerCfg) : Option Surface :=
  if l.surface = 0 ∨ l.srcW = 0 ∨ l.srcH = 0 ∨ (layer < 2 ∧ (l.dstW = 0 ∨ l.dstH = 0)) then none
  else match s.surf l.surface with
    | some d => if SurfDesc.isEmpty d.desc then none else some d
    | none => none

/-- R132: B of a scene. -/
def State.sceneBytes (s : State) (c : Scene) : Nat :=
  (((c.layers.take 6).zipIdx).map fun e =>
    match s.layerOn e.2 e.1 with
    | some d => layerBytes (decide (e.2 < 2)) e.1 d
    | none => 0).sum + 4096 + (if c.capMode = .off then 0 else 2097152)

/-- R120: each of the seven host layers exactly once. -/
def orderOk (l : List Nat) : Bool := l.length == 7 && (List.range 7).all fun k => l.contains k

/-- Table 06.4, check 2. -/
def State.sourceOk (s : State) (l : LayerCfg) : Bool :=
  match s.surf l.surface with
  | some d => decide (l.srcX + l.srcW ≤ d.desc.width.toNat) && decide (l.srcY + l.srcH ≤ d.desc.height.toNat)
  | none => true

/-- Table 06.4, checks 1 to 3. -/
def State.sceneCheck13 (s : State) (c : Scene) : Option Half :=
  let host := c.layers.take 6
  if c.surfaces.any fun i => (s.surf i).isNone then some stBadHandle
  else if !(host.all s.sourceOk) || !orderOk c.order || host.any (fun l => l.notReady == .conservative) then
    some stBadOperand
  else if (c.layers.take 2).zipIdx.any fun e =>
      (s.layerOn e.2 e.1).isSome && !scalerOk e.1.srcW e.1.srcH e.1.dstW e.1.dstH e.1.predec then some stBadOperand
  else none

/-- Table 06.4, checks 4 and 5. -/
def State.sceneCheck45 (s : State) (c : Scene) : Option Half :=
  if c.capMode = .off then none
  else match s.surf c.capSurf with
    | none => some stBadHandle
    | some d =>
      if !SurfDesc.captureOk d.desc then some stBadOperand
      else if c.layers.any fun l => l.surface = c.capSurf then some stInUse
      else none

/-- R27, R35: the tick source in force is INTERNAL. -/
def State.internal (s : State) : Bool := s.frm.src == .internal

/-- R37: the local time of the cut-off of the next frame under a lead in µs. -/
def State.cutTime (s : State) (lead : Nat) : Nat :=
  max (s.frm.tickLoc + 20000) (s.frm.tickLoc + s.frm.period - (1000 * lead + 10000))

/-- R37: the first frame that a scene with this lead can have. -/
def State.firstFrame (s : State) (lead : Nat) : Word :=
  if s.frm.cutDone || (s.frm.ticked && decide (s.cutTime lead < s.clk.loc)) then s.nextFrame + 1 else s.nextFrame

/-- Table 06.4, checks 6 to 8: the first frame of the commit or the failing status. -/
def State.commitFrame (s : State) (sub : Sub) (frame : Word) (bytes : Nat) : Except Half Word :=
  let p := s.frm.params
  let first := s.firstFrame (leadUs bytes p.leadFix p.tGuard)
  let f := if sub.atTick then frame else first
  if 4 ≤ s.scn.staged.length ∧ !(s.scn.staged.any fun g => g.first == f) then .error stBusy
  else if !budgetOk bytes p.leadFix p.tGuard p.pNom s.internal then .error stBudget
  else if sub.atTick && (s.passed f || decide (2 ^ 31 ≤ (f - first).toNat)) then .error stWrongState
  else .ok f

/-- R129, R130: the commit. -/
def sceneCommitBody (sub : Sub) (frame : Word) (s : State) : State :=
  let c := s.scn.work
  if !frameOperandOk sub frame then finish 0x30 sub stBadOperand 0 s
  else match (s.sceneCheck13 c).or (s.sceneCheck45 c) with
    | some st => finish 0x30 sub st 0 s
    | none =>
      let bytes := s.sceneBytes c
      match s.commitFrame sub frame bytes with
      | .error st => finish 0x30 sub st 0 s
      | .ok f =>
        let g : Staged := ⟨s.scn.nextSeq, f, c, s.scn.coefs, bytes⟩
        let p := s.frm.params
        let st := if f = s.firstFrame (leadUs bytes p.leadFix p.tGuard) then stOk else stOkDeferred
        finish 0x30 sub st (BitVec.ofNat 64 (g.seq.toNat + 2 ^ 32 * f.toNat))
          (usesAdd c.surfaces [] (s.mapScn fun x =>
            { x with staged := x.staged.filter (fun h => h.first != f) ++ [g], nextSeq := x.nextSeq + 1 }))

/-- `SCENE_COMMIT` (R129, R130, R252). -/
def execSceneCommit (sub : Sub) (frame : Word) (s : State) : Answer :=
  ringCmd (.sceneCommit sub frame) (sceneCommitBody sub frame) s

/-! ### `SCENE_QUERY` (R253, Table 11.10) -/

/-- The `BLEND` and `NOT_READY` codes of Table 11.7. -/
def Blend.code : Blend → Nat
  | .sourceOver => 0
  | .multiply => 1
  | .max => 2
  | .min => 3
  | .replace => 4
def NotReady.code : NotReady → Nat
  | .hold => 0
  | .transparent => 1
  | .conservative => 2
  | .repeatFrame => 3
def CaptureMode.code : CaptureMode → Nat
  | .off => 0
  | .continuous => 1
  | .single => 2

/-- The form-0 operands that set a layer. -/
def LayerCfg.toOps (l : LayerCfg) (layer : Nat) : LayerOps :=
  let isV := decide (layer < 2)
  let isS := layer == 6
  { surface := if isS then l.shHandle else BitVec.ofNat 16 l.surface
    srcX := BitVec.ofNat 16 (if isS then l.shOffset else l.srcX)
    srcY := BitVec.ofNat 16 (if isS then l.shOffset / 65536 else l.srcY)
    srcW := BitVec.ofNat 16 (if isS then l.shCount else l.srcW)
    srcH := BitVec.ofNat 16 (if isS then 0 else l.srcH)
    dstX := BitVec.ofInt 16 l.dstX, dstY := BitVec.ofInt 16 l.dstY
    dstW := BitVec.ofNat 16 (if isV then l.dstW else 0)
    dstH := BitVec.ofNat 16 (if isV then l.dstH else 0)
    predec := BitVec.ofNat 8 (if isV then l.predec else 0)
    coef := BitVec.ofNat 8 (if isV then l.coefH + 4 * l.coefV else 0)
    blend := BitVec.ofNat 8 (Blend.code l.blend), notReady := BitVec.ofNat 8 (NotReady.code l.notReady)
    streaming := BitVec.ofNat 8 (flag l.streaming), alpha := BitVec.ofNat 16 l.alpha
    s0Y := BitVec.ofNat 16 (if isS then l.s0Y else 0)
    glareSafe := BitVec.ofNat 16 (if isS then l.glareSafe else 0) }

/-- Bytes 16 to 63 of the `LAYER_SET` that sets a layer. -/
def LayerCfg.block (l : LayerCfg) (layer : Nat) : List Byte :=
  leBytes ((layerOpsAt layer (l.toOps layer)).map fun e => e.2 * 2 ^ (8 * (e.1 - 16))).sum 48

/-- The scene that a `WHICH` names, with its sequence and first frame. -/
def State.queried (s : State) (which : Nat) : Option (Scene × Word × Word) :=
  match which with
  | 0 => match s.scn.cur with
    | some g => some (g.scene, g.seq, g.first)
    | none => some (Scene.reset, 0, 0)
  | 1 => some (s.scn.work, 0, 0)
  | _ => s.scn.staged.getLast?.map fun g => (g.scene, g.seq, g.first)

/-- The bytes counted for a queried scene; none where checks 1 to 3 of Table 06.4 fail for the working scene. -/
def State.queriedBytes (s : State) (which : Nat) (c : Scene) : Option Nat :=
  match which with
  | 0 => match s.scn.cur with
    | some g => some g.bytes
    | none => some (s.sceneBytes c)
  | 1 => if (s.sceneCheck13 c).isSome then none else some (s.sceneBytes c)
  | _ => s.scn.staged.getLast?.map Staged.bytes

/-- The 512-byte record of Table 11.10; `noLead` is the free value of an automatic L where B does
not exist (R35). -/
def State.sceneRecord (s : State) (c : Scene) (seq first : Word) (bytes : Option Nat) (noLead : Nat) : List Byte :=
  let p := s.frm.params
  padTo 512 <|
    b4 seq.toNat ++ b4 first.toNat ++ b4 (bytes.getD 0xFFFFFFFF)
    ++ b4 (match bytes with
      | some b => ceilDiv (composeEst9 b) 9000
      | none => 0xFFFFFFFF)
    ++ b4 (match bytes with
      | some b => leadUs b p.leadFix p.tGuard
      | none => if p.leadFix ≠ 0 then p.leadFix else noLead)
    ++ b4 s.scn.staged.length
    ++ b1 c.orderMode ++ (if c.orderMode = 0 then List.replicate 7 0 else c.order.flatMap b1)
    ++ b2 c.capSurf ++ b1 c.capTap ++ b1 (CaptureMode.code c.capMode) ++ List.replicate 28 0
    ++ c.layers.zipIdx.flatMap fun e => e.1.block e.2

/-- `SCENE_QUERY`. -/
def sceneQueryBody (sub : Sub) (which : Byte) (dest : Dword) (s : State) : State :=
  if 2 < which.toNat then finish 0x31 sub stBadOperand 0 s
  else match s.queried which.toNat with
    | none => finish 0x31 sub stWrongState 0 s
    | some (c, seq, first) =>
      let (k, s) := s.draw
      let rep := s.sceneRecord c seq first (s.queriedBytes which.toNat c) (Config.freePick k)
      reply 0x31 sub stOk (BitVec.ofNat 64 (seq.toNat + 2 ^ 32 * first.toNat)) [(0, dest, rep)] s

/-- `SCENE_QUERY` (R253). -/
def execSceneQuery (sub : Sub) (which : Byte) (dest : Dword) (s : State) : Answer :=
  ringCmd (.sceneQuery sub which dest) (sceneQueryBody sub which dest) s

end Sys2Proof.Machine
end

