-- ==== Sys2Proof/Machine/Frame.lean ====
section
/-!
DEFINITION. The frame from its cut-off to its guard: the frame decision (`14_safety_functions.md`, R334, R340, R349),
the readiness of layers (`06_composition.md`, R133 to R137), the rows of a composition or fallback fill with their checks
(R76, R77, R93, R128, R137, R138, R344, R348), and the guard start (`02_frame_and_tick.md`, R42; R88, R98).
-/
namespace Sys2Proof.Machine

/-- R24: ticks run. -/
def State.ticking (s : State) : Bool :=
  s.frm.ticked && (s.pwr.mode == .startup || s.pwr.mode == .idle || s.pwr.mode == .active)

/-- Table 02.2: a frame event that is enabled. -/
def frameEvent (bit code : Nat) (data : List Byte) (s : State) : State :=
  if s.frm.params.events.getLsbD bit then emit code data s else s

/-- Table 08.2: the firmware working memory. -/
def inFirmware (u : Nat) : Bool := decide (0x06600000 ≤ u ∧ u < 0x06E00000)

/-- R176: the cores, which run at every tick, meet the errors in their working memory: an access of kind 9. An uncorrectable
unit there raises once until `F_MEM_UE` is acknowledged, as in the uniformity map (DESIGN CHOICE, assumption 10). -/
def firmMeet (q : List Raise × State) : List Raise × State :=
  let q := frameCe 9 0 0 (q.2.pool.ce.filter inFirmware) q
  (q.2.pool.ue.filter fun u => inFirmware u && !q.2.pool.mapUe.contains u).foldl
    (fun q u => frameMem fMemUe u 9 0 0 (q.1, q.2.mapPool fun p => { p with mapUe := p.mapUe ++ [u] })) q

/-- R84, R177: every unit of the uniformity map is rewritten. -/
def mapFresh (s : State) : State :=
  (unitsFresh (fun u => decide (0x06000000 ≤ u ∧ u < 0x06100000)) s).mapPool fun p => { p with mapUe := [] }

/-! ### The cut-off (R37, R130, R334) -/

/-- Layer `i` takes posts in a scene. -/
def streamsIn (g : Option Staged) (i : Nat) : Bool :=
  ((g.bind fun g => g.scene.layers[i]?).map LayerCfg.streaming).getD false

/-- R130, R137: the scene due at the cut-off is committed; the staged scenes that are due leave the list. Where a layer takes
no posts before it or in it, a scene whose SCENE_COMMIT executed after a memory error ends cause 6 (DESIGN CHOICE,
assumption 79). -/
def commitDue (s : State) : State :=
  let f := s.nextFrame
  let g := s.sceneFor f
  let old := s.scn.cur
  s.mapScn fun c =>
    { c with
      cur := g
      staged := c.staged.filter fun x => 2 ^ 31 ≤ (f - x.first).toNat
      runs := c.runs.zipIdx.map fun (r, i) =>
        match g with
        | some g =>
          if !(streamsIn old i && streamsIn (some g) i) && r.memErr
            && (decide (0 < (g.seq - r.errScene).toNat ∧ (g.seq - r.errScene).toNat < 2 ^ 31)) then
            { r with memErr := false, errUnits := [] }
          else r
        | none => r }

/-- R334, R340, R44, R393: the next frame comes from the fallback path: on a cause of FALLBACK_BEAM, of which causes 3
and 4 are told by the skips and the escalation that call for the next frame. -/
def State.fallbackNext (s : State) : Bool :=
  s.frm.escNext || decide (2 ≤ s.frm.skips) || beamCauses s.causes &&& 0x0E7 != 0 || s.cal.abortFill

/-- R340: compared with the frame in A, the decision adds a demanded mark or switches road mode on. -/
def State.escalates (s : State) : Bool :=
  match s.frm.shown with
  | none => s.demanded != 0 || s.road
  | some h => s.demanded &&& ~~~h.demanded != 0 || (s.road && !h.road)

/-- The state of a copy fence (R250). -/
inductive FenceState where
  | complete
  | pending
  | failed
  deriving DecidableEq, Repr

/-- R250: a fence in a duplicate window. -/
def fenceIn (window : List WinEntry) (seqValid : Bool) (lastSeq seq : Word) : FenceState :=
  match window.find? fun e => e.seq == seq with
  | some e => if !e.done then .pending else if isSuccess e.status then .complete else .failed
  | none =>
    if !seqValid || decide (0 < (seq - lastSeq).toNat ∧ (seq - lastSeq).toNat < 2 ^ 31) then .pending else .failed

/-- R250: the window of the ring that a fence names. -/
def State.fenceState (s : State) (f : Fence) : FenceState :=
  match f.origin with
  | none => let r := s.ring f.ring; fenceIn r.window r.seqValid r.lastSeq f.seq
  | some o => match s.originWin o f.ring with
    | some w => fenceIn w.window w.seqValid w.lastSeq f.seq
    | none => .pending

/-- R134, R249: a shape list as the freeze reads it; none when it cannot be read. -/
def State.readList (s : State) (p : Post) : Option (List Shape) :=
  match s.handleAny p.handle with
  | none => none
  | some h =>
    if h.size < p.offset + 64 * p.count ∨ !(s.ueOf h p.offset (64 * p.count)).isEmpty then none
    else parseShapes (s.poolBytes h p.offset (64 * p.count)) p.count

/-- R134, R249: the uncorrectable units that the freeze meets in a shape list. -/
def State.listUe (s : State) (p : Post) : List Nat :=
  match s.handleAny p.handle with
  | none => []
  | some h => if h.size < p.offset + 64 * p.count then [] else s.ueOf h p.offset (64 * p.count)

/-- R176: the units that the freeze reads for a shape list. -/
def State.listUnits (s : State) (p : Post) : List Nat :=
  match s.handleAny p.handle with
  | none => []
  | some h => if h.size < p.offset + 64 * p.count then [] else h.units p.offset (64 * p.count)

/-- R133, R137, R249: the newest post of a layer becomes its candidate; `list` reads the list of a shape post. -/
def LayerRun.promote (list : Post → Option (List Shape)) (takes : Bool) (r : LayerRun) : LayerRun :=
  match r.newest with
  | none => r
  | some p =>
    { r with cand := some { p with list := if p.surface = 0 then list p else none }, newest := none, again := false
             memErr := r.memErr && !takes, errUnits := if takes then [] else r.errUnits }

/-- R134: causes 4 and 5 for a V or G layer; 0 when neither applies. A V post of no columns or rows has no ratio of R123
and passes (DESIGN CHOICE, assumption 79). -/
def State.postCause (s : State) (i : Nat) (l : LayerCfg) (p : Post) : Nat :=
  if i < 2 ∧ 2048 < preWidth p.srcW l.predec then 4
  else match s.surf p.surface, s.surf l.surface with
    | some d, some c =>
      if l.srcW < p.srcW ∨ l.srcH < p.srcH ∨ d.desc.width.toNat < p.srcX + p.srcW
        ∨ d.desc.height.toNat < p.srcY + p.srcH ∨ d.desc.format ≠ c.desc.format ∨ d.desc.layout ≠ c.desc.layout then 5
      else if i < 2 && decide (0 < p.srcW ∧ 0 < p.srcH) && !scalerOk p.srcW p.srcH l.dstW l.dstH l.predec then 5
      else 0
    | _, _ => 5

/-- R134: the cause why a streaming layer is not ready, 0 when it is; and its candidate. After a memory error a layer
without a candidate is not ready by cause 6 and not by cause 1 (DESIGN CHOICE, assumption 79). -/
def State.readyCause (s : State) (i : Nat) (l : LayerCfg) (r : LayerRun) : Nat × Option Post :=
  match r.cand with
  | none => (if r.memErr then 6 else 1, none)
  | some p =>
    match (p.fence.map s.fenceState).getD .complete with
    | .pending => (2, some p)
    | .failed => (3, none)
    | .complete =>
      if i = 6 then
        if p.list.isNone then (5, none)
        else if r.memErr && r.again then (6, none) else (0, some p)
      else
        let c := s.postCause i l p
        if c ≠ 0 then (c, none)
        else if r.memErr && r.again then (6, none) else (0, some p)

/-- What the cut-off finds for one layer: the cause (0 ready), the policy to apply, the candidate kept or consumed,
and whether the layer takes posts. -/
structure LayerVerdict where
  cause  : Nat
  policy : NotReady
  cand   : Option Post
  takes  : Bool
  on     : Bool
  width  : Nat
  deriving DecidableEq, Repr

/-- R134, R137: the verdict of layer `i`. A disabled layer is not checked, with STREAMING on too: it has no cause, and its
candidate stays (DESIGN CHOICE, assumption 79). -/
def State.layerVerdict (s : State) (i : Nat) (l : LayerCfg) (r : LayerRun) : LayerVerdict :=
  let on := i == 6 || (s.layerOn i l).isSome
  if !on then ⟨0, l.notReady, r.cand, false, false, 0⟩
  else if l.streaming then
    let (c, p) := s.readyCause i l r
    ⟨c, l.notReady, p, true, true, (r.cand.map fun q => preWidth q.srcW l.predec).getD 0⟩
  else
    let held := r.memErr && (r.errUnits.isEmpty || r.errUnits.any fun u => s.pool.ue.contains u)
    ⟨if held then 6 else 0, l.notReady, r.cand, false, true, 0⟩

/-- R136: HOLD stands in for REPEAT_FRAME, for a frame with these marks and these settings. -/
def State.repeatBlocked (s : State) (marks : Half) (road : Bool) (geom : Option CutGeom) (limit : Nat) : Bool :=
  s.frm.lastRepeat ||
  match s.frm.shown with
  | none => true
  | some h =>
    h.fallback || (h.demanded ||| h.added) != marks || h.road != road || h.geom != geom || h.limit != limit

/-- Table 06.7: what the frame is composed with for a layer. -/
def LayerVerdict.use (v : LayerVerdict) (r : LayerRun) : LayerUse :=
  if !v.on then .off
  else if v.cause = 0 then
    if v.takes then (match v.cand with
      | some p => .post p
      | none => .off)
    else .scene
  else match v.policy with
    | .conservative => .conservative
    | .transparent => .off
    | _ => if v.cause = 6 || !v.takes then .off
      else match r.shown with
        | some p => .post p
        | none => .off

/-- Table 06.6: the source that tells a cause. -/
def lateSource (cause : Nat) : Nat := if cause = 4 then fScalerOverrun else if cause = 6 then fMemUe else fLayerLate

/-- R135, R371: `EV_LAYER_LATE` of a layer that is not ready, and its fault at the first frame of an episode or the first
after an acknowledgement; `n` counts its frames. The policy is the layer's
own, also in a frame that another layer's REPEAT_FRAME decides as a whole (DESIGN CHOICE, assumption 78). -/
def lateEvent (frame seq : Word) (i n : Nat) (v : LayerVerdict) (q : List Raise × State) : List Raise × State :=
  let head := b1 i ++ b1 v.cause ++ b1 (NotReady.code v.policy) ++ b1 0
  let s := emit evLayerLate (b4 frame.toNat ++ head ++ b4 n ++ b4 seq.toNat) q.2
  if n = 1 ∨ (s.scn.runs.getD i LayerRun.reset).hold = none then
    let q := (q.1, s.mapScn fun c => { c with runs := c.runs.modify i fun r => { r with hold := some (lateSource v.cause) } })
    if v.cause = 6 then q
    else waitRaise (lateSource v.cause)
      (head ++ b4 frame.toNat ++ b4 seq.toNat ++ if v.cause = 4 then b2 v.width else []) q
  else (q.1, s)

/-- R135, R136: the verdicts with the policy that applies; whether the frame repeats. -/
def settleRepeat (blocked : Bool) (vs : List LayerVerdict) : List LayerVerdict × Bool :=
  let wants := vs.any fun v => v.cause != 0 && v.policy == .repeatFrame
  if wants && blocked then
    (vs.map fun v => if v.cause ≠ 0 ∧ v.policy = .repeatFrame then { v with policy := .hold } else v, false)
  else (vs, wants)

/-- R133 to R137: what a layer's state becomes at the cut-off. -/
def LayerRun.afterCut (r : LayerRun) (v : LayerVerdict) (repeats : Bool) : LayerRun :=
  if !v.on then { r with late := 0, used := none }
  else if !v.takes then
    { r with late := if v.cause = 0 then 0 else r.late + 1, used := none, memErr := r.memErr && v.cause == 6 }
  else if v.cause = 0 then
    if repeats then { r with late := 0, cand := v.cand, used := none }
    else { r with late := 0, cand := none, used := v.cand, memErr := false, errUnits := [], again := false }
  else { r with late := r.late + 1, cand := v.cand, used := none }

/-- The rows of a composed frame are the host layers' content: not in a calibration run or in flat-field mode, where no
layer is checked for readiness and every candidate stays (DESIGN CHOICE, assumption 79). -/
def State.composesLayers (s : State) : Bool := s.scn.cur.isSome && s.cal.run.isNone && s.cal.flat.isNone

/-- R334: the decision of a frame from the fallback path; no layer is checked. -/
def decideFallback (s : State) : State :=
  let c := s.causes
  s.mapFrm fun f =>
    { f with
      dec := some
        { fallback := true, scene := s.fbSelect c, causes := c, demanded := s.demanded, added := f.params.addMarks
          road := s.road, skipRep := false, uses := List.replicate 7 .off, seq := (s.scn.cur.map Staged.seq).getD 0
          lead := s.lead, bytes := s.curBytes, esc := s.escalates, geom := f.params.cutGeom
          limit := f.params.cutLimit } }

/-- R249: the uncorrectable units that the freeze meets in the list of the post that becomes a candidate. -/
def State.freezeUe (s : State) : List Nat :=
  match (s.scn.runs.getD 6 LayerRun.reset).newest with
  | none => []
  | some p => s.listUe p

/-- R176, R249: the units that the freeze reads of the list of the post that becomes a candidate. -/
def State.freezeUnits (s : State) : List Nat :=
  match (s.scn.runs.getD 6 LayerRun.reset).newest with
  | none => []
  | some p => s.listUnits p

/-- R334 to R136: the decision of a composed frame. In IDLE, where the host layers are transparent, posts are checked and
consumed as in ACTIVE, count as shown, and REPEAT_FRAME can skip the swap (DESIGN CHOICE, assumption 79). -/
def decideComposed (s : State) : List Raise × State :=
  let f := s.nextFrame
  let layers := match s.scn.cur with
    | some g => if s.composesLayers then g.scene.layers else []
    | none => []
  let seq := (s.scn.cur.map Staged.seq).getD 0
  let vs0 := layers.zipIdx.map fun e => s.layerVerdict e.2 e.1 (s.scn.runs.getD e.2 LayerRun.reset)
  let (vs, repeats) := settleRepeat
    (s.repeatBlocked (s.demanded ||| s.frm.params.addMarks) s.road s.frm.params.cutGeom s.frm.params.cutLimit) vs0
  let uses := if s.pwr.mode == .idle || layers.isEmpty then List.replicate 7 .off
    else vs.zipIdx.map fun e => e.1.use (s.scn.runs.getD e.2 LayerRun.reset)
  let d : Decision :=
    { fallback := false, scene := 0xFE, causes := 0, demanded := s.demanded, added := s.frm.params.addMarks
      road := s.road, skipRep := repeats, uses := uses, seq := seq, lead := s.lead, bytes := s.curBytes
      esc := s.escalates, geom := s.frm.params.cutGeom, limit := s.frm.params.cutLimit }
  let late := vs.zipIdx.filter fun e => e.1.cause != 0
  let s := s.mapScn fun c =>
    { c with runs := if layers.isEmpty then c.runs
        else c.runs.zipIdx.map fun e => match vs[e.2]? with
          | some v => e.1.afterCut v repeats
          | none => e.1 }
  let s := s.mapFrm fun x => { x with dec := some d }
  late.foldl (fun q e => lateEvent f seq e.2 (q.2.scn.runs.getD e.2 LayerRun.reset).late e.1 q) ([], s)

/-- R47: `EV_CUTOFF`; T_compose_est is rounded up to a whole microsecond (DESIGN CHOICE, assumption 78). -/
def cutoffEvent (lead : Nat) (s : State) : State :=
  frameEvent 1 evCutoff
    (b4 s.nextFrame.toNat ++ b4 lead ++ b4 (ceilDiv (composeEst9 s.curBytes) 9000)
      ++ b4 ((s.scn.cur.map Staged.seq).getD 0).toNat) s

/-- `CUTOFF` (R37, R130, R334): the scene of the next frame is frozen and the frame decision is fixed; `ue` are
units that the freeze finds uncorrectable. From A1 of a power entry no frame is composed (R423). -/
def execCutoff (ue : List Nat) (s : State) : Answer :=
  .next <|
    if !s.ticking || s.frm.cutDone || s.frm.blank || s.frm.sleepTicks then s
    else
      let lead := s.lead
      let s := commitDue (noteUe ue s)
      let bad := s.freezeUe
      let read := s.freezeUnits
      let s := s.mapScn fun c => { c with runs := c.runs.zipIdx.map fun e => e.1.promote s.readList (streamsIn c.cur e.2) }
      let s := s.mapFrm fun f => { f with cutDone := true }
      let s := cutoffEvent lead s
      let q := if s.fallbackNext then ([], decideFallback s) else decideComposed s
      raised (bad.foldl (fun q u => frameMem fMemUe u 1 6 q.2.nextFrame q) (frameCe 1 6 s.nextFrame read q))

/-! ### Composition (R36, R40) -/

/-- `COMPOSITION_START` (R36): the composition or the fallback fill of the next frame begins. -/
def execCompositionStart (s : State) : Answer :=
  .next <|
    if !s.ticking || !s.frm.cutDone || s.frm.compOn || s.frm.blank || ((s.frm.dec.map Decision.skipRep).getD true) then s
    else
      let s := clearWrite s
      s.mapFrm fun f => { f with comp := some s.compSet, compOn := true, compStart := s.clk.loc }

/-- The byte space of a surface. -/
def State.surfFetch (s : State) (d : Surface) : Nat → Byte :=
  match s.handleAny d.desc.handle with
  | some h => s.poolByte h
  | none => fun _ => 0

/-- The surface and source rectangle that a layer is composed from; a post of no columns or rows composes nothing, as R118
has it of a scene (DESIGN CHOICE, assumption 79). -/
def State.layerSource (s : State) (i : Nat) (l : LayerCfg) (u : LayerUse) : Option (Surface × Nat × Nat × Nat × Nat) :=
  match u with
  | .scene => (s.layerOn i l).map fun d => (d, l.srcX, l.srcY, l.srcW, l.srcH)
  | .post p => (s.surf p.surface).bind fun d =>
    if p.srcW = 0 ∨ p.srcH = 0 ∨ SurfDesc.isEmpty d.desc then none else some (d, p.srcX, p.srcY, p.srcW, p.srcH)
  | _ => none

/-- The part of a source row that layer `i` fetches: its first column and its length. A G layer fetches what lies on the
array (R132). -/
def fetchedRun (i : Nat) (l : LayerCfg) (sx sw : Nat) : Nat × Nat :=
  if i < 2 then (sx, sw) else (sx + (max 0 (-l.dstX)).toNat, visLen l.dstX sw 2048)

/-- The source rows that layer `i` holds (R116, R122). -/
def State.heldLines (s : State) (i : Nat) : List (Nat × List (Nat × Nat)) := (alGet s.frm.lines i).getD []

/-- R116, R132: what row `y` of layer `i` fetches: for each line of LINEAR, or each tile row of TILED and CTF, that the
layer does not hold, its source rows. -/
def State.newLines (s : State) (i : Nat) (l : LayerCfg) (u : LayerUse) (y : Nat) : List (List Nat) :=
  match s.layerSource i l u with
  | none => []
  | some (d, _, sy, _, sh) =>
    let rows := (rowsFetched (decide (i < 2)) l sy sh y).eraseDups
    let lines := if d.desc.layout = 0 then rows.map fun r => [r]
      else ((rows.map fun r => r / 16).eraseDups).map fun k => (List.range 16).map fun j => 16 * k + j
    lines.filter fun ln => !(ln.any fun r => (alGet (s.heldLines i) r).isSome)

/-- R116: layer `i` fetches what row `y` needs, and lets go of what the row needs no more. -/
def lineFetch (i : Nat) (l : LayerCfg) (u : LayerUse) (y : Nat) (s : State) : State :=
  match s.layerSource i l u with
  | none => s
  | some (d, sx, sy, sw, sh) =>
    let (x0, n) := fetchedRun i l sx sw
    let rows := rowsFetched (decide (i < 2)) l sy sh y
    let need (r : Nat) : Bool :=
      if d.desc.layout = 0 then rows.contains r else rows.any fun q => q / 16 == r / 16
    let new := (s.newLines i l u y).flatten.map fun r => (r, pixelRun (s.surfFetch d) d x0 r n)
    s.mapFrm fun f => { f with lines := alPut f.lines i ((s.heldLines i).filter (fun e => need e.1) ++ new) }

/-- R119 to R126: luminance and alpha of row `y` of layer `i`, from the source rows that it holds. -/
def State.layerRow (s : State) (g : Staged) (i : Nat) (l : LayerCfg) (u : LayerUse) (y : Nat) : List (Nat × Nat) :=
  if i = 6 then
    let shapes := match u with
      | .scene => g.scene.shapes
      | .post p => p.list.getD []
      | _ => []
    (List.range 2048).map fun x => (l.s0Y, shapesAlpha shapes x y)
  else match s.layerSource i l u with
    | none => List.replicate 2048 (0, 0)
    | some (_, _, sy, sw, sh) =>
      let get (r : Nat) : List (Nat × Nat) := (alGet (s.heldLines i) r).getD []
      if i < 2 then vRow get l sy sh (fun n => g.coefs.getD n coefReset) y else gRow get l sy sw sh y

/-- The units that row `y` of layer `i` fetches (R137). -/
def State.layerUnits (s : State) (i : Nat) (l : LayerCfg) (u : LayerUse) (y : Nat) : List Nat :=
  match s.layerSource i l u with
  | none => []
  | some (d, sx, _, sw, _) =>
    match s.handleAny d.desc.handle with
    | none => []
    | some h =>
      let (x0, n) := fetchedRun i l sx sw
      (s.newLines i l u y).flatMap fun ln =>
        (runBytes (s.surfFetch d) d x0 (ln.headD 0) n).flatMap fun b => h.units b.1 b.2

/-- R114: the invalid CTF tiles that row `y` of layer `i` fetches, with their reasons. -/
def State.layerBad (s : State) (i : Nat) (l : LayerCfg) (u : LayerUse) (y : Nat) : List (Nat × Nat) :=
  match s.layerSource i l u with
  | none => []
  | some (d, sx, _, sw, _) =>
    let (x0, n) := fetchedRun i l sx sw
    (s.newLines i l u y).flatMap fun ln => badTiles (s.surfFetch d) d x0 (ln.headD 0) n

/-- One layer blended over a row (R121, R135). -/
def State.blendLayer (s : State) (g : Staged) (d : Decision) (y i : Nat) (row : List Nat) : List Nat :=
  match g.scene.layers[i]? with
  | none => row
  | some l =>
    match d.uses.getD i .off with
    | .off => row
    | .conservative => row.zipIdx.map fun e => if clampedSide d.geom e.2 y then min e.1 l.glareSafe else e.1
    | u => List.zipWith (fun dd p => blendStep l.blend dd p.1 (mulLum p.2 l.alpha)) row (s.layerRow g i l u y)

/-- R121: the host layers of row `y` in blend order; layers of `dead` are transparent (R137). -/
def State.hostRow (s : State) (d : Decision) (dead : List Nat) (y : Nat) : List Nat :=
  match s.scn.cur with
  | none => List.replicate 2048 0
  | some g =>
    (g.scene.order.filter fun i => !dead.contains i).foldl (fun row i => s.blendLayer g d y i row)
      (List.replicate 2048 0)

/-- The marks of a set, in ascending index (R127). -/
def State.marksOf (s : State) (set : Half) : List Mark :=
  ((List.range 16).filter fun i => set.getLsbD i).map (markAt s.hallByte)

/-- R127: the marks blended over a row, and the hallmark flag of each pixel. -/
def State.markRow (s : State) (set : Half) (y : Nat) (row : List Nat) : List (Nat × Bool) :=
  (s.marksOf set).foldl (fun r m =>
      r.zipIdx.map fun e =>
        let a := markAlpha s.hallByte m e.2 y
        (blendStep .sourceOver e.1.1 m.y a, e.1.2 || a != 0))
    (row.map fun v => (v, false))

/-! ### Rows (R76, R81) -/

/-- Base of the uniformity map in the system area (Table 08.2). -/
def mapBase : Nat := 0x06000000

/-- The units of the uniformity map that row `y` reads. -/
def mapUnits (y : Nat) : List Nat := (List.range 32).map fun k => mapBase + 2048 * y + 64 * k

/-- R152: the pixel is a neighbour of a dead pixel, and not dead itself. -/
def isFilled (deadPix : List Nat) (x y : Nat) : Bool :=
  !deadPix.contains (2048 * y + x)
  && ((decide (0 < x) && deadPix.contains (2048 * y + x - 1))
      || (decide (x < 2047) && deadPix.contains (2048 * y + x + 1))
      || (decide (0 < y) && deadPix.contains (2048 * (y - 1) + x))
      || (decide (y < 511) && deadPix.contains (2048 * (y + 1) + x)))

/-- R84, R152, R396: the gain byte of pixel (x, y). -/
def gainOf (c : CompSet) (badUnits : List Nat) (x y : Nat) : Nat :=
  let g := if c.flat.isSome || badUnits.contains (mapBase + 2048 * y + x / 64 * 64) then 128
    else (cellGet 128 c.map (2048 * y + x)).toNat
  if c.fillF ≠ 0 && isFilled c.deadPix x y then fillGain g c.fillF else g

/-- The luminances of a row before the pipeline: value and hallmark flag. -/
def State.rowInput (s : State) (c : CompSet) (d : Decision) (dead : List Nat) (y : Nat) (fallRow : List Nat) :
    List (Nat × Bool) :=
  if d.fallback then s.markRow d.demanded y fallRow
  else match c.flat with
    | some level => List.replicate 2048 (level, false)
    | none => s.markRow (d.demanded ||| d.added) y (s.hostRow d dead y)

/-- R81: the codes of a row. -/
def rowCodes (c : CompSet) (d : Decision) (badUnits : List Nat) (y : Nat) (inp : List (Nat × Bool)) : List PixOut :=
  if c.zero then List.replicate 2048 ⟨0, 0, false⟩
  else
    inp.zipIdx.map fun e =>
      pipeline c (floorFactor c.cH) d.road d.geom d.limit e.2 y e.1.1 e.1.2
        (if d.fallback then none else some (gainOf c badUnits e.2 y))

/-- Store a row; a row of zeros is not listed. -/
def rowPut (l : List (Nat × List Half)) (y : Nat) (codes : List Half) : List (Nat × List Half) :=
  if codes.all (· == 0) then l.filter fun e => e.1 != y else alPut l y codes

/-- R76, R95, R156: the row enters S with its CRC and its share of the sums. -/
def rowStore (c : CompSet) (y : Nat) (px : List PixOut) (s : State) : State :=
  let codes := px.map fun p => BitVec.ofNat 16 p.code
  let (h, n, n0, ts) := rowSums c y (fun t => !c.isolAt.getLsbD t) px
  let s := s.mapArr fun a => { a with s := rowPut a.s y codes, crcS := alPut a.crcS y (rowCrc y codes) }
  s.mapPho fun p =>
    { p with
      aH := p.aH + h, aN := p.aN + n, aN0 := p.aN0 + n0, shows := p.shows || px.any PixOut.h
      aTile := p.aTile.zipIdx.map fun e => if e.2 / 32 = y / 64 then e.1 + ts.getD (e.2 % 32) 0 else e.1 }

/-- The frame that is being written is barred from being shown; the first reason stands. -/
def bar (w : BarWhy) (s : State) : State := s.mapFrm fun f => { f with fail := f.fail.or (some w) }

/-- R137: a memory error of layer `i` at units `us`: the layer is transparent from this row on, or the frame repeats. -/
def layerError (frame : Word) (i : Nat) (us : List Nat) (q : List Raise × State) : List Raise × State :=
  let s := q.2
  let seq := s.scn.nextSeq - 1
  let s := s.mapScn fun c =>
    { c with runs := c.runs.modify i fun r => { r with memErr := true, errUnits := us, errScene := seq } }
  let policy := ((s.scn.cur.bind fun g => g.scene.layers[i]?).map LayerCfg.notReady).getD .hold
  let s := s.mapFrm fun f => { f with dead := f.dead ++ [i] }
  let s := match s.frm.dec with
    | none => s
    | some d =>
      if policy = .repeatFrame && !s.repeatBlocked (d.demanded ||| d.added) d.road d.geom d.limit then
        s.mapFrm fun f => { f with dec := some { d with skipRep := true } }
      else s
  us.foldl (fun q u => frameMem fMemUe u 1 i frame q) (q.1, s)

/-- R114: invalid tiles of layer `i` are noted. -/
def ctfNote (i : Nat) (bad : List (Nat × Nat)) (s : State) : State :=
  if bad.isEmpty then s
  else s.mapFrm fun f =>
    let old := (alGet f.ctfBad i).getD []
    { f with ctfBad := alPut f.ctfBad i (old ++ bad.filter fun t => !old.any fun o => o.1 == t.1) }

/-- R114, R116, R137: layer `i` fetches for row `y`: corrected units raise `F_MEM_CE`, an uncorrectable one makes the layer
transparent. -/
def layerFetch (frame : Word) (d : Decision) (y : Nat) (i : Nat) (l : LayerCfg) (q : List Raise × State) :
    List Raise × State :=
  if q.2.frm.dead.contains i then q
  else
    let u := d.uses.getD i .off
    let units := q.2.layerUnits i l u y
    let q := frameCe 1 i frame units q
    let bad := q.2.pool.ue.filter fun u => units.contains u
    if bad.isEmpty then (q.1, lineFetch i l u y (ctfNote i (q.2.layerBad i l u y) q.2))
    else layerError frame i bad q

/-- R114, R116, R137: the host layers fetch for row `y`. -/
def rowFetch (frame : Word) (d : Decision) (y : Nat) (q : List Raise × State) : List Raise × State :=
  match q.2.scn.cur with
  | none => q
  | some g =>
    (List.range 6).foldl (fun q i => match g.scene.layers[i]? with
      | none => q
      | some l => layerFetch frame d y i l q) q

/-- R114: the last row, in scan order, that layer `i` composes. -/
def State.lastRow (s : State) (bottomUp : Bool) (i : Nat) (l : LayerCfg) (u : LayerUse) : Option Nat :=
  match s.layerSource i l u with
  | none => none
  | some (_, _, _, _, sh) =>
    let lo := (max l.dstY 0).toNat
    let hi := min 512 (l.dstY + (if i < 2 then l.dstH else sh))
    if hi ≤ lo then none else some (if bottomUp then lo else (hi - 1).toNat)

/-- R114, Table 15.6: `F_CTF_DECODE` of layer `i`, with its invalid tile of the lowest index. -/
def ctfRaise (frame : Word) (i : Nat) (bad : List (Nat × Nat)) : List Raise :=
  match bad with
  | [] => []
  | t :: ts =>
    let low := ts.foldl (fun (m : Nat × Nat) t => if t.1 < m.1 then t else m) t
    [⟨fCtfDecode, 0, b1 i ++ b1 low.2 ++ b2 0 ++ b4 frame.toNat ++ b4 low.1 ++ b4 bad.length⟩]

/-- R114: row `y` is written; the layers whose composition ends with it raise `F_CTF_DECODE`, in ascending index where
several end with one row. A layer whose composition is cut short before its last row raises nothing (DESIGN CHOICE,
assumption 78). -/
def State.ctfRaises (s : State) (c : CompSet) (d : Decision) (y : Nat) : List Raise :=
  match s.scn.cur with
  | none => []
  | some g =>
    (List.range 6).flatMap fun i =>
      match g.scene.layers[i]?, alGet s.frm.ctfBad i with
      | some l, some bad =>
        if s.lastRow c.bottomUp i l (d.uses.getD i .off) = some y then ctfRaise c.frame i bad else []
      | _, _ => []

/-- R84: the uncorrectable units of the uniformity map that row `y` reads, raised once each. -/
def mapErrors (frame : Word) (y : Nat) (q : List Raise × State) : List Raise × State :=
  let units := mapUnits y
  let q := frameCe 2 0 frame units q
  (q.2.pool.ue.filter fun u => units.contains u && !q.2.pool.mapUe.contains u).foldl
    (fun q u => frameMem fMemUe u 2 0 frame (q.1, q.2.mapPool fun p => { p with mapUe := p.mapUe ++ [u] })) q

/-- R347, R348: the run list of row `y` of the fallback scene; a row that fails is zero. The fill keeps the scene that its
decision chose (R334). -/
def fallbackRow (d : Decision) (y : Nat) (sramBad : Bool) (s : State) : List Nat × List Raise × State :=
  let zero := List.replicate 2048 0
  if d.scene = 0xFE then (zero, [], s)
  else match (if sramBad then none else sceneRow s.fallByte d.scene y) with
    | some r => (r, [], s)
    | none =>
      (zero, waitRaise fFallbackStore (b1 d.scene ++ b1 2 ++ b2 y)
        ([], s.mapSaf fun f => { f with fbBad := bitPut f.fbBad d.scene true }))

/-- R138: the capture tap writes the row. -/
def captureRow (d : Decision) (y : Nat) (blend codes : List Nat) (s : State) : State :=
  match s.scn.cur with
  | none => s
  | some g =>
    let c := g.scene
    if c.capMode = .off || (d.fallback && c.capTap == 0) then s
    else match s.surf c.capSurf with
      | none => s
      | some surf =>
        match s.handleAny surf.desc.handle with
        | none => s
        | some h =>
          let data := (if c.capTap = 0 then blend else codes).flatMap b2
          (poolWrite h 2 (surf.desc.offset.toNat + y * surf.desc.pitch.toNat) data s).mapFrm fun f =>
            { f with capRows := f.capRows + 1 }

/-- R344: the codes that the column-maximum checker meets in a row. -/
def metCodes (o : RowObs) (codes : List Nat) : List Nat :=
  match o.stray with
  | some (x, v) => codes.set x v
  | none => codes

/-- R344: the self-test is due: once for a frame, and not while C_cut is the top code. -/
def State.testDue (s : State) (c : CompSet) (d : Decision) : Bool :=
  d.road && s.frm.cutTest.isNone && cCut d.limit c.n + 1 != 2 ^ c.n

/-- R344: what the checker finds in row `y`: kind of Table 15.6, column, row and code. -/
def State.cutoffFinds (s : State) (c : CompSet) (d : Decision) (y : Nat) (codes : List Nat) (o : RowObs) :
    List (Nat × Nat × Nat × Nat) :=
  if !d.road then []
  else
    let lim := cCut d.limit c.n
    (match (metCodes o codes).zipIdx.find? fun e => decide (lim < e.1) && clampedSide d.geom e.2 y with
      | some e => [(1, e.2, y, e.1)]
      | none => [])
    ++ (if o.copyCrcOk then [] else [(2, 0xFFFF, 0xFFFF, 0)])
    ++ (if s.testDue c d && !o.selfTestOk then [(3, s.saf.testCol, 0xFFFF, lim + 1)] else [])

/-- R344: the checker's own state after row `y`: the verdict and the column of its self-test, the kinds it has raised for
this frame, the column maxima of the clamped side. -/
def cutoffNote (c : CompSet) (d : Decision) (y : Nat) (codes : List Nat) (o : RowObs) (kinds : List Nat) (s : State) :
    State :=
  if !d.road then s
  else
    let test := s.testDue c d
    let s := if test then s.mapSaf fun f => { f with testCol := (f.testCol + 1) % 2048 } else s
    let side := (metCodes o codes).zipIdx.map fun e => if clampedSide d.geom e.2 y then e.1 else 0
    s.mapFrm fun f =>
      { f with
        cutTest := if test then some o.selfTestOk else f.cutTest
        cutKinds := kinds.foldl (fun m k => bitPut m (k - 1) true) f.cutKinds
        colMax := if f.colMax.isEmpty then side else f.colMax.zipWith max side }

/-- R127: the marks that H blends into a frame. -/
def shownMarks (c : CompSet) (d : Decision) : Half :=
  if d.fallback then d.demanded else if c.zero || c.flat.isSome then 0 else d.demanded ||| d.added

/-- R128: the first column of row `y` at which the blend output differs from an opaque mark's Y. -/
def markMiss (st : Nat → Byte) (m : Mark) (y : Nat) (out : List Nat) : Option Nat :=
  (out.zipIdx.find? fun e => e.1 != m.y && markAlpha st m e.2 y == 65535).map Prod.snd

/-- R128: the comparator mismatches of row `y`: mark, column, row; each mark once in a frame. -/
def State.markMisses (s : State) (c : CompSet) (d : Decision) (y : Nat) (out : List Nat) (o : RowObs) :
    List (Nat × Nat × Nat) :=
  ((List.range 16).filter fun i => (shownMarks c d).getLsbD i && !s.frm.markBad.getLsbD i).filterMap fun i =>
    match markMiss s.hallByte (markAt s.hallByte i) y out with
    | some x => some (i, x, y)
    | none => o.markCmp.find? fun e => e.1 == i

/-- R77, R78, R93, R344: what the checks of row `y` find that bars the frame, with the raise. -/
def State.rowFinds (s : State) (c : CompSet) (d : Decision) (y r : Nat) (codes : List Nat) (o : RowObs) :
    List (BarWhy × Raise) :=
  let kept := (alGet s.arr.crcS y).getD 0
  (match o.readBack with
    | some w => if w = kept then []
      else [(.rowCrc, ⟨fRowCrc, 0, b1 0 ++ b1 0 ++ b2 y ++ b4 c.frame.toNat ++ b4 kept.toNat ++ b4 w.toNat⟩)]
    | none => [])
  ++ (match o.residue with
    | some (op, col) => [(.residue, ⟨fPipeResidue, 0, b1 op ++ b1 0 ++ b2 r ++ b2 col ++ b2 0 ++ b4 c.frame.toNat⟩)]
    | none => [])
  ++ (s.cutoffFinds c d y codes o).map fun e =>
    (.cutoff, ⟨fCutoff, 0, b1 e.1 ++ b1 0 ++ b2 e.2.1 ++ b2 e.2.2.1 ++ b2 e.2.2.2 ++ b4 c.frame.toNat
      ++ b2 (cCut d.limit c.n)⟩)

/-- R128: the raises of `F_HALLMARK_CRC` for a row: mark CRCs that differ, then comparator mismatches. -/
def State.markRaises (s : State) (c : CompSet) (d : Decision) (misses : List (Nat × Nat × Nat)) (o : RowObs) :
    List Raise :=
  let want (i : Nat) : Word := markCrc s.hallByte (markAt s.hallByte i)
  ((o.markCrc.filter fun e => (shownMarks c d).getLsbD e.1 && e.2 != want e.1).map fun e =>
      ⟨fHallmarkCrc, 0, b1 e.1 ++ b1 1 ++ b2 0 ++ b4 c.frame.toNat ++ b4 e.2.toNat ++ b4 (want e.1).toNat⟩)
  ++ misses.map fun e => ⟨fHallmarkCrc, 0, b1 e.1 ++ b1 2 ++ b2 0 ++ b4 c.frame.toNat ++ b2 e.2.1 ++ b2 e.2.2⟩

/-- R77, R93, R128, R344: the checks of row `y`: `out` is the blend output. Every find bars the frame; `F_CUTOFF` is raised
once for a frame and kind. -/
def rowChecks (c : CompSet) (d : Decision) (y r : Nat) (codes out : List Nat) (o : RowObs) (s : State) :
    List Raise × State :=
  let finds := s.rowFinds c d y r codes o
  let kinds := (s.cutoffFinds c d y codes o).map Prod.fst
  let raised := s.frm.cutKinds
  let misses := s.markMisses c d y out o
  let first (x : BarWhy × Raise) : Bool := x.1 != .cutoff || !raised.getLsbD ((x.2.data.headD 0).toNat - 1)
  let list := (finds.filter first).map Prod.snd ++ s.markRaises c d misses o
  let s := finds.foldl (fun s x => bar x.1 s) s
  let s := cutoffNote c d y codes o kinds s
  (list, s.mapFrm fun f => { f with markBad := misses.foldl (fun m e => bitPut m e.1 true) f.markBad })

/-- One row of the frame being written. What it raises is raised together once it is written (R365), so that a raise which
turns the composition into a fallback fill (R349) finds the row written (DESIGN CHOICE, assumption 70). -/
def rowStep (c : CompSet) (d : Decision) (o : RowObs) (s : State) : State :=
  let r := s.frm.rows
  let y := if c.bottomUp then 511 - r else r
  let s := noteCe o.ce (noteUe o.ue s)
  let layers := !d.fallback && !c.zero && c.flat.isNone
  let (mem, s) := if layers then mapErrors c.frame y (rowFetch c.frame d y ([], s)) else ([], s)
  let (fr, store, s) := if d.fallback then fallbackRow d y o.sramBad s else ([], [], s)
  let inp := s.rowInput c d s.frm.dead y fr
  let out := inp.map Prod.fst
  let px := rowCodes c d (s.pool.ue.filter fun u => (mapUnits y).contains u) y inp
  let s := rowStore c y px s
  let codes := px.map PixOut.code
  let s := if c.zero then s else captureRow d y out codes s
  let (finds, s) := rowChecks c d y r codes out o s
  let ctf := if layers then s.ctfRaises c d y else []
  let s := if c.rowMatch = y then frameEvent 2 evRowMatch (b4 c.frame.toNat ++ b4 y) s else s
  raiseAll (mem ++ store ++ finds ++ ctf) (s.mapFrm fun f => { f with rows := r + 1 })

/-- `ROW_WRITE` (R76): the next row in scan order enters the shadow latches and passes the checks. -/
def execRowWrite (o : RowObs) (s : State) : Answer :=
  .next <|
    match s.frm.comp, s.frm.dec with
    | some c, some d =>
      if !s.ticking || !s.frm.compOn || s.frm.blank || d.skipRep || 512 ≤ s.frm.rows then s else rowStep c d o s
    | _, _ => s

/-! ### The end of a composition (R36, R73) -/

/-- R73: v_set rises by 10 mV per ampere of a predicted rise of more than 2 A. -/
def vledEarly (c : CompSet) (s : State) : State :=
  let new := iPred (s.pho.aH + s.pho.aN) c.n
  let newUa := new.1 / new.2
  let oldUa := match s.frm.shown with
    | some h => h.iPred.1 / h.iPred.2
    | none => 0
  if s.hk.loop && s.pwr.groom && decide (oldUa + 2000000 < newUa) then
    s.mapHk fun h => { h with vSet := max h.vSet (min 4600000 (h.vSet + (newUa - oldUa) / 100)) }
  else s

/-- The last row is written and `COMPOSE_DONE` has not been told yet. -/
def State.composeEnds (s : State) : Bool := s.frm.compOn && !s.frm.compDone && decide (512 ≤ s.frm.rows)

/-- R36, R47, R73: the composition or fill of `c` is complete. -/
def composeDoneOp (c : CompSet) (s : State) : State :=
  let guard := s.frm.tickLoc + s.frm.period - 1000 * s.frm.params.tGuard
  let s := s.mapFrm fun f => { f with compDone := true }
  vledEarly c (frameEvent 3 evComposeDone
    (b4 c.frame.toNat ++ b4 (s.clk.loc - s.frm.compStart) ++ b4 (guard - s.clk.loc)) s)

/-- `COMPOSE_DONE` (R36): the last row is written. -/
def execComposeDone (s : State) : Answer :=
  .next <|
    match s.frm.comp with
    | some c => if s.ticking && s.composeEnds && !s.frm.blank then composeDoneOp c s else s
    | none => s

/-! ### The guard (R42, R88, R98) -/

/-- The frame is finished and nothing bars it (R42, R78, R94, R344). -/
def State.frameGood (s : State) : Bool :=
  s.frm.compOn && s.frm.rows == 512 && s.frm.compDone && s.frm.fail.isNone
    && (match s.frm.dec with
        | some d => !d.skipRep
        | none => false)

/-- R98: the curb code of a frame. -/
def State.curbFor (s : State) (c : CompSet) : Nat :=
  curbCode (s.pho.aH + s.pho.aN) c.n c.iLimit s.pho.dG c.cH (c.alpha != 65536)

/-- R88, R98, R100: step 1 of Table 02.7 for a frame that will be shown. -/
def fixFrame (c : CompSet) (s : State) : State :=
  let a := s.pho.aH + s.pho.aN
  s.mapPho fun p =>
    { p with
      fixed := s.curbFor c
      nextAlpha := decideAlpha p.shows p.aH p.aN0 c.n c.iLimit p.dG c.cH
      fixLim := decide (scaleI a c.n c.iLimit < 65536)
      fixDer := decide (p.dG < 4096) || (c.regional && c.dq.any fun q => decide (q < 4096)) }

/-- R42: the next tick misses its frame. -/
def underrun (s : State) : State :=
  let n := s.frm.skips + 1
  let data := b4 s.nextFrame.toNat ++ b4 s.frm.rows ++ b4 n
  let s := s.mapFrm fun f => { f with under := true }
  raiseMin fUnderrun (if 2 ≤ n then 3 else 0) data (emit evUnderrun data s)

/-- R93: a residue mismatch of the governor's division. Which scan position it reports is a free value
(assumption 26). -/
def divisionResidue (c : CompSet) (s : State) : State :=
  let (k, s) := s.draw
  bar .residue (raise fPipeResidue (b1 7 ++ b1 0 ++ b2 (Config.freePick k) ++ b2 0xFFFF ++ b2 0 ++ b4 c.frame.toNat) s)

/-- R36, R48: a composition whose last row is written is complete before the guard, told or not (DESIGN CHOICE,
assumption 78). -/
def doneFirst (s : State) : State :=
  match s.frm.comp with
  | some c => if s.composeEnds && !((s.frm.dec.map Decision.skipRep).getD true) then composeDoneOp c s else s
  | none => s

/-- Step 1 of Table 02.7. -/
def guardOp (divisionBad : Bool) (s : State) : State :=
  let s := (doneFirst s).mapFrm fun f => { f with blank := true }
  let s := frameEvent 4 evBlank (b4 s.nextFrame.toNat) s
  if (s.frm.dec.map Decision.skipRep).getD false || s.frm.sleepTicks then s
  else if s.frm.rows < 512 || !s.frm.compOn then underrun s
  else match s.frm.comp with
    | none => s
    | some c =>
      let s := if divisionBad then divisionResidue c s else s
      if s.frameGood then fixFrame c s else s

/-- `GUARD_START` (R42): the verdict on the frame, the curb code and precedence. -/
def execGuardStart (divisionResidueBad : Bool) (s : State) : Answer :=
  .next <| if !s.ticking || s.frm.blank then s else guardOp divisionResidueBad s

/-- `A_SCAN_ROW` (R79): a row of A whose CRC differs from the one kept raises `F_ROW_CRC` of side A. -/
def execAScanRow (row : Fin 512) (readBack : Option Word) (s : State) : Answer :=
  .next <|
    match s.frm.shown, readBack with
    | some h, some w =>
      let kept := (alGet s.arr.crcA row.val).getD 0
      if !s.ticking || w = kept then s
      else raise fRowCrc (b1 1 ++ b1 0 ++ b2 row.val ++ b4 h.frame.toNat ++ b4 kept.toNat ++ b4 w.toNat) s
    | _, _ => s

end Sys2Proof.Machine
end

