-- ==== Sys2Proof/Machine/SecOps.lean ====
section
/-!
DEFINITION. Records in the serial flash (`20_security_update.md`, R445, R448, R449, R460 to R469): keys, the settings
record, touchmarks, and flash writes in progress (assumption 12).
-/
namespace Sys2Proof.Machine

/-! ### Keys (R445) -/

/-- The bytes of an ASCII label. -/
def ascii (s : String) : List Byte := s.toList.map fun c => BitVec.ofNat 8 c.toNat

/-- R445: a record key. -/
def State.recordKey (s : State) (label : String) : List Byte := Config.hmac s.idn.secret (ascii label)

/-- The 16 bytes of a key. -/
def keyBytes (k : BitVec 128) : List Byte := leBytes k.toNat 16

/-- R462: the key ID of a team key. -/
def keyIdOf (k : BitVec 128) : List Byte := (Config.hmac (keyBytes k) (ascii "FLV-KEY-ID")).take 16

/-- R462: a team key wrapped for a copy sequence, or unwrapped. -/
def State.wrapKey (s : State) (seq : Word) (k : List Byte) : List Byte :=
  k.zipWith (· ^^^ ·) ((Config.hmac (s.recordKey "FLV-WRAP") (ascii "FLV-TK" ++ b4 seq.toNat)).take 16)

/-! ### Two copies of a record (R448, R449) -/

/-- The record that a copy holds, if it is valid. -/
def Copy.value {α : Type} : Copy α → Option α
  | .good a => some a
  | _ => none

/-- `n` bytes of a flash region, 0xFF beyond what is programmed. -/
def flashBytes (l : List Byte) (a n : Nat) : List Byte := (l.drop a ++ List.replicate n 0xFF).take n

/-- A field of a flash region. -/
def flashLE (l : List Byte) (a n : Nat) : Nat := ofLE (flashBytes l a n)

/-- R463: a region is blank. -/
def regionBlank (l : List Byte) : Bool := flashLE l 0 4 == 0xFFFFFFFF

/-- A record as it stands in flash: its body and the HMAC over it under a record key (R445). -/
def State.sealed (s : State) (label : String) (body : List Byte) : List Byte :=
  body ++ padTo 32 (Config.hmac (s.recordKey label) body)

/-- R445, R463, R470: what the bytes of a copy of `n` bytes and an HMAC are: blank, a record of this engine with the right
magic and format, or neither. -/
def State.macCopy {α : Type} (s : State) (label : String) (magic : Nat) (formats : List Nat) (n : Nat)
    (parse : List Byte → α) (l : List Byte) : Copy α :=
  if regionBlank l then .blank
  else if flashLE l 0 4 = magic ∧ flashLE l 4 2 ∈ formats ∧ flashBytes l 0 (n + 32) = s.sealed label (flashBytes l 0 n) then
    .good (parse l)
  else .bad

/-- R449: `a` is newer than `b`, within a window of 2^31. -/
def seqNewer (a b : Word) : Bool := a != b && decide ((a - b).toNat < 2 ^ 31)

/-- R449: the copy in force: the newer of two valid ones, copy 0 on a tie. -/
def copyWinner {α : Type} (seq : α → Word) (l : List (Copy α)) : Option (Nat × α) :=
  match l.map Copy.value with
  | [some a, some b] => if seqNewer (seq b) (seq a) then some (1, b) else some (0, a)
  | [some a, none] => some (0, a)
  | [none, some b] => some (1, b)
  | _ => none

/-- R448: the copy that a write goes to: the one not in force. -/
def copyTarget {α : Type} (seq : α → Word) (l : List (Copy α)) : Nat :=
  match copyWinner seq l with
  | some (0, _) => 1
  | _ => 0

/-! ### The settings record (Tables 20.10 to 20.12) -/

/-- Bytes 16 to 511. -/
def OrdFields.bytes (o : OrdFields) : List Byte :=
  padTo 496 <|
    b2 o.engineId.toNat ++ b2 0 ++ b4 o.portCfg.toNat ++ padTo 12 o.teamStart ++ padTo 8 o.canStart
    ++ b2 o.hbTimeout.toNat ++ b1 o.crcAuto.toNat ++ b1 o.pinAuto.toNat ++ b2 o.staleMax.toNat
    ++ List.replicate 14 0 ++ padTo 32 o.label

/-- Bytes 520 to 587: the cut-off item. -/
def ProtFields.cutBytes (p : ProtFields) : List Byte :=
  b1 p.cutSide.toNat ++ b1 p.cutVerts.length ++ b2 p.cutLimit.toNat
  ++ padTo 64 (p.cutVerts.flatMap fun v => b2 v.1 ++ b2 v.2)

/-- Bytes 592 to 639: salt and digest. -/
def ProtFields.pwBytes (p : ProtFields) : List Byte := padTo 16 p.salt ++ padTo 32 p.digest

/-- Bytes 512 to 1,023; a reader gets bytes 592 to 655 as zero (R462). -/
def ProtFields.bytes (p : ProtFields) (hide : Bool) : List Byte :=
  padTo 512 <|
    b2 1 ++ b2 0 ++ b2 p.floorC.toNat ++ b1 p.roadSrc.toNat ++ b1 p.policy.toNat ++ p.cutBytes
    ++ b1 p.pwState.toNat ++ b1 p.fails.toNat ++ b2 p.lockS.toNat
    ++ (if hide then List.replicate 64 0 else p.pwBytes ++ padTo 16 p.wrapped)
    ++ padTo 16 p.keyId ++ b8 p.recovery

/-- Bytes 0 to 4,063 of a settings record. -/
def Settings.body (r : Settings) (hide : Bool) : List Byte :=
  padTo 4064 (b4 0x53564C46 ++ b2 2 ++ b2 0 ++ b4 r.seq.toNat ++ b4 0 ++ r.ord.bytes ++ r.prot.bytes hide)

/-- R460: the 4,096 bytes of a settings copy, with its HMAC under K_SET. -/
def State.settingsImage (s : State) (r : Settings) : List Byte := s.sealed "FLV-SET" (r.body false)

/-- The 4,096 bytes that `SETTINGS_READ` copies from (R286, R462). -/
def State.settingsBytes (s : State) (r : Settings) : List Byte :=
  r.body true ++ (s.settingsImage r).drop 4064

/-- Table 20.11: the ordinary fields of a copy. -/
def ordParse (l : List Byte) : OrdFields :=
  let f (a n : Nat) := flashLE l a n
  { engineId := BitVec.ofNat 16 (f 16 2), portCfg := BitVec.ofNat 32 (f 20 4), teamStart := flashBytes l 24 12
    canStart := flashBytes l 36 8, hbTimeout := BitVec.ofNat 16 (f 44 2), crcAuto := BitVec.ofNat 8 (f 46 1)
    pinAuto := BitVec.ofNat 8 (f 47 1), staleMax := BitVec.ofNat 16 (f 48 2), label := flashBytes l 64 32 }

/-- Table 20.12: the protected section of a copy. -/
def protParse (l : List Byte) : ProtFields :=
  let f (a n : Nat) := flashLE l a n
  { floorC := BitVec.ofNat 16 (f 516 2), roadSrc := BitVec.ofNat 8 (f 518 1), policy := BitVec.ofNat 8 (f 519 1)
    cutSide := BitVec.ofNat 8 (f 520 1)
    cutVerts := (List.range (f 521 1)).map fun k => (f (524 + 4 * k) 2, f (526 + 4 * k) 2)
    cutLimit := BitVec.ofNat 16 (f 522 2), pwState := BitVec.ofNat 8 (f 588 1), fails := BitVec.ofNat 8 (f 589 1)
    lockS := BitVec.ofNat 16 (f 590 2), salt := flashBytes l 592 16, digest := flashBytes l 608 32
    wrapped := flashBytes l 640 16, keyId := flashBytes l 656 16, recovery := BitVec.ofNat 64 (f 672 8) }

/-- R463: the record of a valid copy: in format 1 the ordinary fields take their defaults. -/
def settingsParse (l : List Byte) : Settings :=
  { seq := BitVec.ofNat 32 (flashLE l 8 4), ord := if flashLE l 4 2 = 1 then OrdFields.reset else ordParse l
    prot := protParse l }

/-- R463: the two settings copies. -/
def State.setCopies (s : State) : List (Copy Settings) :=
  s.fls.sets.map (s.macCopy "FLV-SET" 0x53564C46 [1, 2] 4064 settingsParse)

/-- R462, R465: the next settings record: the next copy sequence, the team key wrapped for it. -/
def State.settingsNext (s : State) (key : BitVec 128) (r : Settings) : Settings :=
  let seq := s.sec.set.seq + 1
  let paired := r.prot.keyId.any fun b => b != 0
  { r with
    seq := seq
    prot := { r.prot with wrapped := if paired then s.wrapKey seq (keyBytes key) else List.replicate 16 0 } }

/-- R448, R465: a new settings copy, in force from now. -/
def settingsPut (f : Settings → Settings) (s : State) : State :=
  let i := copyTarget Settings.seq s.setCopies
  let r := s.settingsNext s.sec.teamKey (f s.sec.set)
  (s.mapFls fun x => { x with sets := x.sets.set i (s.settingsImage r) }).mapSec fun c => { c with set := r }

/-- Change the protected section. -/
def Settings.mapProt (f : ProtFields → ProtFields) (r : Settings) : Settings := { r with prot := f r.prot }

/-! ### The calibration record (R470, Table 17.4) -/

/-- A signed value in 16 and in 32 bits. -/
def s16 (v : Int) : List Byte := b2 (BitVec.ofInt 16 v).toNat
def s32 (v : Int) : List Byte := b4 (BitVec.ofInt 32 v).toNat

/-- The size of the uniformity map. -/
def calMapSize : Nat := 1048576

/-- Table 17.4: the 64 bytes. -/
def Assay.bytes (a : Assay) : List Byte :=
  padTo 64 <|
    b2 1 ++ b1 a.phases.toNat ++ b1 a.failed ++ b2 a.tile.toNat ++ b2 a.operator.toNat ++ b8 a.time ++ s32 a.refErr
    ++ s32 a.adcGain ++ s16 a.adcOff ++ b2 a.resMax ++ b2 a.resTile ++ b2 a.atLimit ++ b4 a.unifRes
    ++ padTo 16 (a.eyes.flatMap fun e => [e.1, e.2]) ++ b2 a.qMin

/-- R470: bytes 0 to 1,049,599 of a calibration record. -/
def CalRec.body (r : CalRec) : List Byte :=
  b4 0x43564C46 ++ b2 1 ++ b2 0 ++ b4 r.seq.toNat ++ b4 0 ++ padTo 256 r.trims ++ padTo 512 (r.q.flatMap b2)
  ++ s32 r.adcGain ++ s16 r.adcOff ++ b2 r.refTrim.toNat ++ List.replicate 8 0 ++ r.assay.bytes
  ++ List.replicate 160 0 ++ cellsGet 128 r.map 0 calMapSize

/-- R445, R470: a calibration record as it stands in flash, with its HMAC under K_CAL. -/
def State.calBytes (s : State) (r : CalRec) : List Byte := s.sealed "FLV-CAL" r.body

/-- A signed field of a flash region. -/
def flashInt (l : List Byte) (a n : Nat) : Int := (BitVec.ofNat (8 * n) (flashLE l a n)).toInt

/-- Table 17.4: the assay record at byte 800 of a copy. -/
def assayParse (l : List Byte) : Assay :=
  let f (a n : Nat) := flashLE l (800 + a) n
  { phases := BitVec.ofNat 4 (f 2 1), failed := f 3 1, tile := BitVec.ofNat 16 (f 4 2)
    operator := BitVec.ofNat 16 (f 6 2), time := BitVec.ofNat 64 (f 8 8), refErr := flashInt l 816 4
    adcGain := flashInt l 820 4, adcOff := flashInt l 824 2, resMax := f 26 2, resTile := f 28 2, atLimit := f 30 2
    unifRes := f 32 4
    eyes := (List.range 8).map fun k => (BitVec.ofNat 8 (f (36 + 2 * k) 1), BitVec.ofNat 8 (f (37 + 2 * k) 1))
    qMin := f 52 2 }

/-- R470: the record of a valid copy. -/
def calParse (l : List Byte) : CalRec :=
  let f (a n : Nat) := flashLE l a n
  { seq := BitVec.ofNat 32 (f 8 4), trims := flashBytes l 16 256
    q := (List.range 256).map fun k => f (272 + 2 * k) 2, adcGain := flashInt l 784 4, adcOff := flashInt l 788 2
    refTrim := BitVec.ofNat 16 (f 790 2), assay := assayParse l
    map := freshCells 128 0 (flashBytes l 1024 calMapSize) }

/-- R470: the two calibration copies. -/
def State.calCopies (s : State) : List (Copy CalRec) :=
  s.fls.cals.map (s.macCopy "FLV-CAL" 0x43564C46 [1] 1049600 calParse)

/-! ### Touchmarks (R267, R268, R467 to R469) -/

/-- R467: bytes 0 to 23, which the HMAC covers. -/
def Touchmark.head (t : Touchmark) : List Byte :=
  b8 t.time ++ b4 t.seq.toNat ++ b2 t.operator.toNat ++ b2 t.item.toNat ++ b4 t.oldCrc.toNat ++ b4 t.newCrc.toNat

/-- R268: the 64 bytes of a touchmark. -/
def Touchmark.bytes (t : Touchmark) : List Byte := padTo 64 (t.head ++ padTo 32 t.hmac)

/-- R467: bytes 0 to 59 of slot 0 of a block. -/
def LogBlock.head (b : LogBlock) : List Byte := padTo 60 (b4 0x4C564C46 ++ b4 b.first.toNat ++ padTo 32 b.anchor)

/-- R467: the slots of a block in use: its header and its touchmarks. -/
def LogBlock.bytes (b : LogBlock) : List Byte := b.head ++ b4 (crc32 b.head).toNat ++ b.slots.flatMap Touchmark.bytes

/-- R467, R469: a touchmark takes the next slot. A full block is followed by the next one, whose anchor is the HMAC field of
the touchmark before it; with all eight in use the oldest is erased for it. -/
def regionPut (t : Touchmark) (prev : List Byte) (l : List LogBlock) : List LogBlock :=
  match l.getLast? with
  | some b =>
    if b.slots.length < 1023 then l.dropLast ++ [{ b with slots := b.slots ++ [t] }]
    else (if l.length < 8 then l else l.drop 1) ++ [⟨t.seq, prev, [t]⟩]
  | none => [⟨t.seq, prev, [t]⟩]

/-- R467: the HMAC of each touchmark is that under K_LOG over its head and the HMAC field of the one before it. -/
def chainOk (key prev : List Byte) : List Touchmark → Bool
  | [] => true
  | t :: l => t.hmac == Config.hmac key (t.head ++ prev) && chainOk key t.hmac l

/-- R467: the chain holds over every touchmark present, from the oldest block's anchor on. -/
def State.chainHolds (s : State) : Bool :=
  chainOk (s.recordKey "FLV-LOG") ((s.sec.region.head?.map LogBlock.anchor).getD [])
    (s.sec.region.flatMap LogBlock.slots)

/-- R267: the change log is full. -/
def State.logFull (s : State) : Bool := decide (4096 ≤ s.sec.marks.length)

/-- R468: write a touchmark; the change log that becomes full raises `F_LOG_FULL` (R469). -/
def touchmarkBy (operator : Half) (item : Nat) (oldCrc newCrc : Word) (s : State) : State :=
  let t : Touchmark := ⟨s.now, s.sec.nextMark, operator, BitVec.ofNat 16 item, oldCrc, newCrc, []⟩
  let t := { t with hmac := Config.hmac (s.recordKey "FLV-LOG") (t.head ++ s.sec.lastHmac) }
  let s := s.mapSec fun c =>
    { c with marks := c.marks ++ [t], region := regionPut t c.lastHmac c.region, nextMark := c.nextMark + 1
             lastHmac := t.hmac }
  if s.sec.marks.length = 4096 then raise fLogFull [] (s.mapSec fun c => { c with fullNow := true }) else s

/-- The operator ID of the session, 0 without one (R468). -/
def State.operator (s : State) : Half := (s.sec.session.map fun e => e.operator).getD 0

/-- A touchmark with the operator of the session. -/
def touchmark (item : Nat) (oldCrc newCrc : Word) (s : State) : State :=
  touchmarkBy s.operator item oldCrc newCrc s

/-! ### Flash writes (R448) -/

/-- The command that wrote. -/
def AfterFlash.op : AfterFlash → Nat
  | .marked _ act => act.op
  | .protWrite _ _ => 0x8A
  | .cutoff _ _ _ _ => 0x42
  | .password _ _ _ => 0x8B
  | .login _ _ => 0x88
  | .pwFail => 0x8B
  | .recovery _ => 0x88
  | .teamKey _ => 0x62
  | .calStore _ => 0x7A
  | .cfgCommit => 0x92
  | .archive _ => 0x8D
  | .ackStuck _ => 0xA1
  | .updWrite _ _ => 0x81
  | .updPartial _ _ => 0x81
  | .updClose => 0x82
  | .updConfirm => 0x83
  | .updCancel => 0x80
  | .bootTrial _ _ => 0
  | .bootRevert _ => 0
  | .bootOther _ => 0
  | .renew _ => 0

/-- A command starts a flash write of a region of kind `kind` (Table 20.4) and completes after it. -/
def flashStart (sub : Sub) (kind : Nat) (act : AfterFlash) (s : State) : State :=
  keepRunning sub (s.mapFls fun x => { x with jobs := x.jobs ++ [⟨some sub, kind, act, false⟩] })

/-- A flash write that the start-up makes. -/
def flashOwn (kind : Nat) (act : AfterFlash) (s : State) : State :=
  s.mapFls fun x => { x with jobs := x.jobs ++ [⟨none, kind, act, false⟩] }

/-- R448, R467, R468: the record of `j` is written; its touchmark is the next write, before the command completes. -/
def markStart (j : FlashJob) (m : MarkWrite) (s : State) : State :=
  s.mapFls fun x => { x with jobs := ⟨j.sub, 3, .marked m j.act, false⟩ :: x.jobs }

/-- The completion of a command that wrote the flash; a write of the start-up has none. -/
def flashFinish (j : FlashJob) (status : Half) (result : Dword) (s : State) : State :=
  match j.sub with
  | some sub => finish j.act.op sub status result s
  | none => s

/-- Table 20.5: the first 60 bytes of a boot record. -/
def BootRec.head (r : BootRec) : List Byte :=
  padTo 60 (b4 0x42564C46 ++ b4 r.seq.toNat ++ b1 1 ++ b1 (flag r.slotB) ++ b1 r.state ++ b1 r.trial)

/-- Table 20.5: the 64 bytes of a boot record. -/
def BootRec.bytes (r : BootRec) : List Byte := r.head ++ b4 (crc32 r.head).toNat

/-- R449: what the bytes of a boot record are: blank, a valid copy, or neither. -/
def bootCopy (l : List Byte) : Copy BootRec :=
  if (l.take 4).all (· == 0xFF) then .blank
  else if leAt l 0 4 = 0x42564C46 ∧ leAt l 8 1 = 1 ∧ leAt l 9 1 ≤ 1 ∧ leAt l 10 1 ≤ 2 ∧ leAt l 11 1 ≤ 3
      ∧ leAt l 60 4 = (crc32 (l.take 60)).toNat then
    .good ⟨BitVec.ofNat 32 (leAt l 4 4), leAt l 9 1 == 1, leAt l 10 1, leAt l 11 1⟩
  else .bad

/-- R449: the two boot records. -/
def State.bootCopies (s : State) : List (Copy BootRec) := s.fls.boot.map bootCopy

/-- R448: the copy that a write of kind `kind` goes to. -/
def State.flashCopy (s : State) (kind : Nat) : Nat :=
  match kind with
  | 2 => copyTarget CalRec.seq s.calCopies
  | 4 => copyTarget Settings.seq s.setCopies
  | 6 => copyTarget BootRec.seq s.bootCopies
  | _ => 0

/-! ### Sessions and lockouts (R262, R263) -/

/-- R262: a session opens, in place of an open one. -/
def sessionOpen (sub : Sub) (operator : Half) (s : State) : State :=
  s.mapSec fun c => { c with session := some ⟨sub.origin, operator, s.clk.loc⟩ }

/-- R262: the session ends. -/
def sessionEnd (s : State) : State := s.mapSec fun c => { c with session := none }

/-- R263: a lockout runs. -/
def State.lockedOut (s : State) : Bool :=
  match s.sec.lockEnd with
  | some t => decide (s.clk.loc < t)
  | none => false

/-- R466: `LOCK_S` after `n` failures. -/
def lockSeconds (n : Nat) : Nat := if n < 5 then 0 else min 3600 (60 * 2 ^ (n - 5))

/-- R263: a failure: n rises, a lockout may start, `F_AUTH_FAIL` is raised. -/
def authFailure (s : State) : State :=
  let n := min 255 (s.sec.fails + 1)
  let k := lockSeconds n
  raise fAuthFail [] (s.mapSec fun c =>
    { c with fails := n, lockEnd := if k = 0 then c.lockEnd else some (s.clk.loc + 1000000000 * k) })

/-- R466: a record takes n and `LOCK_S`. -/
def State.failsEdit (s : State) (r : Settings) : Settings :=
  r.mapProt fun p =>
    { p with fails := BitVec.ofNat 8 s.sec.fails, lockS := BitVec.ofNat 16 (lockSeconds s.sec.fails) }

end Sys2Proof.Machine
end

