-- ==== Sys2Proof/Machine/SecCmds.lean ====
section
/-!
DEFINITION. Sessions, protected settings and logs (`12_commands_system.md`, R262 to R269, R277, R286, R287;
`11_commands_light.md`, R257; `20_security_update.md`, R460 to R469). A command that writes the flash starts here and
ends in its `…Done` operation once the write has passed its compare (R448; assumption 12).
-/
namespace Sys2Proof.Machine

/-! ### `AUTH_LOGIN`, `AUTH_LOGOUT` (R262 to R264) -/

/-- Table 12.2: the operands of `AUTH_LOGIN`. -/
def loginOk (o : LoginOps) : Bool :=
  decide (o.mode.toNat ≤ 2) && o.operator != 0
  && (if o.mode = 0 then decide (8 ≤ o.pwLen.toNat ∧ o.pwLen.toNat ≤ 32) && zeroFrom o.password o.pwLen.toNat
      else o.pwLen == 0 && zeroFrom o.password 8)

/-- The settings record holds n and `LOCK_S` already (R465, R466). -/
def State.failsStored (s : State) : Bool :=
  s.sec.set.prot.fails == BitVec.ofNat 8 s.sec.fails
    && s.sec.set.prot.lockS == BitVec.ofNat 16 (lockSeconds s.sec.fails)

/-- R263: a right password: n is 0, the session opens. -/
def loginOpen (sub : Sub) (operator : Half) (s : State) : State :=
  finish 0x88 sub stOk 0 (sessionOpen sub operator s)

/-- R263: the password of a `MODE` 0 login is compared. -/
def loginCompare (sub : Sub) (operator : Half) (pw : List Byte) (s : State) : State :=
  let p := s.sec.set.prot
  if Config.pbkdf2 pw p.salt = p.digest then
    let s := s.mapSec fun c => { c with fails := 0, lockEnd := none }
    if s.failsStored then loginOpen sub operator s else flashStart sub 4 (.login true operator) s
  else
    let s := authFailure s
    if s.failsStored then finish 0x88 sub stNotAuthorized 0 s else flashStart sub 4 (.login false operator) s

/-- R263, R464: a `MODE` 0 login. -/
def loginPassword (sub : Sub) (o : LoginOps) (s : State) : State :=
  if s.lockedOut then finish 0x88 sub stLockedOut 0 s
  else if s.sec.set.prot.pwState ≠ 1 then finish 0x88 sub stNotAuthorized 0 s
  else loginCompare sub o.operator (o.password.take o.pwLen.toNat) s

/-- R264: the challenge record is drawn and written to the host. -/
def challengeOut (sub : Sub) (host : Dword) (s : State) : State :=
  let (r, s) := s.random 32
  let c := b8 s.serialNo ++ r ++ b8 s.sec.set.prot.recovery
  reply 0x88 sub stOk 0 [(0, host, c)] (s.mapSec fun x => { x with challenge := some c })

/-- R264, R446: a `MODE` 1 login waits while the random number generator withholds output. -/
def loginChallenge (sub : Sub) (host : Dword) (s : State) : State :=
  if s.pwr.trngOk then challengeOut sub host s
  else keepRunning sub (s.mapSec fun c => { c with waits := c.waits ++ [.challenge sub host] })

/-- R264, R469: a `MODE` 2 login; `challenge` is the record that was valid. -/
def loginResponse (sub : Sub) (operator : Half) (challenge : Option (List Byte)) (host : Dword) (data : HostRead) (s : State) :
    State :=
  let s := readFailed sub data (hostRead sub host 64 s)
  match data with
  | .fail _ => finish 0x88 sub stMemError 0 s
  | .ok sig =>
    let valid := match challenge with
      | some c => Config.ecdsaOk s.idn.recoveryKey c (padTo 64 sig)
      | none => false
    if !valid then finish 0x88 sub stNotAuthorized 0 s
    else if 6000 < s.sec.marks.length + 1 then finish 0x88 sub stLogFull 0 s
    else flashStart sub 4 (.recovery operator) s

/-- The three modes of Table 12.2; a challenge ends with the next login. -/
def loginBody (sub : Sub) (o : LoginOps) (data : HostRead) (s : State) : State :=
  if !loginOk o then finish 0x88 sub stBadOperand 0 s
  else
    let challenge := s.sec.challenge
    let s := s.mapSec fun c => { c with challenge := none }
    let host : Dword := BitVec.ofNat 64 (leAt o.password 0 8)
    if o.mode = 0 then loginPassword sub o s
    else if o.mode = 1 then loginChallenge sub host s
    else loginResponse sub o.operator challenge host data s

/-- `AUTH_LOGIN` (R262 to R264). -/
def execAuthLogin (sub : Sub) (o : LoginOps) (data : HostRead) (s : State) : Answer :=
  ringCmd (.authLogin sub o data) (loginBody sub o data) s

/-- `AUTH_LOGOUT` (R262): it ends the session of its own origin. -/
def execAuthLogout (sub : Sub) (s : State) : Answer :=
  ringCmd (.authLogout sub)
    (fun s => finish 0x89 sub stOk 0 (if s.sessionOk sub then sessionEnd s else s)) s

/-- `SESSION_TIMEOUT` (R262). -/
def execSessionTimeout (s : State) : Answer := .next (sessionEnd s)

/-- `LOCKOUT_EXPIRY` (R263). -/
def execLockoutExpiry (s : State) : Answer := .next (s.mapSec fun c => { c with lockEnd := none })

/-! ### `PASSWORD_SET` (R265, R464, R466) -/

/-- R265: the lengths. -/
def passwordOk (oldLen newLen : Byte) : Bool :=
  (oldLen == 0 || decide (8 ≤ oldLen.toNat ∧ oldLen.toNat ≤ 32)) && decide (8 ≤ newLen.toNat ∧ newLen.toNat ≤ 32)

/-- R466: a salt is drawn and the digest written. -/
def passwordSalt (sub : Sub) (operator : Half) (pw : List Byte) (s : State) : State :=
  let (salt, s) := s.random 16
  flashStart sub 4 (.password salt (Config.pbkdf2 pw salt) operator) s

/-- R265, R267, R446: the old password has matched. -/
def passwordNew (sub : Sub) (operator : Half) (pw : List Byte) (s : State) : State :=
  if s.pwr.trngOk then passwordSalt sub operator pw s
  else keepRunning sub (s.mapSec fun c => { c with waits := c.waits ++ [.password sub operator pw] })

/-- R263, R265, R267: the block is read; lengths, state, lockout, the room of the change log and the old password are
checked. -/
def passwordCheck (sub : Sub) (oldLen newLen : Byte) (operator : Half) (block : List Byte) (s : State) : State :=
  let b := padTo 64 block
  let p := s.sec.set.prot
  if !(zeroFrom (b.take 32) oldLen.toNat && zeroFrom (b.drop 32) newLen.toNat) then finish 0x8B sub stBadOperand 0 s
  else if p.pwState = 2 then finish 0x8B sub stNotAuthorized 0 s
  else if (oldLen == 0) != (p.pwState == 0) then finish 0x8B sub stBadOperand 0 s
  else if s.lockedOut then finish 0x8B sub stLockedOut 0 s
  else if s.logFull then finish 0x8B sub stLogFull 0 s
  else if oldLen ≠ 0 ∧ Config.pbkdf2 (b.take oldLen.toNat) p.salt ≠ p.digest then
    let s := authFailure s
    if s.failsStored then finish 0x8B sub stNotAuthorized 0 s else flashStart sub 4 .pwFail s
  else passwordNew sub operator ((b.drop 32).take newLen.toNat) s

/-- `PASSWORD_SET`. -/
def passwordBody (sub : Sub) (oldLen newLen : Byte) (operator : Half) (host : Dword) (data : HostRead) (s : State) : State :=
  if !passwordOk oldLen newLen then finish 0x8B sub stBadOperand 0 s
  else
    let s := readFailed sub data (hostRead sub host 64 s)
    match data with
    | .fail _ => finish 0x8B sub stMemError 0 s
    | .ok l => passwordCheck sub oldLen newLen operator l s

/-- `PASSWORD_SET` (R265, R466). -/
def execPasswordSet (sub : Sub) (oldLen newLen : Byte) (operator : Half) (host : Dword) (data : HostRead) (s : State) :
    Answer :=
  ringCmd (.passwordSet sub oldLen newLen operator host data) (passwordBody sub oldLen newLen operator host data) s

/-! ### Protected items (R257, R266, R267) -/

/-- Table 12.3: the change and the range of a protected item. -/
def protChange (item : Half) (value : Word) : Option Change :=
  let v := value.toNat
  match item.toNat with
  | 1 => if 205 ≤ v ∧ v ≤ 1023 then some (.floorC v) else none
  | 2 => if v ≤ 4 then some (.roadSrc v) else none
  | 3 => if v ≤ 2 then some (.policy v) else none
  | _ => none

/-- R468: the bytes of a protected item. -/
def ProtFields.itemBytes (p : ProtFields) (item : Nat) : List Byte :=
  match item with
  | 1 => b2 p.floorC.toNat
  | 2 => b1 p.roadSrc.toNat
  | _ => b1 p.policy.toNat

/-- The item takes its value. -/
def ProtFields.put (p : ProtFields) (item value : Nat) : ProtFields :=
  match item with
  | 1 => { p with floorC := BitVec.ofNat 16 value }
  | 2 => { p with roadSrc := BitVec.ofNat 8 value }
  | _ => { p with policy := BitVec.ofNat 8 value }

/-- `PROTECTED_WRITE`. -/
def protectedBody (sub : Sub) (item : Half) (value : Word) (s : State) : State :=
  if (protChange item value).isNone then finish 0x8A sub stBadOperand 0 s
  else if s.logFull then finish 0x8A sub stLogFull 0 s
  else flashStart sub 4 (.protWrite item value) s

/-- The end of a `PROTECTED_WRITE`: the change for its tick. -/
def protectedDone (j : FlashJob) (new : Word) (item : Half) (value : Word) (s : State) : State :=
  let f := s.nextTick
  flashFinish j stOkDeferred (new.zeroExtend 64 ||| (f.zeroExtend 64 <<< 32))
    (armAt f (protChange item value).toList false false s)

/-- `PROTECTED_WRITE` (R266). -/
def execProtectedWrite (sub : Sub) (item : Half) (value : Word) (s : State) : Answer :=
  ringCmd (.protectedWrite sub item value) (protectedBody sub item value) s

/-- Table 11.12: the vertices of a list, 4 bytes each. -/
def parseVerts (l : List Byte) (n : Nat) : List (Nat × Nat) :=
  (List.range n).map fun k => (leAt l (4 * k) 2, leAt l (4 * k + 2) 2)

/-- Columns rise strictly, both coordinates lie in range. -/
def vertsOk : List (Nat × Nat) → Bool
  | [] => true
  | [v] => decide (v.1 ≤ 2047 ∧ v.2 ≤ 511)
  | v :: w :: l => decide (v.1 ≤ 2047 ∧ v.2 ≤ 511 ∧ v.1 < w.1) && vertsOk (w :: l)

/-- The geometry that a side and a vertex list set; none for an empty list. -/
def geomOf (side : Byte) (vs : List (Nat × Nat)) : Option CutGeom :=
  if vs.isEmpty then none else some ⟨side == 0, vs⟩

/-- Table 11.12: the operands of `CUTOFF_SET` apart from the list itself. -/
def cutoffShape (o : CutoffOps) : Bool :=
  maskOk o.mask 2
    [(0, o.side.toNat), (0, o.count.toNat), (0, o.handle.toNat), (0, o.offset.toNat), (1, o.limit.toNat)]
  && decide (o.side.toNat ≤ 1) && decide (o.count.toNat ≤ 16)
  && (o.count != 0 || (o.handle == 0 && o.offset == 0))

/-- The changes of `CUTOFF_SET`. -/
def cutoffChanges (o : CutoffOps) (vs : List (Nat × Nat)) : List Change :=
  selected o.mask [(0, [.cutGeom (geomOf o.side vs)]), (1, [.cutLimit o.limit.toNat])]

/-- R236, R257, R267: the vertex list is copied; state and change log are checked; the flash write starts. -/
def cutoffStart (sub : Sub) (o : CutoffOps) (vs : List (Nat × Nat)) (s : State) : State :=
  if sub.atTick && s.passed o.frame then finish 0x42 sub stWrongState 0 s
  else if 16 ≤ s.armedSets then finish 0x42 sub stBusy 0 s
  else if s.logFull then finish 0x42 sub stLogFull 0 s
  else flashStart sub 4
    (.cutoff (cutoffChanges o vs) o.frame (if o.mask.getLsbD 0 then some (o.side, vs) else none)
      (if o.mask.getLsbD 1 then some o.limit else none)) s

/-- `CUTOFF_SET`. -/
def cutoffBody (sub : Sub) (o : CutoffOps) (s : State) : State :=
  if !cutoffShape o || !frameOperandOk sub o.frame then finish 0x42 sub stBadOperand 0 s
  else if o.mask = 0 then finish 0x42 sub stOk 0 s
  else if o.count = 0 then cutoffStart sub o [] s
  else match s.poolRead o.handle o.offset.toNat (4 * o.count.toNat) with
    | .bad st => finish 0x42 sub st 0 s
    | .units l => finish 0x42 sub stMemError 0 (raiseUe 10 l s)
    | .data bs =>
      let vs := parseVerts bs o.count.toNat
      let s := copied o.handle o.offset.toNat (4 * o.count.toNat) s
      if vertsOk vs then cutoffStart sub o vs s else finish 0x42 sub stBadOperand 0 s

/-- The end of a `CUTOFF_SET`: the changes are armed. A `FRAME` that has passed meanwhile gives way to the next tick. -/
def cutoffDone (j : FlashJob) (new : Word) (changes : List Change) (frame : Word) (s : State) : State :=
  let atTick := j.sub.any Sub.atTick
  let f := if atTick && !s.passed frame then frame else s.nextTick
  flashFinish j stOkDeferred (new.zeroExtend 64 ||| (f.zeroExtend 64 <<< 32)) (armAt f changes true (atTick && !s.passed frame) s)

/-- `CUTOFF_SET` (R257). -/
def execCutoffSet (sub : Sub) (o : CutoffOps) (s : State) : Answer := ringCmd (.cutoffSet sub o) (cutoffBody sub o) s

/-! ### `TEAM_PAIR` (R277) -/

/-- `TEAM_PAIR`. -/
def teamPairBody (sub : Sub) (key : BitVec 128) (s : State) : State :=
  if s.logFull then finish 0x62 sub stLogFull 0 s else flashStart sub 4 (.teamKey key) s

/-- `TEAM_PAIR` (R277). -/
def execTeamPair (sub : Sub) (key : BitVec 128) (s : State) : Answer :=
  ringCmd (.teamPair sub key) (teamPairBody sub key) s

/-! ### Settings (R286, R287, R461, R465) -/

/-- The working copy as a record: its ordinary fields with the protected section in force. -/
def State.workRecord (s : State) : Settings := { s.sec.set with ord := s.sec.work }

/-- `SETTINGS_READ`: a byte range of the record in force or of the working copy. -/
def settingsReadBody (sub : Sub) (which : Byte) (offset : Word) (dest : Dword) (length : Word) (s : State) : State :=
  if 1 < which.toNat ∨ 4096 < offset.toNat + length.toNat then finish 0x90 sub stBadOperand 0 s
  else
    let r := if which = 1 then s.workRecord else s.sec.set
    reply 0x90 sub (if length = 0 then stOkZero else stOk) 0 [(0, dest, ((s.settingsBytes r).drop offset.toNat).take length.toNat)] s

/-- `SETTINGS_READ` (R286, R462). -/
def execSettingsRead (sub : Sub) (which : Byte) (offset : Word) (dest : Dword) (length : Word) (s : State) : Answer :=
  ringCmd (.settingsRead sub which offset dest length) (settingsReadBody sub which offset dest length) s

/-- Table 13.1: a port byte of `TRACE_PORT_CFG`. -/
def portCfgOk (n : Nat) : Bool := (List.range 4).all fun p => decide (n / 2 ^ (8 * p) % 256 < 16)

/-- Table 20.11, `TEAM_START`: as Table 12.7. -/
def teamStartOk (l : List Byte) : Bool :=
  (roleOf (l.getD 0 0)).isSome && decide (leAt l 1 1 ≤ 1) && decide (leAt l 2 1 ≤ 15) && decide (leAt l 3 1 ≤ 15)
  && (List.range 4).all (fun k => groupEntryOk (BitVec.ofNat 16 (leAt l (4 + 2 * k) 2)))
  && (leAt l 1 1 == 0 || leAt l 0 1 == 2)

/-- Table 20.11, `CAN_START`: as Table 12.5. -/
def canStartOk (l : List Byte) : Bool :=
  decide (leAt l 0 1 ≤ 7) && leAt l 1 1 != 254 && decide (leAt l 2 3 < 2 ^ 18) && leAt l 5 1 == 0
  && decide (1 ≤ leAt l 6 2 ∧ leAt l 6 2 ≤ 600)

/-- Table 20.11: the length of a field, its range, and what it becomes. -/
def fieldPut (field : Half) (l : List Byte) (o : OrdFields) : Option OrdFields :=
  let v := ofLE l
  match field.toNat, l.length with
  | 1, 2 => if v / 1024 % 32 = 0 then some { o with engineId := BitVec.ofNat 16 v } else none
  | 2, 4 => if portCfgOk v then some { o with portCfg := BitVec.ofNat 32 v } else none
  | 3, 12 => if teamStartOk l then some { o with teamStart := l } else none
  | 4, 8 => if canStartOk l then some { o with canStart := l } else none
  | 5, 2 => if 50 ≤ v ∧ v ≤ 10000 then some { o with hbTimeout := BitVec.ofNat 16 v } else none
  | 6, 1 => if v ≤ 3 then some { o with crcAuto := BitVec.ofNat 8 v } else none
  | 7, 1 => if v ≤ 1 then some { o with pinAuto := BitVec.ofNat 8 v } else none
  | 8, 2 => if 1 ≤ v ∧ v ≤ 10000 then some { o with staleMax := BitVec.ofNat 16 v } else none
  | 9, 32 => some { o with label := l }
  | _, _ => none

/-- `SETTINGS_WRITE`: a field of the working copy. -/
def settingsWriteBody (sub : Sub) (field : Half) (length : Byte) (value : List Byte) (s : State) : State :=
  let l := padTo length.toNat value
  if length = 0 ∨ 32 < length.toNat ∨ !zeroFrom value length.toNat then finish 0x91 sub stBadOperand 0 s
  else match fieldPut field l s.sec.work with
    | none => finish 0x91 sub stBadOperand 0 s
    | some o => finish 0x91 sub stOk 0 (s.mapSec fun c => { c with work := o })

/-- `SETTINGS_WRITE` (R286, R461). -/
def execSettingsWrite (sub : Sub) (field : Half) (length : Byte) (value : List Byte) (s : State) : Answer :=
  ringCmd (.settingsWrite sub field length value) (settingsWriteBody sub field length value) s

/-- `CFG_COMMIT`. -/
def cfgCommitBody (sub : Sub) (s : State) : State :=
  if s.logFull then finish 0x92 sub stLogFull 0 s else flashStart sub 4 .cfgCommit s

/-- The end of a `CFG_COMMIT`. -/
def cfgCommitDone (j : FlashJob) (new : Word) (s : State) : State :=
  flashFinish j stOk (s.sec.set.seq.zeroExtend 64 ||| (new.zeroExtend 64 <<< 32)) s

/-- `CFG_COMMIT` (R287). -/
def execCfgCommit (sub : Sub) (s : State) : Answer := ringCmd (.cfgCommit sub) (cfgCommitBody sub) s

/-! ### Settings records that commands write (R448, R465, R466, R468) -/

/-- What a write makes of the record in force. -/
def AfterFlash.edit (s : State) (act : AfterFlash) (r : Settings) : Settings :=
  match act with
  | .protWrite item value => r.mapProt fun p => p.put item.toNat value.toNat
  | .cutoff _ _ geom limit => r.mapProt fun p =>
    { p with
      cutSide := (geom.map Prod.fst).getD p.cutSide
      cutVerts := (geom.map Prod.snd).getD p.cutVerts
      cutLimit := limit.getD p.cutLimit }
  | .password salt digest _ => r.mapProt fun p => { p with pwState := 1, salt := salt, digest := digest }
  | .recovery _ => r.mapProt fun p =>
    { p with pwState := 0, salt := List.replicate 16 0, digest := List.replicate 32 0, fails := 0, lockS := 0
             recovery := p.recovery + 1 }
  | .login _ _ => s.failsEdit r
  | .pwFail => s.failsEdit r
  | .teamKey key => r.mapProt fun p => { p with keyId := keyIdOf key }
  | .cfgCommit => { r with ord := s.sec.work }
  | _ => r

/-- The team key that the record of a write holds. -/
def AfterFlash.key (s : State) (act : AfterFlash) : BitVec 128 :=
  match act with
  | .teamKey key => key
  | _ => s.sec.teamKey

/-- Table 20.13: the item of a write's touchmark, and the bytes of it in a record. -/
def AfterFlash.item (act : AfterFlash) (r : Settings) : Nat × List Byte :=
  match act with
  | .protWrite item _ => (item.toNat, r.prot.itemBytes item.toNat)
  | .cutoff _ _ _ _ => (0x10, r.prot.cutBytes)
  | .password _ _ _ => (0x20, r.prot.pwBytes)
  | .recovery _ => (0x21, r.prot.pwBytes)
  | .teamKey _ => (0x30, padTo 16 r.prot.keyId)
  | _ => (0x50, r.body false)

/-- R268: the operator of a write's touchmark. -/
def AfterFlash.operator (s : State) (act : AfterFlash) : Half :=
  match act with
  | .password _ _ operator => operator
  | .recovery operator => operator
  | _ => s.operator

/-- A new settings copy is in force (R465). -/
def recordPut (act : AfterFlash) (s : State) : State :=
  settingsPut (act.edit s) (s.mapSec fun c => { c with teamKey := act.key s })

/-- R267, R448: a new settings copy has passed its compare; its touchmark follows. -/
def recordWritten (j : FlashJob) (s : State) : State :=
  let old := j.act.item s.sec.set
  let t := recordPut j.act s
  markStart j ⟨j.act.operator s, old.1, crc32 old.2, crc32 (j.act.item t.sec.set).2⟩ t

/-- R262: the session of a command that wrote the flash opens. -/
def jobSession (j : FlashJob) (operator : Half) (s : State) : State :=
  match j.sub with
  | some sub => sessionOpen sub operator s
  | none => s

/-- The end of a login whose record was written (R465). -/
def loginDone (j : FlashJob) (ok : Bool) (operator : Half) (s : State) : State :=
  let s := recordPut j.act s
  if ok then flashFinish j stOk 0 (jobSession j operator s) else flashFinish j stNotAuthorized 0 s

/-- R264: the end of a recovery: n is 0, no lockout runs, the session opens. -/
def recoveryDone (j : FlashJob) (operator : Half) (s : State) : State :=
  flashFinish j stOk 0 (jobSession j operator (s.mapSec fun c => { c with fails := 0, lockEnd := none }))

/-- The end of a `PASSWORD_SET` whose old password did not match. -/
def pwFailDone (j : FlashJob) (s : State) : State := flashFinish j stNotAuthorized 0 (recordPut j.act s)

/-! ### Logs (R179, R181, R268, R269) -/

/-- The 32 bytes of a flight-log entry (R179). -/
def LogEntry.bytes (e : LogEntry) : List Byte :=
  b8 e.time ++ b4 e.seq.toNat ++ b2 e.code.toNat
  ++ b2 (e.engine.toNat + 1024 * (e.kind % 8) + 8192 * flag e.error) ++ padTo 16 e.data

/-- The flight-log entries from index `k` on, in order, up to the newest one written: at most `n`. -/
def logRun (l : Log) : Nat → Nat → List (Nat × LogEntry)
  | 0, _ => []
  | n + 1, k =>
    match alGet l.dram k with
    | none => []
    | some e =>
      let next := (k + 1) % logSize
      (k, e) :: (if next = l.next then [] else logRun l n next)

/-- R181: an entry whose unit is uncorrectable is returned zeroed, with its error flag. -/
def State.logBytes (s : State) (e : Nat × LogEntry) : List Byte :=
  if s.pool.ue.contains (logUnit e.1) then LogEntry.bytes ⟨0, 0, 0, 0, true, 0, []⟩ else e.2.bytes

/-- R268: records of the flight log, after the flush that precedes execution; `RESULT` and bytes. -/
def flightRead (first count : Nat) (s : State) : Dword × List Byte :=
  let l := logRun s.lg count first
  (BitVec.ofNat 64 (l.length + 2 ^ 32 * ((first + l.length) % logSize)), l.flatMap s.logBytes)

/-- The units that a read of the flight log meets. -/
def State.logUnits (s : State) (first count : Nat) : List Nat :=
  (logRun s.lg count first).map fun e => logUnit e.1

/-- The uncorrectable units that a read of the flight log meets. -/
def State.logUe (s : State) (first count : Nat) : List Nat :=
  s.pool.ue.filter fun u => (s.logUnits first count).contains u

/-- R268: touchmarks from sequence `first` on. -/
def marksRead (first : Word) (count : Nat) (s : State) : Dword × List Byte :=
  let l := (s.sec.marks.filter fun t => decide (first.toNat ≤ t.seq.toNat)).take count
  let next := match l.getLast? with
    | some t => t.seq + 1
    | none => first
  (BitVec.ofNat 64 (l.length + 2 ^ 32 * next.toNat), l.flatMap Touchmark.bytes)

/-- `LOG_READ`. -/
def logReadBody (sub : Sub) (log : Byte) (first : Word) (dest : Dword) (count : Word) (s : State) : State :=
  if 1 < log.toNat ∨ 4096 < count.toNat ∨ (log = 0 ∧ logSize ≤ first.toNat) then finish 0x8C sub stBadOperand 0 s
  else if count = 0 then
    finish 0x8C sub stOkZero (BitVec.ofNat 64 (2 ^ 32 * first.toNat)) s
  else
    let r := if log = 0 then flightRead first.toNat count.toNat s else marksRead first count.toNat s
    let s := if log = 0 then
        meetUnits 8 (s.logUnits first.toNat count.toNat) (s.logUe first.toNat count.toNat) s
      else s
    reply 0x8C sub stOk r.1 [(0, dest, r.2)] s

/-- `LOG_READ` (R268). -/
def execLogRead (sub : Sub) (log : Byte) (first : Word) (dest : Dword) (count : Word) (s : State) : Answer :=
  ringCmd (.logRead sub log first dest count) (logReadBody sub log first dest count) s

/-- The sequence of the newest touchmark, 0 before the first. -/
def State.newestMark (s : State) : Word := s.sec.nextMark - 1

/-- `LOG_ARCHIVE`: removes up to `UP_TO`. -/
def logArchiveBody (sub : Sub) (upTo : Word) (s : State) : State :=
  if s.newestMark.toNat < upTo.toNat then finish 0x8D sub stBadOperand 0 s else flashStart sub 3 (.archive upTo) s

/-- The end of a `LOG_ARCHIVE`: the archive touchmark stands in place of those removed; the condition of `F_LOG_FULL`
ends (R469). -/
def archiveDone (j : FlashJob) (upTo : Word) (s : State) : State :=
  let gone := s.sec.marks.filter fun t => decide (t.seq.toNat ≤ upTo.toNat)
  let s := s.mapSec fun c =>
    { c with marks := c.marks.filter (fun t => decide (upTo.toNat < t.seq.toNat)), upTo := upTo, fullNow := false }
  let s := touchmark 0xFF upTo (crc32 (gone.flatMap fun t => padTo 32 t.hmac)) s
  flashFinish j stOk (BitVec.ofNat 64 gone.length) s

/-- `LOG_ARCHIVE` (R269). -/
def execLogArchive (sub : Sub) (upTo : Word) (s : State) : Answer :=
  ringCmd (.logArchive sub upTo) (logArchiveBody sub upTo) s

/-! ### The random number generator (R446) -/

/-- `TRNG_HEALTH_FAILURE`. -/
def execTrngHealthFailure (s : State) : Answer := .next (s.mapPwr fun p => { p with trngOk := false })

/-- An operation that has waited receives its random bytes. -/
def trngServe (w : TrngWait) (s : State) : State :=
  match w with
  | .password sub operator pw => passwordSalt sub operator pw s
  | .challenge sub host => challengeOut sub host s
  | .port p => allPorts.foldl (fun s q => if q.val = p then portStart q s else s) s

/-- `TRNG_HEALTH_RESTORED`: the operations that wait go on, in order. -/
def execTrngHealthRestored (s : State) : Answer :=
  .next <|
    let waits := s.sec.waits
    waits.foldl (fun s w => trngServe w s)
      ((s.mapPwr fun p => { p with trngOk := true }).mapSec fun c => { c with waits := [] })

end Sys2Proof.Machine
end

