-- ==== Sys2Proof/Machine/Cal.lean ====
section
/-!
DEFINITION. End-of-line calibration (`17_calibration.md`, R392 to R400; `12_commands_system.md`, R282, R283;
`20_security_update.md`, R470).
-/
namespace Sys2Proof.Machine

/-! ### The assay record (Table 17.4) -/

/-- An assay record without any result. -/
def Assay.blank : Assay :=
  { phases := 0, failed := 0, tile := 0xFFFF, operator := 0, time := 0, refErr := 0, adcGain := 0, adcOff := 0
    resMax := 0, resTile := 0, atLimit := 0, unifRes := 0, eyes := List.replicate 8 (0xFF, 0xFF), qMin := 0 }

/-- The record in force, or the stored one that awaits its tick (R398). -/
def State.calRecord (s : State) : Option CalRec := s.cal.pend.or s.cal.held

/-- R400: the assay record that an update goes on from: the staged one, else the one in force. -/
def State.assayBase (s : State) : Assay := (s.cal.assay.or (s.calRecord.map CalRec.assay)).getD Assay.blank

/-- R400: the staged assay record is updated, with operator and time. -/
def assayPut (f : Assay → Assay) (s : State) : State :=
  s.mapCal fun c => { c with assay := some { f s.assayBase with operator := s.operator, time := s.now } }

/-! ### `CAL_RUN` (R282, R392, R396) -/

/-- R282: the refusals. -/
def State.calRefused (s : State) : Bool :=
  s.demanded != 0 || s.frm.params.addMarks != 0 || s.road || decide (s.safe ≠ 0) || s.tm.isMember

/-- Table 12.9: the operands of `CAL_RUN`. -/
def calRunOk (phases : Byte) (level : Half) : Bool :=
  (decide (1 ≤ phases.toNat ∧ phases.toNat ≤ 7) && level == 0) || phases == 8 || (phases == 16 && level == 0)

/-- `CAL_RUN`. -/
def calRunBody (sub : Sub) (phases : Byte) (level : Half) (s : State) : State :=
  if !calRunOk phases level then finish 0x78 sub stBadOperand 0 s
  else if s.calRefused || s.cal.run.isSome then finish 0x78 sub stWrongState 0 s
  else if phases = 8 then finish 0x78 sub stOk 0 (s.mapCal fun c => { c with flat := some level.toNat })
  else if phases = 16 then finish 0x78 sub stOk 0 (s.mapCal fun c => { c with flat := none })
  else keepRunning sub (s.mapCal fun c => { c with run := some ⟨phases, sub, false, 0⟩ })

/-- `CAL_RUN` (R282). -/
def execCalRun (sub : Sub) (phases : Byte) (level : Half) (s : State) : Answer :=
  ringCmd (.calRun sub phases level) (calRunBody sub phases level) s

/-! ### The end of a run (R394, R395) -/

/-- The full-scale current of a tile at trim code `t`, in nA / 1024. -/
def trimmed (na : Nat) (t : Int) : Nat := na * (1024 + t).toNat

/-- R395: the largest trim code whose current does not exceed 100.00 µA, and reaches 99.70 µA. -/
def trimOf (na : Nat) : Option Int :=
  match ((List.range 256).map fun k => (127 : Int) - k).find? fun t => decide (trimmed na t ≤ 102400000) with
  | some t => if 102092800 ≤ trimmed na t then some t else none
  | none => none

/-- R395: Q_t of a tile that draws `i` nA / 1024. -/
def qOf (i : Nat) : Nat := min 32768 (ceilDiv (32 * (i + 51200)) 100000)

/-- R395: the residual of a tile in 0.001 %, to the nearest, as in the worked example. -/
def residualOf (i : Nat) : Nat := (102400000 - i + 512) / 1024

/-- The index and value of the largest element. -/
def maxAt (l : List Nat) : Nat × Nat :=
  l.zipIdx.foldl (fun m e => if m.2 < e.1 then (e.2, e.1) else m) (0, l.getD 0 0)

/-- A run ends: the measuring stops, and it completes. -/
def calEnd (r : CalRun) (st : Half) (res : Nat) (s : State) : State :=
  finish 0x78 r.sub st (BitVec.ofNat 64 res) (s.mapCal fun c => { c with run := none })

/-- R394: a phase fails. -/
def calFail (r : CalRun) (phase : Nat) (tile : Half) (st : Half) (s : State) : State :=
  calEnd r st 0 (assayPut (fun a => { a with failed := phase, tile := tile }) s)

/-- Phase 1. -/
def phase1 (m : CalMeas) (s : State) : Option State :=
  if 2450 ≤ m.refinMv ∧ m.refinMv ≤ 2550 ∧ m.refinSpread ≤ 8 then
    some (assayPut (fun a => { a with phases := a.phases ||| 1, adcGain := m.adcGain, adcOff := m.adcOffset })
      (s.mapCal fun c => { c with adc := some (m.adcGain, m.adcOffset) }))
  else none

/-- Phase 2. -/
def phase2 (m : CalMeas) (s : State) : Option State :=
  if 950 ≤ m.calresMv ∧ m.calresMv ≤ 1050 then
    some (assayPut (fun a => { a with phases := a.phases ||| 2, refErr := m.refErr })
      (s.mapCal fun c => { c with ref := some (m.refTrim, m.refErr) }))
  else none

/-- Phase 3: the staged trims, or the tile that fails. -/
def phase3 (m : CalMeas) (s : State) : State ⊕ Nat :=
  let tiles := padNat 256 m.tilesNa
  let codes := tiles.map trimOf
  match codes.findIdx? Option.isNone with
  | some t => .inr t
  | none =>
    let ts := codes.map fun c => c.getD 0
    let is := (tiles.zip ts).map fun e => trimmed e.1 e.2
    let q := is.map qOf
    let w := maxAt (is.map residualOf)
    .inl (assayPut (fun a =>
      { a with
        phases := a.phases ||| 4, resMax := w.2, resTile := w.1
        atLimit := (ts.filter fun t => t == -128 || t == 127).length
        qMin := q.foldl min 32768 })
      (s.mapCal fun c => { c with trims := some (ts.map fun t => BitVec.ofInt 8 t, q) }))
where
  /-- A list brought to `n` numbers. -/
  padNat (n : Nat) (l : List Nat) : List Nat := (l ++ List.replicate n 0).take n

/-- R392, R394: the phases asked for, in ascending order; the run's time since its start tick is its result. -/
def calPhases (r : CalRun) (m : CalMeas) (s : State) : State :=
  let s := assayPut (fun a => { a with failed := 0, tile := 0xFFFF }) s
  match (if r.phases.getLsbD 0 then phase1 m s else some s) with
  | none => calFail r 1 0xFFFF stCalRefin s
  | some s =>
    match (if r.phases.getLsbD 1 then phase2 m s else some s) with
    | none => calFail r 2 0xFFFF stCalCalres s
    | some s =>
      match (if r.phases.getLsbD 2 then phase3 m s else .inl s) with
      | .inr t => calFail r 3 (BitVec.ofNat 16 t) stCalTile s
      | .inl s => calEnd r stOk (msOf (s.clk.loc - r.start) % 65536) s

/-- `CAL_RUN_END` (R392, R394, R395). -/
def execCalRunEnd (m : CalMeas) (s : State) : Answer :=
  .next <| match s.cal.run with
    | some r => if r.running then calPhases r m s else s
    | none => s

/-! ### The map and the record (R283, R397, R398) -/

/-- R397: the uniformity residual in 0.001 %, to the nearest. -/
def unifResOf (l : List Byte) : Nat :=
  let n := (l.filter fun b => b == 0 || b == 255).length
  (n * 100000 + calMapSize / 2) / calMapSize

/-- `CAL_LOAD_MAP`. -/
def calLoadMapBody (sub : Sub) (handle : Half) (offset : Word) (s : State) : State :=
  if s.unaligned handle offset.toNat then finish 0x79 sub stBadOperand 0 s
  else match s.poolRead handle offset.toNat calMapSize, s.cal.run.isSome with
    | .bad st, _ => finish 0x79 sub (if st = stBadOperand then stCalMapRange else st) 0 s
    | _, true => finish 0x79 sub stWrongState 0 s
    | .units l, _ => finish 0x79 sub stMemError 0 (raiseUe 10 l s)
    | .data bs, _ =>
      let s := copied handle offset.toNat calMapSize s
      finish 0x79 sub stOk 0 <|
        assayPut (fun a => { a with phases := a.phases ||| 8, unifRes := unifResOf bs })
          (s.mapCal fun c => { c with map := some (freshCells 128 0 bs) })

/-- `CAL_LOAD_MAP` (R397). -/
def execCalLoadMap (sub : Sub) (handle : Half) (offset : Word) (s : State) : Answer :=
  ringCmd (.calLoadMap sub handle offset) (calLoadMapBody sub handle offset) s

/-- R400: the lane eyes of the assay record. -/
def State.eyesNow (s : State) : List (Byte × Byte) :=
  s.lan.l.map fun l => if l.eyeValid then (l.eyeW.zeroExtend 8, l.eyeH.zeroExtend 8) else (0xFF, 0xFF)

/-- R283: staged results are present. -/
def State.calStaged (s : State) : Bool :=
  s.cal.trims.isSome || s.cal.adc.isSome || s.cal.ref.isSome || s.cal.map.isSome

/-- R283: the record that `CAL_STORE` writes, but for its copy sequence, which `calWritten` gives it. -/
def State.calToStore (s : State) : CalRec :=
  let r := s.calRecord
  let t := s.cal.trims.getD s.baseTrims
  let adc := s.cal.adc.getD ((r.map fun (c : CalRec) => (c.adcGain, c.adcOff)).getD (0, 0))
  { seq := 0, trims := t.1, q := t.2, adcGain := adc.1, adcOff := adc.2
    refTrim := (s.cal.ref.map Prod.fst).getD ((r.map CalRec.refTrim).getD 0), assay := s.assayBase
    map := s.cal.map.getD ((r.map CalRec.map).getD s.pho.map) }

/-- `CAL_STORE`. -/
def calStoreBody (sub : Sub) (s : State) : State :=
  if !s.calStaged then finish 0x7A sub stWrongState 0 s
  else if s.logFull then finish 0x7A sub stLogFull 0 s
  else
    let eyes := s.eyesNow
    let s := assayPut (fun a => { a with eyes := eyes }) s
    flashStart sub 2 (.calStore s.calToStore) s

/-- The frame whose composition begins next (R283). -/
def State.nextComp (s : State) : Word := if s.frm.compOn then s.nextFrame + 1 else s.nextFrame

/-- R399: the staged results that a stored record does not hold stay staged. -/
def Cal.stored (r : CalRec) (c : Cal) : Cal :=
  { c with
    trims := if c.trims = some (r.trims, r.q) then none else c.trims
    adc := if c.adc = some (r.adcGain, r.adcOff) then none else c.adc
    ref := if c.ref.map Prod.fst = some r.refTrim then none else c.ref
    map := if c.map = some r.map then none else c.map
    assay := if c.assay = some r.assay then none else c.assay }

/-- R398, R470: the record of a `CAL_STORE` stands in flash; its touchmark follows. -/
def calWritten (j : FlashJob) (r : CalRec) (s : State) : State :=
  let r := { r with seq := ((copyWinner CalRec.seq s.calCopies).map fun c => c.2.seq).getD 0 + 1 }
  let m : MarkWrite := ⟨s.operator, 0x40, crc32 ((s.calRecord.map CalRec.body).getD []), crc32 r.body⟩
  let i := copyTarget CalRec.seq s.calCopies
  markStart { j with act := .calStore r } m (s.mapFls fun f => { f with cals := f.cals.set i (s.calBytes r) })

/-- R398, R399: the end of a `CAL_STORE`. It rewrites every unit of the uniformity map (R84). -/
def calStoreDone (j : FlashJob) (r : CalRec) (s : State) : State :=
  let s := (mapFresh s).mapCal fun c => { c.stored r with pend := some r }
  flashFinish j stOk (s.nextComp.zeroExtend 64) s

/-- `CAL_STORE` (R283, R398). -/
def execCalStore (sub : Sub) (s : State) : Answer := ringCmd (.calStore sub) (calStoreBody sub) s

/-! ### `CAL_READ` (R400) -/

/-- Size and bytes of an item; none where the item does not exist. -/
def State.calItem (s : State) (what : Byte) (off n : Nat) : Option (List Byte) :=
  match what.toNat with
  | 0 => (s.cal.assay.or (s.calRecord.map CalRec.assay)).map fun a => (a.bytes.drop off).take n
  | 1 => some (cellsGet 128 s.pho.map off n)
  | _ => s.cal.map.map fun m => cellsGet 128 m off n

/-- The uncorrectable units of the map in force that a range meets (Table 08.2). -/
def State.calUe (s : State) (what : Byte) (off n : Nat) : List Nat :=
  if what = 1 then s.pool.ue.filter fun u => (unitsOf (0x06000000 + off) n).contains u else []

/-- `CAL_READ`; an item that does not exist reads as free values. -/
def calReadBody (sub : Sub) (what : Byte) (offset : Word) (dest : Dword) (length : Word) (s : State) : State :=
  let size := if what = 0 then 64 else calMapSize
  let off := offset.toNat
  let n := length.toNat
  if 2 < what.toNat ∨ size < off + n then finish 0x7B sub stBadOperand 0 s
  else if n = 0 then finish 0x7B sub stOkZero 0 s
  else
    let bad := s.calUe what off n
    let q := if what = 1 then frameCe 2 0 s.nextFrame (unitsOf (0x06000000 + off) n) ([], s) else ([], s)
    let s := raised (bad.foldl (fun q u => frameMem fMemUe u 2 0 q.2.nextFrame q) q)
    if !bad.isEmpty then finish 0x7B sub stMemError 0 s
    else match s.calItem what off n with
      | some l => reply 0x7B sub stOk 0 [(0, dest, l)] s
      | none =>
        let (l, s) := s.random n
        reply 0x7B sub stOk 0 [(0, dest, l)] s

/-- `CAL_READ` (R400). -/
def execCalRead (sub : Sub) (what : Byte) (offset : Word) (dest : Dword) (length : Word) (s : State) : Answer :=
  ringCmd (.calRead sub what offset dest length) (calReadBody sub what offset dest length) s

end Sys2Proof.Machine
end

