-- ==== Sys2Proof/Machine/Ports.lean ====
section
/-!
DEFINITION. The trace ports (`13_team.md`, R296 to R303): sessions, the checks of a received frame, acknowledgement and
replay, and the ways down.
-/
namespace Sys2Proof.Machine

/-! ### Receiving -/

/-- The core that runs the sessions and the team's decisions: the ostler, and in halter mode what serves port 0
(R185). -/
def State.teamCore (s : State) : Bool := s.pwr.ostler || s.pwr.mode == .halter

/-- R302: `a` comes before `b`, modulo 2^32 within a window of 2^31. -/
def rseqBefore (a b : Word) : Bool := a != b && decide ((b - a).toNat < 2 ^ 31)

/-- R302: an ACKNAK with NAK set. -/
def nakSend (p : Fin 4) (s : State) : State := portEmit p 0 false (.acknak true) s

/-- R300, R302: a received frame is discarded and counted. -/
def discardOp (p : Fin 4) (reliable : Bool) (s : State) : State :=
  let s := mapPort p (fun q => { q with discards := q.discards + 1 }) s
  if reliable then nakSend p s else s

/-- R304: the class of a reliable frame among those that wait. -/
def TFrame.sendClass : TFrame → Nat
  | .state _ => 0
  | .bulk _ _ => 2
  | _ => 1

/-- R304: frames in the order in which a port sends them: by class, and within one as they came. -/
def sendOrder (l : List TFrame) : List TFrame :=
  (List.range 3).flatMap fun c => l.filter fun f => f.sendClass == c

/-- R301, R304: frames that waited for the replay buffer are sent as far as it has room. -/
def queuePump (p : Fin 4) (s : State) : State :=
  let waiting := sendOrder (s.port p).queue
  waiting.foldl (fun s f => portSend p f s) (mapPort p (fun q => { q with queue := [] }) s)

/-- R301, R302: `RACK` acknowledges the frames before it. -/
def rackTake (p : Fin 4) (rack : Word) (s : State) : State :=
  let q := s.port p
  if q.replay.any fun e => rseqBefore e.1 rack then
    queuePump p (mapPort p (fun q =>
      { q with replay := q.replay.filter (fun e => !rseqBefore e.1 rack), acked := rack, retries := 0 }) s)
  else s

/-- R302, R303: every unacknowledged frame is sent again, with a new `FCNT`; the fourth time takes the port down. -/
def retransmit (p : Fin 4) (s : State) : State :=
  let q := s.port p
  if q.replay.isEmpty then s
  else if 3 ≤ q.retries then portDownOp p 3 s
  else
    q.replay.foldl (fun s e => portEmit p e.1 true e.2 s) (mapPort p (fun q => { q with retries := q.retries + 1 }) s)

/-- R300: `FCNT` is greater than that of the last accepted frame. -/
def Port.fresh (q : Port) (fcnt : Dword) : Bool :=
  match q.rxFcnt with
  | none => true
  | some n => decide (n.toNat < fcnt.toNat)

/-- R327: this engine is excluded by the lead's major revision: a neighbour's HELLO tells it, and for a lead farther away it
is a free value (DESIGN CHOICE, assumption 36). -/
def State.leadForeign (s : State) : Bool :=
  match s.tm.parent.bind fun p => (s.port p).peer with
  | some h =>
    if h.dist = 0 then h.csMajor.toNat != csMajor else (s.tm.lead.map Config.leadDiffers).getD s.tm.excluded
  | none => s.tm.excluded

/-- R327: an engine whose major revision differs from the lead's is excluded. -/
def excludeCheck (s : State) : State :=
  let out := s.leadForeign
  if out == s.tm.excluded || s.tm.leading then s
  else
    let s := s.mapTm fun t => { t with excluded := out, tickSync := t.tickSync && !out }
    if out then selfEvent 5 (raise fTeamVersion [] s) else s

/-- R305, R307, R327: what a HELLO says of the tree and of a lead. -/
def helloNote (p : Fin 4) (pl : HelloPl) (s : State) : State :=
  let s := mapPort p (fun q => { q with peer := some pl }) s
  let s := if pl.role = 1 && pl.dist = 0 && pl.assigned then leadHeard (pl.engine.truncate 10) pl.term none s else s
  excludeCheck (treeUpdate s)

/-- Table 13.2, step 5: the first frame under the session keys is verified: the port is UP. -/
def portVerified (p : Fin 4) (s : State) : State :=
  if (s.port p).state == .starting && (s.port p).answered then
    let s := mapPort p (fun q => { q with state := .up, heard := true }) s
    match (s.port p).peer with
    | some pl => helloNote p pl s
    | none => s
  else s

/-- R300 to R302: a frame that has passed the checks of the lane arrives on an UP port; `body` is what it does. -/
def portRx (p : Fin 4) (h : FrameHdr) (reliable : Bool) (body : State → State) (s : State) : State :=
  let q := s.port p
  if q.state != .up then s
  else if !q.fresh h.fcnt then discardOp p reliable s
  else
    let s := rackTake p h.rack (mapPort p (fun q => { q with rxFcnt := some h.fcnt }) s)
    let s := if h.nak then retransmit p s else s
    if !reliable then body s
    else
      let next := (s.port p).rxNext
      if h.rseq = next then body (mapPort p (fun q => { q with rxNext := q.rxNext + 1, ackDue := true }) s)
      else if rseqBefore h.rseq next then mapPort p (fun q => { q with ackDue := true }) s
      else nakSend p s

/-- R296, R300: a frame under the session keys arrives. -/
def keyedRx (p : Fin 4) (h : FrameHdr) (reliable : Bool) (body : State → State) (s : State) : State :=
  portRx p h reliable body (if (s.port p).fresh h.fcnt then portVerified p s else s)

/-- R305: routed and flooded frames do not travel over a standby port. -/
def treeRx (p : Fin 4) (h : FrameHdr) (reliable : Bool) (body : State → State) (s : State) : State :=
  keyedRx p h reliable (fun s => if (s.port p).standby then s else body s) s

/-! ### Start of a port (R296, R297) -/

/-- `PORT_SIGNAL_DETECT`. -/
def execPortSignalDetect (p : Fin 4) (s : State) : Answer :=
  .next <|
    if !s.pwr.vaon || s.pwr.mode == .standby || s.pwr.mode == .reset || !s.portOn p then s
    else
      let s := mapPort p (fun q => { q with signal := true }) s
      portStart p (mapLane (s.portLane p) (fun l => { l with sigDet := true, cdrLock := true }) s)

/-- `HELLO_SEND`. -/
def execHelloSend (p : Fin 4) (s : State) : Answer :=
  .next <| if (s.port p).state == .starting && !(s.port p).answered && s.teamCore then helloOut p s else s

/-- R297: byte strings in their order. -/
def bytesLess : List Byte → List Byte → Bool
  | a :: l, b :: m => decide (a.toNat < b.toNat) || (a == b && bytesLess l m)
  | _, _ => false

/-- R297: the session key material of two nonces. -/
def sessionKeys (team own peer : BitVec 128) : BitVec 128 × BitVec 128 :=
  let a := leBytes own.toNat 16
  let b := leBytes peer.toNat 16
  let tag : List Byte := [0x46, 0x4C, 0x56, 0x2D, 0x54, 0x4C]
  let first := bytesLess a b
  let m := Config.hmac (leBytes team.toNat 16) (tag ++ (if first then a ++ b else b ++ a))
  let lo := BitVec.ofNat 128 (ofLE (m.take 16))
  let hi := BitVec.ofNat 128 (ofLE ((m.drop 16).take 16))
  if first then (lo, hi) else (hi, lo)

/-- Table 13.2, steps 4 and 5, R297: a valid HELLO of the peer is answered, and the session keys are derived. -/
def sessionStart (p : Fin 4) (pl : HelloPl) (s : State) : State :=
  let k := sessionKeys s.sec.teamKey (s.port p).ownNonce pl.nonce
  let s := mapPort p (fun q => { q with peer := some pl, txKey := k.1, rxKey := k.2, keyed := true }) s
  mapPort p (fun q => { q with answered := true }) (helloOut p s)

/-- `HELLO` (R296, R297, R305); until a frame under the session keys has come, each is answered (assumption 23). -/
def execHello (p : Fin 4) (h : FrameHdr) (pl : HelloPl) (s : State) : Answer :=
  .next <|
    if !s.teamCore then portRx p h false (fun s => s) s
    else match (s.port p).state with
      | .down => s
      | .starting =>
        if (s.port p).fresh h.fcnt then
          sessionStart p pl (mapPort p (fun q => { q with rxFcnt := some h.fcnt }) s)
        else discardOp p false s
      | .up => portRx p h false (helloNote p pl) s

/-! ### Acknowledgement (R301, R302) -/

/-- `ACKNAK`. -/
def execAcknak (p : Fin 4) (h : FrameHdr) (s : State) : Answer := .next <| keyedRx p h false (fun s => s) s

/-- `ACKNAK_TIMER` (R301): a frame under the session keys when nothing else is sent, from the moment that they stand. -/
def execAcknakTimer (p : Fin 4) (s : State) : Answer :=
  .next <| if (s.port p).state == .up || (s.port p).answered then portEmit p 0 false (.acknak false) s else s

/-- `RETRANSMIT_TIMEOUT` (R302). -/
def execRetransmitTimeout (p : Fin 4) (s : State) : Answer :=
  .next <| if (s.port p).state == .up then retransmit p s else s

/-! ### Port down (R303) -/

/-- The lane of port `p` has lost signal detect and lock. -/
def laneLost (p : Fin 4) (s : State) : State :=
  mapLane (s.portLane p) (fun l => { l with sigDet := false, cdrLock := false }) s

/-- `PORT_DOWN` for a reason of Table 13.6; 0 stands for disabling by `TEAM_CONFIG`, which raises nothing more here. -/
def execPortDown (p : Fin 4) (reason : Byte) (s : State) : Answer :=
  .next <|
    match reason.toNat with
    | 0 => if s.portOn p then s else portDownOp p 0 s
    | 1 => portDownOp p 1 (laneLost p s)
    | 6 => if (s.port p).state == .down then s else portDownOp p 6 s
    | r => if (r = 2 || r = 3 || r = 4) && (s.port p).state == .up then portDownOp p r s else s

/-- R303: 16 `TAG` failures within 1 s are borne. -/
def tagFail (p : Fin 4) (s : State) : State :=
  let l := ((s.port p).tagFails.filter fun t => decide (s.clk.loc < t + 1000000000)) ++ [s.clk.loc]
  let s := mapPort p (fun q => { q with tagFails := l }) s
  if 16 < l.length then portDownOp p 4 s else s

/-- `TRACE_FRAME_DISCARDED` (R300, R303). -/
def execTraceFrameDiscarded (p : Fin 4) (why : DiscardWhy) (reliable : Bool) (s : State) : Answer :=
  .next <|
    if (s.port p).state == .down then s
    else
      let s := discardOp p (reliable && (s.port p).state == .up) s
      if why = .tag && (s.port p).state == .up then tagFail p s else s

end Sys2Proof.Machine
end

