-- ==== Sys2Proof/Machine/Health.lean ====
section
/-!
DEFINITION. Pixel health (`07_pixel_health.md`): evaluation and the probe slot (R142 to R147), coverage (R148), the fault
pixel map (R149, R150), stuck-on pixels in road mode (R154), over-current trips (R157 to R160), the healthy pixels of
marks (R341), `PIXMAP_READ` (R259) and the relight sequence (R67).
-/
namespace Sys2Proof.Machine

/-! ### Evaluation (R142 to R145) -/

/-- R142: C_diag. -/
def State.cDiag (s : State) : Nat := ceilDiv (160 * s.frm.fNum) s.frm.fDen

/-- R142: the on-intervals of a code qualify. -/
def State.onQualifies (s : State) (c : Nat) : Bool := decide (s.cDiag ≤ c) && decide (64 ≤ s.curbLoaded)

/-- R142: the off-intervals of a code qualify. -/
def State.offQualifies (s : State) (c : Nat) : Bool := decide (s.cDiag + c ≤ 2 ^ s.frm.rampN)

/-- R393: evaluation is suspended while a calibration run measures. -/
def State.measuring (s : State) : Bool := (s.cal.run.map CalRun.running).getD false

/-- R143: open evaluation is not suppressed in the tile. -/
def State.openSeen (s : State) (t : Nat) : Bool := !s.hk.tile40.getLsbD t

/-- R142, R143: an interval of the pixel can find this fault. -/
def State.sampleValid (s : State) (p : PixelFind) : Bool :=
  let t := tileOf p.x.val p.y.val
  let c := s.codeA p.x.val p.y.val
  s.tileClosed t
  && (match p.kind with
      | .open => s.onQualifies c && s.openSeen t
      | .short => s.onQualifies c
      | .stuck => s.offQualifies c)

/-- R145: a probe of the slot can find this fault. -/
def State.probeValid (s : State) (p : PixelFind) : Bool :=
  let t := tileOf p.x.val p.y.val
  let c := s.codeA p.x.val p.y.val
  p.y.val % 16 == s.frm.frame.toNat % 16 && s.tileClosed t
  && (match p.kind with
      | .open => s.frm.params.onProbe && !s.onQualifies c && s.openSeen t
      | .short => s.frm.params.onProbe && !s.onQualifies c
      | .stuck => s.frm.params.offProbe && !s.offQualifies c)

/-- R154: a stuck-on pixel in the frame shown asks for isolation. -/
def State.stuckIsolates (s : State) (x y : Nat) : Bool :=
  match s.frm.shown with
  | some h => h.road && clampedSide h.geom x y
  | none => false

/-- R154: R154 holds the isolation of the tile, and it is not being released. -/
def State.held154 (s : State) (t : Nat) : Bool := s.arr.hw154.getLsbD t && !s.arr.rel154.getLsbD t

/-- R154: isolate the tile of a stuck-on pixel. -/
def stuckIsolate (x y : Nat) (s : State) : State :=
  let t := tileOf x y
  if s.held154 t then s
  else
    let s := (tilesOpen (bitPut 0 t true) s).mapArr fun a =>
      { a with hw154 := bitPut a.hw154 t true, rel154 := bitPut a.rel154 t false, isol := bitPut a.isol t true }
    s.mapHlt fun h =>
      { h with isolN := h.isolN + 1
               isolPix := some (match h.isolPix with
                 | some k => min k (2048 * y + x)
                 | none => 2048 * y + x) }

/-- A find joins those of the running period (R144), or of its probe slot (R145), with the isolation of R154. -/
def findAdd (p : PixelFind) (slot : Bool) (s : State) : State :=
  let s := s.mapHlt fun h =>
    if slot then { h with slotFound := h.slotFound ++ [p] } else { h with found := h.found ++ [p] }
  if p.kind == .stuck && s.stuckIsolates p.x.val p.y.val then stuckIsolate p.x.val p.y.val s else s

/-- `PIXEL_SAMPLE` (R141 to R144, R154): the second sample of an interval finds a fault. -/
def execPixelSample (p : PixelFind) (s : State) : Answer :=
  .next <| if s.ticking && !s.measuring && s.sampleValid p then findAdd p false s else s

/-- R145: what the probe slot can evaluate. -/
def State.probeNow (s : State) : ProbeRec :=
  { closed := s.closedTiles, seen := s.closedTiles &&& ~~~s.hk.tile40, curbOk := decide (64 ≤ s.curbLoaded)
    onProbe := s.frm.params.onProbe, offProbe := s.frm.params.offProbe }

/-- `PROBE_SLOT` (R145 to R147): the probed rows of this period; `found` are the faults that the samples show. -/
def execProbeSlot (found : List PixelFind) (s : State) : Answer :=
  .next <|
    if !s.ticking || s.measuring || s.frm.probed.isSome then s
    else
      let good := found.filter s.probeValid
      let s := s.mapFrm fun f => { f with probed := some s.probeNow }
      good.foldl (fun s p => findAdd p true s) s

/-! ### Coverage (R148) -/

/-- What the period that ends evaluated. -/
def State.periodRec (s : State) : PeriodRec :=
  { active := s.arr.a, spans := s.hlt.spans ++ [s.spanNow], probe := s.frm.probed, cDiag := s.cDiag, n := s.frm.rampN
    oCam := s.frm.params.oCam, lane16 := s.frm.frame.toNat % 16 }

/-- R393: a period of a calibration run evaluates nothing. -/
def State.idleRec (s : State) : PeriodRec := { s.periodRec with active := [], spans := [], probe := none }

/-- R142: consecutive parts of a period for which `ok` holds, taken together, contain an interval: `fits` of their first
and last PWM clock. -/
def spansHold (ok : Span → Bool) (fits : Nat → Nat → Bool) (l : List Span) : Bool :=
  (l.foldl (fun (r : Option Nat × Bool) p =>
    if ok p then (some (r.1.getD p.a), r.2 || fits (r.1.getD p.a) p.b) else (none, r.2)) (none, false)).2

/-- R142: a whole on-interval of a code, in group `g`, lies between PWM clocks `a` and `b`. -/
def PeriodRec.onFits (r : PeriodRec) (g c a b : Nat) : Bool := decide (onStart r.n r.oCam g a + c ≤ b)

/-- R142: a whole off-interval of a code, in group `g`, lies between PWM clocks `a` and `b`. -/
def PeriodRec.offFits (r : PeriodRec) (g c a b : Nat) : Bool :=
  decide (onStart r.n (r.oCam + c) g a + (2 ^ r.n - c) ≤ b)

/-- R145: the slot of the period probed row `y`, in a tile of `m`. -/
def PeriodRec.probes (r : PeriodRec) (m : ProbeRec → BitVec 256) (x y : Nat) : Bool :=
  y % 16 == r.lane16 && (r.probe.map fun p => (m p).getLsbD (tileOf x y)).getD false

/-- R148: one period covered a pixel with this code for open and short, by an on-interval or by an on-probe. -/
def PeriodRec.coversOS (r : PeriodRec) (x y c : Nat) : Bool :=
  let t := tileOf x y
  let ok (p : Span) : Bool := p.closed.getLsbD t && p.curbOk && !p.low.getLsbD t
  (decide (r.cDiag ≤ c) && spansHold ok (r.onFits (phaseGroup x y) c) r.spans)
  || (r.probes ProbeRec.seen x y
      && (r.probe.map fun p => p.onProbe && !(decide (r.cDiag ≤ c) && p.curbOk)).getD false)

/-- R148: one period covered a pixel with this code for stuck-on, by an off-interval or by an off-probe. -/
def PeriodRec.coversST (r : PeriodRec) (x y c : Nat) : Bool :=
  let t := tileOf x y
  if r.cDiag + c ≤ 2 ^ r.n then spansHold (fun p => p.closed.getLsbD t) (r.offFits (phaseGroup x y) c) r.spans
  else r.probes ProbeRec.closed x y && (r.probe.map ProbeRec.offProbe).getD false

/-- The codes of row `y`. -/
def rowOf (l : List (Nat × List Half)) (y : Nat) : List Half := (alGet l y).getD (List.replicate 2048 0)

/-- R148: coverage of the pixels of row `y`, open and short, then stuck-on. -/
def coverRow (hist : List PeriodRec) (y : Nat) : List (Bool × Bool) :=
  hist.foldl (fun acc r =>
    (acc.zip (rowOf r.active y).zipIdx).map fun e =>
      (e.1.1 || r.coversOS e.2.2 y e.2.1.toNat, e.1.2 || r.coversST e.2.2 y e.2.1.toNat))
    (List.replicate 2048 (false, false))

/-- R148: the two coverage counts. -/
def coverCounts (hist : List PeriodRec) : Nat × Nat :=
  (List.range 512).foldl (fun n y =>
    let r := coverRow hist y
    (n.1 + (r.filter Prod.fst).length, n.2 + (r.filter Prod.snd).length)) (0, 0)

/-- R148: parts per million of the array, rounded down. -/
def perMillion (n : Nat) : Nat := n * 1000000 / 1048576

/-- R148: one pixel is covered for open and short. -/
def coveredOS (hist : List PeriodRec) (x y : Nat) : Bool :=
  hist.any fun r => r.coversOS x y ((rowOf r.active y).getD x 0).toNat

/-! ### The map (R149, R150) -/

/-- Base of the fault pixel map (Table 08.2). -/
def pixmapBase : Nat := 0x06100000

/-- The unit of the map that holds pixel `k` = 2,048 y + x. -/
def pixUnit (k : Nat) : Nat := pixmapBase + k / 64 * 64

/-- A unit of the map. -/
def inPixmap (u : Nat) : Bool := decide (pixmapBase ≤ u ∧ u < pixmapBase + 1048576)

/-- The uncorrectable units of the map. -/
def State.pixUe (s : State) : List Nat := s.pool.ue.filter inPixmap

/-- The bit of a fault in a map byte (Table 07.3). -/
def faultBit : PixelFault → Nat
  | .open => 0
  | .short => 1
  | .stuck => 2

/-- The source of a fault (Table 07.1). -/
def faultSrc : PixelFault → Nat
  | .open => fPixelOpen
  | .short => fPixelShort
  | .stuck => fPixelStuck

/-- R149: the sticky bits of pixel `k`. -/
def State.pixByte (s : State) (k : Nat) : Byte := cellGet 0 s.hlt.map k

/-- R144: one find enters the map. -/
def markPixel (p : PixelFind) (m : List Host.Cell) : List Host.Cell :=
  let k := 2048 * p.y.val + p.x.val
  cellsPut 0 m k [bitPut (cellGet 0 m k) (faultBit p.kind) true]

/-- R144: the pixels that the finds mark newly with a fault. -/
def newMarks (m : List Host.Cell) (found : List PixelFind) (k : PixelFault) : List Nat :=
  (((found.filter fun p => p.kind == k).map fun p => 2048 * p.y.val + p.x.val).eraseDups).filter fun i =>
    !(cellGet 0 m i).getLsbD (faultBit k)

/-- R150, R176: a read of the fault pixel map meets the errors in its units that are `inside`: an uncorrectable unit newly met
reads as 0x18 until it is rewritten, and has lost its sticky bits. -/
def pixMeet (frame : Word) (inside : Nat → Bool) (q : List Raise × State) : List Raise × State :=
  let q := frameCe 3 0 frame (q.2.pool.ce.filter inside) q
  let bad := q.2.pool.ue.filter fun u => inside u && !q.2.hlt.ueRows.contains u
  bad.foldl (fun q u => frameMem fMemUe u 3 0 frame q)
    (q.1, q.2.mapHlt fun h =>
      { h with ueRows := h.ueRows ++ bad, map := h.map.filter fun c => !bad.contains (pixUnit c.1) })

/-- R150: at a tick the units met uncorrectable at an earlier tick are rewritten, those newly met lose their sticky
bits and raise `F_MEM_UE`. -/
def mapUeTick (frame : Word) (s : State) : List Raise × State :=
  let old := s.hlt.ueRows
  let s := unitsFresh (fun u => old.contains u) s
  pixMeet frame inPixmap ([], s.mapHlt fun h => { h with ueRows := [] })

/-- Table 15.6: data of a pixel source. -/
def pixData (n first : Nat) (frame : Word) (tiles : Nat) : List Byte :=
  b4 n ++ b2 (first % 2048) ++ b2 (first / 2048) ++ b4 frame.toNat ++ b2 tiles

/-- R144, R150: the map is updated; the marks new at this tick are the answer. A find of the period in a unit that reads as
0x18 at this tick does not enter, at this tick or the next (DESIGN CHOICE, assumption 86). -/
def mapUpdate (s : State) : (PixelFault → List Nat) × State :=
  let clear := s.hlt.clear.zeroExtend 8
  let m0 := s.hlt.map.filterMap fun c => let b := c.2 &&& ~~~clear; if b = 0 then none else some (c.1, b)
  let found := (s.hlt.found ++ s.hlt.slotFound).filter fun p => !s.hlt.ueRows.contains (pixUnit (2048 * p.y.val + p.x.val))
  (newMarks m0 found,
    s.mapHlt fun h => { h with map := found.foldl (fun m p => markPixel p m) m0, found := [], slotFound := [], clear := 0 })

/-- R154, second case: the pixels marked `STUCK` that ask for isolation at this tick. -/
def stuckTick (s : State) : State :=
  (s.hlt.map.filter fun c => c.2.getLsbD 2 && s.stuckIsolates (c.1 % 2048) (c.1 / 2048)).foldl
    (fun s c => stuckIsolate (c.1 % 2048) (c.1 / 2048) s) s

/-- R144, R154: the raises of the three pixel sources at a tick. -/
def State.pixRaises (s : State) (frame : Word) (new : PixelFault → List Nat) : List Raise :=
  let first (l : List Nat) : Nat := l.foldl min (l.headD 0)
  let one (k : PixelFault) : List Raise :=
    if (new k).isEmpty then [] else [⟨faultSrc k, 0, pixData (new k).length (first (new k)) frame 0⟩]
  let l := new .stuck
  let n := s.hlt.isolN
  one .open ++ one .short
    ++ (if n = 0 then one .stuck
        else [⟨fPixelStuck, 3,
          pixData l.length (if l.isEmpty then s.hlt.isolPix.getD 0 else first l) frame n⟩])

/-- R144, R154: the three pixel sources at a tick. -/
def pixRaise (frame : Word) (new : PixelFault → List Nat) (s : State) : List Raise × State :=
  (s.pixRaises frame new, s.mapHlt fun h => { h with isolN := 0, isolPix := none })

/-! ### Marks (R151, R341) -/

/-- R151: a pixel is healthy at a tick. -/
def State.pixHealthy (s : State) (x y : Nat) : Bool :=
  let t := tileOf x y
  s.pixByte (2048 * y + x) == 0 && !s.hlt.ueRows.contains (pixUnit (2048 * y + x)) && coveredOS s.hlt.hist x y
  && !s.arr.isol.getLsbD t && !s.arr.wasOpen.getLsbD t

/-- R341: the mark pixels of mark `i`. -/
def State.markPixels (s : State) (i : Nat) : List (Nat × Nat) :=
  let m := markAt s.hallByte i
  let x0 := (max m.x 0).toNat
  let y0 := (max m.yPos 0).toNat
  if m.format = 0 then []
  else (List.range (visLen m.yPos m.height 512)).flatMap fun v =>
    ((List.range (visLen m.x m.width 2048)).filter fun u => markAlpha s.hallByte m (x0 + u) (y0 + v) != 0).map
      fun u => (x0 + u, y0 + v)

/-- R341: the verdict on mark `i` at a tick. -/
def markTick (i : Nat) (q : List Raise × State) : List Raise × State :=
  let s := q.2
  let px := s.markPixels i
  let n := px.length
  let ok := (px.filter fun p => s.pixHealthy p.1 p.2).length
  let intact := decide (98 * n ≤ 100 * ok)
  let was := s.saf.pixHeld.getLsbD i
  let s := s.mapSaf fun f => { f with notIntact := bitPut f.notIntact i (!intact), pixHeld := bitPut f.pixHeld i (!intact) }
  if intact || was then (q.1, s)
  else waitRaise fHallmarkPixel (b2 i ++ b2 0 ++ b4 ok ++ b4 n ++ b1 (flag (s.demanded.getLsbD i))) (q.1, s)

/-- R341: every loaded mark. -/
def marksTick (q : List Raise × State) : List Raise × State :=
  let s := q.2
  let loaded := loadedMarks s.hallByte
  let s := s.mapSaf fun f => { f with notIntact := f.notIntact &&& loaded, pixHeld := f.pixHeld &&& loaded }
  ((List.range 16).filter fun i => loaded.getLsbD i).foldl (fun q i => markTick i q) (q.1, s)

/-- R144, R148, R150: the part of a tick before its swap: coverage and the map. Suspended in a calibration run. -/
def healthTick (frame : Word) (s : State) : (PixelFault → List Nat) × List Raise × State :=
  if s.measuring then
    (fun _ => [], [], s.mapHlt fun h => { h with found := [], slotFound := [], hist := (s.idleRec :: h.hist).take 16 })
  else
    let s := s.mapHlt fun h => { h with hist := (s.periodRec :: h.hist).take 16 }
    let (mem, s) := mapUeTick frame s
    let (new, s) := mapUpdate s
    (new, mem, s)

/-- R144, R154, R341: the part of a tick after its swap, and what it raises. -/
def healthAfter (frame : Word) (new : PixelFault → List Nat) (s : State) : List Raise × State :=
  let (l, s) := marksTick (pixRaise frame new (stuckTick s))
  let s := s.mapHlt fun h => { h with spans := [], spanAt := s.clk.loc }
  (l, s.mapArr fun a => { a with wasOpen := ~~~s.closedTiles })

/-! ### `PIXMAP_READ` (R259) -/

/-- Table 07.3: the map bytes of row `y`. -/
def State.pixRow (s : State) (y : Nat) : List Byte :=
  let fill := s.hlt.filled
  (coverRow s.hlt.hist y).zipIdx.map fun e =>
    let k := 2048 * y + e.2
    let os := !e.1.1
    let st := !e.1.2
    if s.hlt.ueRows.contains (pixUnit k) then 0x18
    else BitVec.ofNat 8 ((s.pixByte k).toNat % 8 + 8 * flag os + 16 * flag st
      + 32 * flag (!fill.isEmpty && isFilled fill e.2 y))

/-- Table 11.13. -/
def State.pixSummary (s : State) (n : Nat × Nat) : List Byte :=
  b4 s.frm.frame.toNat ++ b4 n.1 ++ b4 n.2 ++ b4 (perMillion n.1) ++ b4 (perMillion n.2)
  ++ b4 (s.hlt.map.filter fun c => c.2.toNat % 4 != 0).length ++ b4 (s.hlt.map.filter fun c => c.2.getLsbD 2).length
  ++ b2 (popcount s.arr.isol) ++ b2 0

/-- R259. -/
def pixmapBody (sub : Sub) (o : PixmapOps) (s : State) : State :=
  if 511 < o.firstRow.toNat ∨ 512 < o.firstRow.toNat + o.rows.toNat then finish 0x44 sub stBadOperand 0 s
  else
    let from_ := pixmapBase + 2048 * o.firstRow.toNat
    let s := raised (pixMeet s.frm.frame (fun u => decide (from_ ≤ u ∧ u < from_ + 2048 * o.rows.toNat)) ([], s))
    let n := coverCounts s.hlt.hist
    let rows := (List.range o.rows.toNat).flatMap fun k => s.pixRow (o.firstRow.toNat + k)
    reply 0x44 sub (if o.rows = 0 then stOkZero else stOk) (BitVec.ofNat 64 (n.1 + 2 ^ 32 * n.2))
      [(0, o.dest, rows), (1, o.summary, s.pixSummary n)] s

/-- `PIXMAP_READ` (R259). -/
def execPixmapRead (sub : Sub) (o : PixmapOps) (s : State) : Answer :=
  ringCmd (.pixmapRead sub o) (pixmapBody sub o) s

/-! ### Over-current (R157 to R160) -/

/-- R159: the trips of tile `t` within the last 1 s, this one included. -/
def State.tripsOf (s : State) (t : Nat) : Nat :=
  (s.arr.tileTrips.filter fun e => e.1 == t && decide (s.now.toNat < e.2 + 1000000000)).length

/-- R160: an array trip of the window that runs has opened the switch of tile `t`. -/
def State.arrayTripped (s : State) (t : Nat) : Bool :=
  (s.arr.arrTripAt.map fun a =>
    decide (s.window.1 ≤ a) && (s.hlt.spans.getLast?.map fun p => p.closed.getLsbD t).getD false).getD false

/-- R145, R160: a tile that trips during the probe slot is not probed in that period; what the slot found in it is
dropped. -/
def probeDrop (t : Nat) (s : State) : State :=
  if s.frm.tickLoc + 6000 < s.clk.loc then s
  else (s.mapHlt fun h =>
      { h with slotFound := h.slotFound.filter fun p => tileOf p.x.val p.y.val != t }).mapFrm fun f =>
    { f with probed := f.probed.map fun p => { p with closed := bitPut p.closed t false, seen := bitPut p.seen t false } }

/-- `TILE_OVERCURRENT_TRIP` (R156, R157, R159): the comparators of a tile tell a charge or a current that trips it. A
trip in the window of an array trip counts too; the switch stays with fast-dark (R160). -/
def execTileOvercurrentTrip (tile : TileTrip) (s : State) : Answer :=
  let t := tile.tile.toNat
  .next <|
    if !s.tileTrips tile || (!s.tileClosed t && !s.arrayTripped t) then s
    else
      let closed := s.tileClosed t
      let s := if closed then probeDrop t (tilesOpen (bitPut 0 t true) s) else s
      let s := s.mapArr fun a =>
        { a with tileTrips := a.tileTrips.filter (fun e => decide (s.now.toNat < e.2 + 1000000000)) ++ [(t, s.now.toNat)] }
      if s.tripsOf t < 3 then
        raise fTileOvercurrent (b1 t)
          (s.mapArr fun a =>
            if closed then { a with tripOpen := a.tripOpen ++ [t] } else { a with tripDark := bitPut a.tripDark t true })
      else
        raiseMin fTileOvercurrent 5 (b1 t)
          (s.mapArr fun a =>
            { a with hw159 := bitPut a.hw159 t true, rel159 := bitPut a.rel159 t false, isol := bitPut a.isol t true })

/-- `TILE_RECLOSE` (R157): the opening ends and the charge count restarts; fast-dark and isolation go on. -/
def execTileReclose (tile : BitVec 8) (s : State) : Answer :=
  .next <|
    if !s.arr.tripOpen.contains tile.toNat then s
    else (spanCut s).mapArr fun a =>
      { a with tripOpen := a.tripOpen.filter (fun t => t != tile.toNat)
               chargeAt := alPut a.chargeAt tile.toNat s.clk.loc }

/-- `ARRAY_OVERCURRENT_TRIP` (R158, R159): the comparator of the array tells a charge, which is free, and where that charge
trips the array: fast-dark, and a relight at half curb. -/
def execArrayOvercurrentTrip (s : State) : Answer :=
  .next <|
    let k := s.free
    let s := { s with free := k + 1 }
    if s.closedTiles = 0 || !s.arrayTrips (Config.arrayCharge k + 1) then s
    else
      let trips := s.arr.arrTrips.filter (fun t => decide (s.now.toNat < t + 1000000000)) ++ [s.now.toNat]
      let s := darkAdd .array (s.mapArr fun a => { a with arrTrips := trips, arrTripAt := some s.clk.loc })
      let s := curbLoad (s.mapPho fun p => { p with cap := true }) s
      let s := raiseMin fArrayOvercurrent (if 3 ≤ trips.length then 5 else 0) [] s
      darkRemove .array s

/-- R158: a tick has followed 100 ms without an array trip. -/
def State.capOver (s : State) : Bool :=
  match s.arr.arrTripAt with
  | some t => decide (t + 100000000 ≤ s.frm.tickLoc)
  | none => true

/-- `RELIGHT_CAP_LIFT` (R158): the cap lifts at the first tick after 100 ms without an array trip. -/
def execRelightCapLift (s : State) : Answer :=
  .next <|
    if s.pho.cap && s.capOver then curbLoad ((spanCut s).mapPho fun p => { p with cap := false }) s else s

/-- `RELIGHT_STEP` (Table 03.6): the next tile row closes; a tile that tripped counts its charge anew (R157, R160). -/
def execRelightStep (s : State) : Answer :=
  .next <| match s.arr.relight with
    | none => s
    | some r =>
      (spanCut s).mapArr fun a =>
        let again := (List.range 32).map (32 * r + ·) |>.filter fun t => a.tripDark.getLsbD t
        { a with relit := bitPut a.relit r true, relight := if r + 1 < 8 then some (r + 1) else none
                 chargeAt := again.foldl (fun m t => alPut m t s.clk.loc) a.chargeAt
                 tripDark := again.foldl (fun m t => bitPut m t false) a.tripDark }

end Sys2Proof.Machine
end

