-- ==== Sys2Proof/Machine/Tick.lean ====
section
/-!
DEFINITION. The tick (`02_frame_and_tick.md`, Table 02.7; R23 to R49), the tick sources with the sync loop on FSYNC_IN
(R28 to R32), FSYNC_OUT (R33), the team's part (R316 to R320) and the flush of the flight log (R49, R180).
-/
namespace Sys2Proof.Machine

/-! ### Period lengths -/

/-- R28, R30: the base length of a period under the FSYNC source; P_NOM until an interval is measured. -/
def State.fsyncBase (s : State) : Nat :=
  if s.frm.sync.interval = 0 then s.frm.params.pNom else s.frm.sync.interval / s.frm.params.ms

/-- R28: how far a tick at local time `t` would come before its place, for a place that lies at or after it
(`up`) or the nearest one: the places are the last reference edge plus SYNC_PHASE and whole M_s-th parts of the measured
interval before and after it. -/
def State.phaseGap (s : State) (up : Bool) (t : Nat) : Int :=
  let l := s.frm.sync
  let ms := s.frm.params.ms
  let iv := if l.interval = 0 then ms * s.frm.params.pNom else l.interval
  let x : Int := (t : Int) - (l.lastEdge + s.frm.params.phase : Nat)
  let j : Int := if up then -((-(x * ms)) / iv) else (2 * (x * ms) + iv) / (2 * iv)
  j * iv / ms - x

/-- R28: a correction of at most 2 % of the period (DESIGN CHOICE, assumption 27). -/
def clampTrim (base : Nat) (d : Int) : Int := max (-(base / 50 : Nat)) (min (base / 50 : Nat) d)

/-- R27: the shortest period under FSYNC, in whole nanoseconds. -/
def State.fsyncMin (s : State) : Nat := (100 * s.frm.params.pNom + 101) / 102

/-- R29 to R31: the length of the period that starts at local time `t` under the FSYNC source, and whether it is
stretched: the next tick is aimed at its place as the last reference edge foretells it; the lengthened period of step 2
of R30 ends at the first place that is not too early. HOLDOVER keeps the last period length; of a stretched period it
keeps the base length (DESIGN CHOICE, assumption 27). No period that the loop sets is shorter than P_MIN (R27). -/
def State.fsyncLen (s : State) (t : Nat) : Nat × Bool :=
  let base := s.fsyncBase
  let l := s.frm.sync
  if l.state == .holdover then (if s.frm.stretched then base else s.frm.period, false)
  else if l.stretch ≠ 0 then
    let g := s.phaseGap true (t + base)
    (max s.fsyncMin ((base : Int) + g).toNat, g != 0)
  else if l.measured.length < 4 then (max s.fsyncMin base, false)
  else (max s.fsyncMin ((base : Int) + clampTrim base (s.phaseGap false (t + base))).toNat, false)

/-- R30: the lengthened period has been fixed. -/
def fsyncUsed (s : State) : State := s.mapFrm fun f => { f with sync := { f.sync with stretch := 0 } }

/-- R318: team time of tick `n` from the entries held: its own, or an extension of the last with its length. -/
def State.entryTime (s : State) (n : Dword) : Option Nat :=
  match s.tm.entries.find? fun e => e.tick == n with
  | some e => some e.time.toNat
  | none =>
    (s.tm.entries.foldl (fun (m : Option SchedEntry) e =>
      if n.toNat < e.tick.toNat then m
      else match m with
        | none => some e
        | some b => if b.tick.toNat ≤ e.tick.toNat then some e else m) none).map fun e =>
      e.time.toNat + (n.toNat - e.tick.toNat) * e.len

/-- R318: the length of a follower's period that starts now, at tick `tickNo`. -/
def State.teamLen (s : State) : Nat :=
  if !s.tm.tickSync then s.frm.params.pNom
  else match s.entryTime (s.tm.tickNo + 1) with
    | some t => if s.now.toNat < t then t - s.now.toNat else s.frm.params.pNom
    | none => s.frm.params.pNom

/-- R318: a follower takes the nominal length of the schedule as P_NOM (log entry 22). -/
def nomFollow (s : State) : State :=
  if !(s.actsFollower && s.tm.tickSync) then s
  else match s.tm.entries.find? fun e => e.tick == s.tm.tickNo with
    | some e => if e.len = s.frm.params.pNom || e.len = 0 then s
      else touchChanges [.pNom e.len] (s.mapFrm fun f => { f with params := { f.params with pNom := e.len } })
    | none => s

/-- R320: on the lead, the P_NOM of the schedule becomes the parameter from its tick. -/
def nomLead (s : State) : State :=
  let n := s.tm.tickNo
  let due := s.tm.teamP.filter fun e => decide (e.1.toNat ≤ n.toNat)
  if due.isEmpty then s
  else
    let v := s.nomAt n
    let s := s.mapTm fun t => { t with teamP := t.teamP.filter fun e => decide (n.toNat < e.1.toNat) }
    if v = s.frm.params.pNom then s
    else touchChanges [.pNom v] (s.mapFrm fun f => { f with params := { f.params with pNom := v } })

/-- R319: the scheduled tick that a follower's running period may end at: the first at least P_MIN from now. -/
def State.syncTarget (s : State) : Option SchedEntry :=
  let pMin := s.frm.params.pMin true
  (s.tm.entries.filter fun e => decide ((s.now.toNat * pMin.2 + pMin.1) ≤ e.time.toNat * pMin.2)).foldl
    (fun (m : Option SchedEntry) e => match m with
      | none => some e
      | some b => if e.tick.toNat < b.tick.toNat then some e else m) none

/-- R313, R319: the conditions of tick sync hold on a follower. -/
def State.syncReady (s : State) : Bool :=
  s.actsFollower && s.tm.isMember && !s.tm.tickSync && !s.tm.excluded && s.frm.src == .team
  && s.timeClass == 3 && s.tm.entries.any SchedEntry.firm && (!s.tm.leftSync || decide (16 ≤ s.tm.good))

/-- R236, R408: the frame numbers move on by `d`: what is armed for the next tick, and not for a given frame, stays armed for
it. -/
def ticksShift (d : Dword) (s : State) : State :=
  let s := s.mapReg fun r =>
    { r with sets := r.sets.map fun a => if a.whenTo = .tick then { a with target := a.target + d } else a }
  s.mapFrm fun f =>
    { f with armed := f.armed.map fun c => if c.given then c else { c with frame := c.frame + d.truncate 32 } }

/-- R319: a follower enters tick sync: its running period ends at the scheduled tick. -/
def syncEntry (s : State) : State :=
  if !s.syncReady then s
  else match s.syncTarget with
    | none => s
    | some e =>
      let left := s.tm.leftSync
      let s := ticksShift (e.tick - 1 - s.tm.tickNo) s
      let s := s.mapTm fun t => { t with tickSync := true, leftSync := false, tickNo := e.tick - 1 }
      let s := s.mapFrm fun f =>
        { f with period := (s.clk.loc - f.tickLoc) + (e.time.toNat - s.now.toNat), stretched := true }
      if left then selfEvent 7 s else s

/-! ### The swap -/

/-- The surfaces that a frame was composed from. -/
def State.usedSurfs (s : State) (d : Decision) : List Nat :=
  if d.fallback then []
  else d.uses.zipIdx.filterMap fun e => match e.1 with
    | .scene => (s.scn.cur.bind fun g => g.scene.layers[e.2]?).map LayerCfg.surface
    | .post p => if p.surface = 0 then none else some p.surface
    | _ => none

/-- R131, R172: the surface that a frame shows of layer `i`; 0 for none. -/
def State.layerShows (s : State) (d : Decision) (i : Nat) (r : LayerRun) : Nat :=
  if d.fallback then 0
  else match r.used, d.uses.getD i .off with
    | some p, _ => p.surface
    | none, .post p => p.surface
    | none, .scene => ((s.scn.cur.bind fun g => g.scene.layers[i]?).map LayerCfg.surface).getD 0
    | none, _ => 0

/-- R131, R135: a frame is shown: the post consumed for it is the one last shown, and `surf` the surface last shown,
where the frame shows any. -/
def LayerRun.afterShow (r : LayerRun) (surf : Nat) : LayerRun :=
  { r with shown := r.used.or r.shown, used := none, lastSurf := if surf = 0 then r.lastSurf else surf }

/-- R398: the stored calibration record takes effect with the frame that was composed with it. -/
def calTake (c : CompSet) (s : State) : State :=
  match s.cal.pend with
  | some r => if c.takes && r.map == c.map then
      (s.mapCal fun k => { k with held := some r, pend := none }).mapPho fun p => { p with map := c.map }
    else s
  | none => s

/-- R100: the two sources of the governor, evaluated at a tick that shows its frame. -/
def governorTick (s : State) : List Raise × State :=
  let wasL := s.pho.limited
  let wasD := s.pho.derated
  let s := s.mapPho fun p => { p with limited := p.fixLim, derated := p.fixDer }
  ((if s.pho.limited && !wasL then [⟨fCurbLimit, 0, []⟩] else [])
    ++ (if s.pho.derated && !wasD then [⟨fDerateActive, 0, []⟩] else []), s)

/-- R39, steps 2 and 3: the frame that was written is shown. -/
def swapOp (c : CompSet) (d : Decision) (s : State) : State :=
  let s := s.mapHk fun h => { h with shownIn := h.shownIn ++ [(s.cDiag, s.arr.a)] }
  let s := s.mapArr fun a => { a with a := a.s, crcA := a.crcS, trims := c.trims, q := c.q, aT := s.pho.aTile }
  let pred := iPred (s.pho.aH + s.pho.aN) c.n
  let surfs := s.usedSurfs d
  let s := calTake c (curbLoad (s.mapPho fun p => { p with curb := p.fixed, alpha := p.nextAlpha }) s)
  let s := s.mapFrm fun f =>
    { f with
      skips := 0, lastRepeat := false, escNext := false, rampN := c.n, setK := c.k
      fb44 := f.fb44 && d.fallback, esc := f.esc && d.fallback
      shown := some
        { frame := c.frame, fallback := d.fallback, scene := d.scene, causes := d.causes, demanded := d.demanded
          added := if d.fallback then 0 else d.added, road := d.road, geom := d.geom, limit := d.limit
          iPred := pred, iLimit := c.iLimit, surfs := surfs } }
  let s := s.mapScn fun n => { n with runs := n.runs.zipIdx.map fun e => e.1.afterShow (s.layerShows d e.2 e.1) }
  let s := s.mapHlt fun h => { h with filled := if d.fallback || c.fillF == 0 then [] else c.deadPix }
  s.mapCal fun k => { k with abortFill := k.abortFill && !d.fallback }

/-- R42, R44, R136, R340: a tick that skips its swap. -/
def skipOp (s : State) : State :=
  if s.frm.sleepTicks then s
  else
    let s := postsFresh s
    if (s.frm.dec.map Decision.skipRep).getD false then s.mapFrm fun f => { f with lastRepeat := true }
    else
      let esc := (s.frm.dec.map Decision.esc).getD false
      let before := s.causes
      causeArise before <| s.mapFrm fun f =>
        { f with
          skips := f.skips + 1, lastRepeat := false, esc := f.esc || esc, escNext := f.escNext || esc
          fb44 := f.fb44 || decide (2 ≤ f.skips + 1) }

/-- R40, R63, R155, R160: at a swap, the isolations that nothing holds any more are withdrawn. -/
def isolRelease (s : State) : State :=
  let want := s.isolWant
  s.mapArr fun a =>
    let free := ~~~a.isolFix ||| s.isolReq
    { a with
      isol := (a.isol &&& (want ||| a.isolFix)) ||| want
      hw154 := a.hw154 &&& ~~~(a.rel154 &&& free), hw159 := a.hw159 &&& ~~~(a.rel159 &&& free)
      rel154 := a.rel154 &&& ~~~free, rel159 := a.rel159 &&& ~~~free }

/-- R139: `EV_CAPTURE_DONE` for the frame that this tick was due to show, and the end of a SINGLE capture (R138). A swap
skipped for the cut-off checker reports status 1 as one skipped for a row CRC does, and a REPEAT_FRAME skip that a memory
error brings about in mid-composition reports status 3 (DESIGN CHOICE, assumption 78). -/
def captureTick (frame : Word) (swap : Bool) (s0 s : State) : State :=
  match s0.frm.dec, s0.scn.cur with
  | some d, some g =>
    let c := g.scene
    if c.capMode = .off || (s0.frm.comp.map CompSet.zero).getD false then s
    else
      let rows := s0.frm.capRows
      let st := if d.skipRep || (d.fallback && c.capTap == 0) then 3
        else if swap then 0 else if s0.frm.fail.isSome && rows == 512 then 1 else 2
      let s := emitAt s.clk.tickTime evCaptureDone
        (b4 frame.toNat ++ b1 st ++ b1 c.capTap ++ b2 rows ++ b4 g.seq.toNat) s
      if c.capMode == .single && rows == 512 then
        s.mapScn fun n => { n with cur := n.cur.map fun x => { x with scene := { x.scene with capMode := .off } } }
      else s
  | _, _ => s

/-- R36: the schedule of the next period starts afresh. -/
def periodReset (s : State) : State :=
  s.mapFrm fun f =>
    { f with
      cutDone := false, blank := false, compOn := false, rows := 0, compDone := false, comp := none, dec := none
      fail := none, under := false, ctfBad := [], dead := [], lines := [], capRows := 0, probed := none, markBad := 0
      cutKinds := 0, cutTest := none, colMax := [] }

/-- R41: K as set (0: automatic) for the running ramp: that of the parameters, or, while another resolution waits for
its ramp, the K with which the running one came. -/
def State.setKNow (s : State) : Nat :=
  if s.frm.params.dutyN = s.frm.rampN then s.frm.params.pwmK else s.frm.setK

/-- R45: K for the resolution of the running ramp, in a period whose length the source `src` has fixed (R27). -/
def State.kNow (s : State) (src : TickSource) : Nat :=
  if s.setKNow = 0 then kAuto (s.frm.params.pMinOf (src == .internal)) s.frm.rampN else s.setKNow

/-- R25, R29, R316: the length of the period that starts at this tick, by the source that was in force, with the
team's part as it stood in `old`, before the updates of this tick; whether it is stretched. -/
def State.newLen (old s : State) : Nat × Bool :=
  match s.frm.src with
  | .team => (if old.tm.tickSync then old.teamLen else s.frm.params.pNom, false)
  | .internal => (if old.tm.leading then s.frm.nextLen.getD s.frm.params.pNom else s.frm.params.pNom, false)
  | .fsync => if old.tm.leading then (s.frm.nextLen.getD s.frm.params.pNom, s.frm.nextStr) else s.fsyncLen s.clk.loc

/-- R316: on a lead, the length of the period after the one that starts now, and whether it is stretched. -/
def State.afterLen (s : State) : Option (Nat × Bool) :=
  if !s.tm.leading then none
  else if s.frm.src == .fsync then some (s.fsyncLen (s.clk.loc + s.frm.period))
  else some (s.nomAt (s.tm.tickNo + 1), false)

/-- R25: the source of the periods after this one. -/
def srcTick (s : State) : State :=
  let w := s.wantSrc
  if w = s.frm.src then s
  else s.mapFrm fun f =>
    { f with src := w
             sync := if w = .fsync then { SyncLoop.reset with state := .acquiring } else SyncLoop.reset }

/-- R29, R316: the length of the period, and on a lead that of the next; `old` is the state before the updates. -/
def lenTick (old s : State) : State :=
  let (len, st) := s.newLen old
  let own := s.frm.src == .fsync && !old.tm.leading
  let s := s.mapFrm fun f => { f with period := len, stretched := st }
  let s := if own then fsyncUsed s else s
  let next := s.afterLen
  let s := s.mapFrm fun f => { f with nextLen := next.map Prod.fst, nextStr := (next.map Prod.snd).getD false }
  let s := if s.tm.leading && s.frm.src == .fsync then fsyncUsed s else s
  srcTick s

/-- R45: f_pwm of the period; a stretched period keeps that of the period before. -/
def pwmTick (src : TickSource) (s : State) : State :=
  let k := s.kNow src
  (s.mapFrm fun f => { f with setK := s.setKNow }).mapFrm fun f =>
    if f.stretched && f.fNum != 0 then f else { f with rampK := k, fNum := k * 2 ^ f.rampN, fDen := max 1 f.period }

/-- R54: tiles whose ramp counter differs from the reference are resynchronised. -/
def rampTick (bad : List (BitVec 8)) (frame : Word) (s : State) : List Raise × State :=
  (bad.map fun t => ⟨fRampSync, 0, b1 t.toNat ++ b1 0 ++ b2 0 ++ b4 frame.toNat⟩,
    s.mapArr fun a => { a with ramp := bad.foldl (fun l t => l.set t.toNat 0) a.ramp })

/-- R355: `EV_MARKS` when the shown set changes at a tick, or with an armed change of the added set. -/
def marksAtTick (old : Option Shown) (s : State) : State :=
  let set (h : Option Shown) : Half := (h.map fun x => x.demanded ||| x.added).getD 0
  if set old = set s.frm.shown then marksEvent s
  else (emit evMarks s.marksData s).mapSaf fun f =>
    { f with lastMarks := (s.pattern, s.demanded, s.frm.params.addMarks) }

/-- R350: `EV_SAFETY_STATE` at a tick. -/
def safetyAtTick (s : State) : State :=
  if s.safe = 2 then safetyEvent s.frm.frame 2 0xFF s.causes s
  else match s.frm.shown with
    | some h => if h.fallback then safetyEvent h.frame 1 h.scene h.causes s else safetyEvent h.frame 0 0xFF 0 s
    | none => s

/-- R392: the tick that shows the zeros of a calibration run starts it. -/
def calStartTick (c : Option CompSet) (swap : Bool) (s : State) : State :=
  match s.cal.run, c with
  | some r, some c =>
    if swap && c.zero && !r.running then
      (s.mapCal fun k => { k with run := some { r with running := true, start := s.clk.loc } }).mapHk
        fun h => { h with adj := 0 }
    else s
  | _, _ => s

/-- R317, R318, R325 to R330: the team's part of a tick. -/
def teamTick (s : State) : State :=
  let before := s.causes
  let s := s.mapTm fun t =>
    { t with
      evSent := 0, divergent := t.divergent && !t.divOut, divOut := false
      members := t.members.map fun m => { m with missed := m.missed + 1 }
      entries := t.entries.filter fun e => decide (t.tickNo.toNat ≤ e.tick.toNat + 1) }
  let s := takeOver s
  let s := s.mapFrm fun f =>
    { f with nextLen := if s.tm.leading then some (f.nextLen.getD f.params.pNom) else f.nextLen }
  let s := srcTick s
  let s := causeArise before (stateTick s)
  settleSend s

/-- Table 02.10: `EV_TICK`; while no frame has been shown, the frame number of what is shown reads 0 (DESIGN CHOICE,
assumption 78). -/
def tickEvent (swap armed : Bool) (s : State) : State :=
  let f := s.frm
  let shown := (f.shown.map Shown.frame).getD 0
  let fb := (f.shown.map Shown.fallback).getD false
  frameEvent 0 evTick
    (b4 f.frame.toNat ++ b4 shown.toNat ++ b4 (flag (!swap) + 2 * flag fb + 4 * flag f.stretched + 8 * flag armed)
      ++ b4 f.period) s

/-- R23: the frame number and the team's tick number of this tick; the D_G that `DERATE_SET` reports (R258). -/
def numberTick (f : Word) (s : State) : State :=
  let s := s.mapTm fun t => { t with tickNo := if s.frm.ticked then t.tickNo + 1 else t.tickNo }
  let s := s.mapFrm fun x => { x with frame := f, ticked := true, tickLoc := s.clk.loc, foDone := false }
  let s := s.mapPho fun p => { p with dGTick := p.dG }
  s.mapClk fun c => { c with tickTime := c.team, tickFrame := f }

/-- R39: one tick; what its checks raise is raised together (R365). -/
def tickOp (rampBad : List (BitVec 8)) (s0 : State) : State :=
  let s := if s0.frm.blank then s0 else guardOp false s0
  let f := s.nextFrame
  let pre := s
  let swap := s.frameGood && !s.frm.under && !s.frm.sleepTicks
  let (new, mem, s) := healthTick f (missTick s)
  let s := match swap, pre.frm.comp, pre.frm.dec with
    | true, some c, some d => swapOp c d s
    | _, _, _ => skipOp s
  let armed := !(s.armedDue f swap).isEmpty
  let old := numberTick f s
  let s := applyTick f swap old
  let s := if swap then isolRelease s else s
  let s := pwmTick old.frm.src (syncEntry (lenTick old (nomLead (nomFollow s))))
  let s := tickEvent swap armed (periodReset s)
  let s := captureTick f swap pre s
  let (gov, s) := if swap then governorTick s else ([], s)
  let (ramp, s) := rampTick rampBad f s
  let (pix, s) := healthAfter f new s
  let (firm, s) := firmMeet ([], s)
  let s := raiseAll (mem ++ gov ++ ramp ++ pix ++ firm) s
  let s := calStartTick pre.frm.comp swap s
  let s := teamTick s
  let s := marksAtTick pre.frm.shown (safetyAtTick s)
  let s := usesTick (stateEnd s)
  if swap then freeingTick s else s

/-- `TICK` (R24, R39): a tick of the period timer; `rampBad` are tiles whose ramp counter differs. -/
def execTick (rampBad : List (BitVec 8)) (s : State) : Answer :=
  .next <| if s.ticking then tickOp rampBad s else s

/-- `TICK_SYNC_ENTRY` (R319). -/
def execTickSyncEntry (s : State) : Answer := .next <| if s.ticking then syncEntry s else s

/-- `LOG_FLUSH` (R49, R180). -/
def execLogFlush (s : State) : Answer :=
  .next <| if s.ticking && s.pwr.hasDram && !s.pwr.selfRefresh then logFlushOp s else s

/-! ### FSYNC (R28 to R33) -/

/-- R31: HOLDOVER, with `F_FSYNC_LOST` once. -/
def fsyncLoss (s : State) : State :=
  raise fFsyncLost []
    (s.mapFrm fun f =>
      { f with sync := { f.sync with state := .holdover, edges := 0, good := 0, bad := 0, measured := [], stretch := 0
                                     trim := 0 } })

/-- R28, R31: an interval between reference edges whose frequency lies within 2 % of that of `expected`, M_s P_NOM
(DEDUCED, assumption 27). -/
def within2 (iv expected : Nat) : Bool := decide (49 * iv ≤ 50 * expected ∧ 50 * expected ≤ 51 * iv)

/-- R30: what a reference edge after the measurement tells the loop: the phase error of the tick. -/
def SyncLoop.track (l : SyncLoop) (err : Int) : SyncLoop :=
  if l.stretch ≠ 0 then l
  else
    let g := if err.natAbs ≤ 2000 then l.good + 1 else 0
    { l with trim := err, good := min 4 g
             state := if 4 ≤ g then .locked else if err.natAbs ≤ 2000 then l.state else .acquiring }

/-- The phase error of the ticks at a reference edge at `t`, read at the next tick, whose instant is fixed (R29): how much
later it should be, within half a period. -/
def State.phaseErr (s : State) (t : Nat) : Int :=
  let b := s.fsyncBase
  let e := Int.emod ((t + s.frm.params.phase : Nat) - (s.frm.tickLoc + s.frm.period : Nat) : Int) b
  if 2 * e ≤ b then e else e - b

/-- R30, R31: a reference edge at local time `t`, `iv` after the one before. -/
def fsyncInterval (t iv : Nat) (s : State) : State :=
  let l := s.frm.sync
  let expected := s.frm.params.ms * s.frm.params.pNom
  let put (g : SyncLoop → SyncLoop) (s : State) : State :=
    s.mapFrm fun f => { f with sync := g { f.sync with lastEdge := t } }
  match l.state with
  | .holdover =>
    if !within2 iv expected then put (fun l => { l with edges := 1 }) s
    else if l.edges + 1 < 4 then put (fun l => { l with edges := l.edges + 1 }) s
    else put (fun l => { l with state := .acquiring, edges := 1, measured := [], good := 0, bad := 0 }) s
  | _ =>
    if l.measured.length < 4 then
      if !within2 iv expected then
        if 2 ≤ l.bad then fsyncLoss (put id s) else put (fun l => { l with measured := [], bad := l.bad + 1 }) s
      else if l.measured.length + 1 < 4 then put (fun l => { l with measured := l.measured ++ [iv], bad := 0 }) s
      else
        put (fun l => { l with measured := l.measured ++ [iv], bad := 0, good := 0, stretch := 1
                               interval := (l.measured.sum + iv) / 4 }) s
    else if !within2 iv expected then
      if 2 ≤ l.bad then fsyncLoss (put id s)
      else put (fun l => SyncLoop.track { l with bad := l.bad + 1 } (s.phaseErr t)) s
    else put (fun l => SyncLoop.track { l with bad := 0, interval := iv } (s.phaseErr t)) s

/-- R28: a reference edge. -/
def fsyncReference (s : State) : State :=
  let t := s.clk.loc
  let s := s.mapClk fun c => { c with edge := c.team }
  let l := s.frm.sync
  if l.edges = 0 then s.mapFrm fun f => { f with sync := { f.sync with edges := 1, lastEdge := t } }
  else fsyncInterval t (t - l.lastEdge) s

/-- `FSYNC_IN_EDGE` (R28, R30): an edge on FSYNC_IN; the selected ones are counted while FSYNC is the source. -/
def execFsyncInEdge (rising : Bool) (s : State) : Answer :=
  .next <|
    let s := s.mapFrm fun f => { f with fsyncIn := rising }
    if !s.ticking || s.frm.src != .fsync || rising == s.frm.params.falling then s
    else if s.frm.sync.selCount + 1 < s.frm.params.ns then
      s.mapFrm fun f => { f with sync := { f.sync with selCount := f.sync.selCount + 1 } }
    else fsyncReference (s.mapFrm fun f => { f with sync := { f.sync with selCount := 0 } })

/-- `FSYNC_LOST` (R31). -/
def execFsyncLost (s : State) : Answer :=
  .next <|
    if s.ticking && s.frm.src == .fsync && (s.frm.sync.state == .acquiring || s.frm.sync.state == .locked) then
      fsyncLoss s
    else s

/-- `FSYNC_OUT_PULSE` (R33): FSYNC_OUT goes high at its instant, once for a tick, and low again after the width. -/
def execFsyncOutPulse (s : State) : Answer :=
  .next <|
    if !s.ticking || !s.frm.params.foEnable then s.mapFrm fun f => { f with fsyncOut := false }
    else if s.frm.fsyncOut then s.mapFrm fun f => { f with fsyncOut := false }
    else if s.frm.frame.toNat % s.frm.params.foDiv = 0 ∧ !s.frm.foDone then
      s.mapFrm fun f => { f with fsyncOut := true, foDone := true }
    else s

end Sys2Proof.Machine
end

