-- ==== Sys2Proof/Machine/TeamTime.lean ====
section
/-!
DEFINITION. What the members tell each other every millisecond and every tick (`13_team.md`): link delays and team time
(R311 to R315), the schedule (R317, R318), digests (R326), agreement (R327) and safe states (R328).
-/
namespace Sys2Proof.Machine

/-- Relay a frame that travels down the tree and came in over port `p` (R305). -/
def relayDown (p : Fin 4) (f : TFrame) (s : State) : State :=
  allPorts.foldl (fun s q =>
    if q = p || some q == s.tm.parent || (s.port q).standby then s else portSend q f s) s

/-! ### Link delay (R311) -/

/-- `PDELAY_TIMER`. -/
def execPdelayTimer (p : Fin 4) (s : State) : Answer :=
  .next <|
    let q := s.port p
    if q.state != .up then s
    else
      portEmit p 0 false (.pdelayReq (q.delayNo + 1))
        (mapPort p (fun q => { q with delayNo := q.delayNo + 1, delayT1 := some (q.delayNo + 1, s.now) }) s)

/-- `PDELAY_REQ`: both stamps of the peer are taken in the same instant of the model. -/
def execPdelayReq (p : Fin 4) (h : FrameHdr) (n : Word) (s : State) : Answer :=
  .next <| keyedRx p h false (fun s => portEmit p 0 false (.pdelayResp n s.now s.now) s) s

/-- R311: the link delay of one exchange. -/
def delayOf (t1 t2 t3 t4 : Dword) : Nat := (((t4 - t1) - (t3 - t2)).toInt / 2).toNat

/-- R311: the delay in use: the mean of the last 8 values. -/
def Port.delay (q : Port) : Nat := if q.delays.isEmpty then 0 else q.delays.sum / q.delays.length

/-- `PDELAY_RESP`. -/
def execPdelayResp (p : Fin 4) (h : FrameHdr) (n : Word) (t2 t3 : Dword) (s : State) : Answer :=
  .next <| keyedRx p h false (fun s =>
    match (s.port p).delayT1 with
    | some (m, t1) =>
      if m = n then
        mapPort p (fun q =>
          { q with delayT1 := none, delays := ((delayOf t1 t2 t3 s.now) :: q.delays).take 8 }) s
      else s
    | none => s) s

/-! ### TIME_SYNC (R312, R313) -/

/-- `TIME_SYNC_SEND`. -/
def execTimeSyncSend (s : State) : Answer :=
  .next <|
    if s.tm.leading && s.tm.isMember && s.teamCore then
      sendDown (.timeSync ⟨s.now, 0, 0, s.engineId.zeroExtend 16, s.tm.term, s.quality⟩) s
    else s

/-- R315: the precision over `fast` hops at generation 2 and `slow` hops at generation 1. -/
def hopsPrecision (fast slow : Nat) : Nat := 3 * fast + (if 0 < fast then 1 else 0) + 10 * slow

/-- R315: the precision of this engine: its own hop by the generation of its parent port, and those above (assumption
58). -/
def State.precision (s : State) : Nat :=
  match s.tm.parent with
  | some p =>
    let own := s.frm.params.gens.getLsbD p.val && s.pwr.mode != .halter
    let above := s.tm.dist - 1
    let slow := min above (Config.slowHops s.tm.path)
    hopsPrecision (above - slow + flag own) (slow + flag !own)
  | none => 0

/-- R312: lead time at the arrival of the frame on a port with link delay `d`. -/
def leadTimeAt (pl : TimeSyncPl) (d : Nat) : Dword :=
  pl.origin + BitVec.ofInt 64 (pl.correction.toInt / 65536) + BitVec.ofNat 64 d

/-- R313: a follower in tick sync whose offset exceeds 500 ns leaves it. -/
def leaveSync (s : State) : State :=
  let s := (raise fTeamTime [] s).mapTm fun t => { t with tickSync := false, leftSync := true, good := 0 }
  selfEvent 6 (s.mapClk Clk.undisciplined)

/-- R313: the servo of a follower takes the offset `d`. -/
def timeServo (d : Int) (s : State) : State :=
  let a := d.natAbs
  let s := s.mapClk fun c => { c with offset := d }
  let s := s.mapTm fun t =>
    { t with heard := true, settled := decide (a ≤ s.precision), good := if a ≤ 50 then t.good + 1 else 0 }
  if s.tm.tickSync then (if 500 < a then leaveSync s else s.mapClk (Clk.slewBy (-d)))
  else if 1000 < a then timeJump (-d) 2 (s.mapClk fun c => { c.undisciplined with ptmAt := c.loc })
  else s.mapClk (Clk.slewBy (-d))

/-- R312: the copy that this engine relays: the residence time is that of the lane hardware, and no time passes here. -/
def relayTime (p : Fin 4) (pl : TimeSyncPl) (s : State) : State :=
  relayDown p (.timeSync
    { pl with correction := pl.correction + BitVec.ofNat 64 (65536 * (s.port p).delay), hops := pl.hops + 1 }) s

/-- `TIME_SYNC` (R312, R313). -/
def execTimeSync (p : Fin 4) (h : FrameHdr) (pl : TimeSyncPl) (s : State) : Answer :=
  .next <| treeRx p h false (fun s =>
    if s.tm.leading then (if s.teamCore then leadHeard (pl.lead.truncate 10) pl.term none s else s)
    else if !s.actsFollower || s.tm.parent != some p then s
    else
      let s := relayTime p pl s
      if s.teamCore then timeServo (s.now - leadTimeAt pl (s.port p).delay).toInt s else s) s

/-- `TIME_SYNC_TIMEOUT` (R313). -/
def execTimeSyncTimeout (s : State) : Answer :=
  .next <|
    if s.actsFollower then
      let s := s.mapTm fun t => { t with heard := false }
      if s.teamCore then s.mapClk Clk.hold else s
    else s

/-! ### SCHEDULE (R317, R318) -/

/-- R317: the four entries of a SCHEDULE: the first is firm, the others follow from the lengths. -/
def schedEntries (pl : SchedulePl) : List SchedEntry :=
  let t (n : Nat) : Dword := pl.time + BitVec.ofNat 64 n
  let a := pl.len0.toNat
  let b := a + pl.len1.toNat
  let c := b + pl.len2.toNat
  [ ⟨pl.tick, t 0, true, pl.len0.toNat⟩, ⟨pl.tick + 1, t a, false, pl.len1.toNat⟩,
    ⟨pl.tick + 2, t b, false, pl.len2.toNat⟩, ⟨pl.tick + 3, t c, false, pl.len2.toNat⟩ ]

/-- R327: the comparison of the shared configuration, once per tick; skipped while either reference is stale. -/
def sharedCompare (crc : Word) (t : Team) (own : Word) (stale : Bool) : Team :=
  if t.gotSched || stale then t
  else if own = crc then { t with agree := min 4 (t.agree + 1), mism := 0 }
  else { t with mism := min 4 (t.mism + 1), agree := 0 }

/-- R331: `EV_LEAD_CHANGE` that waited for the new lead's first firm entry. -/
def leadNews (pl : SchedulePl) (s : State) : State :=
  match s.tm.evLead with
  | some (prev, reason) =>
    leadEvent s.tm.lead prev pl.term (pl.tick.truncate 32) reason (s.mapTm fun t => { t with evLead := none })
  | none => s

/-- R317, R318, R327: the schedule of the lead in force. Whether the lead's own reference is stale is a free value
(assumption 36). -/
def scheduleNote (pl : SchedulePl) (s : State) : State :=
  let (k, s) := s.draw
  let s := leadNews pl s
  s.mapTm fun t =>
    let t := sharedCompare pl.sharedCrc t s.reg.refS (s.reg.staleS || Config.leadStale k)
    { t with
      entries := (t.entries.filter fun e => decide (e.tick.toNat < pl.tick.toNat)) ++ schedEntries pl
      mMin := pl.mMin, policy := pl.policy.toNat, leadCrc := pl.sharedCrc, leadQ := pl.quality
      handback := pl.handback.map fun x => (x.1.truncate 10, x.2), gotSched := true }

/-- R307, R329, R331: why the lead changes to `l` under `term`. -/
def State.changeReason (s : State) (l : BitVec 10) (term : Word) : Nat :=
  if (s.tm.handback.map Prod.fst) == some l then 2
  else if s.tm.noLead then 1
  else match s.tm.lead with
    | some o => if s.tm.term = term && decide (l.toNat < o.toNat) then 3 else 0
    | none => 0

/-- R307, R318, R329: a follower takes the schedule of its lead, of a lead under a higher term, of the first lead that
appears while it has none, and under its term of the other lead that its parent passes on: two leads have become one, or the
lead has taken another ID (assumption 23). -/
def scheduleTake (p : Fin 4) (pl : SchedulePl) (s : State) : State :=
  let l : BitVec 10 := pl.lead.truncate 10
  let same := s.tm.term = pl.term && !s.tm.noLead
  if same && s.tm.lead == some l then scheduleNote pl s
  else if s.tm.lead.isNone || s.tm.noLead || decide (s.tm.term.toNat < pl.term.toNat)
      || (same && s.tm.parent == some p) then
    scheduleNote pl (followLead l pl.term (some (pl.tick.truncate 32)) (s.changeReason l pl.term) s)
  else s

/-- `SCHEDULE` (R317, R318, R329). -/
def execSchedule (p : Fin 4) (h : FrameHdr) (pl : SchedulePl) (s : State) : Answer :=
  .next <| treeRx p h false (fun s =>
    if s.tm.leading then
      (if s.teamCore then leadHeard (pl.lead.truncate 10) pl.term (some (pl.tick.truncate 32)) s else s)
    else if !s.actsFollower then s
    else
      let s := if s.teamCore && !s.tm.excluded then excludeCheck (scheduleTake p pl s) else s
      relayDown p (.schedule pl) s) s

/-! ### DIGEST (R326) and what it tells the lead (R327, R331) -/

/-- R331: `EV_TEAM_MEMBER` on the lead for a member. -/
def memberNote (m : Member) (change : Nat) (s : State) : State :=
  memberEvent m.id change m.dist m.state m.quality m.path s

/-- R331: the changes that a state byte shows. -/
def stateChanges (old new : Byte) : List Nat :=
  let up (k : Nat) := !old.getLsbD k && new.getLsbD k
  let down (k : Nat) := old.getLsbD k && !new.getLsbD k
  (if up 3 then [3] else []) ++ (if down 3 then [4] else []) ++ (if up 5 then [5] else [])
  ++ (if up 4 then [6] else []) ++ (if down 4 then [7] else [])

/-- R326: a member with the values of its digest. -/
def Member.withDigest (m : Member) (d : DigestPl) : Member :=
  { m with crc := d.sharedCrc, major := d.csMajor, minor := d.csMinor, image := d.image, state := d.state
           quality := d.quality, leadUs := d.leadUs.toNat, stale := d.stale, missed := 0 }

/-- R326, R327: the lead takes a digest. -/
def digestTake (d : DigestPl) (s : State) : State :=
  match s.tm.members.find? fun m => m.id.toNat == d.engine.toNat with
  | none => s
  | some m =>
    let n := m.withDigest d
    let s := s.mapTm fun t => { t with members := t.members.map fun x => if x.id = m.id then n else x }
    let s := if m.major.toNat = csMajor ∧ d.csMajor.toNat ≠ csMajor then raise fTeamVersion [] s else s
    (stateChanges m.state d.state).foldl (fun s c => memberNote n c s) s

/-- `DIGEST` (R326). -/
def execDigest (p : Fin 4) (h : FrameHdr) (d : DigestPl) (s : State) : Answer :=
  .next <| treeRx p h false (fun s =>
    if s.tm.leading then (if s.teamCore then digestTake d s else s)
    else if s.tm.parent = some p then s else sendUp (.digest d) s) s

/-- R326, R322: a member leaves: its digests are missing, and the commands that wait for it count it unreachable. -/
def memberGone (m : Member) (s : State) : State :=
  let s := s.mapTm fun t => { t with members := t.members.filter fun x => x.id != m.id }
  let s := memberNote m 2 s
  s.tm.fwds.foldl (fun s f =>
    if f.targets.any fun t => t.1 == m.id then
      fwdTarget f.sub.origin f.sub.ring.val f.sub.seq m.id (fun _ => .unreachable) s
    else s) s

/-- `MEMBER_LEFT` (R326). -/
def execMemberLeft (engine : BitVec 10) (s : State) : Answer :=
  .next <|
    if !s.tm.leading then s
    else match s.tm.members.find? fun m => m.id == engine with
      | some m => if 8 ≤ m.missed then memberGone m s else s
      | none => s

/-! ### Agreement (R327) -/

/-- `DIVERGENT_ENTER`. -/
def execDivergentEnter (s : State) : Answer :=
  .next <|
    if s.actsFollower && s.tm.isMember && !s.tm.divergent && decide (4 ≤ s.tm.mism) then
      let before := s.causes
      let s := raise fTeamCfg [] (s.mapTm fun t => { t with divergent := true, divOut := false })
      causeArise before (selfEvent 3 s)
    else s

/-- `DIVERGENT_LEAVE`: the composed scene returns at the next tick. -/
def execDivergentLeave (s : State) : Answer :=
  .next <|
    if s.tm.divergent && !s.tm.divOut && decide (4 ≤ s.tm.agree) then
      selfEvent 4 (s.mapTm fun t => { t with divOut := true })
    else s

/-! ### STATE (R308, R328) -/

/-- R321, log entry 25: the groups of the originator. -/
def stateGroups (l : List Byte) : List Half :=
  (List.range 4).map fun k => (l.getD (2 * k) 0).zeroExtend 16 ||| (l.getD (2 * k + 1) 0).zeroExtend 16 <<< 8

/-- R321: two lists of `GROUPS` share a group. -/
def shareGroup (a b : List Half) : Bool :=
  a.any fun g => g.getLsbD 15 && b.any fun h => h.getLsbD 15 && (h.truncate 8 : Byte) == g.truncate 8

/-- R328: the policy in force lets this member follow. -/
def State.followsState (s : State) (data : List Byte) : Bool :=
  match s.policyNow with
  | 0 => false
  | 1 => shareGroup s.frm.params.groups (stateGroups data)
  | _ => true

/-- R308, R328: what a STATE frame does on this engine; a safe state is applied at the first tick whose step 1 follows. The
lead learns the originator's groups from it (assumption 25). -/
def stateNote (pl : StatePl) (s : State) : State :=
  let o : BitVec 10 := pl.engine.truncate 10
  let s := if s.tm.leading && (pl.kind = 2 || pl.kind = 3) then s.mapTm fun t =>
      { t with members := t.members.map fun m => if m.id = o then { m with groups := stateGroups pl.data } else m }
    else s
  match pl.kind.toNat with
  | 1 => unblock s
  | 2 => if s.tm.isMember && s.followsState pl.data then
      s.mapTm fun t => { t with stPend := t.stPend ++ [(o, true, s.nextTick)] }
    else s
  | 3 => if s.tm.isMember then s.mapTm fun t => { t with stPend := t.stPend ++ [(o, false, s.nextTick)] } else s
  | _ => s

/-- `STATE`: each frame is flooded once over every UP port but that of its arrival (R308). -/
def execState (p : Fin 4) (h : FrameHdr) (pl : StatePl) (s : State) : Answer :=
  .next <| keyedRx p h true (fun s =>
    let key : BitVec 10 × Byte × Dword := (pl.engine.truncate 10, pl.kind, pl.time)
    if pl.engine.toNat = s.engineId.toNat || s.tm.seen.contains key then s
    else
      let s := s.mapTm fun t => { t with seen := (key :: t.seen).take 64 }
      stateNote pl (flood true (some p) (.state pl) s)) s

/-! ### The lead goes and comes back (R329, R330) -/

/-- `LEAD_LOST` (R329). -/
def execLeadLost (s : State) : Answer :=
  .next <|
    if s.actsFollower && s.tm.lead.isSome && !s.tm.noLead && decide (3 ≤ s.tm.missed) then
      (raise fLeadLost [] s).mapTm fun t => { t with noLead := true, lostUp := s.frm.params.backup }
    else s

/-- R330: the entries by which an acting lead ticks on as a follower: its own schedule. -/
def State.ownEntries (s : State) : List SchedEntry :=
  let n := s.tm.tickNo
  let len := s.frm.nextLen.getD s.frm.params.pNom
  ⟨n + 1, s.clk.tickTime + BitVec.ofNat 64 s.frm.period, true, len⟩ :: schedEntries s.scheduleOf

/-- R330: the configured lead `l` takes over under the next term. -/
def handbackTo (l : BitVec 10) (s : State) : State :=
  let prev := s.tm.lead
  let term := s.tm.term + 1
  let first := s.tm.tickNo.truncate 32 + 2
  if s.tm.leading then
    let e := s.ownEntries
    let s := s.mapTm fun t =>
      { t with leading := false, lead := some l, term := term, handback := none, confLead := none, members := []
               entries := e, tickSync := true, missed := 0, gotSched := true, dist := 65535 }
    let s := s.mapClk fun c => { c.undisciplined with disc := .team }
    let s := s.mapFrm fun f => { f with src := .team, nextLen := none, nextStr := false }
    treeUpdate (leadEvent (some l) prev term first 2 s)
  else if s.tm.id = some l then
    let s := s.mapTm fun t =>
      { t with leading := true, lead := some l, term := term, handback := none, confLead := none, members := []
               parent := none, dist := 0, divergent := false, divOut := false, mism := 0, agree := 0, missed := 0 }
    let s := s.mapClk fun c => { c.undisciplined with disc := .freeRun }
    let s := s.mapFrm fun f => { f with nextLen := some f.params.pNom, nextStr := false }
    let s := srcTick (helloAll (leadEvent (some l) prev term first 2 s))
    settleSend (treeUpdate s)
  else
    leadEvent (some l) prev term first 2 (s.mapTm fun t => { t with lead := some l, term := term, handback := none })

/-- `HANDBACK` (R330): at the tick that the schedule announced. -/
def execHandback (s : State) : Answer :=
  .next <|
    match s.tm.handback with
    | some (l, n) =>
      if s.tm.isMember && decide (n.toNat ≤ s.tm.tickNo.toNat) then
        let before := s.causes
        causeArise before (handbackTo l s)
      else s
    | none => s

end Sys2Proof.Machine
end

