-- ==== Sys2Proof/Machine/Enum.lean ====
section
/-!
DEFINITION. Enumeration (`13_team.md`, R306): the request and the port path, the records, and the IDs that the lead
assigns (log entry 23).
-/
namespace Sys2Proof.Machine

/-- R306: the port path of the engine beyond port `p` of an engine at lead distance `d` with path `path`. -/
def pathVia (path : Dword) (d : Nat) (p : Fin 4) : Dword := path + BitVec.ofNat 64 (p.val * 4 ^ d)

/-- R306: the request goes on over the ports that lead down. -/
def enumDown (path : Dword) (d : Nat) (ingress : Option (Fin 4)) (s : State) : State :=
  allPorts.foldl (fun s p =>
    if some p = ingress || some p == s.tm.parent || (s.port p).standby then s
    else portSend p (.enum (.request (pathVia path d p))) s) s

/-- R306: the record of this engine. -/
def State.enumRecord (s : State) : EnumRec :=
  { configured := s.configuredId.isSome, engine := (s.configuredId.getD 0).zeroExtend 15, path := s.tm.path
    dist := BitVec.ofNat 8 s.tm.dist, csRev := BitVec.ofNat 16 (csMajor + 256 * csMinor) }

/-- `ENUMERATION` (R306). -/
def execEnumeration (s : State) : Answer :=
  .next <|
    if s.tm.leading && s.teamCore then
      enumDown 0 0 none (s.mapTm fun t =>
        { t with members := t.members.map fun m => { m with seen := false, fresh := false } })
    else s

/-- R306: a new member; the lead has heard of no groups yet (assumption 25). -/
def enumMember (r : EnumRec) (id : BitVec 10) (conf : Bool) : Member :=
  { id := id, crc := 0, major := r.csRev.truncate 8, minor := (r.csRev >>> 8).truncate 8, image := 0, state := 0
    quality := 0, leadUs := 0, stale := true, missed := 0, path := r.path, dist := r.dist.toNat
    groups := [], conf := conf, seen := true, fresh := !conf }

/-- R306: the reply that tells an engine its ID. -/
def enumReply (m : Member) (s : State) : State :=
  sendDown (.enum (.reply m.path (BitVec.ofNat 8 m.dist) m.id)) s

/-- R306: the member waits for a free ID in this enumeration. -/
def Member.waits (m : Member) : Bool := m.fresh && !m.conf

/-- R306: put a member into a list in order of increasing port path. -/
def pathInsert (m : Member) : List Member → List Member
  | [] => [m]
  | x :: l => if pathLess m.dist m.path.toNat x.dist x.path.toNat then m :: x :: l else x :: pathInsert m l

/-- The same engine, by its port path. -/
def Member.samePath (a b : Member) : Bool := a.path == b.path && a.dist == b.dist

/-- R306: the unassigned engines, in order of increasing port path, hold the lowest free IDs; `own` is the lead's. -/
def idsGiven (own : Nat) (l : List Member) : List Member :=
  let order := (l.filter Member.waits).foldl (fun acc m => pathInsert m acc) []
  let used := own :: (l.filter fun m => !m.waits).map fun m => m.id.toNat
  let free := (List.range 1023).filter fun n => !used.contains n
  l.map fun m => if m.waits then { m with id := BitVec.ofNat 10 (free.getD (order.findIdx m.samePath) 0) } else m

/-- R306, R331: the members become `l`, with the free IDs given out; each whose ID changes by that is told it, with the
change that `why` gives for its port path, else 8. -/
def enumSettle (l : List Member) (why : Member → Nat) (s : State) : State :=
  let before := s.tm.members
  let s := s.mapTm fun t => { t with members := idsGiven s.engineId.toNat l }
  s.tm.members.foldl (fun s n =>
    if !n.waits || before.any (fun o => o.samePath n && o.id == n.id) then s
    else enumReply n (memberNote n (why n) s)) s

/-- R327, R331: an engine becomes a member. -/
def memberJoins (m : Member) (s : State) : State :=
  memberNote m 1 (if m.major.toNat = csMajor then s else raise fTeamVersion [] s)

/-- R306: an engine without a usable configured ID becomes a member; `change` is 8, or 9 for a duplicate ID. -/
def enumFree (r : EnumRec) (change : Nat) (s : State) : State :=
  let m := enumMember r 0x3FF false
  let l := idsGiven s.engineId.toNat (s.tm.members ++ [m])
  let s := memberJoins ((l.find? m.samePath).getD m) s
  enumSettle l (fun n => if n.samePath m then change else 8) s

/-- R306: an engine becomes a member under its configured ID. -/
def enumAdd (r : EnumRec) (id : BitVec 10) (s : State) : State :=
  let m := enumMember r id true
  let s := memberJoins m (s.mapTm fun t => { t with members := t.members ++ [m] })
  enumReply m s

/-- Replace member `m`. -/
def memberPut (m n : Member) (s : State) : State :=
  s.mapTm fun t => { t with members := t.members.map fun x => if x.id = m.id then n else x }

/-- R306: a member that answers again, from the port path of the record. -/
def enumAgain (r : EnumRec) (m : Member) (s : State) : State :=
  let n := { m with path := r.path, dist := r.dist.toNat, seen := true }
  enumReply n (memberPut m n s)

/-- R306: a member gives its ID up to an engine that has it configured, and counts as unassigned; `change` is 9 where it had
it configured itself. -/
def enumMove (r : EnumRec) (m : Member) (s : State) : State :=
  let n := enumMember r m.id true
  let l := s.tm.members.map (fun x => if x.id = m.id then { x with conf := false, fresh := true } else x) ++ [n]
  let s := memberJoins n s
  enumReply n (enumSettle l (fun x => if x.samePath m && m.conf then 9 else 8) s)

/-- R306: a lead without a configured ID is an unassigned engine, the one with the shortest port path: it leaves its ID to the
engine that has it configured, and takes the lowest one that no engine holds but those that wait for a free ID themselves. -/
def leadMoves (s : State) : State :=
  let held := s.engineId.toNat :: (s.tm.members.filter fun m => !m.waits).map fun m => m.id.toNat
  let id : BitVec 10 := BitVec.ofNat 10 (((List.range 1023).find? fun n => !held.contains n).getD 0)
  selfEvent 8 (s.mapTm fun t => { t with id := some id, lead := some id })

/-- R306: the ID of an engine that has one configured. -/
def enumConfigured (r : EnumRec) (s : State) : State :=
  let want : BitVec 10 := r.engine.truncate 10
  if want = s.engineId then
    (if s.configuredId.isSome then enumFree r 9 s
     else
       let s := enumAdd r want (leadMoves s)
       enumSettle s.tm.members (fun _ => 8) s)
  else match s.tm.members.find? fun m => m.id == want with
    | none => enumAdd r want s
    | some m =>
      if m.conf && (!m.seen || (m.path == r.path && m.dist == r.dist.toNat)) then enumAgain r m s
      else if !m.conf || pathLess r.dist.toNat r.path.toNat m.dist m.path.toNat then enumMove r m s
      else enumFree r 9 s

/-- R306: a record without a configured ID, from a port path that no engine with an assigned ID had. The assignment lasts: it is
that of an engine with an assigned ID that has not answered this request, which a heal has moved, or the engine is new. No frame
tells which: a free choice (assumption 23). -/
def enumStray (r : EnumRec) (s : State) : State :=
  match s.tm.members.filter fun m => !m.conf && !m.seen with
  | [] => enumFree r 8 s
  | l =>
    let (k, s) := s.draw
    match l[Config.freePick k % (l.length + 1)]? with
    | some m => enumAgain r m s
    | none => enumFree r 8 s

/-- R306: the lead takes a record; an engine with an assigned ID is known by its port path. -/
def enumTake (r : EnumRec) (s : State) : State :=
  match s.tm.members.find? fun m => !m.conf && m.path == r.path && m.dist == r.dist.toNat with
  | some m => enumAgain r m s
  | none => if r.configured then enumConfigured r s else enumStray r s

/-- R306: this engine takes the ID that the lead has assigned. -/
def enumOwn (id : BitVec 10) (s : State) : State :=
  if s.tm.id = some id then memberUpdate s
  else
    let c := if s.configuredId.isSome then 9 else 8
    selfEvent c (memberUpdate (s.mapTm fun t => { t with id := some id }))

/-- R306: what an ENUM frame does on this engine. -/
def enumBody (p : Fin 4) (e : EnumPl) (s : State) : State :=
  match e with
  | .request path =>
    if s.tm.parent != some p then s
    else
      let s := treeUpdate (s.mapTm fun t => { t with path := path })
      let s := enumDown path s.tm.dist (some p) s
      if s.actsFollower && s.teamCore then sendUp (.enum (.record s.enumRecord)) s else s
  | .record r =>
    if s.tm.leading then (if s.teamCore then enumTake r s else s) else sendUp (.enum (.record r)) s
  | .reply path d id =>
    if s.tm.parent != some p then s
    else if path = s.tm.path && d.toNat == s.tm.dist then (if s.teamCore then enumOwn id s else s)
    else relayDown p (.enum (.reply path d id)) s

/-- `ENUM` (R306). -/
def execEnum (p : Fin 4) (h : FrameHdr) (e : EnumPl) (s : State) : Answer :=
  .next <| treeRx p h true (enumBody p e) s

end Sys2Proof.Machine
end

