-- ==== Sys2Proof/Machine/Safe.lean ====
section
/-!
DEFINITION. The safety monitor's inputs (`14_safety_functions.md`): test pulses and the qualification of the SIN inputs
(R335, R336), the heartbeat monitor (R351), the CAN listener (R352, R353), DARK_N (R354) and `SAFETY_STATUS` (R271).
-/
namespace Sys2Proof.Machine

/-! ### SIN inputs (R335, R336) -/

/-- Change SIN input `n`. -/
def mapSin (n : Nat) (f : SinState → SinState) (s : State) : State :=
  s.mapSaf fun g => { g with sin := g.sin.modify n f }

/-- SIN input `n`. -/
def State.sinAt (s : State) (n : Nat) : SinState := s.saf.sin.getD n SinState.reset

/-- R336: the TPO output that input `n` is assigned to; none when it is ignored. -/
def State.sinOwn (s : State) (n : Nat) : Option Nat :=
  match sinAssign s.hallByte n with
  | 1 => some 0
  | 2 => some 1
  | _ => none

/-- The fault collector runs (R358): not in reset and not without supply. -/
def State.collects (s : State) : Bool :=
  s.pwr.mode != .off && s.pwr.mode != .standby && s.pwr.mode != .reset

/-- Table 14.2: the input is in demand from now on. A demand that begins ends a calibration run (R282) and is a wake
cause (R426). -/
def sinDemand (n : Nat) (s : State) : State :=
  let was := (s.sinAt n).demand
  let s := mapSin n (fun i => { i with demand := true, clean := 0 }) s
  if was then s else wakeQualify 4 0 (marksEvent (calLeave s))

/-- Table 14.2, last row: the demand ends, and with it the episodes of its faults. -/
def sinClear (n : Nat) (s : State) : State :=
  wakeQualify 4 0 <| marksEvent (mapSin n (fun i =>
    { i with demand := false, clean := 0, stuckDue := false, stuckOn := false, crossOn := false }) s)

/-- R336: `F_SIN_STUCK`, once per episode. -/
def sinStuck (n : Nat) (s : State) : State :=
  let was := (s.sinAt n).stuckOn
  let s := mapSin n (fun i => { i with stuckOn := true, stuckDue := false }) s
  if was then s else raise fSinStuck (b1 n) s

/-- R336: `F_SIN_CROSS`, once per episode. -/
def sinCross (n : Nat) (s : State) : State :=
  let was := (s.sinAt n).crossOn
  let s := mapSin n (fun i => { i with crossOn := true, stuckDue := false }) s
  if was then s else raise fSinCross (b1 n) s

/-- Table 14.2: the close of the input's own window. An input without a low is treated as in demand; `F_SIN_STUCK`
waits for the other TPO's next window, unless the last one showed the cross (assumption 28). -/
def ownClose (n : Nat) (s : State) : State :=
  let i := s.sinAt n
  if !i.level then sinDemand n s
  else if !i.lowOwn then
    mapSin n (fun j => { j with stuckDue := !(i.lowOther && i.crossOn) }) (sinDemand n s)
  else
    let c := if i.outHigh then i.clean + 1 else 0
    if i.demand && decide (2 ≤ c) then sinClear n s
    else mapSin n (fun i => { i with clean := if i.demand then c else 0 }) s

/-- Table 14.2: the close of the other TPO's window: the cross of an input, else the `F_SIN_STUCK` that waits. -/
def otherClose (n : Nat) (s : State) : State :=
  let i := s.sinAt n
  if i.level && i.lowOther && i.outHigh then sinCross n (sinDemand n s)
  else
    let s := if i.level then s else sinDemand n s
    if i.stuckDue then sinStuck n s else s

/-- R335: the level of TPOx: low for the 200 µs of its test pulse. -/
def State.tpoLevel (s : State) (x : Nat) : Bool :=
  s.saf.tpo.getLsbD x || (s.started && decide (s.saf.tpoAt.getD x 0 + 200000 ≤ s.clk.loc))

/-- `TPO_PULSE` (R335): the output drops and its pulse window opens. -/
def execTpoPulse (x : Fin 2) (s : State) : Answer :=
  .next <|
    if !s.saf.tpoOn || s.saf.win.getLsbD x.val then s
    else
      let now := s.clk.loc
      let s := s.mapSaf fun f =>
        { f with tpo := bitPut f.tpo x.val false, tpoAt := f.tpoAt.set x.val now, win := bitPut f.win x.val true }
      (List.range 4).foldl (fun s n =>
        match s.sinOwn n with
        | none => s
        | some o => mapSin n (fun i =>
            if o = x.val then { i with lowOwn := !i.level, outHigh := i.level }
            else { i with lowOther := !i.level, outHigh := i.level }) s) s

/-- `TPO_WINDOW_CLOSE` (R335, R336). -/
def execTpoWindowClose (x : Fin 2) (s : State) : Answer :=
  .next <|
    if !s.saf.win.getLsbD x.val then s
    else
      let s := s.mapSaf fun f => { f with tpo := bitPut f.tpo x.val true, win := bitPut f.win x.val false }
      (List.range 4).foldl (fun s n =>
        match s.sinOwn n with
        | none => s
        | some o => if o = x.val then ownClose n s else otherClose n s) s

/-- Table 14.2: input `n` is low: a demand outside both windows, else a low within the window that is open. -/
def sinLow (n : Nat) (s : State) : State :=
  match s.sinOwn n with
  | none => s
  | some o =>
    if s.saf.win = 0 then sinDemand n s
    else if s.saf.win.getLsbD o then mapSin n (fun i => { i with lowOwn := true }) s
    else mapSin n (fun i => { i with lowOther := true }) s

/-- `SIN_EDGE` (R336, Table 14.2): a change of the filtered level. -/
def execSinEdge (n : Fin 4) (high : Bool) (s : State) : Answer :=
  .next <|
    if !s.pwr.vaon then s
    else
      let s := mapSin n.val (fun i => { i with level := high }) s
      if high || !s.collects then s else sinLow n.val s

/-- R336: the inputs are assigned; those that are low are judged from this instant. -/
def sinAssigned (s : State) : State :=
  (List.range 4).foldl (fun s n => if (s.sinAt n).level then s else sinLow n s) s

/-! ### Heartbeat (R351) -/

/-- `HEARTBEAT_TIMEOUT` (R351): an armed monitor runs out. -/
def execHeartbeatTimeout (s : State) : Answer :=
  .next <|
    if !s.saf.hbArmed || s.saf.hbExp then s
    else
      let before := s.causes
      raise fHostHeartbeat [] (causeArise before (s.mapSaf fun f => { f with hbExp := true }))

/-! ### CAN listener (R352, R353) -/

/-- R352: the PGN of an identifier. -/
def canPgn (ident : BitVec 29) : Nat :=
  let n := ident.toNat
  if 240 ≤ n / 2 ^ 16 % 256 then n / 2 ^ 8 % 2 ^ 18 else n / 2 ^ 16 % 2 ^ 10 * 2 ^ 8

/-- R352: the listener accepts the frame. -/
def State.canAccepts (s : State) (f : CanFrame) : Bool :=
  let c := s.frm.params.can
  c.on && f.extended && !f.remote && !f.fd && f.dlc == 8 && f.crcOk && canPgn f.ident == c.pgn.toNat
  && (c.sa == 0xFF || f.ident.toNat % 256 == c.sa.toNat)

/-- R353: the first enabled rule whose field reads 0b01. -/
def canRuleHit (rules : List Word) (data : List Byte) : Option Nat :=
  (rules.zipIdx.find? fun e => canRuleOn e.1 && canRuleField e.1 data == 1).map Prod.snd

/-- R353: the selection after an accepted frame. -/
def State.canSelect (s : State) (f : CanFrame) : CanSel :=
  let rules := s.frm.params.can.rules
  if !rules.any canRuleOn then s.saf.canSel
  else match canRuleHit rules f.data with
    | some k => .scene (canRuleScene (rules.getD k 0))
    | none => .empty

/-- Table 08.6: the scene of a selection. -/
def CanSel.code : CanSel → Nat
  | .scene n => n
  | _ => 0xFE

/-- `CAN_FRAME` (R352, R353): an accepted frame selects the scene and restarts the timeout. Its identifier is recorded in the
byte order of the bus, most significant byte first (R6; assumption 83). -/
def execCanFrame (f : CanFrame) (s : State) : Answer :=
  .next <|
    if !s.ticking || !s.canAccepts f then s
    else
      let sel := s.canSelect f
      let late := s.saf.canOut
      let note := sel != s.saf.canSel || late
      let hit := if s.frm.params.can.rules.any canRuleOn then
          (canRuleHit s.frm.params.can.rules f.data).getD 0xFF else 0xFF
      let s := s.mapSaf fun g => { g with canSel := sel, canOut := false, canAt := s.clk.loc }
      if note then
        logAdd 4 (sel.code + 256 * flag late) s.now ((b4 f.ident.toNat).reverse ++ padTo 8 f.data ++ b1 hit) s
      else s

/-- `CAN_TIMEOUT` (R353). -/
def execCanTimeout (s : State) : Answer :=
  .next <|
    if !s.ticking || !s.frm.params.can.on || s.saf.canOut then s
    else raise fCanTimeout [] (s.mapSaf fun f => { f with canOut := true })

/-! ### DARK_N (R64, R354) -/

/-- `DARK_N_ASSERT` (R354): a qualified low. -/
def execDarkNAssert (s : State) : Answer :=
  .next <|
    if s.saf.darkPin || !s.pwr.vaon then s
    else
      let before := s.causes
      let s := darkAdd .pin (s.mapSaf fun f => { f with darkPin := true })
      if s.collects then raise fDarkPin [] (causeArise before (calLeave s)) else s

/-- `DARK_N_RELEASE` (R64): DARK_N has been high for 100 µs. -/
def execDarkNRelease (s : State) : Answer :=
  .next <| if s.saf.darkPin then darkRemove .pin (s.mapSaf fun f => { f with darkPin := false }) else s

/-! ### `SAFETY_STATUS` (R271) -/

/-- R271: the `RESULT`. -/
def State.safetyResult (s : State) : Dword :=
  let sel := s.fbSelect s.causes
  let shown : Half := (s.frm.shown.map fun h => h.demanded ||| h.added).getD 0
  let levels := ((s.saf.sin.zipIdx).map fun e => if e.1.level then 2 ^ e.2 else 0).sum
  BitVec.ofNat 64 <|
    at_ levels 0 4 + at_ s.pattern 4 4 + at_ s.demanded.toNat 8 16 + at_ shown.toNat 24 16 + at_ s.safe 40 2
    + at_ (if sel = 0xFE then 0 else sel) 42 3 + at_ (flag s.road) 45 1 + at_ (flag s.saf.hbExp) 46 1
    + at_ (flag s.saf.canOut) 47 1 + at_ s.hbLeft 48 15 + at_ (flag (sel == 0xFE)) 63 1

/-- `SAFETY_STATUS` (R271). -/
def execSafetyStatus (sub : Sub) (s : State) : Answer :=
  ringCmd (.safetyStatus sub) (fun s => finish 0x51 sub stOk s.safetyResult s) s

end Sys2Proof.Machine
end

