-- ==== Sys2Proof/Machine/Thermal.lean ====
section
/-!
DEFINITION. Temperature, housekeeping and headroom (`16_thermal.md`; `03_emitter_array.md`, R70 to R75): the samples
(R375, R386, R389), the round (R376 to R381, R387, R388), the hardware shutdown (R383 to R385, R293) and VLED_ADJ.
-/
namespace Sys2Proof.Machine

/-! ### Channels -/

/-- Channel `c`. -/
def State.hkCh (s : State) (c : Nat) : HkChan := s.hk.ch.getD c HkChan.reset

/-- Change channel `c`. -/
def mapCh (c : Nat) (f : HkChan → HkChan) (s : State) : State :=
  s.mapHk fun h => { h with ch := h.ch.modify c f }

/-- R375: the sequencer runs. -/
def State.hkRuns (s : State) : Bool :=
  match s.pwr.mode with
  | .startup => true
  | .idle => true
  | .active => true
  | .halter => true
  | _ => false

/-- Table 16.2: the monitor window of a supply channel; `rot` is the input of channel 31. -/
def supplyWindow (c rot : Nat) : Option (Int × Int) :=
  match c with
  | 21 => some (2475, 2525)
  | 26 => some (760, 840)
  | 27 => some (3500, 4700)
  | 28 => some (855, 945)
  | 29 => some (1060, 1170)
  | 30 => some (570, 650)
  | 31 => match rot with
    | 0 => some (1710, 1890)
    | 1 => some (1710, 1890)
    | 2 => some (1700, 1950)
    | _ => some (3135, 3465)
  | _ => none

/-- A 16-bit two's complement value as a number. -/
def u16 (v : Int) : Nat := (BitVec.ofInt 16 v).toNat

/-- R373, R386: the neighbours of temperature sensor `c`. Of the four sensors around S0, A3 and A4 count (assumption
29). -/
def neighbours (c : Nat) : List Nat :=
  if c < 16 then
    (if c % 8 = 0 then [] else [c - 1]) ++ (if c % 8 = 7 then [] else [c + 1]) ++ [if c < 8 then c + 8 else c - 8]
  else match c with
    | 16 => [3, 4]
    | 17 => [1, 2]
    | 19 => [20]
    | 20 => [19]
    | _ => []

/-- The neighbours of `c` that have not failed. -/
def State.healthyNb (s : State) (c : Nat) : List Nat := (neighbours c).filter fun k => !(s.hkCh k).failed

/-- The sum of the neighbours' values, in 1/16 °C. -/
def State.nbSum (s : State) (c : Nat) : Int := ((s.healthyNb c).map fun k => (s.hkCh k).value).sum

/-- R388: the value in use of sensor `c`, in 1/16 °C. -/
def State.inUse (s : State) (c : Nat) : Int :=
  let ch := s.hkCh c
  let n := (s.healthyNb c).length
  if !ch.failed then ch.value
  else if n = 0 then ch.lastValid
  else max ch.lastValid (Int.fdiv (s.nbSum c * 64 + n * ch.offset) (64 * n))

/-- R388: the mask of failed sensors, bit c for channel c. -/
def State.failedMask (s : State) : Nat :=
  ((List.range 21).map fun c => if (s.hkCh c).failed then 2 ^ c else 0).sum

/-- R374: T_MAX and its channel. -/
def State.tMax (s : State) : Int × Nat :=
  (((List.range 16 ++ [19, 20]).filter fun c => !(s.hkCh c).failed).foldl
    (fun (m : Option (Int × Nat)) c =>
      let v := (s.hkCh c).value
      match m with
      | none => some (v, c)
      | some b => if b.1 < v then some (v, c) else m) none).getD (0, 0)

/-- R388: the regions under a 50 % clamp: failed sensors that share an edge. -/
def State.clampNow (s : State) : BitVec 16 :=
  (List.range 16).foldl (fun m q =>
    bitPut m q ((s.hkCh q).failed && (neighbours q).any fun k => (s.hkCh k).failed)) 0

/-- R388: sensor `c` fails: its last valid value is fixed, the source is raised and the hold starts. -/
def sensorFail (c : Nat) (last : Int) (s : State) : State :=
  let s := mapCh c (fun ch => { ch with failed := true, lastValid := last }) s
  let s := s.mapHk fun h =>
    { h with hold := true, holdNew := h.holdNew || !h.hold, clamp := h.clamp ||| s.clampNow, refresh2x := h.refresh2x || c == 18 }
  raise fTsensFail (b1 c) s

/-- R382: the DRAM sensor sets the refresh rate and `F_DRAM_HOT`. -/
def dramSample (v : Int) (s : State) : State :=
  let s := s.mapHk fun h => { h with refresh2x := if 1360 < v then true else if v < 1312 then false else h.refresh2x }
  if 1760 < v && !(s.hkCh 18).cond then raise fDramHot (b2 (u16 v)) (mapCh 18 (fun ch => { ch with cond := true }) s)
  else if v < 1680 then mapCh 18 (fun ch => { ch with cond := false }) s
  else s

/-- R398: a conversion of channel `c` with the ADC corrections in force; those of the wafer change nothing. -/
def State.hkValue (s : State) (c : Nat) (raw : HkRaw) : HkRaw :=
  match raw, s.cal.held with
  | .value v, some r =>
    .value (if r.adcGain = 0 ∧ r.adcOff = 0 then v else Config.hkCorrect c v r.adcGain r.adcOff)
  | raw, _ => raw

/-- R383, R384: a sensor with a comparator reads above 136 °C: past the 130 ± 4 °C of the second threshold and the 2 °C of the
reading. The restart condition does not hold (DEDUCED, assumption 75). -/
def coolSample (c : Nat) (raw : HkRaw) (s : State) : State :=
  match raw with
  | .value v => if c < 18 ∧ 2176 < v then s.mapHk fun h => { h with cool := false } else s
  | .openShort => s

/-- R386: a sample of a temperature sensor. A failed sensor stays failed. -/
def tempSample (c : Nat) (raw : HkRaw) (s : State) : State :=
  let s := coolSample c raw s
  let ch := s.hkCh c
  let bad : Bool := match raw with
    | .value v => decide (v < -880) || decide (2800 < v)
    | .openShort => true
  let s' := mapCh c (fun k =>
    { k with range := bad, value := match raw with
              | .value v => v
              | .openShort => k.value }) s
  if ch.failed then s'
  else if bad then sensorFail c ch.value s'
  else if c = 18 then dramSample ((s'.hkCh 18).value) s'
  else s'

/-- R389: the runs of a supply input after a sample; whether the fault is to be raised. -/
def supplyRun (ch : HkChan) (inside : Bool) (v : Int) : HkChan × Bool :=
  let ch := { ch with value := v, range := !inside }
  if inside then
    let g := min 3 (ch.goodRun + 1)
    ({ ch with goodRun := g, badRun := 0, cond := ch.cond && decide (g < 3) }, false)
  else
    let b := min 3 (ch.badRun + 1)
    ({ ch with badRun := b, goodRun := 0, cond := ch.cond || decide (b = 3) }, decide (b = 3) && !ch.cond)

/-- R389: VLED below its window raises v_set at once; by how much the manual does not say: a free value (assumption
30), within the 4.60 V ceiling. -/
def vsetRaise (s : State) : State :=
  let (k, s) := s.draw
  s.mapHk fun h => { h with vSet := max h.vSet (min 4600000 (h.vSet + 1 + Config.freePick k)) }

/-- R389: a sample of a supply input. -/
def supplySample (c : Nat) (v : Int) (s : State) : State :=
  let rot := if c = 31 then s.hk.rot else 0
  match supplyWindow c rot with
  | none => mapCh c (fun ch => { ch with value := v }) s
  | some (lo, hi) =>
    let inside := decide (lo ≤ v) && decide (v ≤ hi)
    let old := if c = 31 then s.hk.rotCh.getD rot HkChan.reset else s.hkCh c
    let (new, fire) := supplyRun old inside v
    let s := if c = 31 then
        (s.mapHk fun h => { h with rotCh := h.rotCh.set rot new }) |> mapCh 31 fun ch =>
          { ch with value := v, range := !inside }
      else mapCh c (fun _ => new) s
    let s := if c = 21 then
        s.mapHk fun h => { h with refBad := if !inside then true else if new.goodRun = 3 then false else h.refBad }
      else s
    let s := if fire then
        raise (if c = 27 then fVledRange else fSupplyRange) (b1 c ++ b1 rot ++ b2 (u16 v)) s
      else s
    if c = 27 && decide (v < lo) && s.hk.loop && s.pwr.groom then vsetRaise s else s

/-- `HK_SAMPLE` (R375): the sequencer converts the next channel. -/
def execHkSample (raw : HkRaw) (s : State) : Answer :=
  .next <|
    if !s.hkRuns then s
    else
      let c := s.hk.next
      let raw := s.hkValue c raw
      let s := if c ≤ 20 then tempSample c raw s
        else match raw with
          | .value v => supplySample c v s
          | .openShort => s
      (mapCh c (fun ch => { ch with stamp := s.now }) s).mapHk fun h =>
        { h with next := (c + 1) % 32, rot := if c = 31 then (h.rot + 1) % 4 else h.rot }

/-! ### Plausibility and learned offsets (R386, R387) -/

/-- R386: sensor `c` differs from its neighbours by more than 8 K. -/
def State.implausible (s : State) (c : Nat) : Bool :=
  let n := (s.healthyNb c).length
  let ch := s.hkCh c
  n != 0 && decide (8192 * n < ((n : Int) * ch.value * 64 - s.nbSum c * 64 - n * ch.offset).natAbs)

/-- R386: the sensors that neighbours can fail. -/
def pairedSensors : List Nat := List.range 18 ++ [19, 20]

/-- R386, R387: plausibility at the end of a round, judged for all sensors on the same values. -/
def plausRound (s : State) : State :=
  let live := pairedSensors.filter fun c => !(s.hkCh c).failed
  let bad := live.filter fun c => s.implausible c
  let s := live.foldl (fun s c =>
    if bad.contains c then mapCh c (fun ch => { ch with implaus := min 3 (ch.implaus + 1) }) s
    else mapCh c (fun ch => { ch with implaus := 0, lastValid := ch.value }) s) s
  (bad.filter fun c => (s.hkCh c).implaus == 3).foldl (fun s c => sensorFail c (s.hkCh c).lastValid s) s

/-- `LEARNED_OFFSET_UPDATE` (R387), in 1/1024 °C. -/
def execLearnedOffsetUpdate (s : State) : Answer :=
  .next <|
    if !s.hkRuns || !s.pwr.groom then s
    else
      let ok := (List.range 18).filter fun c =>
        !(s.hkCh c).failed && (neighbours c).all fun k => !(s.hkCh k).failed
      ok.foldl (fun t c =>
        let n := (neighbours c).length
        let o := (s.hkCh c).offset
        let d := Int.fdiv ((n : Int) * (s.hkCh c).value * 64 - s.nbSum c * 64) n
        let o' := max (-6144) (min 6144 (o + Int.fdiv (d - o) 64))
        mapCh c (fun ch => { ch with offset := o' }) t) s

/-- `RELAXATION_HOLD_END` (R388): 10 s after the last failure. -/
def execRelaxationHoldEnd (s : State) : Answer := .next <| s.mapHk fun h => { h with hold := false }

/-! ### Derating (R378 to R382) -/

/-- R378: f(T). -/
def derate (knee tZero : Int) (t : Int) : Nat :=
  clampNat (Int.fdiv (4096 * (16 * tZero - t)) (16 * tZero - 16 * knee)) 4096

/-- R382: D_DRAM. -/
def dDram (t : Int) : Nat :=
  if t ≤ 1760 then 4096 else if 1840 < t then 0 else clampNat (Int.fdiv (4096 * (1840 - t)) 80) 4096

/-- The highest value in use of a list of sensors. -/
def State.hottest (s : State) (l : List Nat) : Int :=
  (l.drop 1).foldl (fun m c => max m (s.inUse c)) (s.inUse (l.headD 0))

/-- R379: the factors that the readings give: D_G and the D_q. -/
def State.factors (s : State) : Nat × List Nat :=
  let p := s.frm.params
  let f := derate p.knee p.tZero
  let logic := f (s.hottest [19, 20])
  let dram := dDram (s.inUse 18)
  let dq := (List.range 16).map fun q => min (f (s.inUse q)) (if s.hk.clamp.getLsbD q then 2048 else 4096)
  (if p.regional then min logic dram
    else min (min (f (s.hottest (List.range 16))) logic) (min dram (if s.hk.clamp = 0 then 4096 else 2048)), dq)

/-- R380: a factor falls at once and rises by at most 41 per round, not at all while relaxing is held. -/
def stepFactor (held : Bool) (old new : Nat) : Nat :=
  if new ≤ old then new else if held then old else min new (old + 41)

/-- The lowest applied D_q and its region (R376, R381). -/
def State.lowestDq (s : State) : Nat × Nat :=
  if !s.frm.params.regional then (4096, 0)
  else s.pho.dq.zipIdx.foldl (fun m e => if e.1 < m.1 then e else m) (4096, 0)

/-- R380: an applied factor is below 4,096. -/
def State.derates (s : State) : Bool := decide (s.pho.dG < 4096) || decide (s.lowestDq.1 < 4096)

/-- R381: `EV_DERATE` with its causes: the factors below 4,096, and what `ch` says has changed at this round: the
clamp, a hold that begins, the refresh rate (assumption 57). -/
def derateEvent (ch : BitVec 6) (s : State) : State :=
  let p := s.frm.params
  let f := derate p.knee p.tZero
  let cause := flag (decide (f (s.hottest (List.range 16)) < 4096)) + 2 * flag (decide (f (s.hottest [19, 20]) < 4096))
    + 4 * flag (decide (dDram (s.inUse 18) < 4096)) + 8 * flag (ch.getLsbD 3) + 16 * flag (ch.getLsbD 4)
    + 32 * flag (ch.getLsbD 5)
  emit evDerate
    (b2 s.pho.dG ++ b2 s.lowestDq.1 ++ b2 (u16 s.tMax.1) ++ b1 cause ++ b1 s.lowestDq.2 ++ leBytes s.failedMask 3) s

/-- R379 to R381: the groom core's work on the factors after a round: an event where the factors leave or reach 4,096, a
clamp of a region begins or ends, a hold has begun, or the refresh rate has changed. -/
def derateRound (s : State) : State :=
  let (g, q) := s.factors
  let held := s.hk.hold || s.hk.refBad
  let s := s.mapPho fun p =>
    { p with dG := stepFactor held p.dG g, dq := p.dq.zipWith (stepFactor held) q }
  let now : BitVec 6 := BitVec.ofNat 6 (flag s.derates + 32 * flag s.hk.refresh2x)
  let begun : BitVec 6 := BitVec.ofNat 6 (8 * flag (s.hk.clamp != s.hk.evClamp) + 16 * flag s.hk.holdNew)
  let ch := (s.hk.evDer ^^^ now) ||| begun
  let s := s.mapHk fun h => { h with evDer := now, evClamp := h.clamp, holdNew := false }
  if ch = 0 then s else derateEvent ch s

/-! ### Headroom (R71 to R75) -/

/-- R71: with the codes `a` a pixel of tile `t` has an on-time of at least 160 ns. -/
def litBy (cDiag : Nat) (a : List (Nat × List Half)) (t : Nat) : Bool :=
  (List.range 64).any fun r =>
    ((((alGet a (64 * (t / 32) + r)).getD []).drop (64 * (t % 32))).take 64).any fun c =>
      decide (cDiag ≤ c.toNat) && c != 0

/-- R71: a pixel of tile `t` had an on-time of at least 160 ns in this round: with the codes in A, or with those of a
frame that A held earlier in the round. -/
def State.tileLit (s : State) (t : Nat) : Bool :=
  litBy s.cDiag s.arr.a t || s.hk.shownIn.any fun e => litBy e.1 e.2 t

/-- R71: the report for a sink voltage in mV: the lowest of the thresholds from 400 to 900 in steps of 25 that it has
fallen to or below. -/
def headroomReport (mv : Nat) : Nat := min 900 (400 + 25 * ((max 400 mv - 400 + 24) / 25))

/-- R71: the reports of the tiles that qualify, in mV. -/
def State.qualified (s : State) (reports : List (BitVec 8 × Nat)) : List (Nat × Nat) :=
  (reports.filter fun e => s.tileClosed e.1.toNat && !s.arr.isol.getLsbD e.1.toNat && s.tileLit e.1.toNat).map
    fun e => (e.1.toNat, headroomReport e.2)

/-- R72: v_set after a round; `h` and H_T in mV. -/
def vsetRound (h : Nat) (s : State) : State :=
  let ht := s.frm.params.hT
  let vm := (s.hkCh 27).value.toNat
  if h + 25 < ht then s.mapHk fun k => { k with vSet := min 4600000 (1000 * (vm + ht - h)) }
  else if ht + 25 < h then s.mapHk fun k => { k with vSet := max 3600000 (k.vSet - 1000 * min 10 (h - ht)) }
  else s

/-- R71, R72, R75: the headroom part of a round. -/
def headroomRound (reports : List (BitVec 8 × Nat)) (s : State) : State :=
  let l := s.qualified reports
  let low (m : BitVec 256) : BitVec 256 :=
    reports.foldl (fun m e => bitPut m e.1.toNat (decide (headroomReport e.2 = 400))) m
  let s := (spanCut s).mapHk fun k => { k with shownIn := [], tile40 := low k.tile40 }
  match l with
  | [] => s.mapHk fun k => { k with lowRounds := 0 }
  | e :: rest =>
    let h := rest.foldl (fun m x => min m x.2) e.2
    let s := if s.pwr.groom && s.hk.loop && !s.measuring then vsetRound h s else s
    let n := if h < 450 then s.hk.lowRounds + 1 else 0
    let s := s.mapHk fun k => { k with lowRounds := min 3 n }
    if n = 3 then raise fHeadroom [] s else s

/-- R376: the housekeeping sample of every 100 rounds. -/
def hkLog (s : State) : State :=
  if s.hk.round % 100 ≠ 0 then s
  else
    let v (c : Nat) : List Byte := b2 (u16 (s.hkCh c).value)
    logAdd 3 (s.hk.round % 65536) s.now
      (b2 (u16 s.tMax.1) ++ b2 s.pho.dG ++ v 27 ++ v 26 ++ v 18 ++ b2 s.lowestDq.1 ++ leBytes s.failedMask 3) s

/-- `HK_ROUND_END` (R376, R379, R386, R72): the groom core's work, and what hardware does without it. -/
def execHkRoundEnd (reports : List (BitVec 8 × Nat)) (s : State) : Answer :=
  .next <|
    if !s.hkRuns then s
    else
      let s := s.mapHk fun h => { h with round := h.round + 1 }
      let s := if s.pwr.groom then derateRound (plausRound s) else s
      hkLog (headroomRound reports s)

/-- `VLED_ADJ_STEP` (R72): one LSB of D towards v_set; `vMeas` in mV. -/
def execVledAdjStep (vMeas : Nat) (s : State) : Answer :=
  .next <|
    if !s.pwr.groom || !s.hk.loop || s.measuring || !s.hkRuns then s
    else if s.hk.vSet + 10000 < 1000 * vMeas then s.mapHk fun h => { h with adj := min 1023 (h.adj + 1) }
    else if 1000 * vMeas + 10000 < s.hk.vSet then s.mapHk fun h => { h with adj := h.adj - 1 }
    else s

/-- `HEADROOM_HW_STEP` (R74): without the groom core hardware lowers D by 8; `headroom` in mV. -/
def execHeadroomHwStep (headroom : Nat) (s : State) : Answer :=
  .next <|
    if s.pwr.groom || !s.hkRuns || 450 ≤ headroom then s
    else s.mapHk fun h => { h with adj := h.adj - 8 }

/-! ### Hardware shutdown (R383 to R385, R293) -/

/-- Table 16.3, R385: `COUNT`: the trips whose starts lie within the last 60 s. -/
def State.tripCount (s : State) : Nat :=
  min 3 (s.hk.trips.filter fun t => decide (s.clk.loc < t + 60000000000)).length

/-- `TEMP_TRIP` (R383, R385): comparator `c` trips. -/
def execTempTrip (c : Fin 18) (s : State) : Answer :=
  .next <|
    if !s.pwr.vaon || s.pwr.mode == .standby || s.pwr.mode == .off then s
    else if s.hk.tripped ≠ 0 then
      s.mapHk fun h => { h with tripped := bitPut h.tripped c.val true, cool := false }
    else
      let trips := s.hk.trips.filter (fun t => decide (s.clk.loc < t + 60000000000)) ++ [s.clk.loc]
      let before := s.causes
      let s := s.mapHk fun h =>
        { h with tripped := bitPut 0 c.val true, cool := false, trips := trips
                 latchOff := h.latchOff || decide (3 ≤ trips.length) }
      let s := darkAdd .thermal s
      if s.collects then
        raise fTempShutdown (leBytes s.hk.tripped.toNat 3 ++ b1 s.tripCount) (causeArise before s)
      else s

/-- R361: the shutdown's DARK latch and its cause of fast-dark are released. -/
def thermalRelease (s : State) : State := darkRemove .thermal (latchRelease fTempShutdown s)

/-- `THERMAL_RESTART` (R384): the restart condition begins to hold. -/
def execThermalRestart (s : State) : Answer :=
  .next <|
    if s.hk.cool then s
    else
      let s := s.mapHk fun h => { h with tripped := 0, cool := true }
      if s.hk.latchOff then s else thermalRelease s

/-- R293, R385. -/
def thermRearmBody (sub : Sub) (s : State) : State :=
  if s.hk.latchOff && s.hk.cool then
    finish 0xA2 sub stOk 0 (thermalRelease (s.mapHk fun h => { h with latchOff := false, trips := [] }))
  else finish 0xA2 sub stWrongState 0 s

/-- `THERM_REARM` (R293). -/
def execThermRearm (sub : Sub) (s : State) : Answer := ringCmd (.thermRearm sub) (thermRearmBody sub) s

end Sys2Proof.Machine
end

