-- ==== Sys2Proof/Machine/Regs.lean ====
section
/-!
DEFINITION. The registers of BAR0 (`18_registers.md`): the map (R417), the access rules (R402 to R405), the update
strobe (R407 to R410) and the configuration CRC (R411 to R416).
-/
namespace Sys2Proof.Machine

/-! ### The map (R417, Table 18.5) -/

/-- Offsets of Tables 18.6, 18.7, 18.8, 18.10, 18.11, 18.12, 18.13. -/
def plainRegs : List Nat :=
  [0x00, 0x04, 0x08, 0x0C, 0x10, 0x14, 0x100, 0x104, 0x108, 0x10C, 0x120, 0x124, 0x128, 0x12C, 0x130, 0x134, 0x138,
    0x13C, 0x200, 0x204, 0x208, 0x360, 0x2000, 0x2004, 0x2008, 0x200C, 0x2010, 0x2014]
  ++ [0x4000, 0x4004, 0x4008, 0x400C, 0x4010, 0x4014, 0x4018, 0x401C, 0x5000, 0x5004, 0x5008, 0x500C, 0x5010,
    0x6000, 0x6004, 0x6008, 0x600C, 0x6010]

/-- An implemented register at 0x0000 to 0x7FFF. -/
def regHas (o : Nat) : Bool :=
  plainRegs.contains o
  || decide (0x300 ≤ o ∧ o < 0x360)
  || (decide (0x400 ≤ o ∧ o < 0x800) && decide (o % 0x40 ≤ 0x24))
  || decide (0x800 ≤ o ∧ o ≤ 0x818) || decide (0x900 ≤ o ∧ o ≤ 0x944)
  || decide (0x1000 ≤ o ∧ o ≤ 0x1018) || decide (0x1020 ≤ o ∧ o ≤ 0x1030) || decide (0x1040 ≤ o ∧ o ≤ 0x108C)
  || decide (0x2100 ≤ o ∧ o ≤ 0x2188)
  || (decide (0x3000 ≤ o ∧ o < 0x3200) && decide (o % 0x40 ≤ 0x18))

/-! ### Reads -/

/-- The low and the high word of a 64-bit value. -/
def lo32 (v : Dword) : Word := v.truncate 32
def hi32 (v : Dword) : Word := (v >>> 32).truncate 32
/-- A word from a number. -/
def word (n : Nat) : Word := BitVec.ofNat 32 n

/-- R364: `FLT_SEVn` reads the larger of the programmed severity and the floor, 0 for an unlisted source. -/
def State.sevRead (s : State) (n : Nat) : Word :=
  word (((List.range 8).map fun k =>
    if sourceKnown (8 * n + k) then max (s.sevSet (8 * n + k)) (floorSev (8 * n + k)) * 16 ^ k else 0).sum)

/-- Table 15.3: the highest severity whose action is in force. The assertion of FAULT_N by a reset is no severity's action:
`HIGHEST` is 0 at reset, where `PIN` is 1. -/
def State.highestSev (s : State) : Nat :=
  if s.flt.dark != 0 then 6 else if s.flt.safe != 0 then 5 else if s.flt.degrade != 0 then 4
  else if s.flt.pin && s.flt.pinSev then 3 else 0

/-- `UPD_STATUS`, Table 18.7. -/
def State.updStatus (s : State) : Word :=
  word ((s.reg.sets.map fun a => 2 ^ a.group).sum + at_ s.reg.refused.toNat 16 9 + at_ (flag s.reg.replaced) 25 1
    + at_ (flag s.reg.late) 26 1)

/-- `CFG_CRC_STAT.STALE_AGE`: ms since the longer-stale partition became stale; stale time runs from the engine's own
commit on (R415). -/
def State.staleAge (s : State) : Nat :=
  let age (stale : Bool) (t : Nat) : Nat := if stale && s.reg.committed then (s.clk.loc - t) / 1000000 else 0
  min 65535 (max (age s.reg.staleS s.reg.staleAtS) (age s.reg.staleL s.reg.staleAtL))

/-- `CFG_CRC_STAT`, Table 18.7. -/
def State.crcStat (s : State) : Word :=
  let r := s.reg
  word (flag r.staleS + 2 * flag r.staleL + 4 * flag r.freshS + 8 * flag r.freshL + 16 * flag r.mismS
    + 32 * flag r.mismL + at_ r.passes.toNat 8 8 + at_ s.staleAge 16 16)

/-- `DEV_VARIANT`, Table 18.6. -/
def State.variantWord (s : State) : Word :=
  word (s.variant.toNat + at_ s.imgMajor 8 8 + at_ s.imgMinor 16 8)

/-- The status registers of a ring pair, Table 10.1. -/
def State.ringRead (s : State) (n o : Nat) : Word :=
  let r := s.ring n
  if o = 0x20 then
    word (at_ r.sqHead 0 13 + at_ r.cqTail 16 13 + at_ (flag r.cqPhase) 29 1 + at_ (flag r.halted) 30 1
      + at_ (flag r.seqValid) 31 1)
  else if o = 0x24 then r.lastSeq else 0

/-- Table 16.3: the input of channel 31 sampled last; 0 before the first sample. -/
def State.hkSub (s : State) : Nat :=
  let c := s.hk.rotCh.getD 3 HkChan.reset
  if s.hk.rot = 0 ∧ c.goodRun = 0 ∧ c.badRun = 0 then 0 else (s.hk.rot + 3) % 4

/-- Table 16.3: `HK_SAMPLEn`. -/
def State.hkRead (s : State) (n : Nat) : Word :=
  let c := s.hkCh n
  let v := if n ≤ 20 then s.inUse n else c.value
  word (u16 v + at_ (flag c.failed) 16 1 + at_ (flag c.failed) 17 1 + at_ (flag c.range) 18 1
    + (if n = 31 then at_ s.hkSub 19 2 else 0))

/-- Table 16.3: `HK_TMAX`, `HK_DERATE`, `HK_SHUTDOWN`. -/
def State.hkStatus (s : State) (o : Nat) : Word :=
  if o = 0x2180 then word (u16 s.tMax.1 + at_ s.tMax.2 16 5)
  else if o = 0x2184 then
    word (at_ s.pho.dG 0 13 + at_ (flag s.frm.params.regional) 13 1 + at_ (flag s.hk.hold) 14 1
      + at_ (flag (s.hk.clamp != 0)) 15 1 + at_ (flag s.hk.refresh2x) 16 1)
  else
    word (s.hk.tripped.toNat + at_ s.tripCount 18 2 + at_ (flag s.hk.latchOff) 20 1 + at_ (flag s.hk.cool) 21 1)

/-- R209: the `USE` and `PORT` of lane `n`. -/
def State.laneUse (s : State) (n : Nat) : Nat × Nat :=
  if s.laneTested n then (3, 0)
  else if s.laneHost n then (1, 0)
  else match s.lanePort n with
    | some p => (2, p.val)
    | none => (0, 0)

/-- Tables 09.12 to 09.14. -/
def State.laneRead (s : State) (n o : Nat) : Word :=
  let l := s.lane n
  if o = 0x00 then
    let u := s.laneUse n
    word (u.1 + at_ u.2 3 2 + at_ (s.laneRate n) 5 3 + at_ (flag l.sigDet) 8 1 + at_ (flag l.cdrLock) 9 1
      + at_ (flag l.prbsLock) 10 1 + at_ ((l.test.map LaneTest.pattern).getD 0) 11 3
      + at_ ((l.test.map LaneTest.loopback).getD 0) 14 2)
  else if o = 0x04 then l.errCnt
  else if o = 0x08 then l.bitsLo
  else if o = 0x0C then l.bitsHi
  else if o = 0x10 then l.lockLoss.zeroExtend 32
  else if o = 0x14 then
    word (l.eyeW.toNat + at_ (flag l.eyeValid) 7 1 + at_ l.eyeH.toNat 8 7 + at_ l.ctle.toNat 16 4)
  else word (l.pre.toNat + at_ l.main.toNat 5 6 + at_ l.post.toNat 11 5)

/-- Table 18.10. -/
def State.powerRead (s : State) (o : Nat) : Word :=
  let p := s.pwr
  if o = 0x2000 then
    word ((p.pend.map fun e => e.1.toNat % 8).getD 0 + at_ ((p.entry.map PowerEntry.abort).getD 0) 3 3
      + at_ (flag (p.entry.isSome || p.wake.isSome)) 6 1)
  else if o = 0x2004 then word (p.wakeCause.toNat + at_ p.wakeLane.toNat 4 3 + at_ (flag p.wakeStandby) 7 1)
  else word (p.failed.toNat + at_ p.standbyCount.toNat 16 16)

/-- Table 18.11. -/
def State.timeRead (s : State) (o : Nat) : Word :=
  match o - 0x4000 with
  | 0x00 => lo32 s.now
  | 0x04 => s.clk.nowHi
  | 0x08 => lo32 s.clk.tickTime
  | 0x0C => hi32 s.clk.tickTime
  | 0x10 => s.clk.tickFrame
  | 0x14 => lo32 s.clk.edge
  | 0x18 => hi32 s.clk.edge
  | _ => word (s.quality.toNat + at_ s.discCode 8 2)

/-- `GPIO_STRAP`, Table 18.12. -/
def State.strapWord (s : State) : Word :=
  let i := s.idn
  word (i.pcieW.toNat + at_ (flag i.refclkSel) 2 1 + at_ (flag i.clkMode) 3 1 + at_ (flag i.flashMode) 4 1
    + at_ i.boardId.toNat 5 3)

/-- R263: seconds of lockout left, rounded up. -/
def State.lockLeft (s : State) : Nat :=
  match s.sec.lockEnd with
  | some t => min 3600 (ceilDiv (t - s.clk.loc) 1000000000)
  | none => 0

/-- Table 18.13: the fuses of the anti-rollback counter; until the OTP CRC has passed their shadow is not used, and R437 gives
no default (assumption 10). -/
def State.fusesRead (s : State) : Dword := if s.pwr.otpOk then s.idn.fuses else Config.fusesUnread

/-- Table 18.13. -/
def State.secRead (s : State) (o : Nat) : Word :=
  match o - 0x6000 with
  | 0x00 =>
    word (flag s.lockSet + at_ (flag s.debugSet) 1 1 + at_ (flag (s.fls.signed && s.imageRuns)) 2 1
      + at_ (flag s.sec.session.isSome) 3 1 + at_ (flag (s.sec.set.prot.pwState != 0)) 4 1
      + at_ ((s.sec.session.map fun e => e.operator.toNat).getD 0) 16 16)
  | 0x04 => word (s.lockLeft + at_ s.sec.fails 16 8)
  | 0x08 => lo32 s.fusesRead
  | 0x0C => hi32 s.fusesRead
  | _ => word s.sec.marks.length

/-- The value that the register at `o` gives. -/
def State.regRead (s : State) (o : Nat) : Word :=
  if 0x1040 ≤ o ∧ o ≤ 0x108C then s.sevRead ((o - 0x1040) / 4)
  else if classCRegs.contains o then
    if o = 0x200C then s.cfg o ||| 9 else s.cfg o
  else if 0x320 ≤ o ∧ o < 0x340 then (s.arr.isol >>> (8 * (o - 0x320))).truncate 32
  else if 0x340 ≤ o ∧ o < 0x360 then ((s.arr.hw154 ||| s.arr.hw159) >>> (8 * (o - 0x340))).truncate 32
  else if 0x400 ≤ o ∧ o < 0x800 then s.ringRead ((o - 0x400) / 0x40) (o % 0x40)
  else if 0x1020 ≤ o ∧ o ≤ 0x1030 then (s.flt.sticky >>> (8 * (o - 0x1020))).truncate 32
  else if 0x2100 ≤ o ∧ o < 0x2180 then s.hkRead ((o - 0x2100) / 4)
  else if 0x2180 ≤ o ∧ o ≤ 0x2188 then s.hkStatus o
  else if 0x3000 ≤ o ∧ o < 0x3200 then s.laneRead ((o - 0x3000) / 0x40) (o % 0x40)
  else if 0x4000 ≤ o ∧ o ≤ 0x401C then s.timeRead o
  else if 0x6000 ≤ o ∧ o ≤ 0x6010 then s.secRead o
  else if 0x2000 ≤ o ∧ o ≤ 0x2008 then s.powerRead o
  else match o with
    | 0x00 => 0x10481F3D
    | 0x04 => word devRev
    | 0x08 => s.devState
    | 0x0C => s.variantWord
    | 0x10 => lo32 s.serialNo
    | 0x14 => hi32 s.serialNo
    | 0x104 => s.reg.atLo
    | 0x108 => s.reg.atHi
    | 0x10C => s.updStatus
    | 0x120 => s.reg.refS
    | 0x124 => s.reg.refL
    | 0x128 => s.reg.curS
    | 0x12C => s.reg.curL
    | 0x130 => s.crcStat
    | 0x13C => word (2 * flag s.reg.locked)
    | 0x208 => s.reg.intStat.zeroExtend 32
    | 0x360 => word (s.curbLoaded + at_ (flag s.pho.cap) 10 1)
    | 0x814 => word (at_ s.rng.eq.tail 0 13 + at_ (flag s.rng.eq.phase) 13 1)
    | 0x818 => s.rng.eq.lost
    | 0x1000 =>
      word (s.flt.src.toNat + at_ (flag s.flt.valid) 8 1 + at_ (flag s.flt.ovf) 9 1 + at_ s.flt.sev 10 3)
    | 0x1004 => s.flt.tsLo
    | 0x1008 => s.flt.tsHi
    | 0x100C => word (flag s.flt.ovf)
    | 0x1010 =>
      word (s.highestSev + at_ (flag s.flt.pin) 3 1 + at_ (flag s.flt.relPending) 4 1
        + at_ (flag (s.flt.degrade != 0)) 5 1 + at_ (flag (s.flt.safe != 0)) 6 1 + at_ (flag (s.flt.dark != 0)) 7 1)
    | 0x5000 => s.strapWord
    | _ => 0

/-- Table 18.12: `GPIO_IN`; the level at an input land is a free value (assumption 10), that at an output the
latch. -/
def gpioIn (s : State) : Word × State :=
  let out := (s.cfg 0x5004).truncate 8
  let (k, s) := s.draw
  let level : Byte := (s.pwr.gpioLatch &&& out) ||| (Config.gpioLevel k &&& ~~~out)
  (level.zeroExtend 32 ||| (s.pwr.gpioLatch.zeroExtend 32 <<< 8), s)

/-- A read of the register at `o`, in the cycle of the request (R403): error counts are brought up to date, and
`TT_NOW_LO` latches the high half (R420). -/
def regSample (o : Nat) (s : State) : Word × State :=
  if o = 0x5010 then gpioIn s
  else
    let s := if 0x3000 ≤ o ∧ o < 0x3200 ∧ o % 0x40 = 0x04 then laneCount ((o - 0x3000) / 0x40) s else s
    let s := if o = 0x4000 then s.mapClk fun c => { c with nowHi := hi32 c.team } else s
    (s.regRead o, s)

/-! ### Clearing reads (R404) -/

/-- R366: the clearing read of `FLT_FIRST_SRC`. -/
def firstClear (s : State) : State :=
  s.mapFlt fun f =>
    { f with tsLo := lo32 f.ts, tsHi := hi32 f.ts, valid := false, src := 0, sev := 0, ts := 0, ovf := false }

/-- R205: the clearing read of `LTn_ERRCNT`. -/
def laneClear (n : Nat) (s : State) : State :=
  mapLane n (fun l =>
    { l with
      errCnt := 0, bitCount := l.bitCount % 10000, bitsLo := word (l.bitCount / 10000)
      bitsHi := word (l.bitCount / 10000 / 2 ^ 32)
      since := s.clk.loc }) s

/-- What a read at the clearing address `o` clears. -/
def regClear (o : Nat) (s : State) : State :=
  if 0x1020 ≤ o ∧ o ≤ 0x1030 then
    s.mapFlt fun f => { f with sticky := f.sticky &&& ~~~(0xFFFFFFFF#160 <<< (8 * (o - 0x1020))) }
  else if 0x3000 ≤ o ∧ o < 0x3200 then
    if o % 0x40 = 0x04 then laneClear ((o - 0x3000) / 0x40) s
    else if o % 0x40 = 0x10 then mapLane ((o - 0x3000) / 0x40) (fun l => { l with lockLoss := 0 }) s
    else s
  else match o with
    | 0x10C => s.mapReg fun r => { r with refused := 0, replaced := false, late := false }
    | 0x208 => s.mapReg fun r => { r with intStat := 0 }
    | 0x818 => s.mapRng fun r => { r with eq := { r.eq with lost := 0 } }
    | 0x1000 => firstClear s
    | 0x2004 => s.mapPwr fun p => { p with wakeCause := 0, wakeLane := 0, wakeStandby := false }
    | _ => s

/-! ### Requests (R402) -/

/-- One double word of a request: its offset and whether its byte enables are all set. -/
def requestWords (o n : Nat) (beFirst beLast : BitVec 4) : List (Nat × Bool) :=
  (List.range n).map fun k =>
    (o / 4 * 4 + 4 * k,
      if k = 0 then beFirst == 0xF else if k + 1 = n then beLast == 0xF else true)

/-- Table 18.1: a double word that fails, with its kind (R405); `bar` is 0 or 2. -/
def wordFails (bar : Nat) (isWrite : Bool) (e : Nat × Bool) : Option (Nat × Nat) :=
  let has := if bar = 0 then decide (e.1 < 0x10000) && regHas (e.1 % 0x8000) else bar2Has e.1
  if !e.2 then some (e.1, if isWrite then 3 else 1)
  else if !has then some (e.1, if isWrite then 4 else 2)
  else if isWrite && bar == 0 && decide (0x8000 ≤ e.1) then some (e.1, 5)
  else none

/-- The first double word of a request that fails. -/
def requestFails (bar : Nat) (isWrite : Bool) (l : List (Nat × Bool)) : Option (Nat × Nat) :=
  l.findSome? (wordFails bar isWrite)

/-- The number of a BAR. -/
def barNum : BarId → Nat
  | .bar0 => 0
  | .bar2 => 2

/-- The values of an accepted read, sampled together (R403). -/
def readValues (bar : Nat) (l : List Nat) (s : State) : List Word × State :=
  l.foldl (fun (a : List Word × State) o =>
    if bar = 0 then
      let (v, t) := regSample (o % 0x8000) a.2
      (a.1 ++ [v], t)
    else (a.1 ++ [a.2.bar2Read o], a.2)) ([], s)

/-- R402 to R404: a read of `n` double words. -/
def hostReadOp (bar o n : Nat) (beFirst beLast : BitVec 4) (s : State) : State :=
  let l := requestWords o n beFirst beLast
  match requestFails bar false l with
  | some (off, kind) => busReply .readAbort (regAccess off kind bar beFirst.toNat (aerLog completerAbort s))
  | none =>
    let offs := l.map Prod.fst
    let (vs, s) := readValues bar offs s
    let s := busReply (.readData vs) s
    if bar = 0 then (offs.filter fun o => decide (o < 0x8000)).foldl (fun s o => regClear o s) s else s

/-- A read of a BAR that is answered (R197, R201); it brings the link out of L1 (R198). -/
def whenRead (f : State → State) (s : State) : Answer := .next <| if s.memOn then f (busAwake s) else undecoded false s

/-- A write to a BAR that is taken (R197, R201); it brings the link out of L1 (R198). -/
def whenMem (f : State → State) (s : State) : Answer := .next <| if s.memOn then f (busAwake s) else undecoded true s

/-- `REFUSED_READ` (R402). -/
def execRefusedRead (bar : BarId) (offset : Half) (count : Nat) (beFirst beLast : BitVec 4) (s : State) : Answer :=
  whenRead (hostReadOp (barNum bar) offset.toNat count beFirst beLast) s

/-- `CLEARING_READ` (R404). -/
def execClearingRead (offset : Half) (count : Nat) (s : State) : Answer :=
  whenRead (hostReadOp 0 offset.toNat count 0xF 0xF) s

/-- `LTN_ERRCNT_READ` (R205). -/
def execLtnErrcntRead (lane : Fin 8) (s : State) : Answer :=
  whenRead (hostReadOp 0 (0x3004 + 0x40 * lane.val) 1 0xF 0xF) s

/-- `FLT_FIRST_SRC_READ` (R366). -/
def execFltFirstSrcRead (s : State) : Answer := whenRead (hostReadOp 0 0x1000 1 0xF 0xF) s

/-- `TT_NOW_LO_READ` (R420). -/
def execTtNowLoRead (s : State) : Answer := whenRead (hostReadOp 0 0x4000 1 0xF 0xF) s

/-! ### The update strobe (R407, R408, R410) -/

/-- R407: a strobe that is refused whole. -/
def strobeRefuse (groups : BitVec 9) (s : State) : State :=
  regAccess 0x100 7 0 0xF (s.mapReg fun r => { r with refused := r.refused ||| groups })

/-- R407: arm the set of group `g`. -/
def setArm (g : Nat) (when : ArmedWhen) (target : Dword) (s : State) : State :=
  let old := s.reg.sets.any fun a => a.group == g
  let a : ArmedSet := ⟨g, s.groupValues g, when, target, s.frm.armSeq⟩
  let s := s.mapReg fun r =>
    { r with sets := r.sets.filter (fun x => x.group != g) ++ [a], replaced := r.replaced || old }
  s.mapFrm fun f => { f with armSeq := f.armSeq + 1 }

/-- The armed set of group `g` is applied now. -/
def setFire (g : Nat) (s : State) : State :=
  match s.reg.sets.find? fun a => a.group == g with
  | some a => applySet g a.values (s.mapReg fun r => { r with sets := r.sets.filter fun x => x.group != g })
  | none => s

/-- R408, R429: the selected groups with `WHEN` 0, 1 or 2. In SLEEP an immediate set waits for the wake: its instant
is 0. -/
def strobeArm (when : Nat) (groups : BitVec 9) (s : State) : State :=
  let target := (s.reg.atHi.zeroExtend 64 <<< 32) ||| s.reg.atLo.zeroExtend 64
  (List.range 9).foldl (fun s g =>
    if !groups.getLsbD g then s
    else if when = 1 then setArm g .tick (s.nextTick.zeroExtend 64) s
    else if when = 0 then
      let s := setArm g .atTime 0 s
      if s.sleepSpan then s else setFire g s
    else
      let gone := decide (target.toNat < s.now.toNat)
      let s := setArm g .atTime target (s.mapReg fun r => { r with late := r.late || gone })
      if decide (target.toNat ≤ s.now.toNat) && !s.sleepSpan then setFire g s else s) s

/-- R407, R410: a write of `UPD_STROBE`. -/
def strobe (when : Nat) (groups : BitVec 9) (s : State) : State :=
  if groups = 0 then s
  else if when = 3 ∨ (s.pwr.mode = .halter ∧ groups &&& 0x1FC ≠ 0) then strobeRefuse groups s
  else strobeArm when groups s

/-! ### Commits (R414, R416) -/

/-- An accepted commit of a partition; with it the partition's condition of `F_CFG_STALE` ends (R415). -/
def commitNow (part : Partition) (s : State) : State :=
  s.mapReg fun r =>
    match part with
    | .shared => { r with refS := r.curS, staleS := false, lateS := false }
    | .localPart => { r with refL := r.curL, staleL := false, lateL := false }

/-- R414: a write to `CFG_CRC_REF_S` or `CFG_CRC_REF_L`. -/
def commitWrite (part : Partition) (v : Word) (s : State) : State :=
  let ok := match part with
    | .shared => s.reg.freshS && v == s.reg.curS
    | .localPart => s.reg.freshL && v == s.reg.curL
  if ok then commitNow part s
  else regAccess (match part with
    | .shared => 0x120
    | .localPart => 0x124) 8 0 0xF s

/-! ### Writes -/

/-- R364, R362: the value that a write of `FLT_SEVn` puts into its shadow. -/
def sevWrite (n : Nat) (v : Word) : Word :=
  word (((List.range 8).map fun k =>
    if sourceKnown (8 * n + k) then min 6 (bits v (4 * k) 4) * 16 ^ k else 0).sum)

/-- R404, R406, R9: a write of a class-C register reaches its shadow, apart from locked fields. -/
def shadowWrite (o : Nat) (v : Word) (s : State) : State :=
  if (o = 0x134 ∨ o = 0x138) ∧ s.reg.locked then regAccess o 6 0 0xF s
  else
    let m := classCMask o
    let v := if 0x1040 ≤ o ∧ o ≤ 0x108C then sevWrite ((o - 0x1040) / 4) v else v
    s.mapReg fun r => { r with shadow := regPut r.shadow o ((s.shadowVal o &&& ~~~m) ||| (v &&& m)) }

/-- R212: `SEQ_RESET` of ring `n`. -/
def seqResetOp (n : Nat) (s : State) : State :=
  if (s.ring n).enabled then regAccess (ringReg n 0x1C) 8 0 0xF s
  else
    mapRing n (fun r =>
      { r with seqValid := false, lastSeq := 0, window := [], muted := r.muted.map (Sub.turn n .muted .lost) })
      (s.mapSubs (Sub.turn n .muted .lost))

/-- R370: `FLT_PIN_REL`. -/
def pinRelOp (s : State) : State :=
  pinRelease (s.mapFlt fun f => { f with relPending := f.pin })

/-- R421: the output latches. -/
def gpioSetOp (b : Byte) (s : State) : State := s.mapPwr fun p => { p with gpioLatch := p.gpioLatch ||| b }
def gpioClrOp (b : Byte) (s : State) : State := s.mapPwr fun p => { p with gpioLatch := p.gpioLatch &&& ~~~b }

/-- A write of one whole double word at `o`; RO and RC fields ignore it (R404). -/
def regWrite (o : Nat) (v : Word) (s : State) : State :=
  if classCRegs.contains o then shadowWrite o v s
  else if 0x400 ≤ o ∧ o < 0x800 then
    if o % 0x40 = 0x1C ∧ v.getLsbD 0 then seqResetOp ((o - 0x400) / 0x40) s else s
  else match o with
    | 0x100 => strobe (bits v 16 2) (v.truncate 9) s
    | 0x104 => s.mapReg fun r => { r with atLo := v }
    | 0x108 => s.mapReg fun r => { r with atHi := v }
    | 0x120 => commitWrite .shared v s
    | 0x124 => commitWrite .localPart v s
    | 0x13C => if v.getLsbD 0 then s.mapReg fun r => { r with locked := true } else s
    | 0x1018 => if v.getLsbD 0 then pinRelOp s else s
    | 0x5008 => gpioSetOp (v.truncate 8) s
    | 0x500C => gpioClrOp (v.truncate 8) s
    | _ => s

/-- R402, R403: a write of the values `vs` from offset `o` on. -/
def hostWriteOp (bar o : Nat) (vs : List Word) (beFirst beLast : BitVec 4) (s : State) : State :=
  let l := requestWords o vs.length beFirst beLast
  let t := match requestFails bar true l with
    | some (off, kind) => regAccess off kind bar beFirst.toNat (errNonfatal s)
    | none => (l.zip vs).foldl (fun s e => if bar = 0 then regWrite e.1.1 e.2 s else bar2Write e.1.1 e.2 s) s
  if bar = 2 then wakeQualify 6 0 t else t

/-- `REGISTER_WRITE` (R402). -/
def execRegisterWrite (bar : BarId) (offset : Half) (values : List Word) (beFirst beLast : BitVec 4) (s : State) :
    Answer :=
  whenMem (hostWriteOp (barNum bar) offset.toNat values beFirst beLast) s

/-- `UPD_STROBE_IMMEDIATE` (R407). -/
def execUpdStrobeImmediate (groups : BitVec 9) (s : State) : Answer := whenMem (strobe 0 groups) s

/-- `UPD_STROBE_NEXT_TICK` (R408). -/
def execUpdStrobeNextTick (groups : BitVec 9) (s : State) : Answer := whenMem (strobe 1 groups) s

/-- `UPD_STROBE_AT_TIME` (R408). -/
def execUpdStrobeAtTime (groups : BitVec 9) (s : State) : Answer := whenMem (strobe 2 groups) s

/-- `UPD_STROBE_REFUSED` (R407). -/
def execUpdStrobeRefused (groups : BitVec 9) (s : State) : Answer := whenMem (strobe 3 groups) s

/-- `ARMED_SET_AT_TIME` (R408): the sets whose instant team time has reached; in SLEEP they wait (R429). -/
def execArmedSetAtTime (s : State) : Answer := .next <| if s.sleepSpan || !s.pwr.configReady then s else dueAtTime s

/-- `CFG_CRC_COMMIT` (R414). -/
def execCfgCrcCommit (part : Partition) (value : Word) (s : State) : Answer := whenMem (commitWrite part value) s

/-- `CFG_LOCK` (R416). -/
def execCfgLock (s : State) : Answer := whenMem (fun s => s.mapReg fun r => { r with locked := true }) s

/-- `FLT_PIN_REL` (R370). -/
def execFltPinRel (s : State) : Answer := whenMem pinRelOp s

/-- `SEQ_RESET` (R212). -/
def execSeqReset (ring : Fin 16) (s : State) : Answer := whenMem (seqResetOp ring.val) s

/-- `GPIO_SET` (R421). -/
def execGpioSet (bits : Byte) (s : State) : Answer := whenMem (gpioSetOp bits) s

/-- `GPIO_CLR` (R421). -/
def execGpioClr (bits : Byte) (s : State) : Answer := whenMem (gpioClrOp bits) s

/-! ### The configuration CRC (R411 to R415, R490) -/

/-- Table 04.2: the code of a dither mode. -/
def Dither.code : Dither → Nat
  | .spatialTemporal => 0
  | .spatial => 1
  | .off => 2

/-- Table 18.14: the seven records of the shared partition. -/
def Params.sharedRecords (p : Params) : List Byte :=
  [p.pNom, p.dutyN, p.pwmK, p.oCam, p.dither.code, p.floorC, p.policy].zipIdx.flatMap fun e =>
    b4 (0x10000 + 4 * e.2) ++ b4 e.1

/-- R490: the shared CRC of a configuration. -/
def Params.sharedCrc (p : Params) : Word := crc32 p.sharedRecords

/-- R415: a compared pass of one partition differs from its reference. -/
def crcCompare (part : Nat) (cur ref : Word) (s : State) : State :=
  raise fCfgCrc (b1 part ++ leBytes 0 3 ++ b4 cur.toNat ++ b4 ref.toNat) s

/-- R413 to R416: a pass ends for the shared partition. -/
def passShared (cur : Word) (s : State) : State :=
  let touched := s.reg.touchS
  let s := s.mapReg fun r => { r with curS := cur, freshS := r.freshS || !touched, touchS := false }
  let s := if (s.cfg 0x134).getLsbD 0 && s.reg.freshS && s.reg.staleS && s.reg.committed then commitNow .shared s
    else if s.reg.staleS || touched || !s.reg.committed then s
    else
      let bad := decide (cur ≠ s.reg.refS)
      let s := s.mapReg fun r => { r with mismS := bad }
      if bad then crcCompare 0 cur s.reg.refS s else s
  s

/-- R413 to R416: a pass ends for the local partition. -/
def passLocal (cur : Word) (s : State) : State :=
  let touched := s.reg.touchL
  let s := s.mapReg fun r => { r with curL := cur, freshL := r.freshL || !touched, touchL := false }
  let s := if (s.cfg 0x134).getLsbD 1 && s.reg.freshL && s.reg.staleL && s.reg.committed then commitNow .localPart s
    else if s.reg.staleL || touched || !s.reg.committed then s
    else
      let bad := decide (cur ≠ s.reg.refL)
      let s := s.mapReg fun r => { r with mismL := bad }
      if bad then crcCompare 1 cur s.reg.refL s else s
  s

/-- Table 18.4: the local items alone: those of the shared partition put to one value. -/
def Params.localPart (p : Params) : Params :=
  { p with pNom := 0, dutyN := 0, pwmK := 0, oCam := 0, dither := .off, floorC := 0, policy := 0, idle := false }

/-- R411: one record for each item word, address and value. -/
def itemRecords (l : List (Nat × Word)) : List Byte := l.flatMap fun e => b4 e.1 ++ b4 e.2.toNat

/-- R411, R412: the item words of the local partition in ascending address order: the class-C registers, then the items that
commands set, whose addresses and split are not published (assumption 13). -/
def State.localItems (s : State) : List (Nat × Word) :=
  classCRegs.map (fun o => (o, s.cfg o)) ++ Config.localItems s.frm.params.localPart

/-- R411, R412: the configuration CRCs of both partitions as the items now hold. -/
def State.crcNow (s : State) : Word × Word := (s.frm.params.sharedCrc, crc32 (itemRecords s.localItems))

/-- R16, R413: passes run: the engine is started and its core runs. They do not wait for the farrier core (R18). -/
def State.passesRun (s : State) : Bool :=
  s.pwr.mode == .startup || s.pwr.mode == .halter || s.pwr.mode == .idle || s.pwr.mode == .active

/-- `CFG_CRC_PASS` (R413): a pass ends. The operands are what a corrupted item adds to each CRC; 0 leaves it as the
items give it. -/
def execCfgCrcPass (flipShared flipLocal : Word) (s : State) : Answer :=
  .next <|
    if !s.passesRun then s
    else
      let (a, b) := s.crcNow
      let s := passLocal (b ^^^ flipLocal) (passShared (a ^^^ flipShared) s)
      s.mapReg fun r => { r with passes := r.passes + 1 }

/-- R415: a partition is stale and `F_CFG_STALE` has not been raised for it since its last commit. -/
def State.staleNew (s : State) (part : Partition) : Bool :=
  match part with
  | .shared => s.reg.staleS && !s.reg.lateS
  | .localPart => s.reg.staleL && !s.reg.lateL

/-- R415: the condition of `F_CFG_STALE` of a partition begins. -/
def staleLate (part : Partition) (s : State) : State :=
  s.mapReg fun r =>
    match part with
    | .shared => { r with lateS := true }
    | .localPart => { r with lateL := true }

/-- `CFG_STALE_TIMEOUT` (R415): a partition has been stale for longer than `CFG_STALE_MAX.MS`. -/
def execCfgStaleTimeout (part : Partition) (s : State) : Answer :=
  .next <|
    if s.staleNew part && s.reg.committed && s.passesRun then
      raise fCfgStale (b1 (match part with
        | .shared => 0
        | .localPart => 1)) (staleLate part s)
    else s

end Sys2Proof.Machine
end

