-- ==== Sys2Proof/Machine/Faults.lean ====
section
/-!
DEFINITION. Reading and acknowledging faults (`12_commands_system.md`, R290 to R292; `15_fault_handling.md`, R360, R370,
R371) and the release of FAULT_N.
-/
namespace Sys2Proof.Machine

/-! ### `FAULT_READ` (R290) -/

/-- R290: `RESULT`. -/
def State.faultResult (s : State) : Dword :=
  BitVec.ofNat 64 (s.flt.src.toNat + at_ (flag s.flt.valid) 8 1 + at_ (flag s.flt.ovf) 9 1 + at_ s.highestSev 10 4)

/-- R290: the 64-byte record. -/
def State.faultRecord (s : State) : List Byte :=
  padTo 64 (b8 s.flt.ts ++ b1 s.flt.src.toNat ++ b1 (flag s.flt.valid + 2 * flag s.flt.ovf) ++ b2 0
    ++ leBytes s.flt.sticky.toNat 20)

/-- `FAULT_READ` (R290). -/
def execFaultRead (sub : Sub) (dest : Dword) (s : State) : Answer :=
  ringCmd (.faultRead sub dest) (fun s => reply 0xA0 sub stOk s.faultResult [(0, dest, s.faultRecord)] s) s

/-! ### Conditions that persist (R358) -/

/-- R358: the condition of a source persists. Sources whose home rule names only an occurrence have none. -/
def State.persists (s : State) (src : Nat) : Bool :=
  if src = fHostHeartbeat then s.saf.hbExp
  else if src = fTeamTime then s.tm.leftSync && s.actsFollower
  else if src = fTeamVersion then s.tm.excluded
  else if src = fTeamCfg then s.tm.divergent
  else if src = fLeadLost then s.tm.noLead
  else if src = fFsyncLost then s.frm.src == .fsync && s.frm.sync.state == .holdover
  else if src = fHeadroom then s.hk.lowRounds == 3
  else if src = fCurbLimit then s.pho.limited
  else if src = fDerateActive then s.pho.derated
  else if src = fTempShutdown then !s.hk.cool || s.hk.latchOff
  else if src = fTsensFail then s.hk.ch.any HkChan.failed
  else if src = fDramHot then (s.hkCh 18).cond
  else if src = fSupplyRange then
    [21, 26, 28, 29, 30].any (fun c => (s.hkCh c).cond) || s.hk.rotCh.any HkChan.cond
  else if src = fVledRange then (s.hkCh 27).cond
  else if src = fHallmarkPixel then s.saf.notIntact != 0
  else if src = fSinCross then s.saf.sin.any SinState.crossOn
  else if src = fSinStuck then s.saf.sin.any SinState.stuckOn
  else if src = fDarkPin then s.saf.darkPin
  else if src = fCanTimeout then s.saf.canOut
  else if src = fCfgCrc then s.reg.mismS || s.reg.mismL
  else if src = fCfgStale then s.reg.lateS || s.reg.lateL
  else if src = fLogFull then s.sec.fullNow
  else s.flt.cond.getLsbD src

/-! ### `FAULT_ACK` (R291, R292, R371) -/

/-- R150: the acknowledgement of a pixel source clears its sticky bits at the next tick. -/
def pixelAck (src : Nat) (s : State) : State :=
  if src = fPixelOpen then s.mapHlt fun h => { h with clear := h.clear ||| 1 }
  else if src = fPixelShort then s.mapHlt fun h => { h with clear := h.clear ||| 2 }
  else if src = fPixelStuck then s.mapHlt fun h => { h with clear := h.clear ||| 4 }
  else s

/-- R371: what an acknowledgement releases at once. -/
def ackRelease (src : Nat) (s : State) : State :=
  let s := heldSet src false (latchRelease src s)
  let s := if src = fHallmarkPixel then s.mapSaf fun f => { f with pixHeld := 0 } else s
  let s := if src = fTileOvercurrent then s.mapArr fun a => { a with rel159 := a.hw159 } else s
  let s := s.mapScn fun c =>
    { c with runs := c.runs.map fun r =>
        if r.hold = some src ∧ (src = fLayerLate ∨ src = fScalerOverrun) then { r with hold := none } else r }
  let s := if src = fMemUe then s.mapPool fun p => { p with mapUe := [] } else s
  pixelAck src s

/-- `ARR_ISOL_HW` as 32 bytes. -/
def isolBytes (m : BitVec 256) : List Byte := leBytes m.toNat 32

/-- R292: the end of an acknowledgement that clears isolations: its touchmark is written. -/
def ackStuckDone (j : FlashJob) (src : Byte) (s : State) : State :=
  let old := crc32 (isolBytes (s.arr.hw154 ||| s.arr.hw159))
  let s := ackRelease src.toNat (s.mapArr fun a => { a with rel154 := a.hw154 })
  let new := crc32 (isolBytes s.arr.hw159)
  flashFinish j stOk 1 (touchmark 0x60 old new s)

/-- `FAULT_ACK`. -/
def faultAckBody (sub : Sub) (source : Byte) (s : State) : State :=
  let src := source.toNat
  if 0x9F < src then finish 0xA1 sub stBadOperand 0 s
  else if s.persists src then finish 0xA1 sub stWrongState 0 s
  else if src = fPixelStuck ∧ s.sessionOk sub then
    if s.logFull then finish 0xA1 sub stLogFull 0 s else flashStart sub 3 (.ackStuck source) s
  else finish 0xA1 sub stOk 0 (ackRelease src s)

/-- `FAULT_ACK` (R291, R292, R371). -/
def execFaultAck (sub : Sub) (source : Byte) (s : State) : Answer :=
  ringCmd (.faultAck sub source) (faultAckBody sub source) s

/-! ### Releases without a command -/

/-- `DEGRADE_RELEASE` (R360): the source's condition has been absent for 100 ms. -/
def execDegradeRelease (source : Byte) (s : State) : Answer :=
  .next <|
    let src := source.toNat
    if 0x9F < src ∨ s.persists src then s
    else s.mapFlt fun f => { f with degrade := bitPut f.degrade src false }

/-- `FAULT_N_RELEASE` (R370). -/
def execFaultNRelease (s : State) : Answer := .next (pinRelease s)

end Sys2Proof.Machine
end

