-- ==== Sys2Proof/Machine/HostPort.lean ====
section
/-!
DEFINITION. The host port (`09_lanes_and_host_port.md`, R192 to R202): configuration space, link up and down, L1, AER, PTM
(`13_team.md`, R310), and the moderation timers of the queues (`10_rings_and_doorbells.md`, R230).
-/
namespace Sys2Proof.Machine

/-! ### Configuration space (R193, R194; assumptions 13, 16) -/

/-- Bits `lo` to `lo + len - 1` of a word replaced by a value. -/
def bitsPut (w : Word) (lo len v : Nat) : Word :=
  let m := BitVec.ofNat 32 ((2 ^ len - 1) * 2 ^ lo)
  (w &&& ~~~m) ||| BitVec.ofNat 32 (at_ v lo len)

/-- R183, R193: the slot clock is used: common clock. -/
def State.commonClock (s : State) : Bool := !s.idn.clkMode && !s.idn.refclkSel

/-- The word at offset `o` of the configuration space: the fields of Tables 09.7 and 09.8 and those that other fields of the
state hold; the rest as the standard prescribes (PRESUMED, assumption 16). -/
def State.cfgRead (s : State) (o : Nat) : Word :=
  let b := s.bus
  let w := s.cfgPlain o
  if o = 0x00 then 0x10481F3D
  else if o = 0x04 then bitsPut w 1 2 (flag b.memEn + 2 * flag b.master)
  else if o = 0x08 then 0x038000B1
  else if o = 0x0C then bitsPut w 16 8 0
  else if o = 0x10 then b.bar0
  else if o = 0x14 ∨ o = 0x1C then 0
  else if o = 0x18 then b.bar2
  else if o = 0x20 then lo32 b.bar4 ||| 0xC
  else if o = 0x24 then hi32 b.bar4
  else if o = 0x2C then word (s.subsystem.1.toNat + 2 ^ 16 * s.subsystem.2.toNat)
  else if o = 0x3C then bitsPut w 8 8 0
  else if o = Config.pcieCap + 0x04 then bitsPut (bitsPut w 0 3 2) 9 3 6
  else if o = Config.pcieCap + 0x0C then bitsPut (bitsPut (bitsPut (bitsPut w 0 4 4) 4 6 s.maxWidth) 10 2 2) 15 3 3
  else if o = Config.pcieCap + 0x10 then
    bitsPut (bitsPut (bitsPut (bitsPut w 1 1 (flag b.aspmL1)) 16 4 b.speed) 20 6 b.width) 28 1 (flag s.commonClock)
  else if o = Config.msixCap then bitsPut w 16 16 (31 + at_ (flag b.funcMask) 14 1 + at_ (flag b.msixEn) 15 1)
  else if o = Config.msixCap + 4 then 0x802
  else if o = Config.msixCap + 8 then 0xC02
  else if o = Config.pmCap + 4 then bitsPut w 0 2 (if b.d3 then 3 else 0)
  else if o = Config.ptmCap + 8 then bitsPut w 0 1 (flag b.ptmEn)
  else if o = Config.aerCap then bitsPut w 0 16 1
  else if o = Config.aerCap + 4 then b.aerUnc
  else if o = Config.aerCap + 0x10 then b.aerCor
  else if o = Config.dsnCap then bitsPut w 0 16 3
  else if o = Config.dsnCap + 4 then lo32 s.serialNo
  else if o = Config.dsnCap + 8 then hi32 s.serialNo
  else w

/-- The bytes of a write that its byte enables select. -/
def mergeBytes (be : BitVec 4) (old new : Word) : Word :=
  (List.range 4).foldl (fun w k =>
    if be.getLsbD k then bitsPut w (8 * k) 8 (new.toNat / 2 ^ (8 * k) % 256) else w) old

/-- R197: held requests go out when the function may issue them, a message by the masks and the address of that moment (R195). -/
def heldSend (s : State) : State :=
  if s.bus.master && !s.bus.d3 then
    let l := s.bus.held
    l.foldl (fun s o => match o with
      | .msix v _ _ => msixSend v s
      | o => busSend o s) (s.mapBus fun b => { b with held := [] })
  else s

/-- R310: without PTM Enable, or after a DL_Down, the next correction is a step again; until then the counter keeps its last
corrected rate. -/
def ptmHold (s : State) : State :=
  s.mapClk fun c =>
    { (if c.disc = .ptm then c.hold else c) with ptmStep := true, ptmT1 := none }

/-- What a written word brings about. A write of D1 or D2, which the function lacks (R192), leaves the power state. -/
def cfgPut (o : Nat) (w : Word) (s : State) : State :=
  let bit (k : Nat) := w.getLsbD k
  let keep (s : State) : State :=
    s.mapBus fun b => { b with cfg := alPut b.cfg o ((cfgRow o).put (s.cfgPlain o) w) }
  if o = 0x04 then heldSend ((keep s).mapBus fun b => { b with memEn := bit 1, master := bit 2 })
  else if o = 0x10 then s.mapBus fun b => { b with bar0 := w &&& 0xFFFF0000 }
  else if o = 0x18 then s.mapBus fun b => { b with bar2 := w &&& 0xFFFFF000 }
  else if o = 0x20 then
    s.mapBus fun b => { b with bar4 := (b.bar4 &&& 0xFFFFFFFF00000000) ||| (w &&& 0xF8000000).zeroExtend 64 }
  else if o = 0x24 then
    s.mapBus fun b => { b with bar4 := (b.bar4 &&& 0xFFFFFFFF) ||| (w.zeroExtend 64 <<< 32) }
  else if o = 0x14 ∨ o = 0x1C then s
  else if o = Config.pcieCap + 0x10 then (keep s).mapBus fun b => { b with aspmL1 := bit 1 }
  else if o = Config.msixCap then msixRelease ((keep s).mapBus fun b => { b with funcMask := bit 30, msixEn := bit 31 })
  else if o = Config.pmCap + 4 then heldSend ((keep s).mapBus fun b => { b with d3 := if bit 0 == bit 1 then bit 0 else b.d3 })
  else if o = Config.aerCap + 4 then s.mapBus fun b => { b with aerUnc := b.aerUnc &&& ~~~w }
  else if o = Config.aerCap + 0x10 then s.mapBus fun b => { b with aerCor := b.aerCor &&& ~~~w }
  else if o = Config.ptmCap + 8 then
    let s := (keep s).mapBus fun b => { b with ptmEn := bit 0 }
    if bit 0 then s else ptmHold s
  else keep s

/-- `CONFIGURATION_REQUEST` (R201): retry status until the configuration space is ready. -/
def execConfigurationRequest (offset : BitVec 12) (write : Option (Word × BitVec 4)) (s : State) : Answer :=
  .next <|
    let o := offset.toNat / 4 * 4
    if !s.bus.linkUp then s
    else if !s.pwr.configReady then busReply .retryStatus s
    else match write with
      | none => busReply (.cfgData (s.cfgRead o)) s
      | some (v, be) => busReply .cfgDone (cfgPut o (mergeBytes be (s.cfgRead o &&& ~~~(cfgRow o).clear) v) s)

/-- `CONFIG_SPACE_READY` (R201). -/
def execConfigSpaceReady (s : State) : Answer :=
  .next (if s.started then s.mapPwr fun p => { p with configReady := true } else s)

/-! ### The link (R196, R201) -/

/-- R196: the configuration space, the BARs and the MSI-X structures after a loss of the link. -/
def Bus.down (b : Bus) : Bus :=
  { b with
    linkUp := false, width := 0, l1 := false, memEn := false, master := false, d3 := false, bar0 := 0, bar2 := 0
    bar4 := 0, aerUnc := 0, aerCor := 0, ptmEn := false, aspmL1 := false, msixEn := false, funcMask := false, cfg := []
    msix := List.replicate 32 ⟨0, 0, true⟩, pba := 0, held := [] }

/-- The registers of the ring pairs and of the event ring (R210). -/
def isRingReg (o : Nat) : Bool := decide (0x400 ≤ o ∧ o ≤ 0x810)

/-- R196: the ring pairs and the event ring are reset; commands that execute run on without completions. -/
def ringsDown (s : State) : State :=
  let s := s.mapReg fun r =>
    { r with shadow := r.shadow.filter fun e => !isRingReg e.1, force := r.force.filter fun e => !isRingReg e.1 }
  let s := ringsSync (cfgTouch false true s)
  s.mapRng fun r =>
    { r with
      q := r.q.map fun x =>
        { x with sqTail := 0, sqHead := 0, cqTail := 0, cqHead := 0, cqPhase := true, sqIndex := 0, cqIndex := 0
                 sqLate := none, cqLate := none }
      eq := { r.eq with tail := 0, head := 0, phase := true, lost := 0, lostFlag := false, index := 0, late := none } }

/-- R262: the session of this engine's own host ends. -/
def hostSessionEnd (s : State) : State :=
  match s.sec.session with
  | some e => if e.origin.isNone then sessionEnd s else s
  | none => s

/-- R209: no lane of the link holds its lock while the link is down. -/
def lanesDown (s : State) : State := (List.range s.pcieLanes).foldl (fun s n => laneQuiet n s) s

/-- `LINK_DOWN` (R196). -/
def execLinkDown (s : State) : Answer :=
  .next <|
    if !s.bus.linkUp then s
    else
      let s := ringsDown (ptmHold ((lanesDown (s.mapBus Bus.down)).mapClk fun c => { c with ptmCtx := false }))
      raise fLinkDown [] (hostSessionEnd s)

/-- R192, R185: a speed and a width that the link can have. -/
def State.linkOk (s : State) (speed width : Nat) : Bool :=
  let top := if s.pwr.mode == .halter then 1 else 4
  decide (1 ≤ speed ∧ speed ≤ top) && [1, 2, 4].contains width && decide (width ≤ s.maxWidth)

/-- `LINK_UP` (R201): the link has trained, or has changed its speed or width. Whether the board reverses the lanes of a link
strapped wider than x1 is a free value at each training (assumption 81). A lane outside the link has no lock. -/
def execLinkUp (speed width : Nat) (s : State) : Answer :=
  .next <|
    if !s.started || !s.linkOk speed width then s
    else
      let (k, s) := s.draw
      let turn := decide (1 < s.maxWidth) && Config.freePick k % 2 == 1
      let s := s.mapBus fun b => { b with linkUp := true, speed := speed, width := width, reversed := turn }
      (s.linkLanes width).foldl (fun s n => laneTrain speed n s) (lanesDown s)

/-- `L1_ENTRY` (R198). -/
def execL1Entry (s : State) : Answer :=
  .next <|
    if s.bus.linkUp && s.bus.aspmL1 && !s.bus.l1 then
      (busReply .requestL1 s).mapBus fun b => { b with l1 := true }
    else s

/-! ### AER (R199) -/

/-- `AER_ERROR_LOGGED` (R199): correctable errors raise above 16 within 1 s. Which error it is, and so its status bit, is a free
value (assumption 16). -/
def execAerErrorLogged (correctable : Bool) (s : State) : Answer :=
  .next <|
    if !correctable then aerRaise s
    else
      let (k, s) := s.draw
      let bit := Config.freePick k % 32
      let l := (s.bus.corr.filter fun t => decide (s.clk.loc < t + 1000000000)) ++ [s.clk.loc]
      let s := s.mapBus fun b => { b with corr := l, aerCor := b.aerCor ||| (1#32 <<< bit) }
      if 16 < l.length then raise fLinkAer [] s else s

/-! ### PTM (R200, R310) -/

/-- R200: PTM dialogs run; in SLEEP the clocks of the host port are off (R424), and in D3hot the engine issues no request
(R197). -/
def State.ptmRuns (s : State) : Bool :=
  s.started && s.pwr.mode != .sleep && s.bus.linkUp && !s.bus.d3 && s.bus.ptmEn && decide (s.clk.disc = .ptm)

/-- `PTM_DIALOG` (R200). Bus Master Enable does not hold its request back: R197 names memory requests only. -/
def execPtmDialog (s : State) : Answer :=
  .next <|
    if s.ptmRuns then (busReply .ptmRequest s).mapClk fun c => { c with ptmT1 := some c.team } else s

/-- R310: the offset of a dialog. -/
def ptmOffset (t1 t4 m d : Dword) : Int :=
  let h := m + d + BitVec.ofInt 64 (((t4 - t1).toInt - d.toInt) / 2)
  (t4 - h).toInt

/-- R310: a dialog steps or slews the counter. -/
def ptmCorrect (theta : Int) (s : State) : State :=
  if s.clk.ptmStep then
    timeJump (-theta) 1 (s.mapClk fun c => { c.undisciplined with ptmStep := false, ptmAt := c.loc })
  else
    s.mapClk fun c =>
      { c.slewBy (-theta) with ptmSettled := c.ptmSettled || decide (theta.natAbs < 20) }

/-- `PTM_RESPONSE` (R310): the first dialog after the return of a link that was lost only restarts the context (R200). -/
def execPtmResponse (masterTime propDelay : Dword) (s : State) : Answer :=
  .next <| match s.clk.ptmT1 with
    | none => s
    | some t1 =>
      if !s.ptmRuns then s
      else
        let ctx := s.clk.ptmCtx
        let theta := ptmOffset t1 s.now masterTime propDelay
        let s := s.mapClk fun c => { c with ptmT1 := none, ptmCtx := true }
        if ctx then ptmCorrect theta s else s

/-! ### Moderation timers (R230) -/

/-- `CQ_MOD_TIMEOUT` (R230). -/
def execCqModTimeout (q : QueueId) (s : State) : Answer :=
  .next <| match q with
    | .cq n =>
      if bits (s.cfg (ringReg n.val 0x18)) 8 16 ≠ 0 ∧ 0 < (s.ring n.val).modCount then
        mapRing n.val (fun r => { r with modCount := 0 }) (msixSend (bits (s.cfg (ringReg n.val 0x14)) 8 5) s)
      else s
    | .eq =>
      if bits (s.cfg 0x810) 8 16 ≠ 0 ∧ 0 < s.rng.eq.modCount then
        (msixSend (bits (s.cfg 0x80C) 8 5) s).mapRng fun r => { r with eq := { r.eq with modCount := 0 } }
      else s

end Sys2Proof.Machine
end

