-- ==== Sys2Proof/Machine/Image.lean ====
section
/-!
DEFINITION. Firmware images and boot records in flash (`20_security_update.md`, R444, R449, R451 to R454): the fields of
an image, its checks, and the writing of a boot record.
-/
namespace Sys2Proof.Machine

/-! ### Slots -/

/-- The size of an image slot (Table 20.3). -/
def slotSize : Nat := 6291456

/-- The bytes of a slot that differ from 0xFF. -/
def State.slotCells (s : State) (b : Bool) : List Host.Cell := if b then s.fls.slotB else s.fls.slotA

/-- `n` bytes of a slot. -/
def State.slotBytes (s : State) (b : Bool) (a n : Nat) : List Byte := cellsGet 0xFF (s.slotCells b) a n

/-- Change the cells of a slot. -/
def mapSlot (b : Bool) (f : List Host.Cell → List Host.Cell) (s : State) : State :=
  s.mapFls fun x => if b then { x with slotB := f x.slotB } else { x with slotA := f x.slotA }

/-- A field of a slot. -/
def State.slotField (s : State) (b : Bool) (a n : Nat) : Nat := ofLE (s.slotBytes b a n)

/-- A slot is blank: bytes 0 to 3 are 0xFF (as R463 has it for the settings regions). -/
def State.slotBlank (s : State) (b : Bool) : Bool := s.slotField b 0 4 == 0xFFFFFFFF

/-- R285: the version of a slot's image, 0 when it is blank. -/
def State.slotVersion (s : State) (b : Bool) : Nat := if s.slotBlank b then 0 else s.slotField b 6 2

/-! ### The image format (R451, R452) -/

/-- A section of an image (Table 20.7). -/
structure Section where
  kind   : Nat
  offset : Nat
  length : Nat
  hash   : List Byte
  resOk  : Bool
  deriving DecidableEq, Repr

/-- Entry `k` of the section table. -/
def State.sectionAt (s : State) (b : Bool) (k : Nat) : Section :=
  let a := 128 + 48 * k
  { kind := s.slotField b a 1, offset := s.slotField b (a + 4) 4, length := s.slotField b (a + 8) 4
    hash := s.slotBytes b (a + 16) 32, resOk := s.slotField b (a + 1) 3 == 0 && s.slotField b (a + 12) 4 == 0 }

/-- The eight entries. -/
def State.sections (s : State) (b : Bool) : List Section := (List.range 8).map fun k => s.sectionAt b k

/-- The section of a type. -/
def State.sectionOf (s : State) (b : Bool) (kind : Nat) : Option Section :=
  (s.sections b).find? fun x => x.kind == kind

/-- The bytes of a section. -/
def State.sectionBytes (s : State) (b : Bool) (x : Section) : List Byte := s.slotBytes b x.offset x.length

/-- Table 20.7: the longest section of a type. -/
def sectionMax (kind : Nat) : Nat := if kind = 1 then 65536 else 262144

/-- R452, check 1. -/
def State.headerOk (s : State) (b : Bool) : Bool :=
  let f := s.slotField b
  f 0 4 == 0x49564C46 && f 4 2 == 1 && f 9 1 == Config.romVersion.toNat && f 10 2 == 0
  && f 12 4 % 256 == 0 && decide (1024 ≤ f 12 4 ∧ f 12 4 ≤ slotSize)
  && (s.slotBytes b 16 48).all (· == 0) && (s.slotBytes b 576 448).all (· == 0)
  && (s.sections b).all Section.resOk

/-- R444, R452, check 2. -/
def State.keyOk (s : State) (b : Bool) : Bool :=
  if s.rootBlank then !s.lockSet else Config.sha256 (s.slotBytes b 64 64) == s.idn.rootKey

/-- R452, check 3. -/
def State.sigOk (s : State) (b : Bool) : Bool :=
  Config.ecdsaOk (s.slotBytes b 64 64) (s.slotBytes b 0 512) (s.slotBytes b 512 64)

/-- The anti-rollback counter (Table 20.2). -/
def State.rollback (s : State) : Nat := popcount s.idn.fuses

/-- `SEC_VERSION` of a slot's image. -/
def State.slotSec (s : State) (b : Bool) : Nat := s.slotField b 8 1

/-- Two byte ranges overlap. -/
def rangesMeet (x y : Section) : Bool :=
  decide (x.offset < y.offset + y.length) && decide (y.offset < x.offset + x.length)

/-- R452, check 5. -/
def State.tableOk (s : State) (b : Bool) : Bool :=
  let l := (s.sections b).filter fun x => x.kind != 0
  let count (k : Nat) := (l.filter fun x => x.kind == k).length
  [2, 3, 4, 5].all (fun k => count k == 1) && decide (count 1 ≤ 1) && l.all (fun x => decide (x.kind ≤ 5))
  && l.all (fun x =>
      x.offset % 256 == 0 && decide (1024 ≤ x.offset ∧ 1 ≤ x.length ∧ x.length ≤ sectionMax x.kind)
      && decide (x.offset + x.length ≤ s.slotField b 12 4))
  && l.zipIdx.all fun x => l.zipIdx.all fun y => x.2 == y.2 || !rangesMeet x.1 y.1

/-- What a check of an image finds. -/
inductive ImageVerdict where
  | ok
  | bad (reason : Nat)
  | rollback
  deriving DecidableEq, Repr

/-- R452: the checks of the manifest, step 3 of Table 19.9. -/
def State.manifest (s : State) (b : Bool) : ImageVerdict :=
  if !s.headerOk b then .bad 1
  else if !s.keyOk b || !s.sigOk b then .bad 2
  else if s.slotSec b < s.rollback then .rollback
  else if !s.tableOk b then .bad 1
  else .ok

/-- The section's hash is that of its bytes. -/
def State.sectionOk (s : State) (b : Bool) (x : Section) : Bool := Config.sha256 (s.sectionBytes b x) == x.hash

/-- The hashes of the sections of given types. -/
def State.hashesOk (s : State) (b : Bool) (kinds : List Nat) : Bool :=
  (s.sections b).all fun x => !kinds.contains x.kind || s.sectionOk b x

/-- A store section as the 256 KiB store it is loaded into, zeros beyond its length. -/
def State.storeOf (s : State) (b : Bool) (kind a : Nat) : Byte :=
  match s.sectionOf b kind with
  | some x => if a < x.length then cellGet 0xFF (s.slotCells b) (x.offset + a) else 0
  | none => 0

/-- R348: the present fallback scenes of a slot that fail their check. -/
def State.badScenes (s : State) (b : Bool) : List Nat :=
  let st := s.storeOf b 4
  (List.range 8).filter fun n => scenePresent st n && !sceneOk st n

/-- R338, R348, R436, R452: the store checks of step 8. -/
def State.storesOk (s : State) (b : Bool) : Bool :=
  hallmarkOk (s.storeOf b 5) (s.storeOf b 4) && (s.badScenes b).isEmpty

/-- R450, R452: the report of a failed check of a slot. -/
def imageFault (b : Bool) (v : ImageVerdict) (s : State) : State :=
  match v with
  | .ok => s
  | .bad reason => bootImage (flag b) reason 0 s
  | .rollback => raise fRollback (b1 (flag b) ++ b1 (s.slotSec b) ++ b1 s.rollback) s

/-- R454: the patch mask: bit n for a used slot n. -/
def State.patchMask (s : State) (b : Bool) : Half :=
  match s.sectionOf b 1 with
  | none => 0
  | some x => (List.range 16).foldl (fun m n => bitPut m n (s.slotField b (x.offset + 8 * n + 4) 4 != 0)) 0

/-! ### Boot records (R449, R453) -/

/-- R449: the winning boot record. -/
def State.bootRec (s : State) : Option BootRec := (copyWinner BootRec.seq s.bootCopies).map Prod.snd

/-- R449: write a boot record into the copy not in force, with the next `SEQ`. -/
def bootPut (slotB : Bool) (state trial : Nat) (s : State) : State :=
  let r : BootRec := ⟨((s.bootRec.map BootRec.seq).getD 0) + 1, slotB, state, trial⟩
  let i := copyTarget BootRec.seq s.bootCopies
  s.mapFls fun x => { x with boot := x.boot.set i r.bytes }

/-- R453: fuses are blown, lowest first, until `n` are blown. -/
def blowFuses (n : Nat) (s : State) : State :=
  s.mapIdn fun i =>
    { i with fuses := (List.range 64).foldl (fun f k => if popcount f < n then bitPut f k true else f) i.fuses }

/-- R284: the slot that an update writes: not that of the running image; in halter mode, not the confirmed one. -/
def State.inactive (s : State) : Bool :=
  match s.fls.run with
  | some b => !b
  | none => match s.bootRec with
    | some r => if r.state = 0 then !r.slotB else r.slotB
    | none => true

/-- R459: `EV_UPDATE_STATE`. -/
def updateEvent (state : Nat) (slot : Bool) (trial revert : Nat) (s : State) : State :=
  emit evUpdateState
    (b1 state ++ b1 (flag slot) ++ b2 (s.slotVersion slot) ++ b1 trial ++ b1 revert) s

end Sys2Proof.Machine
end

