-- ==== Sys2Proof/Machine/UpdateCmds.lean ====
section
/-!
DEFINITION. Field update (`12_commands_system.md`, R284, R285; `20_security_update.md`, R455 to R459) and the watchdogs
of the cores (`01_engine_at_a_glance.md`, R17, R18).
-/
namespace Sys2Proof.Machine

/-- Change the update. -/
def mapUpd (f : Update → Update) (s : State) : State := s.mapFls fun x => { x with upd := f x.upd }

/-! ### `UPDATE_OPEN` (R284, R456) -/

/-- R437, R444, R456: `UPDATE_OPEN` is refused. -/
def State.openRefused (s : State) : Bool := s.fls.trial || s.pwr.otpFailed || (s.lockSet && s.rootBlank)

/-- The erase of the inactive slot begins. -/
def eraseStart (sub : Sub) (s : State) : State := keepRunning sub (mapUpd (fun u => { u with waiting := some sub }) s)

/-- `UPDATE_OPEN`. -/
def updateOpenBody (sub : Sub) (imageLength : Word) (s : State) : State :=
  let n := imageLength.toNat
  if n < 256 ∨ slotSize < n ∨ n % 256 ≠ 0 then finish 0x80 sub stBadOperand 0 s
  else if s.fls.upd.state = 1 ∨ s.fls.upd.waiting.isSome then finish 0x80 sub stBusy 0 s
  else if s.openRefused then finish 0x80 sub stWrongState 0 s
  else
    let closed := s.fls.upd.state = 2
    let s := mapUpd (fun u => { u with length := n, waiting := some sub }) s
    if closed then flashStart sub 6 .updCancel s else eraseStart sub s

/-- `UPDATE_OPEN` (R284). -/
def execUpdateOpen (sub : Sub) (imageLength : Word) (s : State) : Answer :=
  ringCmd (.updateOpen sub imageLength) (updateOpenBody sub imageLength) s

/-- R456: the pending try is cancelled: the record names the slot that was running, confirmed; then the erase. -/
def updCancelDone (j : FlashJob) (s : State) : State :=
  let i := s.inactive
  let s := updateEvent 0 i 0 0 (mapUpd (fun u => { u with state := 0 }) (bootPut (!i) 0 0 s))
  match j.sub with
  | some sub => eraseStart sub s
  | none => s

/-- R448: how a failed erase leaves the slot is a free choice between its old content and none. -/
def eraseFailed (b : Bool) (s : State) : State :=
  let (k, s) := s.draw
  if Config.freePick k % 2 = 0 then s else mapSlot b (fun _ => []) s

/-- `UPDATE_ERASE_DONE` (R284): the erase of the inactive slot ends. -/
def execUpdateEraseDone (ok : Bool) (s : State) : Answer :=
  .next <| match s.fls.upd.waiting with
    | none => s
    | some sub =>
      if s.fls.jobs.any fun j => j.act == .updCancel then s
      else
        let b := s.inactive
        let s := mapUpd (fun u => { u with waiting := none }) s
        if ok then
          let s := mapUpd (fun u => { u with state := 1, written := [] }) (mapSlot b (fun _ => []) s)
          finish 0x80 sub stOk (BitVec.ofNat 64 (flag b + 2 ^ 32 * slotSize)) (updateEvent 1 b 0 0 s)
        else finish 0x80 sub stUpdFlash 0 (bootImage (flag b) 6 0 (eraseFailed b s))

/-! ### `UPDATE_WRITE` -/

/-- The 256-byte pages of a range, with their bytes. -/
def pagesOf (offset : Nat) (bs : List Byte) : List (Nat × List Byte) :=
  (List.range (bs.length / 256)).map fun k => (offset / 256 + k, (bs.drop (256 * k)).take 256)

/-- R284: a page already written holds different bytes. -/
def State.pageConflict (s : State) (p : Nat × List Byte) : Bool :=
  s.fls.upd.written.contains p.1 && s.slotBytes s.inactive (256 * p.1) 256 != p.2

/-- R284: the pages that are not written yet are programmed. -/
def programPages (l : List (Nat × List Byte)) (s : State) : State :=
  let b := s.inactive
  (l.filter fun p => !s.fls.upd.written.contains p.1).foldl (fun s p =>
    mapUpd (fun u => { u with written := u.written ++ [p.1] })
      (mapSlot b (fun c => cellsPut 0xFF c (256 * p.1) p.2) s)) s

/-- R284: what an `UPDATE_WRITE` with these pages completes with. -/
def updWriteDone (j : FlashJob) (offset : Nat) (bs : List Byte) (s : State) : State :=
  let l := pagesOf offset bs
  if l.any s.pageConflict then flashFinish j stUpdConflict 0 s else flashFinish j stOk 0 (programPages l s)

/-- R235, R284: what an `UPDATE_WRITE` whose host read failed completes with, once its pages are programmed. -/
def updPartialDone (j : FlashJob) (offset : Nat) (bs : List Byte) (s : State) : State :=
  let l := pagesOf offset bs
  flashFinish j stMemError 0 (if l.any s.pageConflict then s else programPages l s)

/-- R284: a range whose pages are all written, with these bytes or others, programs nothing. -/
def updateProgram (sub : Sub) (offset : Nat) (bs : List Byte) (s : State) : State :=
  let l := pagesOf offset bs
  if l.any s.pageConflict then finish 0x81 sub stUpdConflict 0 s
  else if l.all fun p => s.fls.upd.written.contains p.1 then finish 0x81 sub stOk 0 s
  else flashStart sub (flag s.inactive) (.updWrite offset bs) s

/-- R235: after a failed host read, the pages whose bytes have arrived are programmed. -/
def updatePartial (sub : Sub) (offset : Nat) (bs : List Byte) (s : State) : State :=
  let l := pagesOf offset bs
  if l.any s.pageConflict || l.all fun p => s.fls.upd.written.contains p.1 then finish 0x81 sub stMemError 0 s
  else flashStart sub (flag s.inactive) (.updPartial offset bs) s

/-- `UPDATE_WRITE`. -/
def updateWriteBody (sub : Sub) (offset : Word) (host : Dword) (length : Word) (data : HostRead) (s : State) : State :=
  let off := offset.toNat
  let n := length.toNat
  if off % 256 ≠ 0 ∨ n % 256 ≠ 0 ∨ 65536 < n then finish 0x81 sub stBadOperand 0 s
  else if s.fls.upd.state ≠ 1 then finish 0x81 sub stWrongState 0 s
  else if s.fls.upd.length ≤ off ∨ s.fls.upd.length < off + n then finish 0x81 sub stBadOperand 0 s
  else if n = 0 then finish 0x81 sub stOkZero 0 s
  else
    let s := readFailed sub data (hostRead sub host n s)
    match data with
    | .fail bs => updatePartial sub off (bs.take n) s
    | .ok bs => updateProgram sub off (padTo n bs) s

/-- `UPDATE_WRITE` (R284). -/
def execUpdateWrite (sub : Sub) (offset : Word) (host : Dword) (length : Word) (data : HostRead) (s : State) : Answer :=
  ringCmd (.updateWrite sub offset host length data) (updateWriteBody sub offset host length data) s

/-! ### Writes that are cut short (R448, R458) -/

/-- R448, R458: a copy whose write was cut short: its old content, or the first bytes of the new one, `n` of them less one
at least, in erased flash. -/
def cutCopy (k n : Nat) (new old : List Byte) : List Byte := if k % 2 = 0 then old else new.take (k / 2 % n)

/-- The settings copy that a write in progress programs. -/
def State.jobSettings (s : State) (j : FlashJob) : List Byte :=
  s.settingsImage (s.settingsNext (j.act.key s) (j.act.edit s s.sec.set))

/-- The boot record that a write in progress programs. -/
def State.jobBoot (s : State) (j : FlashJob) : BootRec :=
  let seq := ((s.bootRec.map BootRec.seq).getD 0) + 1
  match j.act with
  | .updClose => ⟨seq, s.inactive, 1, 0⟩
  | .updCancel => ⟨seq, !s.inactive, 0, 0⟩
  | .bootTrial b n => ⟨seq, b, 2, n⟩
  | .bootRevert b => ⟨seq, b, 0, 0⟩
  | .bootOther b => ⟨seq, b, 0, 0⟩
  | _ => ⟨seq, s.fls.run.getD false, 0, 0⟩

/-- Table 20.9: a boot record of which fewer than 60 bytes are programmed, or its old content. -/
def cutBoot (k : Nat) (r : BootRec) (old : List Byte) : List Byte :=
  if k % 2 = 0 then old else (r.bytes.take (k / 2 % 60) ++ List.replicate 64 0xFF).take 64

/-- Table 20.9: of the pages of an `UPDATE_WRITE` the first `n` bytes are programmed. -/
def pagesCut (n : Nat) (l : List (Nat × List Byte)) (s : State) : State :=
  let b := s.inactive
  (l.zipIdx.filter fun e => !s.fls.upd.written.contains e.1.1).foldl (fun s e =>
    mapSlot b (fun c => cellsPut 0xFF c (256 * e.1.1) (e.1.2.take (n - 256 * e.2))) s) s

/-- R448, R458: what a write that has not passed its compare leaves in the flash is a free choice; the record in force is
untouched, and a touchmark cut short is discarded (R467). -/
def jobCut (j : FlashJob) (s : State) : State :=
  let copy := s.flashCopy j.kind
  let (k, s) := s.draw
  let k := Config.freePick k
  match j.kind, j.act with
  | 2, .calStore r => s.mapFls fun x => { x with cals := x.cals.modify copy (cutCopy k 1049632 (s.calBytes r)) }
  | 4, _ => s.mapFls fun x => { x with sets := x.sets.modify copy (cutCopy k 4096 (s.jobSettings j)) }
  | 6, _ => s.mapFls fun x => { x with boot := x.boot.modify copy (cutBoot k (s.jobBoot j)) }
  | _, .updWrite offset bs => pagesCut (k % (bs.length + 1)) (pagesOf offset bs) s
  | _, .updPartial offset bs => pagesCut (k % (bs.length + 1)) (pagesOf offset bs) s
  | _, _ => s

/-- R458, Table 20.9: a reset or a loss of power cuts short the flash write and the erase in progress. -/
def writesCut (s : State) : State :=
  let erasing := s.fls.upd.waiting.isSome && !s.fls.jobs.any fun j => j.act == .updCancel
  let s := if erasing then eraseFailed s.inactive s else s
  match s.fls.jobs with
  | j :: _ => jobCut j s
  | [] => s

/-! ### `UPDATE_CLOSE`, `UPDATE_CONFIRM`, `UPDATE_STATUS` (R285, R442, R456) -/

/-- R442, R456: the verdict on the manifest in halter mode. -/
def closeCheck (sub : Sub) (s : State) : State :=
  let b := s.inactive
  match s.manifest b with
  | .ok => flashStart sub 6 .updClose s
  | .rollback => finish 0x82 sub stUpdRollback 0 (imageFault b .rollback s)
  | .bad _ => finish 0x82 sub stUpdSignature 0 s

/-- `UPDATE_CLOSE`. -/
def updateCloseBody (sub : Sub) (s : State) : State :=
  if s.fls.upd.state ≠ 1 then finish 0x82 sub stWrongState 0 s
  else if s.fls.upd.written.length * 256 < s.fls.upd.length then finish 0x82 sub stUpdIncomplete 0 s
  else if s.pwr.mode = .halter then closeCheck sub s
  else flashStart sub 6 .updClose s

/-- R285, R442, R456: the TRY_NEXT record is written. -/
def updCloseDone (j : FlashJob) (s : State) : State :=
  let b := s.inactive
  let s := mapUpd (fun u => { u with state := 2 }) (bootPut b 1 0 s)
  let s := if s.pwr.mode = .halter then s.mapPwr fun p => { p with failed := 0 } else s
  flashFinish j stOk 0 (updateEvent 2 b 0 0 s)

/-- `UPDATE_CLOSE` (R285). -/
def execUpdateClose (sub : Sub) (s : State) : Answer := ringCmd (.updateClose sub) (updateCloseBody sub) s

/-- `UPDATE_CONFIRM`. -/
def updateConfirmBody (sub : Sub) (s : State) : State :=
  if !s.fls.trial then finish 0x83 sub stWrongState 0 s else flashStart sub 6 .updConfirm s

/-- R285, R453, R456: the record is written; the fuses follow, one in each nanosecond that passes (assumption 12). -/
def updConfirmDone (j : FlashJob) (s : State) : State :=
  let s := bootPut (s.fls.run.getD false) 0 0 s
  mapUpd (fun u => { u with state := 0 }) (s.mapFls fun x => { x with trial := false, blow := j.sub })

/-- R453, R458: the next missing fuse of the confirmed image is blown; with none missing `UPDATE_CONFIRM` completes. -/
def fuseStep (s : State) : State :=
  match s.fls.blow with
  | none => s
  | some sub =>
    if s.rollback < min 64 s.fls.imgSec then blowFuses (s.rollback + 1) s
    else finish 0x83 sub stOk 0 (updateEvent 4 (s.fls.run.getD false) 0 0 (s.mapFls fun x => { x with blow := none }))

/-- `UPDATE_CONFIRM` (R285). -/
def execUpdateConfirm (sub : Sub) (s : State) : Answer := ringCmd (.updateConfirm sub) (updateConfirmBody sub) s

/-- R285: `RESULT` of `UPDATE_STATUS`. -/
def State.updateResult (s : State) : Dword :=
  BitVec.ofNat 64 <|
    s.fls.upd.state % 8 + at_ (flag s.inactive) 3 1 + at_ ((s.bootRec.map BootRec.trial).getD 0) 4 2
    + at_ s.fls.upd.written.length 8 24 + at_ (if s.imageRuns then s.fls.imgVer.toNat else 0) 32 16
    + at_ (s.slotVersion s.inactive) 48 16

/-- `UPDATE_STATUS` (R285). -/
def execUpdateStatus (sub : Sub) (s : State) : Answer :=
  ringCmd (.updateStatus sub) (fun s => finish 0x84 sub stOk s.updateResult s) s

/-! ### Watchdogs (R17, R18, R455) -/

/-- The core runs. -/
def State.coreOn (s : State) (c : CoreId) : Bool :=
  match c with
  | .farrier => s.pwr.farrier
  | .groom => s.pwr.groom
  | .ostler => s.pwr.ostler

/-- A core stops or runs. -/
def coreSet (c : CoreId) (b : Bool) (s : State) : State :=
  s.mapPwr fun p =>
    match c with
    | .farrier => { p with farrier := b }
    | .groom => { p with groom := b }
    | .ostler => { p with ostler := b }

/-- The number of a core in `F_WDOG`. -/
def coreNo (c : CoreId) : Nat :=
  match c with
  | .farrier => 0
  | .groom => 1
  | .ostler => 2

/-- R18: a follower whose ostler core stops ticks on its own period and free-runs. -/
def ostlerStop (s : State) : State :=
  if s.actsFollower then
    (s.mapTm fun t => { t with tickSync := false, good := 0, heard := false }).mapClk Clk.undisciplined
  else s

/-- R455: expiries of a core within 60 s. -/
def State.expiries (s : State) (c : CoreId) : Nat := (s.pwr.wdogs.filter fun e => e.1 == c).length

/-- `WATCHDOG_EXPIRY` (R17, R455): at its third expiry within 60 s a core stays stopped until reset. -/
def execWatchdogExpiry (core : CoreId) (s : State) : Answer :=
  .next <|
    if !s.coreOn core || !s.pwr.coreClock then s
    else
      let s := coreSet core false s
      let s := s.mapPwr fun p =>
        { p with
          wdogs := (p.wdogs.filter fun e => decide (s.clk.loc < e.2 + 60000000000)) ++ [(core, s.clk.loc)] }
      let s := if s.expiries core < 3 then s else s.mapPwr fun p => { p with stopped := p.stopped ++ [core] }
      raise fWdog (b1 (coreNo core)) (if core = .ostler then ostlerStop s else s)

/-- R455: the reload of a core's section. -/
def coreReload (core : CoreId) (kind : Nat) (s : State) : State :=
  match s.fls.run with
  | none => s
  | some b =>
    if s.coreOn core || s.pwr.stopped.contains core || !s.pwr.farrier then s
    else match s.sectionOf b kind with
      | some x => if s.sectionOk b x then coreSet core true s else bootImage 5 3 0 s
      | none => bootImage 5 3 0 s

/-- `CORE_RELOAD_DONE` (R455); the farrier core is not reloaded. -/
def execCoreReloadDone (core : CoreId) (s : State) : Answer :=
  .next <| match core with
    | .farrier => s
    | .groom => coreReload .groom 2 s
    | .ostler => coreReload .ostler 3 s

end Sys2Proof.Machine
end

