-- ==== Sys2Proof/Machine/Power.lean ====
section
/-!
DEFINITION. Power states and resets (`19_power_reset_boot.md`, R422 to R435): `POWER_STATE`, the entry into SLEEP and
STANDBY, wakes, warm reset, power-on and power loss. Start-up follows in `Startup.lean`.
-/
namespace Sys2Proof.Machine

/-- `POWER_STATE` (R280). -/
def execPowerState (sub : Sub) (st : Byte) (s : State) : Answer := ringCmd (.powerState sub st) (powerBody sub st) s

/-! ### What a reset leaves (R421, R430, R433, R456; Table 19.1) -/

/-- The register GPIO_DIR alone out of a list of class-C values (R421). -/
def keepGpio (l : List (Nat × Word)) : List (Nat × Word) := l.filter fun e => e.1 == 0x5004

/-- Every domain but the always-on domain is reset. After a warm reset the DRAM holds its content in self-refresh, the
thermal comparators act on and the GPIO outputs hold; flash, OTP and the levels of the lands do not change. -/
def coreReset (warm : Bool) (s : State) : State :=
  let hot := warm && (s.hk.tripped != 0 || !s.hk.cool)
  { State.reset with
    pending := s.pending
    free := s.free
    clk := { Clk.reset with loc := s.clk.loc }
    idn := s.idn
    pwr :=
      { Pwr.reset with
        vaon := s.pwr.vaon, pwrEn := s.pwr.pwrEn, supplies := s.pwr.supplies, rstN := s.pwr.rstN
        refAt := s.pwr.refAt, step := s.pwr.step, prevStep := s.pwr.prevStep, failed := s.pwr.failed, failedRead := s.pwr.failedRead
        standbyCount := s.pwr.standbyCount, wakeCause := s.pwr.wakeCause, wakeLane := s.pwr.wakeLane
        wakeStandby := s.pwr.wakeStandby, resetCause := s.pwr.resetCause
        gpioLatch := if warm then s.pwr.gpioLatch else 0, tap := s.pwr.tap }
    bus := { Bus.reset with out := s.bus.out }
    reg :=
      { Reg.reset with
        shadow := if warm then keepGpio s.reg.force else [], force := if warm then keepGpio s.reg.force else [] }
    lg := { s.lg with onDie := [] }
    pool := if warm then { Pool.reset with mem := s.pool.mem, ue := s.pool.ue, ce := s.pool.ce, scrub := s.pool.scrub } else Pool.reset
    arr :=
      { Arr.reset with
        causes := [.reset] ++ (if s.saf.darkPin then [.pin] else []) ++ (if hot then [.thermal] else []) }
    saf :=
      { Saf.reset with
        darkPin := s.saf.darkPin, tpo := if warm then 0b11 else 0
        sin := s.saf.sin.map fun i => { SinState.reset with level := i.level } }
    hk := if warm then { Hk.reset with tripped := s.hk.tripped, cool := s.hk.cool } else Hk.reset
    sec :=
      { Sec.reset with
        fails := s.sec.fails, lockEnd := s.sec.lockEnd, aonLoaded := s.sec.aonLoaded, marks := s.sec.marks, region := s.sec.region, upTo := s.sec.upTo
        fullNow := s.sec.fullNow
        nextMark := s.sec.nextMark, lastHmac := s.sec.lastHmac }
    fls :=
      { Fls.reset with
        boot := s.fls.boot, sets := s.fls.sets, cals := s.fls.cals, slotA := s.fls.slotA, slotB := s.fls.slotB }
    trc := { Trc.reset with out := s.trc.out } }

/-- The DRAM loses its supply. Whether the log header still passes its check at the next start is a free value
(assumption 32). -/
def dramLost (s : State) : State :=
  let (b, s) := s.random 4
  s.mapLg fun l =>
    let l := { l with hdrCrc := BitVec.ofNat 32 (ofLE b) }
    { l with seq := if l.hdrOk then l.seq else 0 }

/-! ### Entry into SLEEP or STANDBY (R423, Table 19.2) -/

/-- The commands whose completion the entry does not wait for: its own and the one in the pending slot. -/
def State.entryOwn (s : State) (b : Sub) : Bool :=
  (s.pwr.entry.map fun e => e.sub == b).getD false || (s.pwr.pend.map fun e => e.2 == b).getD false

/-- An operation that waits for random bytes belongs to a command. -/
def TrngWait.ofCommand : TrngWait → Bool
  | .port _ => false
  | _ => true

/-- R423: every command that has started has completed, those of other origins and those of a ring disabled since among
them. -/
def State.drained (s : State) : Bool :=
  s.rng.q.all (fun r => (r.running ++ r.muted).all s.entryOwn) && s.fls.jobs.isEmpty && s.fls.upd.waiting.isNone
  && s.pool.moves.isEmpty && s.pool.handles.all (fun h => h.waiting.isNone) && s.lan.l.all (fun l => l.scan.isNone)
  && s.cal.run.isNone && s.sec.waits.all (fun w => !w.ofCommand) && s.tm.fwds.isEmpty && s.tm.reads.isEmpty
  && s.tm.streams.all fun t => t.fin.isNone

/-- `POWER_ENTRY_DRAINED` (Table 19.2, step 2). -/
def execPowerEntryDrained (s : State) : Answer :=
  .next <| match s.pwr.entry with
    | some e => if e.abort = 0 && s.drained then s.mapPwr fun p => { p with entry := some { e with drained := true } }
      else s
    | none => s

/-- A1: the array is dark, and no frame is composed from here on. -/
def entryA1 (s : State) : State :=
  let s := periodReset (postsFresh s)
  ((tilesOpen (BitVec.allOnes 256) s).mapFrm fun f => { f with powerDark := true, sleepTicks := true }).mapArr fun a =>
    { a with relight := none, relit := 0 }

/-- A2: the pending flush is done, the DRAM is in self-refresh. -/
def entryA2 (s : State) : State := (logFlushOp s).mapPwr fun p => { p with selfRefresh := true }

/-- Every trace port is down, its receiver off but for signal detect (A3, Table 19.4). -/
def portsDown (s : State) : State :=
  let s := allPorts.foldl (fun s p => mapLane (s.portLane p) (fun l => { l with cdrLock := false }) s) s
  let s := s.mapTrc fun t =>
    { t with ports := t.ports.map fun q => { Port.reset with signal := q.signal, discards := q.discards } }
  treeUpdate (s.mapTm fun t => { t with tickSync := false, good := 0, heard := false, settled := false })

/-- A3: ticks stop, the trace ports are down, the PLLs are off. The link goes to L1 as the last thing of the entry,
after `EV_POWER_STATE`. -/
def entryA3 (s : State) : State :=
  let s := s.mapPwr fun p => { p with mode := .sleep, coreClock := false }
  let s := s.mapFrm fun f => { f with fsyncOut := false, sync := { SyncLoop.reset with state := f.sync.state } }
  portsDown (ptmHold (s.mapClk fun c => { c with ptmSettled := false }))

/-- R198: L1, when the host has enabled it. -/
def linkL1 (s : State) : State :=
  if s.bus.linkUp && s.bus.aspmL1 then s.mapBus fun b => { b with l1 := true } else s

/-- A4 of a SLEEP entry. -/
def sleepReached (e : PowerEntry) (s : State) : State :=
  let s := s.mapPwr fun p => { p with entry := some { e with abort := 4, drained := true }, sleepAt := s.clk.team }
  linkL1 (powerEvent 2 e.prev.powerCode 4 0 (sessionEnd s))

/-- A4 of a STANDBY entry: the always-on fields are written and PWR_EN is dropped. -/
def standbyReached (e : PowerEntry) (s : State) : State :=
  let s := (powerEvent 1 e.prev.powerCode 4 0 s).mapPwr fun p =>
    { p with
      standbyCount := if p.standbyCount = 0xFFFF then 0xFFFF else p.standbyCount + 1
      pwrEn := false, supplies := false }
  (coreReset false (dramLost s)).mapPwr fun p => { p with mode := .standby }

/-- Table 19.2, steps 3 to 6: the entry passes its next abort point. -/
def entryStage (e : PowerEntry) (s : State) : State :=
  let past (s : State) : State := s.mapPwr fun p => { p with entry := some { e with abort := e.abort + 1 } }
  match e.abort with
  | 0 => if e.drained && s.drained then past (entryA1 s) else s
  | 1 => past (entryA2 s)
  | 2 => past (entryA3 s)
  | 3 => if e.standby then standbyReached e s else sleepReached e s
  | _ => s

/-- `POWER_ENTRY_DARK` (Table 19.2, steps 3 to 6): the entry passes the next of A1 to A4, one with each such row, so that a wake
can come between them (R424; DESIGN CHOICE, assumption 33). -/
def execPowerEntryDark (s : State) : Answer :=
  .next <| match s.pwr.entry with
    | some e => entryStage e s
    | none => s

/-! ### Wakes (R426, Table 19.4) -/

/-- `WAKE_PIN`: cause 1. It leaves STANDBY as well; PWR_EN follows with `PWR_EN_REASSERT` (R430). -/
def execWakePin (s : State) : Answer :=
  .next <|
    if s.pwr.mode = .standby then (if s.pwr.wake.isSome then s
      else wakeRecord 1 0 true (s.mapPwr fun p => { p with wake := some ⟨1, 0, s.now, s.clk.loc⟩ }))
    else wakeQualify 1 0 s

/-- `CAN_RX_WAKE`: cause 2. -/
def execCanRxWake (s : State) : Answer := .next (wakeQualify 2 0 s)

/-- `TRACE_SIGNAL_WAKE`: cause 3, on a lane of an enabled trace port. -/
def execTraceSignalWake (lane : Fin 8) (s : State) : Answer :=
  .next <| match s.lanePort lane.val with
    | some p => wakeQualify 3 lane.val (mapPort p (fun q => { q with signal := true })
        (mapLane lane.val (fun l => { l with sigDet := true }) s))
    | none => s

/-- `TEAM_TIME_ALARM`: cause 5, when the alarm is not 0. -/
def execTeamTimeAlarm (s : State) : Answer := .next <| if s.cfg64 0x2010 = 0 then s else wakeQualify 5 0 s

/-- R427: the state that the engine returns to, with its clocks, its memory and its ports. -/
def wakeRun (e : PowerEntry) (s : State) : State :=
  let s := s.mapPwr fun p => { p with mode := e.prev, coreClock := true, selfRefresh := false, entry := none, wake := none }
  let s := s.mapBus fun b => { b with l1 := false }
  let s := s.mapFrm fun f =>
    { f with
      powerDark := false, sleepTicks := false, tickLoc := s.clk.loc, stretched := true
      sync := if f.src = .fsync then { SyncLoop.reset with state := .acquiring } else f.sync }
  portsSync (relightStart s)

/-- `WAKE_COMPLETE` (Table 19.5, step 6). -/
def execWakeComplete (s : State) : Answer :=
  .next <| match s.pwr.wake, s.pwr.entry with
    | some w, some e =>
      let ms := (w.time - s.pwr.sleepAt).toNat / 1000000
      let s := dueAtTime (bellsLate (wakeRun e s))
      let s := finish 0x70 e.sub stOk (BitVec.ofNat 64 (w.cause + 2 ^ 32 * (ms % 2 ^ 32))) s
      let s := powerEvent e.prev.powerCode 2 0 0 (wakeEvent w.time w.cause w.lane false ms s)
      pendStart s
    | _, _ => s

/-! ### Start of the start-up (R434, R435, R439) -/

/-- The reference of Table 19.9: FAILED_STARTS is read and counted, team time counts from 0. -/
def startReference (s : State) : State :=
  if s.pwr.mode = .reset ∧ s.pwr.vaon ∧ s.pwr.pwrEn ∧ s.pwr.supplies ∧ s.pwr.rstN then
    let s := s.mapPwr fun p =>
      { p with
        mode := .startup, prevStep := p.step, step := 1, failedRead := p.failed
        failed := if p.failed = 7 then 7 else p.failed + 1, farrier := true, refAt := s.clk.loc }
    s.mapClk fun c => { c with team := 0 }
  else s

/-! ### Reset (R432, R433, Table 19.7) -/

/-- A reset during operation: the pending flush is done, in SLEEP too (DEDUCED, assumption 87), then everything but the always-on domain and what Table 19.7
retains is reset; a flash write in progress is cut short (R438, R458). -/
def warmReset (cause : Nat) (s : State) : State :=
  let s := writesCut (if s.pwr.hasDram then logFlushOp s else s)
  coreReset true (s.mapPwr fun p => { p with resetCause := cause })

/-- `RST_N_ASSERT` (R433). -/
def execRstNAssert (s : State) : Answer :=
  .next <|
    let low := s.mapPwr fun p => { p with rstN := false }
    if s.started then warmReset 1 low else low

/-- `RST_N_RELEASE` (R369, R436): after a reset the minimum width of FAULT_N runs from here. -/
def execRstNRelease (s : State) : Answer :=
  let edge := !s.pwr.rstN && s.pwr.mode == .reset
  .next <| startReference <|
    (s.mapPwr fun p => { p with rstN := true }).mapFlt fun f =>
      { f with pinSince := if edge then s.clk.loc else f.pinSince }

/-- R432: a lane is reset, and its use starts again. -/
def laneReset (n : Nat) (s : State) : State :=
  let s := mapLane n (fun l => { Lane.reset with test := l.test, scan := l.scan, pre := l.pre, main := l.main
                                                 post := l.post }) s
  match s.lanePort n with
  | some p => portDownOp p 1 s
  | none => s

/-- `CLOCK_FAIL` (R432). -/
def execClockFail (c : ClockId) (s : State) : Answer :=
  .next <|
    if !s.started || !s.pwr.coreClock then s
    else match c with
      | .lane n => laneReset n.val s
      | .other => startReference (warmReset 2 s)

/-! ### Power-on and power loss (R422, R430, R435) -/

/-- R183, R478, Table 21.3, step 5: the straps are sampled from GPIO0 to GPIO7. -/
def strapsTake (b : Byte) (s : State) : State :=
  { s with idn := { s.idn with
      pcieW := b.extractLsb' 0 2, refclkSel := b.getLsbD 2, clkMode := b.getLsbD 3, flashMode := b.getLsbD 4
      boardId := b.extractLsb' 5 3 } }

/-- `VAON_POWER_ON`: the always-on domain starts with its counters at 0; FAULT_N is asserted (R369). -/
def execVaonPowerOn (s : State) : Answer :=
  .next <|
    if s.pwr.mode ≠ .off then s
    else
      let s := s.mapPwr fun p => { p with mode := .reset, vaon := true, resetCause := 0 }
      s.mapFlt fun f => { f with pin := true, pinSince := s.clk.loc }

/-- `VAON_LOSS`: to OFF; flash and OTP keep their contents. Without VAON the engine cannot drive FAULT_N (R479). -/
def execVaonLoss (s : State) : Answer :=
  .next <|
    if s.pwr.mode = .off then s
    else
      let s := coreReset false (if s.pwr.mode = .standby then s else dramLost (writesCut s))
      let s := s.mapPwr fun p =>
        { Pwr.reset with mode := .off, vaon := false, pwrEn := false, supplies := false, rstN := p.rstN }
      (s.mapSec fun c => { c with fails := 0, lockEnd := none, aonLoaded := false }).mapFlt fun f => { f with pin := false }

/-- `PWR_EN_ASSERT` (R435). -/
def execPwrEnAssert (s : State) : Answer :=
  .next <| if s.pwr.mode = .reset ∧ s.pwr.vaon then s.mapPwr fun p => { p with pwrEn := true } else s

/-- `PWR_EN_REASSERT` (R430): a wake from STANDBY. -/
def execPwrEnReassert (s : State) : Answer :=
  .next <|
    if s.pwr.mode = .standby ∧ s.pwr.wake.isSome then
      s.mapPwr fun p => { p with mode := .reset, pwrEn := true, resetCause := 3, wake := none }
    else s

/-- R183: supplies that become valid after a power-on let the straps be sampled; the levels of the lands are a free value
(assumption 10). -/
def strapsSample (s : State) : State :=
  if s.pwr.supplies then s
  else
    let (k, s) := s.draw
    strapsTake (Config.gpioLevel k) s

/-- `SUPPLIES_VALID` (R435): the later of the two references may be this one. -/
def execSuppliesValid (s : State) : Answer :=
  .next <|
    if s.pwr.mode = .reset ∧ s.pwr.pwrEn then
      startReference
        (((strapsSample s).mapPwr fun p => { p with supplies := true }).mapSaf fun f => { f with tpo := 0b11 })
    else s

/-- `SUPPLY_TIMEOUT` (R435): PWR_EN is dropped, and the attempt counts as a failed start. -/
def execSupplyTimeout (s : State) : Answer :=
  .next <|
    if s.pwr.mode = .reset ∧ s.pwr.pwrEn ∧ !s.pwr.supplies then
      s.mapPwr fun p => { p with pwrEn := false, failed := if p.failed = 7 then 7 else p.failed + 1 }
    else s

end Sys2Proof.Machine
end

