-- ==== Sys2Proof/Machine/Startup.lean ====
section
/-!
DEFINITION. Start-up and halter mode (`19_power_reset_boot.md`, R434 to R442; `20_security_update.md`, R449 to R453,
R459, R463 to R466, R470): the steps of Table 19.9. The boot records that a start writes hold it up until the write has
ended; the settings copy that it renews is written while it goes on (assumption 34).
-/
namespace Sys2Proof.Machine

/-- The step register of the always-on domain (R434). -/
def stepAt (n : Nat) (s : State) : State := s.mapPwr fun p => { p with step := n }

/-! ### Halter mode (R440, R441) -/

/-- Table 09.4: the transmitter presets: pre, main and post tap. -/
def preset (n : Nat) : Nat × Nat × Nat :=
  match n with
  | 0 => (0, 48, 0)
  | 1 => (0, 40, 8)
  | 2 => (4, 36, 8)
  | _ => (4, 32, 12)

/-- R189: a lane's transmitter takes preset `k`. -/
def presetPut (n k : Nat) (s : State) : State :=
  let (a, m, b) := preset k
  mapLane n (fun l => { l with pre := BitVec.ofNat 5 a, main := BitVec.ofNat 6 m, post := BitVec.ofNat 5 b }) s

/-- R185: in halter mode a link that is up goes on as Gen1 x1, lane 4 takes the default preset, and every lane but 0 and 4 is
powered down. -/
def haltLanes (s : State) : State :=
  let s := if s.bus.linkUp then laneTrain 1 0 (s.mapBus fun b => { b with speed := 1, width := 1, reversed := false }) else s
  lanesSettle (presetPut 4 1 s)

/-- The start ends in halter mode: no image runs, the array stays dark by cause 11 of Table 14.5 (R350), FAULT_N is asserted
(R369). -/
def haltEnter (s : State) : State :=
  let before := s.causes
  let s := s.mapPwr fun p => { p with mode := .halter, groom := false, ostler := false, coreClock := true }
  let s := s.mapFls fun x =>
    { x with run := none, trial := false, swap := false, imgVer := 0, imgSec := 0, patches := 0, signed := false, upd := Update.reset }
  let s := (haltLanes s).mapFlt fun f => { f with pin := true }
  causeArise before <|
    s.mapArr fun a => { a with causes := (a.causes.filter fun c => c != .reset && c != .halter) ++ [.halter] }

/-! ### The checks of an image (R436, R450, R452, Table 19.9, steps 3, 4 and 8) -/

/-- R452: steps 3 and 4 for a slot; a failure is reported. -/
def slotCheck (b : Bool) (s : State) : ImageVerdict × State :=
  let s := stepAt 3 s
  match s.manifest b with
  | .ok =>
    let s := stepAt 4 s
    if s.hashesOk b [1, 2, 3] then (.ok, s) else (.bad 3, imageFault b (.bad 3) s)
  | v => (v, imageFault b v s)

/-- R348, R452: every present fallback scene of a slot that fails its check is reported. -/
def scenesReport (b : Bool) (s : State) : State :=
  (s.badScenes b).foldl (fun s n => raise fFallbackStore (b1 n ++ b1 1 ++ b2 0xFFFF) s) s

/-- R338, R348, R452: step 8 for a slot; a failure is reported. -/
def storeCheck (b : Bool) (s : State) : ImageVerdict × State :=
  let s := stepAt 8 s
  if !s.hashesOk b [4, 5] then (.bad 3, imageFault b (.bad 3) s)
  else
    let s := scenesReport b s
    if s.storesOk b then (.ok, s) else (.bad 4, imageFault b (.bad 4) s)

/-- R450: the whole check of a slot. -/
def wholeCheck (b : Bool) (s : State) : ImageVerdict × State :=
  match slotCheck b s with
  | (.ok, s) => storeCheck b s
  | r => r

/-! ### Boot selection (R450, Table 19.9, step 2) -/

/-- Slot `b` runs (R240, R285, R454, R455): the groom and ostler cores run its code. `swap` says that its boot record is
still to be written. -/
def imageRun (b trial swap : Bool) (s : State) : State :=
  let s := s.mapPwr fun p => { p with groom := true, ostler := true, coreClock := true }
  s.mapFls fun x =>
    { x with
      run := some b, trial := trial, swap := swap, imgVer := BitVec.ofNat 16 (s.slotVersion b), imgSec := s.slotSec b
      patches := s.patchMask b, signed := !s.rootBlank, upd := { Update.reset with state := if trial then 3 else 0 } }

/-- Steps 2 to 5 end with slot `b`. -/
def imageGo (b trial swap : Bool) (s : State) : State := stepAt 6 (imageRun b trial swap s)

/-- R450: steps 3 and 4 as CONFIRMED with slot `b`. With the other slot the record is written once that slot has passed its
whole check. -/
def bootConfirmed (b : Bool) (s : State) : State :=
  match slotCheck b s with
  | (.ok, s) => imageGo b false false s
  | (_, s) =>
    match slotCheck (!b) s with
    | (.ok, s) => imageGo (!b) false true s
    | (_, s) => haltEnter s

/-- R450, R459: the trial image of slot `b` is given up: CONFIRMED is written for the other slot. -/
def bootRevert (b : Bool) (cause : Nat) (s : State) : State :=
  let s := s.mapPwr fun p => { p with revert := some (b, cause) }
  flashOwn 6 (.bootRevert !b) (s.mapFls fun x => { x with run := none, trial := false })

/-- R459: the cause of a revert after a failed check. -/
def revertCause (v : ImageVerdict) : Nat := if v = .rollback then 2 else 1

/-- R450: the trial boot is counted; the trial image is checked. -/
def bootTried (b : Bool) (s : State) : State :=
  match slotCheck b s with
  | (.ok, s) => imageGo b true false s
  | (v, s) => bootRevert b (revertCause v) s

/-- R450: step 2 of Table 19.9. The start goes on when its write of the boot record has ended. -/
def bootSelect (s : State) : State :=
  let s := stepAt 2 s
  match s.bootRec with
  | none =>
    bootConfirmed false <|
      if s.bootCopies.all (fun c => c == .blank) then s
      else bootImage 6 5 ((s.bootCopies.findIdx? fun c => c != .blank).getD 0) s
  | some r =>
    if r.state = 0 then bootConfirmed r.slotB s
    else if r.trial = 3 then bootRevert r.slotB 0 s
    else flashOwn 6 (.bootTrial r.slotB (r.trial + 1)) s

/-- R467: the chain of the change log is verified; a break raises `F_BOOT_IMAGE`, and logging goes on. The start verifies it
once the keys of OTP are there (assumption 85). -/
def logVerify (s : State) : State := if s.chainHolds then s else bootImage 3 5 0 s

/-- `OTP_LOAD_DONE` (R437): step 1, and with a good CRC steps 2 to 5, as far as no write of the boot record holds them up. -/
def execOtpLoadDone (ok : Bool) (s : State) : Answer :=
  .next <|
    if s.pwr.mode ≠ .startup ∨ s.pwr.otpOk ∨ s.pwr.otpFailed then s
    else if ok then
      let s := logVerify ((s.mapPwr fun p => { p with otpOk := true }).mapSaf fun f => { f with tpoOn := true })
      if 4 ≤ s.pwr.failedRead.toNat then haltEnter s else bootSelect s
    else
      let n := s.pwr.otpTries + 1
      let s := raise fOtpLoad (b1 n) (s.mapPwr fun p => { p with otpTries := n })
      if n < 3 then s
      else haltEnter ((s.mapPwr fun p => { p with otpFailed := true }).mapSaf fun f => { f with tpoOn := true })

/-! ### The flight log and its boot marker (R181, R434) -/

/-- R181: the log is kept when its header passes its check, and initialised otherwise. -/
def logStart (s : State) : State :=
  (unitsFresh (fun u => u == logHeader) s).mapLg fun l =>
    Log.sealed (if l.hdrOk then { l with starts := l.starts + 1 }
      else { l with dram := [], next := 0, wraps := 0, starts := 1 })

/-- Table 19.8: the data of the boot marker; `kept` says that the log was kept. -/
def State.bootMarker (s : State) (kept : Bool) : List Byte :=
  let p := s.pwr
  b1 p.resetCause ++ b1 p.failedRead.toNat
  ++ b1 (flag kept + 2 * flag (p.mode == .halter) + 4 * flag p.otpFailed + 8 * flag s.fls.trial)
  ++ b1 p.prevStep ++ b4 p.standbyCount.toNat ++ b1 (if p.resetCause = 3 then p.wakeCause.toNat else 0)

/-! ### Calibration, stores and settings (Table 19.9, steps 7 and 8) -/

/-- R150, R177: start-up writes every byte of the fault pixel map, and of the uniformity map. -/
def mapsWritten (s : State) : State := unitsFresh inPixmap (mapFresh s)

/-- R470: the calibration record is loaded; without a valid copy the wafer-level trims are used. -/
def calLoad (s : State) : State :=
  match copyWinner CalRec.seq s.calCopies with
  | some (_, r) =>
    ((s.mapCal fun c => { c with held := some r }).mapPho fun p => { p with map := r.map }).mapArr
      fun a => { a with trims := r.trims, q := r.q }
  | none =>
    let s := s.mapArr fun a => { a with trims := s.baseTrims.1, q := s.baseTrims.2 }
    match s.calCopies.findIdx? fun c => c == .bad with
    | some i => bootImage 2 5 i s
    | none => s

/-- The bytes of a store section that differ from 0. -/
def State.storeCells (s : State) (b : Bool) (kind : Nat) : List Host.Cell :=
  match s.sectionOf b kind with
  | some x => (freshCells 0 x.offset (s.sectionBytes b x)).map fun c => (c.1 - x.offset, c.2)
  | none => []

/-- R336, R337, R347: the stores of an image that has passed its checks are loaded. From here on the SIN inputs have their
assignment. -/
def storesLoad (s : State) : State :=
  match s.fls.run with
  | none => s
  | some b =>
    let s := s.mapSaf fun f => { f with hall := s.storeCells b 5, fall := s.storeCells b 4, fbBad := 0 }
    sinAssigned <| s.mapFrm fun f =>
      { f with params := { f.params with
          dfltScene := (s.hallByte 3).toNat, can := { f.params.can with rules := storeRules s.hallByte } } }

/-- R463: the settings copy found where none is valid: the first that is not blank. -/
def State.settingsStray (s : State) : Option (Nat × List Byte) :=
  s.fls.sets.zipIdx.findSome? fun c => if regionBlank c.1 then none else some (c.2, c.1)

/-- R463: what start-up finds in the settings regions: the record to put in force, and of a copy that is not as it should be
the data of `EV_SETTINGS_DEFAULTED`. -/
def State.settingsFound (s : State) : Settings × Option (Nat × Nat × Word × Bool) :=
  match copyWinner Settings.seq s.setCopies with
  | some (i, r) => (r, if flashLE (s.fls.sets.getD i []) 4 2 = 1 then some (1, 1, r.seq, true) else none)
  | none =>
    match s.settingsStray with
    | none => (Settings.reset, some (0, 0, 0, false))
    | some (_, l) =>
      (Settings.reset.mapProt fun p => { p with pwState := 2 }, some (2, flashLE l 4 2, BitVec.ofNat 32 (flashLE l 8 4), false))

/-- Table 20.13: the CRC of the settings copy found, or 0. -/
def State.settingsOld (s : State) : Word :=
  match copyWinner Settings.seq s.setCopies with
  | some (i, _) => crc32 (flashBytes (s.fls.sets.getD i []) 0 4096)
  | none => (s.settingsStray.map fun c => crc32 (flashBytes c.2 0 4096)).getD 0

/-- R462: the team key of a record. -/
def State.unwrapKey (s : State) (r : Settings) : BitVec 128 :=
  if r.prot.wrapped.all (· == 0) && r.prot.keyId.all (· == 0) then 0
  else BitVec.ofNat 128 (ofLE (s.wrapKey r.seq r.prot.wrapped))

/-- R463: no valid copy among regions that are not both blank is reported, and a new copy is written. -/
def settingsRenew (reason : Nat) (s : State) : State :=
  let old := s.settingsOld
  let s := if reason = 2 then bootImage 4 5 ((s.settingsStray.map Prod.fst).getD 0) s else s
  flashOwn 4 (.renew old) s

/-- R463, R469: the new copy stands in flash; its touchmark follows, unless the change log is full. -/
def renewDone (j : FlashJob) (old : Word) (s : State) : State :=
  let s := settingsPut id s
  if s.logFull then s else markStart j ⟨0, 0x51, old, crc32 (s.settingsImage s.sec.set)⟩ s

/-- R184, Table 13.1: the lanes of the trace ports; a port moved into the strapped width stays where it is. -/
def portPlace (p : Fin 4) (s : State) : State :=
  let c := bits s.sec.set.ord.portCfg (8 * p.val) 8
  let wants := c % 2 == 1
  let inside := decide (p.val < s.pcieLanes)
  let s := s.mapLan fun l => { l with onLaneP := bitPut l.onLaneP p.val (wants && !inside) }
  let s := if wants && inside then traceFault p 7 s else s
  presetPut (s.portLane p) (c / 2 % 4) s

/-- R461, Tables 20.11 and 20.12: the fields of the record in force are applied. -/
def settingsApply (s : State) : State :=
  let o := s.sec.set.ord
  let p := s.sec.set.prot
  let s := s.mapFrm fun f =>
    { f with params :=
      { f.params with
        floorC := p.floorC.toNat, roadSrc := p.roadSrc.toNat, policy := p.policy.toNat
        cutGeom := geomOf p.cutSide p.cutVerts, cutLimit := p.cutLimit.toNat, hbTimeout := o.hbTimeout.toNat
        can :=
          { f.params.can with
            rate := leAt o.canStart 0 1 % 4, on := leAt o.canStart 0 1 / 4 % 2 == 1
            sa := BitVec.ofNat 8 (leAt o.canStart 1 1), pgn := BitVec.ofNat 18 (leAt o.canStart 2 3)
            timeout := leAt o.canStart 6 2 } } }
  let put (a : Nat) (v : Word) (s : State) : State :=
    s.mapReg fun r => { r with shadow := regPut r.shadow a v, force := regPut r.force a v }
  let s := put 0x134 (o.crcAuto.zeroExtend 32 &&& 3) s
  let s := put 0x138 (o.staleMax.zeroExtend 32) s
  let s := put 0x1014 ((s.cfg 0x1014 &&& 0xFFFFFEFF) ||| (o.pinAuto.zeroExtend 32 &&& 1) <<< 8) s
  let s := s.mapSec fun c =>
    { c with startId := if o.engineId.getLsbD 15 then some (o.engineId.truncate 10) else none }
  let s := s.mapTm fun t => { t with id := s.configuredId }
  cfgTouch true true (allPorts.foldl (fun s p => portPlace p s) s)

/-- R463, R465, R466: the settings record is put in force. The failure count comes from the record until a start after
VAON power-on has reached READY; then the always-on domain holds it (R263). -/
def settingsLoad (s : State) : State :=
  let (r, d) := s.settingsFound
  let s := match d with
    | some d => settingsRenew d.1 s
    | none => s
  let s := s.mapSec fun c =>
    { c with set := r, work := r.ord, teamKey := s.unwrapKey r
             fails := if !c.aonLoaded then r.prot.fails.toNat else c.fails }
  settingsApply (s.mapPwr fun p => { p with setDef := d })

/-! ### Step 8 (R436, R450) -/

/-- The image has passed its whole check: its stores and the settings record are put in force; step 9 begins. -/
def storesGo (s : State) : State := stepAt 9 (settingsLoad (storesLoad s))

/-- R450: the check of the slot that the boot record does not name; it runs once its record is written. -/
def otherCheck (b : Bool) (s : State) : State :=
  match wholeCheck b s with
  | (.ok, s) => flashOwn 6 (.bootOther b) (imageRun b false true s)
  | (_, s) => haltEnter s

/-- R450: as CONFIRMED with slot `b`, after a trial image has been given up at step 8. -/
def lateConfirmed (b : Bool) (s : State) : State :=
  match wholeCheck b s with
  | (.ok, s) => storesGo (imageRun b false false s)
  | (_, s) => otherCheck (!b) s

/-- R436, R450: the checks of step 8 on the image that was selected; a failure tries the other slot, unless that one has
failed before. -/
def bootStores (s : State) : State :=
  match s.fls.run with
  | none => s
  | some b =>
    match storeCheck b s with
    | (.ok, s) => if s.fls.swap then flashOwn 6 (.bootOther b) s else storesGo s
    | (_, s) =>
      if s.fls.trial then bootRevert b 1 s
      else if s.fls.swap then haltEnter s else otherCheck (!b) s

/-- `DRAM_TRAINED` (Table 19.9, step 6), and steps 7 and 8, as far as no write of the boot record holds them up. -/
def execDramTrained (s : State) : Answer :=
  .next <|
    let runs := s.pwr.mode == .startup && s.fls.run.isSome
    if s.pwr.hasDram || !(runs || s.pwr.mode == .halter) then s
    else
      let kept := s.lg.hdrOk
      let s := logStart (s.mapPwr fun p => { p with hasDram := true })
      let s := logAdd 6 0 s.now (s.bootMarker kept) s
      if runs then bootStores (calLoad (mapsWritten (stepAt 7 s))) else s

/-! ### The writes of a start (R448, R450, R458) -/

/-- R450: the write of a boot record by step 2 or 8 has ended: the start goes on. -/
def bootWritten (act : AfterFlash) (s : State) : State :=
  if s.pwr.mode ≠ .startup then s
  else match act with
    | .bootTrial b _ => bootTried b s
    | .bootRevert b => if s.pwr.hasDram then lateConfirmed b s else bootConfirmed b s
    | .bootOther _ => storesGo (s.mapFls fun x => { x with swap := false })
    | _ => s

/-- The boot record that a write of a start makes. -/
def bootRecord (act : AfterFlash) (s : State) : State :=
  match act with
  | .bootTrial b n => bootPut b 2 n s
  | .bootRevert b => bootPut b 0 0 s
  | .bootOther b => bootPut b 0 0 s
  | _ => s

/-! ### The first tick (Table 19.9, step 9) -/

/-- The frame that the first tick shows: the fallback scene under cause 0 and the causes in force (R345). -/
def firstFrame (s : State) : State :=
  let s := decideFallback (s.mapFrm fun f => { f with cutDone := true, ticked := true })
  let s := clearWrite (s.mapFrm fun f => { f with ticked := false })
  let s := s.mapFrm fun f => { f with comp := some s.compSet, compOn := true, compStart := s.clk.loc }
  match s.frm.comp, s.frm.dec with
  | some c, some d => (List.range 512).foldl (fun s _ => rowStep c d RowObs.clean s) s
  | _, _ => s

/-- Table 20.11: `TEAM_START`, applied as a `TEAM_CONFIG` at the first tick. -/
def State.teamStart (s : State) : List Change :=
  let l := s.sec.set.ord.teamStart
  [.role ((roleOf (l.getD 0 0)).getD .alone), .backup (leAt l 1 1 == 1),
    .groups ((List.range 4).map fun k => BitVec.ofNat 16 (leAt l (4 + 2 * k) 2)),
    .ports (BitVec.ofNat 4 (leAt l 2 1)) (BitVec.ofNat 4 (leAt l 3 1))]

/-- `STARTUP_FIRST_TICK` (R436): ticks start; a cause of fast-dark other than the reset holds the light back. When the groom core
starts the headroom loop is not stated: with the first tick (DESIGN CHOICE, assumption 87). -/
def execStartupFirstTick (s : State) : Answer :=
  .next <|
    if s.pwr.mode ≠ .startup || s.pwr.step != 9 || s.frm.ticked then s
    else
      let s := armAt 0 s.teamStart false false (firstFrame s)
      let s := tickOp [] s
      darkRemove .reset (s.mapHk fun h => { h with loop := s.pwr.groom })

/-! ### READY (Table 19.9, step 10; R416, R439, R453, R459, R466) -/

/-- R416: the engine's own commit of both partitions, and its lock. -/
def commitStart (s : State) : State :=
  let (a, b) := s.crcNow
  let s := s.mapReg fun r =>
    { r with
      curS := a, curL := b, freshS := true, freshL := true, touchS := false, touchL := false, committed := true
      locked := r.locked || s.lockSet }
  commitNow .localPart (commitNow .shared s)

/-- R453: the missing fuses of a confirmed image. -/
def fuseComplete (s : State) : State :=
  if s.fls.run.isSome && !s.fls.trial && decide (s.rollback < s.fls.imgSec) then blowFuses s.fls.imgSec s else s

/-- R466: at step 10 of the first start to reach it after VAON power-on a stored `LOCK_S` starts a full lockout. -/
def lockResume (s : State) : State :=
  let n := s.sec.set.prot.lockS.toNat
  s.mapSec fun c =>
    { c with
      aonLoaded := true
      lockEnd := if !c.aonLoaded && n != 0 then some (s.clk.loc + 1000000000 * n) else c.lockEnd }

/-- R459: the update state that a start has entered. -/
def updateReport (s : State) : State :=
  match s.pwr.revert with
  | some r => updateEvent 5 r.1 0 r.2 s
  | none =>
    if s.fls.trial then updateEvent 3 (s.fls.run.getD false) ((s.bootRec.map BootRec.trial).getD 0) 0 s else s

/-- R459, R463: the reports of a start. -/
def startReports (s : State) : State :=
  let s := updateReport (powerEvent 4 0 0 0 s)
  match s.pwr.setDef with
  | some (reason, format, seq, kept) =>
    emit evSettingsDefaulted (b1 reason ++ b1 0 ++ b2 format ++ b4 seq.toNat ++ b1 (flag kept)) s
  | none => s

/-- `STARTUP_READY`: rings are accepted; in halter mode ring 0 can be served (R441). The rise of `DEV_STATE.READY` is
cause 1 of Table 18.8. -/
def execStartupReady (s : State) : Answer :=
  .next <|
    if s.pwr.ready then s
    else if s.pwr.mode = .halter then
      updateReport (intCause 1 ((commitStart s).mapPwr fun p => { p with ready := true, configReady := true }))
    else if s.pwr.mode = .startup ∧ s.frm.ticked then
      let s := lockResume (fuseComplete (commitStart s))
      let s := stepAt 10 (s.mapPwr fun p => { p with ready := true, configReady := true, failed := 0, mode := .active })
      startReports (intCause 1 (s.mapSaf fun f => { f with canAt := s.clk.loc }))
    else s

end Sys2Proof.Machine
end

