-- ==== Sys2Proof/Machine/Flash.lean ====
section
/-!
DEFINITION. The end of a flash write (`20_security_update.md`, R448): its read-back compare, its one retry, its failure.
-/
namespace Sys2Proof.Machine

/-! ### The interface (R436, R447, R482) -/

/-- Table 21.5: the level of FL_RESET_N: low through reset and for 20 µs after the reference of Table 19.9. -/
def State.flResetN (s : State) : Bool := s.started && decide (s.pwr.refAt + 20000 ≤ s.clk.loc)

/-- R482: what the flash speaks: 1S-1S-1S out of reset, and in octal mode 8D-8D-8D after the mode command that follows the
rise of FL_RESET_N. -/
def State.flashBus (s : State) : FlashBus := if s.flResetN && !s.idn.flashMode then .octal else .single

/-- R436, R447, R482: how the engine reads the flash: at 32 MHz until step 5 of Table 19.9, then at the full rate. -/
def State.flashRead (s : State) : FlashRead :=
  if s.idn.flashMode then { lanes := 4, dummy := 8, addr := 4, mhz := if s.pwr.coreClock then 133 else 32 }
  else { lanes := 8, dummy := 20, addr := 4, mhz := if s.pwr.coreClock then 200 else 32 }

/-- Table 20.3: the regions of the flash that the engine uses. -/
inductive FlashRegion where
  | boot (copy : Fin 2)
  | settings (copy : Fin 2)
  | changeLog
  | calibration (copy : Fin 2)
  | slot (b : Bool)
  deriving DecidableEq, Repr

/-- Table 20.3: offset and size of a region. -/
def FlashRegion.place (r : FlashRegion) : Nat × Nat :=
  match r with
  | .boot k => (0x10000 * k.val, 0x10000)
  | .settings k => (0x20000 + 0x10000 * k.val, 0x10000)
  | .changeLog => (0x40000, 0x80000)
  | .calibration k => (0x100000 + 0x180000 * k.val, 0x180000)
  | .slot b => (if b then 0xA00000 else 0x400000, 0x600000)

/-- R447, Table 20.3: the bytes of a region from its start on, erased bytes beyond them. -/
def State.regionImage (s : State) (r : FlashRegion) : List Byte :=
  match r with
  | .boot k => s.fls.boot.getD k.val []
  | .settings k => s.fls.sets.getD k.val []
  | .changeLog => s.sec.region.flatMap fun b => flashBytes b.bytes 0 65536
  | .calibration k => s.fls.cals.getD k.val []
  | .slot b => s.slotBytes b 0 slotSize

/-! ### The end of a write (R448) -/

/-- R448: the status of a command whose flash write failed. -/
def AfterFlash.failStatus : AfterFlash → Half
  | .marked _ act => act.failStatus
  | .calStore _ => stCalFlash
  | .updWrite _ _ => stUpdFlash
  | .updClose => stUpdFlash
  | .updConfirm => stUpdFlash
  | .updCancel => stUpdFlash
  | _ => stMemError

/-- R448: a command whose record and touchmark stand in flash ends. -/
def markedDone (j : FlashJob) (m : MarkWrite) (s : State) : State :=
  match j.act with
  | .marked _ (.protWrite item value) => protectedDone j m.new item value s
  | .marked _ (.cutoff changes frame _ _) => cutoffDone j m.new changes frame s
  | .marked _ (.recovery operator) => recoveryDone j operator s
  | .marked _ (.calStore r) => calStoreDone j r s
  | .marked _ .cfgCommit => cfgCommitDone j m.new s
  | _ => flashFinish j stOk 0 s

/-- R448: the compare has passed: the rest of the command, or of the start, that wrote. -/
def flashDone (j : FlashJob) (s : State) : State :=
  match j.act with
  | .protWrite _ _ => recordWritten j s
  | .cutoff _ _ _ _ => recordWritten j s
  | .password _ _ _ => recordWritten j s
  | .recovery _ => recordWritten j s
  | .teamKey _ => recordWritten j s
  | .cfgCommit => recordWritten j s
  | .login ok operator => loginDone j ok operator s
  | .pwFail => pwFailDone j s
  | .calStore r => calWritten j r s
  | .archive upTo => archiveDone j upTo s
  | .ackStuck source => ackStuckDone j source s
  | .updWrite offset bytes => updWriteDone j offset bytes s
  | .updPartial offset bytes => updPartialDone j offset bytes s
  | .updClose => updCloseDone j s
  | .updConfirm => updConfirmDone j s
  | .updCancel => updCancelDone j s
  | .bootTrial _ _ => bootWritten j.act (bootRecord j.act s)
  | .bootRevert _ => bootWritten j.act (bootRecord j.act s)
  | .bootOther _ => bootWritten j.act (bootRecord j.act s)
  | .renew old => renewDone j old s
  | .marked m _ => markedDone j m (touchmarkBy m.operator m.item m.old m.new s)

/-- An `UPDATE_OPEN` whose record was not written waits no longer. -/
def flashGiveUp (j : FlashJob) (s : State) : State :=
  if j.act = .updCancel then mapUpd (fun u => { u with waiting := none }) s else s

/-- R448: the second failure: `F_BOOT_IMAGE` with reason 6, the record in force unchanged. A start goes on with the record
that it has (assumption 34). -/
def flashFail (j : FlashJob) (s : State) : State :=
  let copy := s.flashCopy j.kind
  let s := bootImage j.kind 6 copy (flashGiveUp j (jobCut j s))
  match j.sub with
  | some sub => finish j.act.op sub j.act.failStatus 0 s
  | none => bootWritten j.act s

/-- `FLASH_WRITE_DONE` (R448): the oldest write in progress ends its compare. -/
def execFlashWriteDone (ok : Bool) (s : State) : Answer :=
  .next <| match s.fls.jobs with
    | [] => s
    | j :: rest =>
      if ok then flashDone j (s.mapFls fun x => { x with jobs := rest })
      else if j.retried then flashFail j (s.mapFls fun x => { x with jobs := rest })
      else s.mapFls fun x => { x with jobs := { j with retried := true } :: rest }

end Sys2Proof.Machine
end

