-- ==== Sys2Proof/Machine/General.lean ====
section
/-!
DEFINITION. The general commands (`11_commands_light.md`, Table 11.2, R239, R240, R351).
-/
namespace Sys2Proof.Machine

/-- `NOP`. -/
def execNop (sub : Sub) (s : State) : Answer := ringCmd (.nop sub) (finish 0x00 sub stOk 0) s

/-- `ECHO`: `RESULT` is `VALUE`. -/
def execEcho (sub : Sub) (value : Dword) (s : State) : Answer :=
  ringCmd (.echo sub value) (finish 0x01 sub stOk value) s

/-- R240: the 64-byte identity block. -/
def State.identBlock (s : State) : List Byte :=
  padTo 64 <|
    b8 s.identResult ++ b4 (s.imgMinor + 2 ^ 16 * s.imgMajor)
    ++ b2 (match s.tm.id with
      | some i => i.toNat
      | none => 0xFFFF)
    ++ b2 s.devState.toNat ++ b8 s.serialNo ++ b2 s.subsystem.1.toNat ++ b2 s.subsystem.2.toNat
    ++ b2 (if s.imageRuns then s.fls.patches.toNat else 0)

/-- `IDENT` (R240). -/
def execIdent (sub : Sub) (dest : Dword) (s : State) : Answer :=
  ringCmd (.ident sub dest) (fun s => reply 0x02 sub stOk s.identResult [(0, dest, s.identBlock)] s) s

/-- Table 11.2: µs since the previous executed `HEARTBEAT`, and the timeout in ms. -/
def State.hbResult (s : State) : Dword :=
  let us := if s.saf.hbSeen then min 0xFFFFFFFF ((s.clk.loc - s.saf.hbBeat) / 1000) else 0xFFFFFFFF
  BitVec.ofNat 64 (us + at_ s.frm.params.hbTimeout 32 16)

/-- R351: the monitor restarts; the first executed `HEARTBEAT` after READY arms it and ends cause 0, every one ends
cause 1. -/
def hbRestart (s : State) : State :=
  s.mapSaf fun f =>
    { f with hbSeen := true, hbArmed := true, hbLast := s.clk.loc, hbBeat := s.clk.loc, hbExp := false, start := false }

/-- `HEARTBEAT` (R239, R351). -/
def execHeartbeat (sub : Sub) (s : State) : Answer :=
  ringCmd (.heartbeat sub)
    (fun s => finish 0x03 sub stOk s.hbResult (hbRestart s)) s

end Sys2Proof.Machine
end

