-- ==== Sys2Proof/Machine/Lanes.lean ====
section
/-!
DEFINITION. Lane tests and eye scans (`09_lanes_and_host_port.md`, R203 to R208; `12_commands_system.md`, R288, R289).
-/
namespace Sys2Proof.Machine

/-! ### `LINK_TEST` -/

/-- The fields of a stop are zero (R288). -/
def linkStopOk (o : LinkTestOps) : Bool :=
  o.pattern == 0 && o.flags == 0 && o.loopback == 0 && o.rate == 0 && o.duration == 0

/-- Table 12.11, R206, R288: the operands of a start. -/
def linkStartOk (o : LinkTestOps) : Bool :=
  decide (o.pattern.toNat ≤ 5) && decide (o.flags.toNat ≤ 15) && decide (o.loopback.toNat ≤ 3)
  && decide (o.rate.toNat ≤ 5) && !((o.flags.getLsbD 0 || o.flags.getLsbD 1) && o.pattern == 0)
  && !(o.loopback == 3 && o.flags.getLsbD 0)

/-- The lanes that `LANES` names. -/
def lanesOf (m : Byte) : List Nat := (List.range 8).filter fun n => m.getLsbD n

/-- R207: the refusal of lane `n`; a lane that runs a test already is in the wrong state (assumption 31). -/
def State.laneRefused (s : State) (force : Bool) (n : Nat) : Option Half :=
  if s.laneHost n then some stInUse
  else if s.laneTested n then some stWrongState
  else if (s.lanePort n).isSome && !force then some stInUse
  else none

/-- R206, R209: the receiver of a lane under test finds a signal: in the near-end serial loopback its own generator's, else the
one at its lands (DEDUCED, assumption 31). -/
def testRx (t : LaneTest) (lands : Bool) : Bool := if t.loopback = 1 then t.generator else lands

/-- R205, R207: the test of lane `n` starts with its counters at zero; a port on it goes down. Whether a lane without a use has
a signal at its lands is a free value (assumption 31). -/
def laneTestStart (t : LaneTest) (n : Nat) (s : State) : State :=
  let port := s.lanePort n
  let (k, s) := s.draw
  let rx := testRx t ((port.map fun p => (s.port p).signal).getD (Config.freePick k % 2 == 1))
  let s := mapLane n (fun l =>
    { l with
      test := some t, errCnt := 0, bitCount := 0, bitsLo := 0, bitsHi := 0, lockLoss := 0, prbsLock := false
      sigDet := rx, cdrLock := rx }) s
  match port with
  | some p => portDownOp p 6 s
  | none => s

/-- The test that a start asks for. -/
def testOf (o : LinkTestOps) : LaneTest :=
  { pattern := o.pattern.toNat, generator := o.flags.getLsbD 0, checker := o.flags.getLsbD 1
    invert := o.flags.getLsbD 2, loopback := o.loopback.toNat, rate := o.rate.toNat, duration := o.duration.toNat
    forced := o.flags.getLsbD 3 }

/-- `LINK_TEST`. -/
def linkTestBody (sub : Sub) (o : LinkTestOps) (s : State) : State :=
  let l := lanesOf o.lanes
  if l.isEmpty ∨ 1 < o.action.toNat then finish 0x98 sub stBadOperand 0 s
  else if o.action = 0 then
    let run := l.filter fun n => s.laneTested n
    if !linkStopOk o then finish 0x98 sub stBadOperand 0 s
    else finish 0x98 sub stOk (BitVec.ofNat 64 (run.map fun n => 2 ^ n).sum) (run.foldl (fun s n => laneTestStop n s) s)
  else if !linkStartOk o then finish 0x98 sub stBadOperand 0 s
  else match (l.filterMap (s.laneRefused (o.flags.getLsbD 3))).head? with
    | some st => finish 0x98 sub st 0 s
    | none => finish 0x98 sub stOk (o.lanes.zeroExtend 64) (l.foldl (fun s n => laneTestStart (testOf o) n s) s)

/-- `LINK_TEST` (R203 to R207, R288). -/
def execLinkTest (sub : Sub) (o : LinkTestOps) (s : State) : Answer := ringCmd (.linkTest sub o) (linkTestBody sub o) s

/-- `LINK_TEST_END` (R207): a test with a duration runs out. -/
def execLinkTestEnd (lane : Fin 8) (s : State) : Answer :=
  .next <| match (s.lane lane.val).test with
    | some t => if t.duration = 0 then s else laneTestStop lane.val s
    | none => s

/-! ### The checker (R204) -/

/-- `PRBS_LOCK` (R204). Data that reach the checker through the receiver show its signal and its lock; those of the near-end
parallel loopback do not pass it (Table 09.11). -/
def execPrbsLock (lane : Fin 8) (s : State) : Answer :=
  .next <| match (s.lane lane.val).test with
    | some t =>
      if t.checker && !(s.lane lane.val).prbsLock then
        mapLane lane.val (fun l =>
          { l with
            prbsLock := true, since := s.clk.loc, sigDet := l.sigDet || t.loopback != 2
            cdrLock := l.cdrLock || t.loopback != 2 }) s
      else s
    | none => s

/-- `PRBS_LOCK_LOSS` (R204). -/
def execPrbsLockLoss (lane : Fin 8) (s : State) : Answer :=
  .next <|
    if !(s.lane lane.val).prbsLock then s
    else mapLane lane.val (fun l =>
      { l with prbsLock := false, lockLoss := if l.lockLoss = 0xFFFF then l.lockLoss else l.lockLoss + 1 })
      (laneCount lane.val s)

/-! ### `EYE_SCAN` -/

/-- R208: a point is open by the count of its disagreements. -/
def pointOpen (count : Nat) : Bool := decide (count < 16)

/-- R208: the number of contiguous open points through the centre point `c` of a line of points. -/
def openSpan (counts : List Nat) (c : Nat) : Nat :=
  if !pointOpen (counts.getD c 16) then 0
  else
    let up := (counts.drop c).takeWhile pointOpen
    let down := ((counts.take c).reverse).takeWhile pointOpen
    up.length + down.length

/-- R208: width and height of a quick eye, from the 64 points at offsets −32/64 to +31/64 UI and the 127 points at −252 to
+252 mV; the centre is the offset 0 of each. -/
def eyeOf (across upright : List Nat) : Nat × Nat := (openSpan (across.take 64) 32, openSpan (upright.take 127) 63)

/-- R289: what the lane lets a scan do; it takes its place in the order of the commands that write the pool (R222). -/
def eyeStart (sub : Sub) (lane : Nat) (full : Bool) (handle : Half) (offset : Nat) (s : State) : State :=
  let l := s.lane lane
  if !l.cdrLock then finish 0x99 sub stWrongState 0 s
  else if l.scan.isSome then finish 0x99 sub stBusy 0 s
  else
    keepRunning sub ((mapLane lane (fun l => { l with scan := some ⟨s.pool.nextMove, sub, full, handle, offset⟩ }) s).mapPool
      fun p => { p with nextMove := p.nextMove + 1 })

/-- `EYE_SCAN`. -/
def eyeScanBody (sub : Sub) (lane form : Byte) (handle : Half) (offset : Word) (s : State) : State :=
  if 7 < lane.toNat ∨ 1 < form.toNat then finish 0x99 sub stBadOperand 0 s
  else if form = 0 then
    if handle ≠ 0 ∨ offset ≠ 0 then finish 0x99 sub stBadOperand 0 s
    else eyeStart sub lane.toNat false 0 0 s
  else match s.handle handle with
    | none => finish 0x99 sub stBadHandle 0 s
    | some h =>
      if offset.toNat % 64 ≠ 0 ∨ h.size < offset.toNat + eyeBytes then finish 0x99 sub stBadOperand 0 s
      else eyeStart sub lane.toNat true handle offset.toNat s

/-- `EYE_SCAN` (R289). -/
def execEyeScan (sub : Sub) (lane form : Byte) (handle : Half) (offset : Word) (s : State) : Answer :=
  ringCmd (.eyeScan sub lane form handle offset) (eyeScanBody sub lane form handle offset) s

/-- R208: the results of a quick eye, of its points across and upright. -/
def eyeQuick (lane : Nat) (e : EyeScan) (across upright : List Half) (s : State) : State :=
  let (w, h) := eyeOf (across.map BitVec.toNat) (upright.map BitVec.toNat)
  finish 0x99 e.sub stOk (BitVec.ofNat 64 (w + 256 * h))
    (mapLane lane (fun l => { l with eyeW := BitVec.ofNat 7 w, eyeH := BitVec.ofNat 7 h, eyeValid := true }) s)

/-- R208: the results of a full scan go to the pool, while the handle lasts. -/
def eyeFull (e : EyeScan) (counts : List Half) (s : State) : State :=
  let bs := padTo eyeBytes (counts.flatMap fun c => b2 c.toNat)
  let s := match s.handleAny e.handle with
    | some h => poolWrite h (eyeBytes + 1) e.offset bs s
    | none => s
  finish 0x99 e.sub stOk 0 s

/-- `EYE_SCAN_DONE` (R208, R289): what the scan measured. A full scan ends after the earlier commands of its ring that write the
same bytes (R222). -/
def execEyeScanDone (lane : Fin 8) (r : EyeResult) (s : State) : Answer :=
  .next <| match (s.lane lane.val).scan with
    | none => s
    | some e =>
      if e.full && s.writeBehind e.id e.sub e.handle e.offset eyeBytes then s else
      let t := mapLane lane.val (fun l => { l with scan := none }) s
      match r, e.full with
      | .quick across upright, false => eyeQuick lane.val e across upright t
      | .full counts, true => eyeFull e counts t
      | _, _ => s

end Sys2Proof.Machine
end

