-- ==== Sys2Proof/Machine/TeamCmds.lean ====
section
/-!
DEFINITION. The commands of team and time that report or set (`12_commands_system.md`, R276, R278, R279).
-/
namespace Sys2Proof.Machine

/-- R276: the `RESULT` of `TEAM_STATUS`. -/
def State.teamResult (s : State) : Dword :=
  let known := if s.tm.leading then s.tm.members.length + 1 else if s.tm.isMember then 1 else 0
  BitVec.ofNat 64 <|
    s.engineId.toNat + at_ (if s.tm.isMember then (s.tm.lead.getD 0x3FF).toNat else 0x3FF) 10 10 + at_ known 20 11
    + at_ (flag s.tm.divergent) 31 1 + at_ s.quality.toNat 32 8 + at_ s.hops 40 8 + at_ (flag s.tm.id.isNone) 62 1
    + at_ (flag s.tm.isMember) 63 1

/-- R276: the record of a member. -/
def memberBytes (m : Member) : List Byte :=
  b4 m.crc.toNat ++ b1 m.major.toNat ++ b1 m.minor.toNat ++ b2 m.image.toNat ++ b1 m.state.toNat
  ++ b1 m.quality.toNat ++ b1 1 ++ List.replicate 5 0

/-- R276: this engine's own record. -/
def State.selfMember (s : State) : Member :=
  { id := s.engineId, crc := s.reg.refS, major := BitVec.ofNat 8 csMajor, minor := BitVec.ofNat 8 csMinor
    image := BitVec.ofNat 16 (256 * s.imgMajor + s.imgMinor), state := s.memberState, quality := s.quality, leadUs := 0
    stale := s.reg.staleS, missed := 0, path := s.tm.path, dist := s.hops, groups := []
    conf := false, seen := true, fresh := false }

/-- R276, R326: the 1,024 records, indexed by engine ID; those of an ID that is not present are zero. An engine other
than the lead knows no digests but its own. -/
def State.memberRecords (s : State) : List Byte :=
  let l := (if s.tm.leading then s.tm.members else []) ++ (if s.tm.isMember then [s.selfMember] else [])
  (List.range 1024).flatMap fun n =>
    match l.find? fun m => m.id.toNat == n with
    | some m => memberBytes m
    | none => List.replicate 16 0

/-- `TEAM_STATUS` (R276). -/
def execTeamStatus (sub : Sub) (dest : Dword) (s : State) : Answer :=
  ringCmd (.teamStatus sub dest)
    (fun s => reply 0x61 sub stOk s.teamResult [(0, dest, if dest = 0 then [] else s.memberRecords)] s) s

/-- R278, R309: the discipline that `MODE` selects. -/
def timeMode (mode : Byte) (value : Dword) (s : State) : State :=
  match mode.toNat with
  | 0 =>
    let s := s.mapClk fun c => { c.undisciplined with disc := .setValue }
    timeJump (value - s.now).toInt 0 s
  | 1 => s.mapClk fun c =>
    { c.undisciplined with disc := .ptm, ptmStep := true, ptmSettled := false, ptmT1 := none }
  | _ => s.mapClk fun c => { c.undisciplined with disc := .freeRun }

/-- `TIME_SET`. -/
def timeSetBody (sub : Sub) (mode : Byte) (value : Dword) (s : State) : State :=
  if 2 < mode.toNat ∨ (mode ≠ 0 ∧ value ≠ 0) then finish 0x63 sub stBadOperand 0 s
  else if s.actsFollower then finish 0x63 sub stWrongState 0 s
  else if mode = 1 ∧ !s.bus.ptmEn then finish 0x63 sub stWrongState 0 s
  else finish 0x63 sub stOk 0 (timeMode mode value s)

/-- `TIME_SET` (R278). -/
def execTimeSet (sub : Sub) (mode : Byte) (value : Dword) (s : State) : Answer :=
  ringCmd (.timeSet sub mode value) (timeSetBody sub mode value) s

/-- R279: the record of `TIME_QUERY`. -/
def State.timeRecord (s : State) : List Byte :=
  padTo 32 (b8 s.now ++ b4 (BitVec.ofInt 32 (if s.actsFollower then s.clk.offset else 0)).toNat ++ b1 s.quality.toNat
    ++ b1 s.hops ++ b1 s.discCode)

/-- `TIME_QUERY` (R279). -/
def execTimeQuery (sub : Sub) (dest : Dword) (s : State) : Answer :=
  ringCmd (.timeQuery sub dest) (fun s => reply 0x64 sub stOk s.now [(0, dest, s.timeRecord)] s) s

end Sys2Proof.Machine
end

