-- ==== Sys2Proof/Machine/RingExec.lean ====
section
/-!
DEFINITION. The ring commands as one: what an entry of any ring does when it starts (`10_rings_and_doorbells.md`, R221,
R226, R228). A ring takes the entries that the host has written, and a member takes those of a CMD frame.
-/
namespace Sys2Proof.Machine

/-- What a ring command answers; another command changes nothing. -/
def ringAnswer (i : Instr) (s : State) : Answer :=
  match i with
  | .nop sub => execNop sub s
  | .echo sub value => execEcho sub value s
  | .ident sub dest => execIdent sub dest s
  | .heartbeat sub => execHeartbeat sub s
  | .poolAlloc sub count channel flags => execPoolAlloc sub count channel flags s
  | .poolFree sub handle => execPoolFree sub handle s
  | .poolQuery sub handle dest => execPoolQuery sub handle dest s
  | .copyIn sub handle offset host length => execCopyIn sub handle offset host length s
  | .copyOut sub handle offset host length => execCopyOut sub handle offset host length s
  | .fill sub handle offset length width pattern => execFill sub handle offset length width pattern s
  | .surfaceDefine sub id d => execSurfaceDefine sub id d s
  | .surfaceRetire sub id => execSurfaceRetire sub id s
  | .layerSet sub f => execLayerSet sub f s
  | .layerPost sub o => execLayerPost sub o s
  | .shapesPost sub handle offset count fence => execShapesPost sub handle offset count fence s
  | .captureSet sub surface tap mode => execCaptureSet sub surface tap mode s
  | .sceneCommit sub frame => execSceneCommit sub frame s
  | .sceneQuery sub which dest => execSceneQuery sub which dest s
  | .timingSet sub o => execTimingSet sub o s
  | .syncSet sub o => execSyncSet sub o s
  | .pwmSet sub o => execPwmSet sub o s
  | .curbSet sub o => execCurbSet sub o s
  | .derateSet sub o => execDerateSet sub o s
  | .cutoffSet sub o => execCutoffSet sub o s
  | .probeSet sub enables frame => execProbeSet sub enables frame s
  | .pixmapRead sub o => execPixmapRead sub o s
  | .neighbourFillSet sub strength frame => execNeighbourFillSet sub strength frame s
  | .hallmarkSelect sub mask add frame => execHallmarkSelect sub mask add frame s
  | .safetyStatus sub => execSafetyStatus sub s
  | .fallbackSet sub o => execFallbackSet sub o s
  | .canListenSet sub o => execCanListenSet sub o s
  | .roadMode sub mask on frame => execRoadMode sub mask on frame s
  | .teamConfig sub o => execTeamConfig sub o s
  | .teamStatus sub dest => execTeamStatus sub dest s
  | .teamPair sub key => execTeamPair sub key s
  | .timeSet sub mode value => execTimeSet sub mode value s
  | .timeQuery sub dest => execTimeQuery sub dest s
  | .powerState sub state => execPowerState sub state s
  | .calRun sub phases level => execCalRun sub phases level s
  | .calLoadMap sub handle offset => execCalLoadMap sub handle offset s
  | .calStore sub => execCalStore sub s
  | .calRead sub what offset dest length => execCalRead sub what offset dest length s
  | .updateOpen sub imageLength => execUpdateOpen sub imageLength s
  | .updateWrite sub offset host length data => execUpdateWrite sub offset host length data s
  | .updateClose sub => execUpdateClose sub s
  | .updateConfirm sub => execUpdateConfirm sub s
  | .updateStatus sub => execUpdateStatus sub s
  | .authLogin sub o data => execAuthLogin sub o data s
  | .authLogout sub => execAuthLogout sub s
  | .protectedWrite sub item value => execProtectedWrite sub item value s
  | .passwordSet sub oldLen newLen operator host data => execPasswordSet sub oldLen newLen operator host data s
  | .logRead sub log first dest count => execLogRead sub log first dest count s
  | .logArchive sub upTo => execLogArchive sub upTo s
  | .settingsRead sub which offset dest length => execSettingsRead sub which offset dest length s
  | .settingsWrite sub field length value => execSettingsWrite sub field length value s
  | .cfgCommit sub => execCfgCommit sub s
  | .linkTest sub o => execLinkTest sub o s
  | .eyeScan sub lane form handle offset => execEyeScan sub lane form handle offset s
  | .faultRead sub dest => execFaultRead sub dest s
  | .faultAck sub source => execFaultAck sub source s
  | .thermRearm sub => execThermRearm sub s
  | _ => .next s

/-- The state that a ring command leaves. -/
def ringExec (i : Instr) (s : State) : State :=
  match ringAnswer i s with
  | .next t => t
  | _ => s

/-- Table 11.4, R243: an entry that spells a `FILL` but for a `HOST` that is not zero, as it stands. -/
def fillHost (b : Sub) (d : HostRead) (e : BitVec 512) : Option Spelled :=
  let host := (e64 e 24).toNat
  match entryRead b d (BitVec.ofNat 512 (e.toNat - 2 ^ 192 * host)) with
  | .inl (.fill b h o n w p) =>
    if host = 0 then none
    else (spelled (.fill b h o n w p)).map fun x => { x with ops := x.ops ++ [(24, host)] }
  | _ => none

/-- R226, R228: an entry classified as executed starts: its command, or the status of the first check that fails. -/
def entryStartOp (b : Sub) (d : HostRead) (e : BitVec 512) (s : State) : State :=
  match fillHost b d e with
  | some p =>
    if s.serves p then ringStart p (.ok []) (moveBody 0x15 (.fill 1 0) b (e16 e 16) (e32 e 20) 0 (e32 e 32) false) s else s
  | none =>
  match entryRead b d e with
  | .inl i => ringExec i s
  | .inr st =>
    let s := match b.origin with
      | none => windowOpen b.ring.val b.seq (digestOf e) s
      | some o => mapOrigin o b.ring.val (originOpen b.seq (digestOf e)) s
    finish (entryOp e) b st 0 s

end Sys2Proof.Machine
end

