-- ==== Sys2Proof/Machine/Rings.lean ====
section
/-!
DEFINITION. Fetching and starting the entries that the host has written to its rings
(`10_rings_and_doorbells.md`, R212, R216, R219, R221, R226).
-/
namespace Sys2Proof.Machine

/-- R202, R213, R423, R429: the farrier core serves ring `n`. -/
def State.ringServed (s : State) (n : Nat) : Bool :=
  s.pwr.ready && s.pwr.farrier && (s.ring n).enabled
  && (match s.pwr.mode with
      | .idle => true
      | .active => true
      | .halter => n == 0
      | _ => false)

/-- R226: the distance of a sequence from `LAST_SEQ`. -/
def Ring.dist (r : Ring) (seq : Word) : Nat := (seq - r.lastSeq).toNat

/-- Table 10.9: the rows that execute the entry. -/
def Ring.executes (r : Ring) (seq : Word) : Bool :=
  !r.seqValid || decide (1 ≤ r.dist seq ∧ r.dist seq < 2 ^ 31)

/-- R226: the GAP flag of an entry that executes. -/
def Ring.gapOf (r : Ring) (seq : Word) : Bool := r.seqValid && decide (2 ≤ r.dist seq)

/-- A completion of an entry that does not execute: no result, no gap. -/
def refusal (n : Nat) (e : BitVec 512) (st : Half) (s : State) : State :=
  cqWrite (entryOp e) (e.getLsbD 8)
    { seq := e32 e 4, status := st, ring := BitVec.ofNat 8 n, dup := false, gap := false, tag := e64 e 8
      tDone := s.now, result := 0 } s

/-- R226, R227: an entry at the head of ring `n` that does not execute. -/
def headAnswer (n : Nat) (e : BitVec 512) (s : State) : State :=
  let r := s.ring n
  let seq := e32 e 4
  match r.window.find? fun w => w.seq == seq with
  | none => refusal n e stSeqStale s
  | some w =>
    if w.digest != digestOf e then refusal n e stSeqReused (ringProtocol 6 n 3 seq.toNat s)
    else if w.done then cqWrite (entryOp e) (e.getLsbD 8) (dupCompletion n w (e64 e 8)) s
    else mapRing n (fun r => { r with held := r.held ++ [(seq, e64 e 8)] }) s

/-- R226: the entries at the head of ring `n` that do not execute are answered, as far as its CQ has room (R219). -/
def headSettle (n : Nat) : Nat → State → State
  | 0, s => s
  | fuel + 1, s =>
    match (s.ring n).fetched with
    | [] => s
    | e :: rest =>
      if (s.ring n).executes (e32 e 4) || !s.cqRoom n || !s.ringServed n then s
      else headSettle n fuel (headAnswer n e (mapRing n (fun r => { r with fetched := rest }) s))

/-- R226: settle the heads of all rings. -/
def settleHeads (s : State) : State :=
  (List.range 16).foldl (fun s n => headSettle n (s.ring n).fetched.length s) s

/-- R216, cause 5 of Table 18.8: the fetch of ring `n` failed, which AER logs (R199). -/
def fetchFailed (n : Fin 16) (s : State) : State :=
  let s := intCause 5 (mapRing n.val (fun r => { r with halted := true }) s)
  raised (waitRaise fRingProtocol (ringData 5 n.val 3 (s.ring n.val).sqHead) (waitRaise fLinkAer [] ([], aerUncorrectable s)))

/-- R197, R215, R216: ring `n` has an announced entry to fetch, and the engine may issue requests. -/
def State.canFetch (s : State) (n : Nat) : Bool :=
  s.ringServed n && s.pwr.entry.isNone && s.bus.linkUp && s.bus.master && !s.bus.d3 && !(s.ring n).halted
  && decide ((s.ring n).sqHead ≠ (s.ring n).sqTail)

/-- R216: the read request for the entry at `SQ_HEAD` of ring `n`. -/
def fetchRead (n : Nat) (s : State) : State :=
  readSend (BitVec.ofNat 64 (s.cfg64 (ringReg n 0) + 64 * (s.ring n).sqHead)) 64 s

/-- `ENTRY_FETCH` (R215, R216). -/
def execEntryFetch (n : Fin 16) (r : FetchResult) (s : State) : Answer :=
  .next <|
    if !s.canFetch n.val then s
    else
      let s := fetchRead n.val s
      match r with
      | .failed => fetchFailed n s
      | .ok e =>
        let size := s.sqSize n.val
        let s := mapRing n.val (fun r =>
          { r with
            fetched := r.fetched ++ [e]
            sqHead := if r.sqHead + 1 < size then r.sqHead + 1 else 0 }) s
        headSettle n.val (s.ring n.val).fetched.length s

/-! ### Starting (R221) -/

/-- R221: the entry at the head of ring `n` is eligible. -/
def State.eligible (s : State) (n : Nat) : Bool :=
  match (s.ring n).fetched with
  | [] => false
  | e :: _ =>
    s.ringServed n && s.pwr.entry.isNone && s.cqRoom n && (s.ring n).executes (e32 e 4)
    && s.fenceMet (entrySub (Fin.ofNat 16 n) false none e)

/-- R211, Table 10.1: ring `n` is urgent, and its weight. -/
def State.ringUrgent (s : State) (n : Nat) : Bool := (s.cfg (ringReg n 0x14)).getLsbD 4
def State.ringWeight (s : State) (n : Nat) : Nat := bits (s.cfg (ringReg n 0x14)) 0 4

/-- Round-robin: the first eligible ring of a kind after ring `last`. -/
def State.nextRing (s : State) (urgent : Bool) (last : Nat) : Option Nat :=
  ((List.range 16).map fun k => (last + 1 + k) % 16).find? fun n => s.eligible n && s.ringUrgent n == urgent

/-- R221: the ring served next, and the turn state after that choice. -/
def State.pickRing (s : State) : Option (Nat × Rngs) :=
  let g := s.rng
  let normal := s.nextRing false g.lastNormal
  let takeNormal : Option (Nat × Rngs) :=
    if 0 < g.credit ∧ s.eligible g.lastNormal ∧ !s.ringUrgent g.lastNormal then
      some (g.lastNormal, { g with credit := g.credit - 1, urgentRun := 0 })
    else normal.map fun n => (n, { g with lastNormal := n, credit := s.ringWeight n, urgentRun := 0 })
  match s.nextRing true g.lastUrgent with
  | none => takeNormal
  | some u =>
    if 16 ≤ g.urgentRun ∧ normal.isSome then takeNormal
    else some (u, { g with lastUrgent := u, urgentRun := g.urgentRun + 1 })

/-- The entry at the head of ring `n` leaves the ring and starts. -/
def startHead (n : Fin 16) (d : HostRead) (s : State) : State :=
  match (s.ring n.val).fetched with
  | [] => s
  | e :: rest =>
    let gap := (s.ring n.val).gapOf (e32 e 4)
    entryStartOp (entrySub n gap none e) d e (mapRing n.val (fun r => { r with fetched := rest }) s)

/-- `ENTRY_START` (R221): `d` is what the host's memory answers to the reads of the command that starts. -/
def execEntryStart (d : HostRead) (s : State) : Answer :=
  let s := settleHeads s
  .next <|
    match s.pickRing with
    | none => s
    | some (n, g) => settleHeads (startHead (Fin.ofNat 16 n) d { s with rng := g })

end Sys2Proof.Machine
end

