-- ==== Sys2Proof/Machine/Forward.lean ====
section
/-!
DEFINITION. Forwarded commands (`13_team.md`, R321 to R325): the frames CMD, E2E_ACK, CPL, EVENT and BULK as they
arrive, and the timers that send them again.
-/
namespace Sys2Proof.Machine

/-- R299: the routed frame is for this engine. -/
def State.dstHere (s : State) (dst : BitVec 11) : Bool :=
  (dst == 0x400 && s.tm.leading) || (s.tm.id.map fun i => i.toNat == dst.toNat) == some true

/-- A routed frame goes on: to the lead up the tree, to an engine down from the lead (log entry 19). -/
def routeOn (p : Fin 4) (dst : BitVec 11) (f : TFrame) (s : State) : State :=
  if dst = 0x400 then sendUp f s
  else if some p == s.tm.parent || s.tm.leading then relayDown p f s
  else sendUp f s

/-- A routed frame: for this engine, or on. -/
def routedRx (p : Fin 4) (h : FrameHdr) (f : TFrame) (body : State → State) (s : State) : State :=
  treeRx p h true (fun s => if s.dstHere h.dst then (if s.teamCore then body s else s) else routeOn p h.dst f s) s

/-- The origin as this engine keeps it: none is this engine itself. -/
def State.originKey (s : State) (o : Half) : Option (BitVec 10) :=
  if o.toNat = s.engineId.toNat then none else some (o.truncate 10)

/-! ### CMD (R321, R322) -/

/-- R322: E2E_ACK of a CMD: to the lead, or from the lead to the origin. -/
def cmdAck (pl : CmdPl) (s : State) : State :=
  let a : E2ePl := ⟨pl.origin, pl.ring, 0, e32 pl.entry 4, s.engineId.zeroExtend 16⟩
  if s.tm.leading then sendDown (.e2eAck (pl.origin.truncate 11) a) s else sendUp (.e2eAck 0x400 a) s

/-- R225, R226: the classification of an entry against the window of its origin. -/
def OriginWindow.executes (w : OriginWindow) (seq : Word) : Bool :=
  !w.seqValid || decide (1 ≤ (seq - w.lastSeq).toNat ∧ (seq - w.lastSeq).toNat < 2 ^ 31)

/-- R226: the GAP flag against the window of the origin. -/
def OriginWindow.gapOf (w : OriginWindow) (seq : Word) : Bool :=
  w.seqValid && decide (2 ≤ (seq - w.lastSeq).toNat)

/-- R322: a CMD that does not execute: a resent one is answered with its stored completion. -/
def cmdAnswer (pl : CmdPl) (o : BitVec 10) (w : OriginWindow) (s : State) : State :=
  let e := pl.entry
  let n := pl.ring.toNat % 16
  let refuse (st : Half) (s : State) : State :=
    cplSend (entryOp e) o false false []
      { seq := e32 e 4, status := st, ring := BitVec.ofNat 8 n, dup := false, gap := false, tag := e64 e 8
        tDone := s.now, result := 0 } s
  match w.window.find? fun x => x.seq == e32 e 4 with
  | none => refuse stSeqStale s
  | some x =>
    if x.digest != digestOf e then refuse stSeqReused (ringProtocol 6 n 3 x.seq.toNat s)
    else if !x.done then s
    else
      let c := dupCompletion n x (e64 e 8)
      if pl.retry then cplSend (entryOp e) o false true [] { c with dup := false, status := x.status } s
      else cplSend (entryOp e) o true false [] c s

/-- R321: what an entry of another origin does on this engine: as one of its targets, or, on the lead, going on to them. A
command that reads host memory waits for the data (R324). -/
def cmdStart (b : Sub) (e : BitVec 512) (s : State) : State :=
  if s.tm.leading && b.target.toNat != s.engineId.toNat then leadForward s.free b e (entryStartOp b (.ok []) e) s
  else if entryReads e = 0 || entryOp e = 0x13 then entryStartOp b (.ok []) e s
  else match s.readOf b (entryReads e) with
    | some d => entryStartOp b d e (readDrop b s)
    | none => s.mapTm fun t => { t with reads := t.reads ++ [(b, e)] }

/-- R223, R324: on the lead a BARRIER waits for every earlier entry of its origin and ring. -/
def State.barrierWaits (s : State) (o : BitVec 10) (n : Fin 16) (e : BitVec 512) : Bool :=
  s.tm.leading && e.getLsbD 11 && s.tm.fwds.any fun f => f.sub.origin == some o && f.sub.ring == n

/-- R322: a CMD on one of its targets, or on the lead. -/
def cmdTake (pl : CmdPl) (s : State) : State :=
  let o : BitVec 10 := pl.origin.truncate 10
  let n : Fin 16 := Fin.ofNat 16 pl.ring.toNat
  let e := pl.entry
  let w := (s.originWin o n.val).getD ⟨o, n.val, false, 0, [], 0⟩
  if !(s.tm.isMember && s.pwr.ready && s.pwr.farrier) || s.barrierWaits o n e then s
  else
    let s := cmdAck pl s
    if w.executes (e32 e 4) then
      let s := mapOrigin o n.val (originOpen (e32 e 4) (digestOf e)) s
      cmdStart (entrySub n (w.gapOf (e32 e 4)) (some o) e) e s
    else cmdAnswer pl o w s

/-- R321: a CMD that travels down is for this engine when it names it, its group or the team. -/
def State.cmdHere (s : State) (dst : BitVec 11) : Bool :=
  s.dstHere dst || (groupTarget dst && inGroup s.frm.params.groups dst)

/-- `CMD` (R321, R322): the head of its payload, and its data, the submission entry. -/
def execCmd (p : Fin 4) (h : FrameHdr) (hd : CmdHead) (data : BitVec 512) (s : State) : Answer :=
  .next <| treeRx p h true (fun s =>
    let s := if s.dstHere h.dst then s else routeOn p h.dst (.cmd h.dst (hd.pl data)) s
    if s.cmdHere h.dst && s.teamCore then cmdTake (hd.pl data) s else s) s

/-- `CMD_RETRY_TIMER` (R322). -/
def execCmdRetryTimer (ring : Fin 16) (seq : Word) (target : BitVec 10) (s : State) : Answer :=
  .next <|
    match s.tm.fwds.find? fun f => f.sub.ring == ring && f.sub.seq == seq
        && f.targets.any fun t => t.1 == target && (match t.2 with
          | .waiting _ => true
          | _ => false) with
    | none => s
    | some f =>
      let sends := f.targets.foldl (fun n t => if t.1 = target then (match t.2 with
        | .waiting k => k
        | _ => n) else n) 0
      if 8 ≤ sends then fwdTarget f.sub.origin ring.val seq target (fun _ => .unreachable) s
      else
        let dst : BitVec 11 := target.zeroExtend 11
        let s := fwdTarget f.sub.origin ring.val seq target (fun _ => .waiting (sends + 1)) s
        if s.tm.leading then cmdDown f true dst s
        else sendUp (.cmd 0x400 ⟨s.engineId.zeroExtend 16, BitVec.ofNat 8 ring.val, true, f.entry⟩) s

/-! ### CPL (R322, R323) -/

/-- R321, log entry 25: the lead learns the groups of a member from a forwarded `TEAM_CONFIG` that succeeded. -/
def groupsLearn (f : Forward) (engine : BitVec 10) (st : Half) (s : State) : State :=
  if s.tm.leading && entryOp f.entry == 0x60 && isSuccess st && (e16 f.entry 16).getLsbD 2 then
    s.mapTm fun t => { t with members := t.members.map fun m =>
      if m.id = engine then { m with groups := (List.range 4).map fun k => e16 f.entry (20 + 2 * k) } else m }
  else s

/-- R322: the acknowledgement of a completion, to the engine that sent it. -/
def cplAck (pl : CplPl) (eng : Half) (s : State) : State :=
  routeSend (.e2eAck (eng.truncate 11) ⟨pl.origin, pl.ring, 1, pl.cpl.seq, eng⟩) s

/-- R322: the answer to the origin waits for its acknowledgement. -/
def State.owes (s : State) (pl : CplPl) : Bool :=
  s.tm.owed.any fun w => w.pl.origin == pl.origin && w.pl.ring == pl.ring && w.pl.cpl.seq == pl.cpl.seq

/-- R321: a member that a group command reached and that the lead did not know to be in the group is a target (assumption
25). -/
def targetLearn (key : Option (BitVec 10)) (n : Nat) (seq : Word) (eng : BitVec 10) (s : State) : State :=
  s.mapTm fun t =>
    { t with fwds := t.fwds.map fun f =>
        if f.group && f.sub.origin == key && f.sub.ring.val == n && f.sub.seq == seq
            && !(f.targets.any fun x => x.1 == eng) then
          { f with targets := f.targets ++ [(eng, .accepted)] }
        else f }

/-- R322, R323: a completion arrives at the lead or at the origin. The origin acknowledges it; the lead passes on the
acknowledgement of another origin when it has it. -/
def cplTake (pl : CplPl) (s : State) : State :=
  let n := pl.ring.toNat % 16
  let eng : BitVec 10 := pl.engine.truncate 10
  let key := s.originKey pl.origin
  let s := if key.isSome && ((s.fwd key n pl.cpl.seq).isSome || s.owes pl) then s else cplAck pl pl.engine s
  let s := targetLearn key n pl.cpl.seq eng s
  match s.fwd key n pl.cpl.seq with
  | none => s
  | some f => fwdTarget key n pl.cpl.seq eng (fun _ => .answered pl.cpl) (groupsLearn f eng pl.cpl.status s)

/-- `CPL`. -/
def execCpl (p : Fin 4) (h : FrameHdr) (pl : CplPl) (s : State) : Answer :=
  .next <| routedRx p h (.cpl h.dst pl) (cplTake pl) s

/-- `CPL_RETRY_TIMER` (R322). -/
def execCplRetryTimer (origin : BitVec 10) (ring : Fin 16) (seq : Word) (s : State) : Answer :=
  .next <|
    match s.tm.owed.find? fun w => w.origin == origin && w.pl.ring.toNat == ring.val && w.pl.cpl.seq == seq with
    | none => s
    | some w => if s.tm.leading then sendDown (.cpl (origin.zeroExtend 11) w.pl) s else sendUp (.cpl 0x400 w.pl) s

/-! ### BULK (R324; log entry 21) -/

/-- R324: the kind of the E2E_ACK of a chunk: 2 or 3, by turns. -/
def chunkKind (offset : Word) : Nat := 2 + offset.toNat / 65536 % 2

/-- R324: every piece of a chunk has arrived, the last one being short. -/
def chunkWhole (chunk : Nat) (got : List (Word × List Byte)) : Bool :=
  let l := got.filter fun e => e.1.toNat / 65536 == chunk
  match l.find? fun e => decide (e.2.length < 1016) with
  | none => false
  | some e => (List.range (e.1.toNat % 65536 / 1016)).all fun k =>
    l.any fun x => x.1.toNat == 65536 * chunk + 1016 * k

/-- R235: the host address that a stream offset stands for: the first or the second destination of the entry. -/
def bulkAddr (e : BitVec 512) (offset : Word) : Dword :=
  (if offset.toNat < secondHost then e64 e 24 else e64 e 32) + BitVec.ofNat 64 (offset.toNat % secondHost)

/-- R324: a piece arrives at the origin of command `f`: its bytes go to host memory, and a whole chunk is
acknowledged. -/
def bulkTake (f : Forward) (pl : BulkPl) (s : State) : State :=
  let peer := f.sub.target
  let t := (s.tm.streams.find? fun t => !t.out && t.number == pl.stream).getD ⟨pl.stream, peer, [], [], [], none, false⟩
  let s := hostWrite (bulkAddr f.entry pl.offset) pl.data s
  let got := t.got.filter (fun e => e.1 != pl.offset) ++ [(pl.offset, pl.data)]
  let whole := chunkWhole (pl.offset.toNat / 65536) got
  let rest := s.tm.streams.filter fun x => !(!x.out && x.number == pl.stream)
  let s := s.mapTm fun m =>
    { m with streams := if whole then rest else rest ++ [{ t with got := got }] }
  if whole then
    routeSend (.e2eAck peer ⟨s.engineId.zeroExtend 16, BitVec.ofNat 8 f.sub.ring.val,
      BitVec.ofNat 8 (chunkKind pl.offset), pl.stream, peer.zeroExtend 16⟩) s
  else s

/-- R324: the commands of other origins that read host data and have not got it all. -/
def State.readers (s : State) : List Sub :=
  ((s.pool.moves.filter fun m => m.kind == .copyIn && m.sub.origin.isSome).map Move.sub) ++ s.tm.reads.map Prod.fst

/-- R324: a piece put in its place among those that have come. -/
def pieceInsert (e : Word × List Byte) : List (Word × List Byte) → List (Word × List Byte)
  | [] => [e]
  | x :: l =>
    if e.1.toNat < x.1.toNat then e :: x :: l else if e.1 = x.1 then e :: l else x :: pieceInsert e l

/-- R324: a piece of the data that a command of another origin reads: a whole chunk is acknowledged, and a command that
waited starts with the whole. -/
def readTake (b : Sub) (pl : BulkPl) (s : State) : State :=
  let peer : BitVec 11 := (b.origin.getD 0x3FF).zeroExtend 11
  let mine (t : Stream) : Bool := !t.out && t.number == pl.stream && t.peer == peer
  let t := (s.tm.streams.find? mine).getD ⟨pl.stream, peer, [], [], [], none, false⟩
  let t := { t with got := pieceInsert (pl.offset, pl.data) t.got }
  let s := s.mapTm fun m => { m with streams := (m.streams.filter fun x => !mine x) ++ [t] }
  let s := if chunkWhole (pl.offset.toNat / 65536) t.got then
      routeSend (.e2eAck peer ⟨s.engineId.zeroExtend 16, BitVec.ofNat 8 b.ring.val, BitVec.ofNat 8 (chunkKind pl.offset),
        pl.stream, peer.zeroExtend 16⟩) s
    else s
  match s.tm.reads.find? fun r => r.1 == b with
  | none => s
  | some r => match s.readOf b (entryReads r.2) with
    | none => s
    | some d => entryStartOp b d r.2 (readDrop b (s.mapTm fun m => { m with reads := m.reads.filter fun x => x.1 != b }))

/-- `BULK` (R324): at the target of a command that reads host data, or at the origin of the one that the stream number
names. -/
def execBulk (p : Fin 4) (h : FrameHdr) (pl : BulkPl) (s : State) : Answer :=
  .next <| routedRx p h (.bulk h.dst pl) (fun s =>
    match s.readers.find? fun b => b.seq == pl.stream with
    | some b => readTake b pl s
    | none => match s.tm.fwds.find? fun f => f.sub.origin.isNone && f.sub.seq == pl.stream with
      | some f => bulkTake f pl s
      | none => s) s

/-- R324: a chunk is acknowledged: the next one goes out, and after the last the blocks are free and the command
completes; a `TIME_QUERY` ended when it read the time (R279). -/
def streamAck (t : Stream) (s : State) : State :=
  let left := t.sent.filter fun e => !(t.flight.contains e)
  let others := s.tm.streams.filter fun x => x != t
  if left.isEmpty then
    let s := s.mapTm fun m => { m with streams := others }
    match t.fin with
    | some (op, b, st, res) => finishAt op b st res (if op = 0x64 then res else s.now) s
    | none => s
  else
    let n := { t with sent := left }
    streamSend n (s.mapTm fun m => { m with streams := others ++ [n] })

/-- `BULK_RETRY_TIMER` (R324): the chunk in flight that holds the piece is sent again. -/
def execBulkRetryTimer (stream offset : Word) (s : State) : Answer :=
  .next <|
    match s.tm.streams.find? fun t => t.out && t.number == stream && t.flight.any fun e => e.1 == offset with
    | some t => streamSend t s
    | none => s

/-! ### E2E_ACK (R322, R324) -/

/-- R322: the acknowledgement of a CMD, of a CPL or of a chunk. -/
def e2eTake (pl : E2ePl) (s : State) : State :=
  let n := pl.ring.toNat % 16
  match pl.kind.toNat with
  | 0 =>
    let key := s.originKey pl.origin
    let eng : BitVec 10 := pl.engine.truncate 10
    fwdTarget key n pl.seq eng (fun t => match t with
      | .waiting _ => .accepted
      | t => t) (targetLearn key n pl.seq eng s)
  | 1 =>
    let mine (w : OwedCpl) : Bool :=
      w.origin.toNat == pl.origin.toNat && w.pl.ring.toNat % 16 == n && w.pl.cpl.seq == pl.seq
    let s1 := s.mapTm fun t => { t with owed := t.owed.filter fun w => !mine w }
    (s.tm.owed.filter mine).foldl (fun s w =>
      w.acks.foldl (fun s e => cplAck w.pl (e.zeroExtend 16) s) s) s1
  | k =>
    match s.tm.streams.find? fun t => t.out && t.number == pl.seq && t.peer.toNat == pl.origin.toNat
        && t.flight.any fun e => chunkKind e.1 == k with
    | some t => streamAck t s
    | none => s

/-- `E2E_ACK`. -/
def execE2eAck (p : Fin 4) (h : FrameHdr) (pl : E2ePl) (s : State) : Answer :=
  .next <| routedRx p h (.e2eAck h.dst pl) (e2eTake pl) s

/-! ### EVENT (R325) -/

/-- `EVENT`: the lead writes it to its EQ; another engine passes it up. -/
def execEvent (p : Fin 4) (h : FrameHdr) (e : Event) (s : State) : Answer :=
  .next <| treeRx p h true (fun s =>
    if s.tm.leading then (if s.teamCore then eqWrite { e with fwd := true } s else s)
    else if s.tm.parent = some p then s else sendUp (.event e) s) s

end Sys2Proof.Machine
end

