-- ==== Sys2Proof/Machine/Dispatch.lean ====
section
/-!
DEFINITION. The meaning of every command: one arm per constructor of `Instr`.
-/
namespace Sys2Proof.Machine

def exec (i : Instr) (s : State) : Host.Outcome State Fault Refusal :=
  match i with
  | .nop sub => Sys2Proof.Machine.execNop sub s
  | .echo sub value => Sys2Proof.Machine.execEcho sub value s
  | .ident sub dest => Sys2Proof.Machine.execIdent sub dest s
  | .heartbeat sub => Sys2Proof.Machine.execHeartbeat sub s
  | .poolAlloc sub count channel flags => Sys2Proof.Machine.execPoolAlloc sub count channel flags s
  | .zeroingDone handle => Sys2Proof.Machine.execZeroingDone handle s
  | .poolFree sub handle => Sys2Proof.Machine.execPoolFree sub handle s
  | .poolQuery sub handle dest => Sys2Proof.Machine.execPoolQuery sub handle dest s
  | .copyIn sub handle offset host length => Sys2Proof.Machine.execCopyIn sub handle offset host length s
  | .copyOut sub handle offset host length => Sys2Proof.Machine.execCopyOut sub handle offset host length s
  | .fill sub handle offset length width pattern => Sys2Proof.Machine.execFill sub handle offset length width pattern s
  | .dataMoveDone id host ue ce => Sys2Proof.Machine.execDataMoveDone id host ue ce s
  | .surfaceDefine sub id d => Sys2Proof.Machine.execSurfaceDefine sub id d s
  | .surfaceRetire sub id => Sys2Proof.Machine.execSurfaceRetire sub id s
  | .layerSet sub f => Sys2Proof.Machine.execLayerSet sub f s
  | .layerPost sub o => Sys2Proof.Machine.execLayerPost sub o s
  | .shapesPost sub handle offset count fence => Sys2Proof.Machine.execShapesPost sub handle offset count fence s
  | .captureSet sub surface tap mode => Sys2Proof.Machine.execCaptureSet sub surface tap mode s
  | .sceneCommit sub frame => Sys2Proof.Machine.execSceneCommit sub frame s
  | .sceneQuery sub which dest => Sys2Proof.Machine.execSceneQuery sub which dest s
  | .timingSet sub o => Sys2Proof.Machine.execTimingSet sub o s
  | .syncSet sub o => Sys2Proof.Machine.execSyncSet sub o s
  | .pwmSet sub o => Sys2Proof.Machine.execPwmSet sub o s
  | .curbSet sub o => Sys2Proof.Machine.execCurbSet sub o s
  | .derateSet sub o => Sys2Proof.Machine.execDerateSet sub o s
  | .cutoffSet sub o => Sys2Proof.Machine.execCutoffSet sub o s
  | .probeSet sub enables frame => Sys2Proof.Machine.execProbeSet sub enables frame s
  | .pixmapRead sub o => Sys2Proof.Machine.execPixmapRead sub o s
  | .neighbourFillSet sub strength frame => Sys2Proof.Machine.execNeighbourFillSet sub strength frame s
  | .hallmarkSelect sub mask add frame => Sys2Proof.Machine.execHallmarkSelect sub mask add frame s
  | .safetyStatus sub => Sys2Proof.Machine.execSafetyStatus sub s
  | .fallbackSet sub o => Sys2Proof.Machine.execFallbackSet sub o s
  | .canListenSet sub o => Sys2Proof.Machine.execCanListenSet sub o s
  | .roadMode sub mask on frame => Sys2Proof.Machine.execRoadMode sub mask on frame s
  | .teamConfig sub o => Sys2Proof.Machine.execTeamConfig sub o s
  | .teamStatus sub dest => Sys2Proof.Machine.execTeamStatus sub dest s
  | .teamPair sub key => Sys2Proof.Machine.execTeamPair sub key s
  | .timeSet sub mode value => Sys2Proof.Machine.execTimeSet sub mode value s
  | .timeQuery sub dest => Sys2Proof.Machine.execTimeQuery sub dest s
  | .powerState sub state => Sys2Proof.Machine.execPowerState sub state s
  | .calRun sub phases level => Sys2Proof.Machine.execCalRun sub phases level s
  | .calRunEnd m => Sys2Proof.Machine.execCalRunEnd m s
  | .calLoadMap sub handle offset => Sys2Proof.Machine.execCalLoadMap sub handle offset s
  | .calStore sub => Sys2Proof.Machine.execCalStore sub s
  | .calRead sub what offset dest length => Sys2Proof.Machine.execCalRead sub what offset dest length s
  | .updateOpen sub imageLength => Sys2Proof.Machine.execUpdateOpen sub imageLength s
  | .updateEraseDone ok => Sys2Proof.Machine.execUpdateEraseDone ok s
  | .updateWrite sub offset host length data => Sys2Proof.Machine.execUpdateWrite sub offset host length data s
  | .updateClose sub => Sys2Proof.Machine.execUpdateClose sub s
  | .updateConfirm sub => Sys2Proof.Machine.execUpdateConfirm sub s
  | .updateStatus sub => Sys2Proof.Machine.execUpdateStatus sub s
  | .authLogin sub o data => Sys2Proof.Machine.execAuthLogin sub o data s
  | .authLogout sub => Sys2Proof.Machine.execAuthLogout sub s
  | .protectedWrite sub item value => Sys2Proof.Machine.execProtectedWrite sub item value s
  | .passwordSet sub oldLen newLen operator host data => Sys2Proof.Machine.execPasswordSet sub oldLen newLen operator host data s
  | .logRead sub log first dest count => Sys2Proof.Machine.execLogRead sub log first dest count s
  | .logArchive sub upTo => Sys2Proof.Machine.execLogArchive sub upTo s
  | .settingsRead sub which offset dest length => Sys2Proof.Machine.execSettingsRead sub which offset dest length s
  | .settingsWrite sub field length value => Sys2Proof.Machine.execSettingsWrite sub field length value s
  | .cfgCommit sub => Sys2Proof.Machine.execCfgCommit sub s
  | .linkTest sub o => Sys2Proof.Machine.execLinkTest sub o s
  | .linkTestEnd lane => Sys2Proof.Machine.execLinkTestEnd lane s
  | .eyeScan sub lane form handle offset => Sys2Proof.Machine.execEyeScan sub lane form handle offset s
  | .eyeScanDone lane r => Sys2Proof.Machine.execEyeScanDone lane r s
  | .faultRead sub dest => Sys2Proof.Machine.execFaultRead sub dest s
  | .faultAck sub source => Sys2Proof.Machine.execFaultAck sub source s
  | .thermRearm sub => Sys2Proof.Machine.execThermRearm sub s
  | .updStrobeImmediate groups => Sys2Proof.Machine.execUpdStrobeImmediate groups s
  | .updStrobeNextTick groups => Sys2Proof.Machine.execUpdStrobeNextTick groups s
  | .updStrobeAtTime groups => Sys2Proof.Machine.execUpdStrobeAtTime groups s
  | .updStrobeRefused groups => Sys2Proof.Machine.execUpdStrobeRefused groups s
  | .armedSetAtTime => Sys2Proof.Machine.execArmedSetAtTime s
  | .cfgCrcCommit part value => Sys2Proof.Machine.execCfgCrcCommit part value s
  | .cfgLock => Sys2Proof.Machine.execCfgLock s
  | .fltPinRel => Sys2Proof.Machine.execFltPinRel s
  | .seqReset ring => Sys2Proof.Machine.execSeqReset ring s
  | .gpioSet bits => Sys2Proof.Machine.execGpioSet bits s
  | .gpioClr bits => Sys2Proof.Machine.execGpioClr bits s
  | .registerWrite bar offset values beFirst beLast => Sys2Proof.Machine.execRegisterWrite bar offset values beFirst beLast s
  | .refusedRead bar offset count beFirst beLast => Sys2Proof.Machine.execRefusedRead bar offset count beFirst beLast s
  | .clearingRead offset count => Sys2Proof.Machine.execClearingRead offset count s
  | .ltnErrcntRead lane => Sys2Proof.Machine.execLtnErrcntRead lane s
  | .fltFirstSrcRead => Sys2Proof.Machine.execFltFirstSrcRead s
  | .ttNowLoRead => Sys2Proof.Machine.execTtNowLoRead s
  | .sqTailDoorbell ring value => Sys2Proof.Machine.execSqTailDoorbell ring value s
  | .cqHeadDoorbell ring value => Sys2Proof.Machine.execCqHeadDoorbell ring value s
  | .eqHeadDoorbell value => Sys2Proof.Machine.execEqHeadDoorbell value s
  | .msixTableWrite offset value => Sys2Proof.Machine.execMsixTableWrite offset value s
  | .bar4Read offset length ue ce => Sys2Proof.Machine.execBar4Read offset length ue ce s
  | .bar4Write offset bytes ue ce => Sys2Proof.Machine.execBar4Write offset bytes ue ce s
  | .configurationRequest offset write => Sys2Proof.Machine.execConfigurationRequest offset write s
  | .entryFetch ring r => Sys2Proof.Machine.execEntryFetch ring r s
  | .entryStart data => Sys2Proof.Machine.execEntryStart data s
  | .cqModTimeout q => Sys2Proof.Machine.execCqModTimeout q s
  | .linkDown => Sys2Proof.Machine.execLinkDown s
  | .linkUp speed width => Sys2Proof.Machine.execLinkUp speed width s
  | .l1Entry => Sys2Proof.Machine.execL1Entry s
  | .ptmDialog => Sys2Proof.Machine.execPtmDialog s
  | .ptmResponse masterTime propDelay => Sys2Proof.Machine.execPtmResponse masterTime propDelay s
  | .tick rampBad => Sys2Proof.Machine.execTick rampBad s
  | .probeSlot found => Sys2Proof.Machine.execProbeSlot found s
  | .logFlush => Sys2Proof.Machine.execLogFlush s
  | .cutoff ue => Sys2Proof.Machine.execCutoff ue s
  | .compositionStart => Sys2Proof.Machine.execCompositionStart s
  | .rowWrite o => Sys2Proof.Machine.execRowWrite o s
  | .composeDone => Sys2Proof.Machine.execComposeDone s
  | .guardStart divisionResidueBad => Sys2Proof.Machine.execGuardStart divisionResidueBad s
  | .aScanRow row readBack => Sys2Proof.Machine.execAScanRow row readBack s
  | .fsyncInEdge rising => Sys2Proof.Machine.execFsyncInEdge rising s
  | .fsyncLost => Sys2Proof.Machine.execFsyncLost s
  | .fsyncOutPulse => Sys2Proof.Machine.execFsyncOutPulse s
  | .pixelSample p => Sys2Proof.Machine.execPixelSample p s
  | .tileOvercurrentTrip tile => Sys2Proof.Machine.execTileOvercurrentTrip tile s
  | .tileReclose tile => Sys2Proof.Machine.execTileReclose tile s
  | .arrayOvercurrentTrip => Sys2Proof.Machine.execArrayOvercurrentTrip s
  | .relightCapLift => Sys2Proof.Machine.execRelightCapLift s
  | .darkNAssert => Sys2Proof.Machine.execDarkNAssert s
  | .darkNRelease => Sys2Proof.Machine.execDarkNRelease s
  | .relightStep => Sys2Proof.Machine.execRelightStep s
  | .tempTrip comparator => Sys2Proof.Machine.execTempTrip comparator s
  | .thermalRestart => Sys2Proof.Machine.execThermalRestart s
  | .hkSample raw => Sys2Proof.Machine.execHkSample raw s
  | .hkRoundEnd reports => Sys2Proof.Machine.execHkRoundEnd reports s
  | .learnedOffsetUpdate => Sys2Proof.Machine.execLearnedOffsetUpdate s
  | .relaxationHoldEnd => Sys2Proof.Machine.execRelaxationHoldEnd s
  | .vledAdjStep vMeas => Sys2Proof.Machine.execVledAdjStep vMeas s
  | .headroomHwStep headroom => Sys2Proof.Machine.execHeadroomHwStep headroom s
  | .scrubRead r => Sys2Proof.Machine.execScrubRead r s
  | .cfgCrcPass flipShared flipLocal => Sys2Proof.Machine.execCfgCrcPass flipShared flipLocal s
  | .cfgStaleTimeout part => Sys2Proof.Machine.execCfgStaleTimeout part s
  | .tpoPulse x => Sys2Proof.Machine.execTpoPulse x s
  | .tpoWindowClose x => Sys2Proof.Machine.execTpoWindowClose x s
  | .sinEdge n high => Sys2Proof.Machine.execSinEdge n high s
  | .heartbeatTimeout => Sys2Proof.Machine.execHeartbeatTimeout s
  | .canFrame f => Sys2Proof.Machine.execCanFrame f s
  | .canTimeout => Sys2Proof.Machine.execCanTimeout s
  | .degradeRelease source => Sys2Proof.Machine.execDegradeRelease source s
  | .faultNRelease => Sys2Proof.Machine.execFaultNRelease s
  | .watchdogExpiry core => Sys2Proof.Machine.execWatchdogExpiry core s
  | .coreReloadDone core => Sys2Proof.Machine.execCoreReloadDone core s
  | .sessionTimeout => Sys2Proof.Machine.execSessionTimeout s
  | .trngHealthRestored => Sys2Proof.Machine.execTrngHealthRestored s
  | .flashWriteDone ok => Sys2Proof.Machine.execFlashWriteDone ok s
  | .portSignalDetect port => Sys2Proof.Machine.execPortSignalDetect port s
  | .helloSend port => Sys2Proof.Machine.execHelloSend port s
  | .hello port h p => Sys2Proof.Machine.execHello port h p s
  | .acknak port h => Sys2Proof.Machine.execAcknak port h s
  | .acknakTimer port => Sys2Proof.Machine.execAcknakTimer port s
  | .retransmitTimeout port => Sys2Proof.Machine.execRetransmitTimeout port s
  | .portDown port reason => Sys2Proof.Machine.execPortDown port reason s
  | .timeSync port h p => Sys2Proof.Machine.execTimeSync port h p s
  | .timeSyncSend => Sys2Proof.Machine.execTimeSyncSend s
  | .timeSyncTimeout => Sys2Proof.Machine.execTimeSyncTimeout s
  | .pdelayTimer port => Sys2Proof.Machine.execPdelayTimer port s
  | .pdelayReq port h n => Sys2Proof.Machine.execPdelayReq port h n s
  | .pdelayResp port h n t2 t3 => Sys2Proof.Machine.execPdelayResp port h n t2 t3 s
  | .schedule port h p => Sys2Proof.Machine.execSchedule port h p s
  | .digest port h p => Sys2Proof.Machine.execDigest port h p s
  | .state port h p => Sys2Proof.Machine.execState port h p s
  | .enum port h p => Sys2Proof.Machine.execEnum port h p s
  | .enumeration => Sys2Proof.Machine.execEnumeration s
  | .cmd port h p data => Sys2Proof.Machine.execCmd port h p data s
  | .e2eAck port h p => Sys2Proof.Machine.execE2eAck port h p s
  | .cpl port h p => Sys2Proof.Machine.execCpl port h p s
  | .event port h e => Sys2Proof.Machine.execEvent port h e s
  | .bulk port h p => Sys2Proof.Machine.execBulk port h p s
  | .cmdRetryTimer ring seq target => Sys2Proof.Machine.execCmdRetryTimer ring seq target s
  | .cplRetryTimer origin ring seq => Sys2Proof.Machine.execCplRetryTimer origin ring seq s
  | .bulkRetryTimer stream offset => Sys2Proof.Machine.execBulkRetryTimer stream offset s
  | .memberLeft engine => Sys2Proof.Machine.execMemberLeft engine s
  | .divergentEnter => Sys2Proof.Machine.execDivergentEnter s
  | .divergentLeave => Sys2Proof.Machine.execDivergentLeave s
  | .tickSyncEntry => Sys2Proof.Machine.execTickSyncEntry s
  | .leadLost => Sys2Proof.Machine.execLeadLost s
  | .handback => Sys2Proof.Machine.execHandback s
  | .powerEntryDrained => Sys2Proof.Machine.execPowerEntryDrained s
  | .powerEntryDark => Sys2Proof.Machine.execPowerEntryDark s
  | .wakePin => Sys2Proof.Machine.execWakePin s
  | .canRxWake => Sys2Proof.Machine.execCanRxWake s
  | .traceSignalWake lane => Sys2Proof.Machine.execTraceSignalWake lane s
  | .teamTimeAlarm => Sys2Proof.Machine.execTeamTimeAlarm s
  | .wakeComplete => Sys2Proof.Machine.execWakeComplete s
  | .pwrEnReassert => Sys2Proof.Machine.execPwrEnReassert s
  | .rstNAssert => Sys2Proof.Machine.execRstNAssert s
  | .rstNRelease => Sys2Proof.Machine.execRstNRelease s
  | .clockFail c => Sys2Proof.Machine.execClockFail c s
  | .vaonPowerOn => Sys2Proof.Machine.execVaonPowerOn s
  | .vaonLoss => Sys2Proof.Machine.execVaonLoss s
  | .pwrEnAssert => Sys2Proof.Machine.execPwrEnAssert s
  | .suppliesValid => Sys2Proof.Machine.execSuppliesValid s
  | .supplyTimeout => Sys2Proof.Machine.execSupplyTimeout s
  | .otpLoadDone ok => Sys2Proof.Machine.execOtpLoadDone ok s
  | .dramTrained => Sys2Proof.Machine.execDramTrained s
  | .startupFirstTick => Sys2Proof.Machine.execStartupFirstTick s
  | .startupReady => Sys2Proof.Machine.execStartupReady s
  | .prbsLock lane => Sys2Proof.Machine.execPrbsLock lane s
  | .prbsLockLoss lane => Sys2Proof.Machine.execPrbsLockLoss lane s
  | .traceFrameDiscarded port why reliable => Sys2Proof.Machine.execTraceFrameDiscarded port why reliable s
  | .aerErrorLogged correctable => Sys2Proof.Machine.execAerErrorLogged correctable s
  | .lockoutExpiry => Sys2Proof.Machine.execLockoutExpiry s
  | .trngHealthFailure => Sys2Proof.Machine.execTrngHealthFailure s
  | .configSpaceReady => Sys2Proof.Machine.execConfigSpaceReady s

end Sys2Proof.Machine
end

