-- ==== Sys2Proof/Machine/Idle.lean ====
section
/-!
DEFINITION. What an empty queue lets pass: 1 ns of the local time base and of team time (R309, R385; DESIGN
CHOICE, assumption 2), and in it one fuse that UPDATE_CONFIRM blows (R453; DESIGN CHOICE, assumption 12).
-/
namespace Sys2Proof.Machine

/-- The team-time counter runs (R309, Table 19.1). -/
def State.teamRuns (s : State) : Bool :=
  match s.pwr.mode with
  | .startup => true
  | .idle => true
  | .active => true
  | .sleep => true
  | .halter => true
  | _ => false

/-- R310, R313: a correction is slewed in at 100 ppm under PTM and at 50 ppm on a follower: one extra or one
missing nanosecond in so many. -/
def State.slewEvery (s : State) : Nat := if s.clk.disc = .ptm then 10000 else 20000

/-- R310, R313: what the last corrected rate adds to team time in `t` ns without a correction: the last one over the time
since the one before it, at most 100 ppm, or 50 ppm on a follower (DEDUCED, assumption 82). -/
def State.heldNs (s : State) (t : Nat) : Int :=
  let cap : Int := ((s.clk.rateOver / s.slewEvery : Nat) : Int)
  let r := max (-cap) (min cap s.clk.rate)
  r * (t : Int) / (max 1 s.clk.rateOver : Nat)

/-- The slew of one nanosecond; in the holdover of PTM, and on a follower that hears no TIME_SYNC, what the last corrected rate adds. -/
def State.slewNow (s : State) : Int :=
  match s.clk.holdAt with
  | some a => s.heldNs (s.clk.loc + 1 - a) - s.heldNs (s.clk.loc - a)
  | none => if s.clk.slew = 0 ∨ s.clk.loc % s.slewEvery ≠ 0 then 0 else s.clk.slew.sign

/-- 1 ns passes. -/
def idleStep (s : State) : State :=
  if s.pwr.mode = .off then s
  else
    let d := s.slewNow
    fuseStep <| s.mapClk fun c =>
      { c with
        loc := c.loc + 1
        team := if s.teamRuns then c.team + BitVec.ofInt 64 (1 + d) else c.team
        slew := if s.teamRuns && c.holdAt.isNone then c.slew - d else c.slew }

end Sys2Proof.Machine
end

