-- ==== Sys2Proof/Safety.lean ====
section
/-!
DEFINITION. What the claims speak of: a safe step, the canonical form of the memories, and when a ring command runs on
this engine.
-/
namespace Sys2Proof

/-- A step that answers a next state. -/
def StepSafe (s : Machine.State) : Prop := ∃ t, Machine.step s = .next t

/-- Every byte memory of the state is in its canonical form. -/
def MemoriesWf (s : Machine.State) : Prop :=
  Machine.Memory.wf s.pool.mem ∧ Machine.cellsWf 0 s.hlt.map

namespace Claims

open Sys2Proof.Machine

/-- The ring command `i` runs on this engine now: its entry can start (R212, R219, R221, R423), checks 4 to 8 of R228 pass,
its target is this engine or it came here as CMD (R321), and neither DIVERGENT nor an exclusion answers it (R327). -/
def Runs (i : Instr) (s : State) : Prop :=
  match spelled i with
  | none => False
  | some p =>
    s.serves p = true ∧ s.entryCheck p = none ∧ s.namesSelf p.sub = true
    ∧ (s.tm.divergent = false ∨ groupTarget p.sub.target = false)
    ∧ (s.tm.excluded = false ∨ p.sub.origin = none)
    ∧ (p.row.session = false ∨ s.sessionOk p.sub = true)

/-- The state in which the effect of a ring command that runs takes place: its entry has its place in the duplicate
window (R226), and a command that needs the session has restarted the session's 600 s (R262). -/
def begun (i : Instr) (s : State) : State :=
  match spelled i with
  | none => s
  | some p => if p.row.session then sessionTouch (startWindow p s) else startWindow p s

/-- A set command (R236, R237): what a command that runs answers, by its operands. `shape` says that the operands
pass their own checks, `check` is the status of a failing relation or state (R35, with `ST_BUDGET`, is checked last, R254), `changes` is what is armed and `own` the
command's own result. -/
def ArmsFor (i : Instr) (sub : Sub) (op : Nat) (mask : State → Half) (frame : Word) (shape : State → Bool)
    (check : State → Option Half) (changes : State → List Change) (own : State → Nat) : Prop :=
  ∀ s : State, Runs i s →
    let b := begun i s
    let ok := shape b = true ∧ (sub.atTick = true ∨ frame = 0)
    let sel := ok ∧ mask b ≠ 0
    let late := sel ∧ (check b = none ∨ check b = some stBudget)
    let at_ := if sub.atTick then frame else if b.frm.blank then b.nextFrame + 1 else b.nextFrame
    (¬ ok → exec i s = .next (finish op sub stBadOperand 0 b))
    ∧ (ok ∧ mask b = 0 → exec i s = .next (finish op sub stOk 0 b))
    ∧ (∀ st, sel ∧ check b = some st ∧ st ≠ stBudget → exec i s = .next (finish op sub st 0 b))
    ∧ (late ∧ sub.atTick = true ∧ b.passed frame = true → exec i s = .next (finish op sub stWrongState 0 b))
    ∧ (late ∧ (sub.atTick = false ∨ b.passed frame = false) ∧ 16 ≤ b.armedSets →
        exec i s = .next (finish op sub stBusy 0 b))
    ∧ (sel ∧ check b = some stBudget ∧ (sub.atTick = false ∨ b.passed frame = false) ∧ b.armedSets < 16 →
        exec i s = .next (finish op sub stBudget 0 b))
    ∧ (sel ∧ check b = none ∧ (sub.atTick = false ∨ b.passed frame = false) ∧ b.armedSets < 16 →
        exec i s = .next (finish op sub stOkDeferred (BitVec.ofNat 64 (own b % 2 ^ 32 + 2 ^ 32 * at_.toNat))
          (b.mapFrm fun f =>
            { f with armed := f.armed ++ [⟨at_, changes b, f.armSeq, true, sub.atTick⟩], armSeq := f.armSeq + 1 })))

/-- What the host's memory answers to the three commands that read it when they execute. -/
def toldByHost : Instr → Option HostRead
  | .updateWrite _ _ _ _ d => some d
  | .authLogin _ _ d => some d
  | .passwordSet _ _ _ _ _ d => some d
  | _ => none

/-- A frame on port `p` that R300 accepts: the port is UP, the frame counter is fresh, nothing waits for its
acknowledgement, and the frame asks for no repetition. -/
def Arrives (p : Fin 4) (h : FrameHdr) (s : State) : Prop :=
  (s.port p).state = .up ∧ (s.port p).fresh h.fcnt = true ∧ (s.port p).replay = [] ∧ h.nak = false

/-- What the arrival of an unreliable frame leaves on its port. -/
def arrived (p : Fin 4) (h : FrameHdr) (s : State) : State :=
  mapPort p (fun q => { q with rxFcnt := some h.fcnt }) s

/-- A reliable frame that R302 accepts: it is the next in sequence. -/
def ArrivesNext (p : Fin 4) (h : FrameHdr) (s : State) : Prop := Arrives p h s ∧ h.rseq = (s.port p).rxNext

/-- What the arrival of the next reliable frame leaves on its port. -/
def arrivedNext (p : Fin 4) (h : FrameHdr) (s : State) : State :=
  mapPort p (fun q => { q with rxFcnt := some h.fcnt, rxNext := q.rxNext + 1, ackDue := true }) s

end Claims

end Sys2Proof
end

