-- ==== Sys2Proof/Certificates/Slice0/Obligations.lean ====
section
/-!
DEFINITION. The statements for the provers. Each docstring names the rules of the spec that the statement rests on.
-/
open Sys2Proof Sys2Proof.Machine Sys2Proof.Claims

/-! ### The block: steps, the queue, reset -/

/-- Assumption 2 (the model's form of a block): the command at the front of the queue is executed on the state that
holds the rest of the queue. The queue is the model's form of a block, log entry 2. -/
def Obligations.StepRunsFront : Prop := ∀ (c : Instr) (rest : List Instr) (s : State),
  step { s with pending := c :: rest } = exec c { s with pending := rest }

/-- Assumption 2, DESIGN CHOICE: with an empty queue 1 ns passes. The local time base counts it (R385), and so does the
team-time counter in the states of Table 19.1 that run it (R309), with at most one nanosecond of slew (R310, R313);
in the holdover of PTM the last corrected rate stands in for the slew (R310, assumption 82). That an idle step is 1
ns is the model's choice, log entry 2. -/
def Obligations.IdleStepCounts : Prop := ∀ s : State, s.pending = [] →
  (s.pwr.mode = .off → step s = .next s)
  ∧ (s.pwr.mode ≠ .off → s.fls.blow = none → ∃ d : Int, d.natAbs ≤ 1 ∧ (s.clk.holdAt = none → d.natAbs ≤ s.clk.slew.natAbs)
      ∧ step s = .next (s.mapClk fun c =>
          { c with
            loc := c.loc + 1
            team := if s.teamRuns then c.team + BitVec.ofInt 64 (1 + d) else c.team
            slew := if s.teamRuns && c.holdAt.isNone then c.slew - d else c.slew })
      ∧ (s.clk.holdAt = none → s.clk.slew = 0 → d = 0) ∧ (s.clk.holdAt ≠ none → s.clk.rate = 0 → d = 0))

/-- What the spec gives for reset: rings and event ring disabled with PHASE 1 and pointers 0 (Tables 10.1, 10.2), every
MSI-X vector masked (R195), no handle, surface or staged scene, sequences 0 (R129), every class-C register and its
shadow at its reset value (R406), no fault latched and FAULT_N asserted (R369), fast-dark (R64), the default items
of the set commands (Tables 02.2, 04.2), no session, no team, and memory with nothing listed. Empty pool memory and
the moment taken as reset are the model's choices, log entries 1, 4 and 11. -/
def Obligations.ResetLeaves : Prop :=
  let s := State.reset
  s.rng.q.length = 16
  ∧ (∀ n, n < 16 → (s.ring n).enabled = false ∧ (s.ring n).sqTail = 0 ∧ (s.ring n).sqHead = 0
      ∧ (s.ring n).cqTail = 0 ∧ (s.ring n).cqHead = 0 ∧ (s.ring n).cqPhase = true ∧ (s.ring n).seqValid = false
      ∧ (s.ring n).window = [])
  ∧ s.rng.eq.enabled = false ∧ s.rng.eq.tail = 0 ∧ s.rng.eq.phase = true ∧ s.rng.eq.seq = 0
  ∧ s.bus.msix.length = 32 ∧ (∀ e ∈ s.bus.msix, e.masked = true) ∧ s.bus.pba = 0
  ∧ s.pool.handles = [] ∧ s.pool.mem = [] ∧ s.scn.surfs = [] ∧ s.scn.staged = [] ∧ s.scn.cur = none
  ∧ s.scn.nextSeq = 0
  ∧ (∀ o, s.cfg o = regReset o) ∧ s.reg.shadow = [] ∧ s.reg.sets = [] ∧ s.reg.locked = false ∧ s.reg.intStat = 0
  ∧ s.flt.valid = false ∧ s.flt.sticky = 0 ∧ s.flt.degrade = 0 ∧ s.flt.safe = 0 ∧ s.flt.dark = 0 ∧ s.flt.pin = true
  ∧ .reset ∈ s.arr.causes ∧ (∀ t, s.tileClosed t = false)
  ∧ s.frm.params.pNom = 16666667 ∧ s.frm.params.tGuard = 20 ∧ s.frm.params.dutyN = 16
  ∧ s.frm.params.iLimit = 12500 ∧ s.frm.params.hbTimeout = 200 ∧ s.frm.params.role = .alone
  ∧ s.sec.session = none ∧ s.tm.isMember = false ∧ s.tm.divergent = false ∧ s.pending = []

/-! ### Ring commands: what is common to all -/

/-- R228, R233, R261, R213, R441: the checks of an executed entry, in their order, for every ring command. A typed ring
command stands for an entry fetched and classified before, log entry 14. -/
def Obligations.EntryChecksInOrder : Prop := ∀ (i : Instr) (p : Spelled) (s : State), spelled i = some p →
  s.serves p = true →
  let t := startWindow p s
  let ends (st : Half) : Prop := exec i s = .next (finish p.row.op p.sub st 0 t)
  let wrongRing := p.row.admin = true ∧ p.sub.ring ≠ 0
  let wrongState := s.pwr.mode = .halter ∧ p.row.halter = false
  let group := (0x600 ≤ p.sub.target.toNat ∧ p.sub.target.toNat ≤ 0x6FF) ∨ p.sub.target = 0x7FF
  let single := p.sub.target.toNat ≤ 0x400
  let accepted := match p.row.target with
    | .any => single ∨ group
    | .single => single
    | .localOnly => p.sub.target = 0x400
  (wrongRing → ends stNotAuthorized)
  ∧ (¬ wrongRing → wrongState → ends stWrongState)
  ∧ (¬ wrongRing → ¬ wrongState → ¬ accepted → ends stBadTarget)
  ∧ (¬ wrongRing → ¬ wrongState → accepted → p.sub.atTick = true → p.row.atTick = false → ends stBadOperand)
  ∧ (¬ wrongRing → ¬ wrongState → accepted → (p.sub.atTick = false ∨ p.row.atTick = true) →
      s.namesSelf p.sub = true → s.tm.divergent = false → s.tm.excluded = false →
      p.row.session = true → s.sessionOk p.sub = false → ends stNotAuthorized)

/-- R212, R219, R221, R423: a ring command that cannot start changes nothing: no ring service, its ring disabled, its CQ
without room for one more completion beside those owed, or its FENCE not met. R320, R321, R324, R327: a ring command
whose target is not this engine alone: unreachable without a team, ST_DIVERGENT on a divergent member, ST_NO_SPACE
where the stream of the data it reads finds no blocks, CMD to the lead from a follower with a route to it, after
which the origin reads the host for it. The lead sends CMD down the tree to the targets, and executes its own part
(shown on `NOP`); a team's `TIMING_SET` of P_NOM alone is kept for its tick and forwarded to nobody, and one that a
member's composition does not fit changes nothing. That a command which may not start is left out of the state, to
be given again, is the model's choice, log entries 14 and 50. ST_DIVERGENT for an entry of the own ring is log entry
49, the lead as the one target that a follower keeps is log entry 19, the stream of host data is log entry 21, and
the targets that a member's groups make is log entry 25: all DEDUCED or chosen. -/
def Obligations.EntryWaitsOrGoesOn : Prop :=
  (∀ (i : Instr) (p : Spelled) (s : State), spelled i = some p →
     ((s.pwr.ready = false → exec i s = .next s)
     ∧ (s.pwr.farrier = false → exec i s = .next s)
     ∧ (s.pwr.mode = .sleep → exec i s = .next s)
     ∧ (s.pwr.mode = .halter → p.sub.ring ≠ 0 → exec i s = .next s)
     ∧ (s.pwr.entry ≠ none → p.row.op ≠ 0x70 → exec i s = .next s)
     ∧ (p.sub.origin = none →
         ((s.ring p.sub.ring.val).enabled = false → exec i s = .next s)
         ∧ (let r := s.ring p.sub.ring.val
            let size := bits (s.cfg (ringReg p.sub.ring.val 0x10)) 16 13
            size ≤ (r.cqTail + size - r.cqHead) % size + r.running.length + r.held.length + 1 → exec i s = .next s)
         ∧ (p.sub.fence = true → (s.ring p.sub.ring.val).running ≠ [] → exec i s = .next s)
         ∧ (p.sub.barrier = true → (s.ring p.sub.ring.val).held ≠ [] → exec i s = .next s))
     ∧ (p.sub.origin ≠ none → s.tm.isMember = false → exec i s = .next s)))
  ∧ (∀ (i : Instr) (p : Spelled) (s : State), spelled i = some p →
     s.serves p = true → s.entryCheck p = none → p.sub.origin = none → s.namesSelf p.sub = false →
     let t := startWindow p s
     (s.tm.isMember = false → exec i s = .next (finish p.row.op p.sub stUnreachable 0 t))
     ∧ (s.tm.isMember = true → s.tm.divergent = true → groupTarget p.sub.target = true →
         exec i s = .next (finish p.row.op p.sub stDivergent 0 t))
     ∧ (s.tm.isMember = true → (s.tm.divergent = false ∨ groupTarget p.sub.target = false) →
         (t.serveFull p.entry = true → exec i s = .next (finish p.row.op p.sub stNoSpace 0 t))
         ∧ (t.serveFull p.entry = false → s.tm.leading = false → s.tm.parent = none →
             exec i s = .next (finish p.row.op p.sub stUnreachable 0 t))
         ∧ (∀ q, t.serveFull p.entry = false → s.tm.leading = false → s.tm.parent = some q →
             exec i s = .next (originServe p.sub p.entry (hostAnswer i) (portSend q
               (.cmd 0x400 ⟨s.engineId.zeroExtend 16, BitVec.ofNat 8 p.sub.ring.val, false, p.entry⟩)
               (keepRunning p.sub (t.mapTm fun m =>
                 { m with fwds := m.fwds ++ [⟨p.sub, p.entry, false, [(s.tm.lead.getD 0x3FF, .waiting 1)]⟩] })))))
         ∧ (t.serveFull p.entry = false → s.tm.leading = true →
             ¬ (groupTarget p.sub.target = true ∧ p.row.op = 0x38) →
             let u := if groupTarget p.sub.target = true then t.draw.2 else t
             let targets := s.targetsOf s.free p.sub.target
             let excluded := groupTarget p.sub.target = false
               ∧ ∃ m ∈ s.tm.members, m.id.toNat = p.sub.target.toNat ∧ m.state.getLsbD 5 = true
             let f : Forward := ⟨p.sub, p.entry, groupTarget p.sub.target, targets.map fun x => (x, .waiting 1)⟩
             let v := keepRunning p.sub (u.mapTm fun m => { m with fwds := m.fwds ++ [f] })
             (targets = [] → exec i s = .next (finish p.row.op p.sub stUnreachable 0 u))
             ∧ (targets ≠ [] → excluded → exec i s = .next (finish p.row.op p.sub stVersion 0 u))
             ∧ (targets ≠ [] → ¬ excluded → s.engineId ∉ targets →
                 exec i s = .next (originServe p.sub p.entry (hostAnswer i) (sendDown (.cmd p.sub.target
                   ⟨s.engineId.zeroExtend 16, BitVec.ofNat 8 p.sub.ring.val, false, p.entry⟩) v)))
             ∧ (i = .nop p.sub → ¬ excluded → s.engineId ∈ targets →
                 exec i s = .next (finish 0x00 p.sub stOk 0 (if targets.all (· = s.engineId) then v else
                   sendDown (.cmd p.sub.target
                     ⟨s.engineId.zeroExtend 16, BitVec.ofNat 8 p.sub.ring.val, false, p.entry⟩) v))))
         ∧ (∀ o : TimingOps, i = .timingSet p.sub o → s.tm.leading = true → groupTarget p.sub.target = true →
             o.mask = 1 → t.leadTimingBad p.sub o = none →
             s.targetsOf s.free p.sub.target ≠ [] →
             let first := s.tm.tickNo.toNat + 3
             let named := (s.tm.tickNo + (o.frame - s.frm.frame).zeroExtend 64).toNat
             (s.leadTooLong o.pNom.toNat = [] → ∃ w, exec i s = .next w ∧ w.tm.members = s.tm.members
               ∧ w.tm.teamP = s.tm.teamP
                   ++ [(BitVec.ofNat 64 (if p.sub.atTick then max (first % 2 ^ 64) named else first), o.pNom.toNat)]
               ∧ w.frm = s.frm ∧ w.trc = s.trc)
             ∧ (s.leadTooLong o.pNom.toNat ≠ [] → ∃ w, exec i s = .next w ∧ w.tm.teamP = s.tm.teamP ∧ w.frm = s.frm
               ∧ w.trc = s.trc))))

/-- R226, R225: the beginning of an own entry touches nothing but its ring's window, and with a session command the
session's clock. -/
def Obligations.BegunFrame : Prop := ∀ (i : Instr) (p : Spelled) (s : State), spelled i = some p →
  p.sub.origin = none →
  let n := p.sub.ring.val
  begun i s =
    { s with
      rng := { s.rng with q := s.rng.q.modify n fun r =>
        if (r.window.any fun e => e.seq == p.sub.seq && !e.done) then r else
        { r with
          seqValid := true, lastSeq := p.sub.seq
          window := r.window.filter (fun e => e.seq != p.sub.seq)
            ++ [⟨p.sub.seq, false, 0, 0, 0, digestOf p.entry⟩] } }
      sec := if p.row.session then
          { s.sec with session := s.sec.session.map fun e => { e with last := s.clk.loc } } else s.sec }

/-- R218, Table 10.7: the completion of an own entry on an enabled ring with the link up: one memory write of 32 bytes
at `CQ_TAIL`, after what the command has put on the link; a message can follow it only with IOC. `RESULT` is zero
outside 0x00xx. `CQ_TAIL` advances and `CQ_PHASE` inverts at the wrap. R225: the window entry of a completed own
entry holds its `STATUS`, `RESULT` and `T_DONE`, counts as executed, and no other entry of the window carries its
sequence; the ring no longer counts the command as running. The frame of a completion on the engine's own ring: it
touches the ring pairs, the link's output and the flight log only; that of a command which was running when its ring
was disabled is not written, and has no place in a window that was cleared since (R212). Requests held while Bus
Master Enable is 0 are log entry 16. -/
def Obligations.OwnCompletions : Prop :=
  (∀ (op : Nat) (sub : Sub) (st : Half) (res : Dword) (s : State),
     let n := sub.ring.val
     let r := s.ring n
     let size := bits (s.cfg (ringReg n 0x10)) 16 13
     let t := finish op sub st res s
     sub.origin = none → sub.reply = .due → s.fwdBy none n sub.seq .due = none → s.rng.q.length = 16 → r.enabled = true →
     s.bus.linkUp = true → s.bus.master = true → s.bus.d3 = false → (∀ h ∈ r.held, h.1 ≠ sub.seq) →
     (∃ m, t.bus.out = s.bus.out
         ++ BusOut.memWrite (BitVec.ofNat 64 (s.cfg64 (ringReg n 0x08) + 32 * r.cqTail))
             (leBytes sub.seq.toNat 4 ++ leBytes st.toNat 2 ++ leBytes n 1
               ++ leBytes ((if r.cqPhase then 1 else 0) + (if sub.gap then 4 else 0)) 1
               ++ leBytes sub.tag.toNat 8
               ++ leBytes s.clk.team.toNat 8 ++ leBytes (if st.toNat < 256 then res else 0).toNat 8) :: m
         ∧ m.length ≤ 1 ∧ (sub.ioc = false → m = []))
     ∧ (t.ring n).cqTail = (if r.cqTail + 1 < size then r.cqTail + 1 else 0)
     ∧ (t.ring n).cqPhase = (if r.cqTail + 1 < size then r.cqPhase else !r.cqPhase)
     ∧ (t.ring n).lastSeq = r.lastSeq ∧ (t.ring n).sqTail = r.sqTail ∧ (t.ring n).sqHead = r.sqHead
     ∧ ∀ k, k < 16 → k ≠ n → t.ring k = s.ring k)
  ∧ (∀ (op : Nat) (sub : Sub) (st : Half) (res : Dword) (s : State),
     let n := sub.ring.val
     let t := finish op sub st res s
     sub.origin = none → sub.reply = .due → s.fwdBy none n sub.seq .due = none → s.rng.q.length = 16 →
     ∀ w, (s.ring n).window.find? (fun e => e.seq == sub.seq) = some w →
     (∃ e ∈ (t.ring n).window, e.seq = sub.seq ∧ e.done = true ∧ e.status = st ∧ e.digest = w.digest
         ∧ e.result = (if st.toNat < 256 then res else 0) ∧ e.tDone = s.clk.team)
     ∧ (∀ e ∈ (t.ring n).window, e.seq = sub.seq → e.done = true)
     ∧ ((t.ring n).window.filter WinEntry.done).length ≤ 64
     ∧ (∀ b ∈ (t.ring n).running, b.seq ≠ sub.seq))
  ∧ (∀ (op : Nat) (sub : Sub) (st : Half) (res : Dword) (s : State),
     sub.origin = none → s.fwdBy none sub.ring.val sub.seq sub.reply = none →
     let t := finish op sub st res s
     t = { s with bus := t.bus, rng := t.rng, lg := t.lg }
     ∧ t.rng.eq = s.rng.eq ∧ t.rng.urgentRun = s.rng.urgentRun ∧ t.lg.dram = s.lg.dram ∧ t.lg.next = s.lg.next
     ∧ (sub.reply ≠ .due → (∀ h ∈ (s.ring sub.ring.val).held, h.1 ≠ sub.seq) → s.rng.q.length = 16 →
         t.bus = s.bus ∧ t.lg = s.lg ∧ (t.ring sub.ring.val).muted = (s.ring sub.ring.val).muted.erase sub
           ∧ (t.ring sub.ring.val).cqTail = (s.ring sub.ring.val).cqTail
           ∧ (t.ring sub.ring.val).window = if sub.reply = .lost then (s.ring sub.ring.val).window
               else windowDone (s.ring sub.ring.val).window sub.seq st (if st.toNat < 256 then res else 0) s.clk.team)
     ∧ (sub.reply = .due → (∀ h ∈ (s.ring sub.ring.val).held, h.1 ≠ sub.seq) →
         ∃ e : LogEntry, t.lg.onDie = s.lg.onDie ++ [e] ∧ e.kind = 1 ∧ e.code = st ∧ e.time = s.clk.team
           ∧ e.data = leBytes sub.seq.toNat 4 ++ leBytes sub.ring.val 1 ++ leBytes op 1
               ++ leBytes (if sub.gap then 4 else 0) 1 ++ leBytes 0 1 ++ leBytes 0x3FF 2
               ++ leBytes (if st.toNat < 256 then res else 0).toNat 6))

/-- R322: the completion of a command executed for another origin goes towards that origin, on the port of the parent
or, on the lead, down the tree, and is kept until it is acknowledged. Routes over the tree and acknowledgement hop
by hop are the model's reading, log entries 19 and 68. -/
def Obligations.CompletionForOrigin : Prop :=
  ∀ (op : Nat) (sub : Sub) (o : BitVec 10) (st : Half) (res : Dword) (s : State),
  sub.origin = some o → s.fwd (some o) sub.ring.val sub.seq = none →
  let c : Completion :=
    { seq := sub.seq, status := st, ring := BitVec.ofNat 8 sub.ring.val, dup := false, gap := sub.gap, tag := sub.tag
      tDone := s.clk.team, result := if st.toNat < 256 then res else 0 }
  let pl : CplPl := ⟨o.zeroExtend 16, c.ring, false, false, s.engineId.zeroExtend 16, c⟩
  ⟨o, pl, []⟩ ∈ (finish op sub st res s).tm.owed
  ∧ (finish op sub st res s).rng = s.rng ∧ (finish op sub st res s).bus = s.bus
  ∧ (s.tm.leading = true → (finish op sub st res s).trc = (sendDown (.cpl (o.zeroExtend 11) pl) s).trc)
  ∧ ∀ q, s.tm.leading = false → s.tm.parent = some q → (s.port q).state = .up →
      (s.port q).queue = [] → (s.port q).room (.cpl 0x400 pl) = true → s.trc.ports.length = 4 →
      (finish op sub st res s).trc.out = s.trc.out
        ++ [⟨q.val, (s.port q).txFcnt, (s.port q).txRseq, (s.port q).rxNext, false, .cpl 0x400 pl,
            s.wire q.val (s.port q) (s.port q).txRseq false (.cpl 0x400 pl)⟩]

/-! ### Ring commands: general, pool and data movement -/

/-- R239, R240, R351, Table 11.2: NOP, ECHO, IDENT and HEARTBEAT complete `ST_OK`. ECHO returns its value, IDENT its
identity word and, unless `DEST` is 0, the 64-byte block; HEARTBEAT restarts the monitor, arms it and ends causes 0
and 1. R235, R218, R197: a command of this engine's own host writes its data to host memory before its completion,
nothing at address 0 of an optional host address (the answer that the report commands below name `reply`). The
writes carry the data in ascending order, each no longer than the payload limit and within 4 KiB. HEARTBEAT ends
cause 0 only where a frame has been shown, log entry 62. -/
def Obligations.GeneralCommandsReport : Prop :=
  (∀ (sub : Sub) (v d : Dword) (s : State),
     (Runs (.nop sub) s → exec (.nop sub) s = .next (finish 0x00 sub stOk 0 (begun (.nop sub) s)))
     ∧ (Runs (.echo sub v) s → exec (.echo sub v) s = .next (finish 0x01 sub stOk v (begun (.echo sub v) s)))
     ∧ (Runs (.ident sub d) s →
         let b := begun (.ident sub d) s
         exec (.ident sub d) s = .next (reply 0x02 sub stOk b.identResult [(0, d, b.identBlock)] b))
     ∧ (Runs (.heartbeat sub) s →
         let b := begun (.heartbeat sub) s
         exec (.heartbeat sub) s = .next (finish 0x03 sub stOk b.hbResult (b.mapSaf fun f =>
           { f with
             hbSeen := true, hbArmed := true, hbLast := s.clk.loc, hbBeat := s.clk.loc, hbExp := false, start := false }))))
  ∧ (∀ (op : Nat) (sub : Sub) (st : Half) (res d : Dword) (l : List Byte) (s : State), sub.origin = none → l ≠ [] →
       (reply op sub st res [(0, d, l)] s =
         finish op sub st res (if hostOptional op 0 = true ∧ d = 0 then s else hostWrite d l s))
       ∧ (s.bus.master = true → s.bus.d3 = false → ∃ w : List (Dword × List Byte),
           (hostWrite d l s).bus.out = s.bus.out ++ w.map (fun c => .memWrite c.1 c.2)
           ∧ w.flatMap (·.2) = l
           ∧ (∀ c ∈ w, 1 ≤ c.2.length ∧ c.2.length ≤ s.payloadSize ∧ c.1.toNat % 4096 + c.2.length ≤ 4096)
           ∧ ∀ k c, w[k]? = some c → c.1 = d + BitVec.ofNat 64 ((w.take k).flatMap (·.2)).length))

/-- R165, R166, R169, R241: a POOL_ALLOC whose operands are in range and whose tests of Table 08.4 pass takes exactly
`COUNT` free blocks, one behind the other with FLAGS bit 0, under an unused slot and its next generation, charges
them to the channel, and waits for zeroing; the blocks and the slot are the engine's choice. Nothing else of the
pool changes. R169, R241, Table 08.4: a POOL_ALLOC that is not granted, of the ring's channel or of a named one,
contiguous or not. Which free blocks and which slot are taken is a free value, log entry 10. -/
def Obligations.PoolAllocCases : Prop :=
  (∀ (sub : Sub) (count : Half) (channel flags : Byte) (c : Nat) (s : State),
     Runs (.poolAlloc sub count channel flags) s →
     1 ≤ count.toNat → count.toNat ≤ 1536 → flags.toNat ≤ 3 →
     ((flags.getLsbD 1 = false ∧ channel = 0 ∧ c = sub.ring.val)
       ∨ (flags.getLsbD 1 = true ∧ (channel.toNat < 16 ∨ channel.toNat = 17) ∧ c = channel.toNat)) →
     let b := begun (.poolAlloc sub count channel flags) s
     b.held c + count.toNat ≤ b.limit c →
     count.toNat + b.unusedOthers c ≤ b.freeBlocks.length →
     (flags.getLsbD 0 = true → runsOf b.freeBlocks count.toNat ≠ []) →
     (∃ k, k < 1536 ∧ ∀ h ∈ b.pool.handles, h.slot ≠ k) →
     ∃ (t : State) (h : Handle), exec (.poolAlloc sub count channel flags) s = .next t
       ∧ t.pool.handles = b.pool.handles ++ [h] ∧ t.pool.mem = b.pool.mem
       ∧ h.channel = c ∧ h.freeing = false ∧ h.waiting = some sub ∧ h.blocks.length = count.toNat
       ∧ h.blocks.Nodup ∧ (∀ x ∈ h.blocks, x < 1536 ∧ x ∉ b.heldBlocks)
       ∧ (flags.getLsbD 0 = true → ∃ f, h.blocks = (List.range count.toNat).map fun k => f + k)
       ∧ h.slot < 1536 ∧ (∀ x ∈ b.pool.handles, x.slot ≠ h.slot)
       ∧ h.gen = ((alGet b.pool.gens h.slot).getD 0) % 31 + 1
       ∧ t.scn = b.scn ∧ t.lg = b.lg ∧ t.bus = b.bus ∧ t.reg = b.reg ∧ t.flt = b.flt ∧ t.frm = b.frm)
  ∧ (∀ (sub : Sub) (count : Half) (channel flags : Byte) (s : State),
     Runs (.poolAlloc sub count channel flags) s →
     let b := begun (.poolAlloc sub count channel flags) s
     let ends (st : Half) : Prop := exec (.poolAlloc sub count channel flags) s = .next (finish 0x10 sub st 0 b)
     (count = 0 → ends stBadOperand)
     ∧ (1536 < count.toNat → ends stBadOperand)
     ∧ (4 ≤ flags.toNat → ends stBadOperand)
     ∧ (flags.getLsbD 1 = false → channel ≠ 0 → ends stBadOperand)
     ∧ (channel.toNat = 16 ∨ 18 ≤ channel.toNat → ends stBadOperand)
     ∧ (∀ c, 1 ≤ count.toNat → count.toNat ≤ 1536 → flags.toNat ≤ 3 →
         ((flags.getLsbD 1 = false ∧ channel = 0 ∧ c = sub.ring.val)
           ∨ (flags.getLsbD 1 = true ∧ (channel.toNat < 16 ∨ channel.toNat = 17) ∧ c = channel.toNat)) →
         (b.limit c < b.held c + count.toNat → ends stQuota)
         ∧ (b.held c + count.toNat ≤ b.limit c → b.freeBlocks.length < count.toNat + b.unusedOthers c → ends stNoSpace)
         ∧ (b.held c + count.toNat ≤ b.limit c → count.toNat + b.unusedOthers c ≤ b.freeBlocks.length →
             flags.getLsbD 0 = true → runsOf b.freeBlocks count.toNat = [] → ends stNoSpace)))

/-- R165, R241: when its blocks are zeroed, an allocation completes with handle, count and first block, and every byte
of the blocks, and no other, is zeroed. That zeroing happens at the instant of completion is the model's choice, log
entry 15. -/
def Obligations.ZeroingCompletes : Prop := ∀ (v : Half) (h : Handle) (sub : Sub) (s : State),
  s.handleAny v = some h → h.waiting = some sub →
  ∃ z : State, exec (.zeroingDone v) s = .next (finish 0x10 sub stOk
      (BitVec.ofNat 64 (h.value.toNat + h.blocks.length % 65536 * 65536 + h.blocks.getD 0 0 % 65536 * 2 ^ 32)) z)
    ∧ (∀ a, cellGet 0 z.pool.mem a = if a / 65536 ∈ h.blocks then 0 else cellGet 0 s.pool.mem a)
    ∧ z.pool.handles = s.pool.handles.map (fun x => if x.slot = h.slot then { x with waiting := none } else x)
    ∧ z = { s with pool := { s.pool with handles := z.pool.handles, mem := z.pool.mem, ue := z.pool.ue, ce := z.pool.ce } }

/-- R171, R172, R131: POOL_FREE: an invalid handle, one bound through a surface to a scene, one that a post or a data
move still needs, and one that is given back at once with its surfaces. A freeing handle is invalid for POOL_FREE
too, log entry 47. -/
def Obligations.PoolFreeCases : Prop := ∀ (sub : Sub) (v : Half) (s : State), Runs (.poolFree sub v) s →
  let b := begun (.poolFree sub v) s
  (b.handle v = none → exec (.poolFree sub v) s = .next (finish 0x11 sub stBadHandle 0 b))
  ∧ ∀ h, b.handle v = some h →
    ((∃ i ∈ b.surfacesOn h, b.sceneBound i = true) →
      exec (.poolFree sub v) s = .next (finish 0x11 sub stInUse 0 b))
    ∧ ((∀ i ∈ b.surfacesOn h, b.sceneBound i = false) → (b.postOnHandle h = true ∨ b.moveOn h = true) →
        exec (.poolFree sub v) s = .next (finish 0x11 sub stOkDeferred 0 (b.mapPool fun p =>
          { p with handles := p.handles.map fun x => if x.slot = h.slot then { x with freeing := true } else x })))
    ∧ ((∀ i ∈ b.surfacesOn h, b.sceneBound i = false) → b.postOnHandle h = false → b.moveOn h = false →
        exec (.poolFree sub v) s = .next (finish 0x11 sub stOk 0
          ((b.mapScn fun c => { c with surfs := c.surfs.filter fun d => !(b.surfacesOn h).contains d.id }).mapPool
            fun p => { p with handles := p.handles.filter fun x => x.slot != h.slot })))

/-- R242, Table 11.5: POOL_QUERY of the pool and of one handle, a freeing one included. -/
def Obligations.PoolQueryReports : Prop := ∀ (sub : Sub) (v : Half) (d : Dword) (s : State),
  Runs (.poolQuery sub v d) s →
  let b := begun (.poolQuery sub v d) s
  (v = 0 → exec (.poolQuery sub v d) s = .next (reply 0x12 sub stOk
      (BitVec.ofNat 64 (b.freeBlocks.length + longestRun b.freeBlocks % 65536 * 65536
        + b.pool.handles.length % 65536 * 2 ^ 32))
      [(0, d, (List.range 18).flatMap fun c =>
        leBytes (b.held c) 2 ++ leBytes (b.reserve c) 2 ++ leBytes (b.limit c) 2 ++ leBytes 0 2)] b))
  ∧ (v ≠ 0 → b.handleAny v = none → exec (.poolQuery sub v d) s = .next (finish 0x12 sub stBadHandle 0 b))
  ∧ (∀ h, v ≠ 0 → b.handleAny v = some h → exec (.poolQuery sub v d) s = .next (reply 0x12 sub stOk
      (BitVec.ofNat 64 (h.blocks.length % 65536 + h.channel % 32 * 65536 + (if h.freeing then 1 else 0) * 2 ^ 21
        + h.blocks.getD 0 0 % 65536 * 2 ^ 32))
      [(0, d, h.blocks.flatMap fun x => leBytes x 2)] b))

/-- R235, R243, Table 11.4: COPY_IN, COPY_OUT and FILL start: an invalid handle, a range beyond the handle or a bad
pattern, a zero length, and a move that begins and completes later; a COPY_IN asks its host for the data. R243: a
data move of an own ring, in a pool without memory errors, ends: COPY_IN and FILL store their bytes in the handle's
range and nowhere else, COPY_OUT writes the range to the host; each completes `ST_OK` with the length as `RESULT`. A
COPY_IN whose host read fails stores the bytes before the failing request, ends `ST_MEM_ERROR`, and the failure is
reported (R235, R199). A move whose data the host cannot have given (R197), or that writes what an earlier move of
its ring still writes (R222), goes on. That a move takes its bytes at its end is the model's choice, log entry 15. -/
def Obligations.DataMoves : Prop :=
  (∀ (i : Instr) (op : Nat) (kind : MoveKind) (sub : Sub) (v : Half) (off : Word) (host : Dword) (len : Word)
       (good : Bool) (s : State),
     ((i = .copyIn sub v off host len ∧ op = 0x13 ∧ kind = .copyIn ∧ good = true)
       ∨ (i = .copyOut sub v off host len ∧ op = 0x14 ∧ kind = .copyOut ∧ good = true)
       ∨ (∃ w p, i = .fill sub v off len w p ∧ op = 0x15 ∧ kind = .fill w.toNat p ∧ host = 0
           ∧ good = decide ((w = 1 ∨ w = 2 ∨ w = 4 ∨ w = 8) ∧ off.toNat % w.toNat = 0 ∧ len.toNat % w.toNat = 0
               ∧ p.toNat < 2 ^ (8 * w.toNat)))) →
     Runs i s →
     let b := begun i s
     (b.handle v = none → exec i s = .next (finish op sub stBadHandle 0 b))
     ∧ ∀ h, b.handle v = some h →
       (h.blocks.length * 65536 < off.toNat + len.toNat ∨ good = false →
         exec i s = .next (finish op sub stBadOperand 0 b))
       ∧ (off.toNat + len.toNat ≤ h.blocks.length * 65536 → good = true → len = 0 →
           exec i s = .next (finish op sub stOkZero 0 b))
       ∧ (off.toNat + len.toNat ≤ h.blocks.length * 65536 → good = true → len ≠ 0 →
           exec i s = .next (keepRunning sub ((if kind = .copyIn then hostRead sub host len.toNat b else b).mapPool fun p =>
             { p with
               moves := p.moves ++ [⟨p.nextMove, kind, v, off.toNat, host, len.toNat, sub⟩]
               nextMove := p.nextMove + 1 }))))
  ∧ (∀ (id : Nat) (host : HostRead) (m : Move) (h : Handle) (s : State),
     s.pool.moves.find? (fun x => x.id == id) = some m → s.handleAny m.handle = some h → h.freeing = false →
     m.offset + m.length ≤ h.blocks.length * 65536 → h.blocks.Nodup → s.pool.ue = [] → s.pool.ce = [] → m.sub.origin = none →
     Memory.wf s.pool.mem →
     (s.moveWaits m host = true ∨ s.moveBehind m = true → exec (.dataMoveDone id host [] []) s = .next s)
     ∧ (s.moveWaits m host = false → s.moveBehind m = false →
     let done (t : State) : Prop := exec (.dataMoveDone id host [] []) s = .next
       (finish m.kind.op m.sub stOk (BitVec.ofNat 64 m.length) t)
     let stored (byte : Nat → Byte) : Prop := ∃ t : State, done t
       ∧ (∀ k, k < m.length → cellGet 0 t.pool.mem (h.addr (m.offset + k)) = byte k)
       ∧ (∀ a, (∀ k, k < m.length → a ≠ h.addr (m.offset + k)) → cellGet 0 t.pool.mem a = cellGet 0 s.pool.mem a)
       ∧ Memory.wf t.pool.mem
       ∧ t = { s with pool := { s.pool with moves := s.pool.moves.filter (fun x => x.id != id), mem := t.pool.mem } }
     ((∀ bs, m.kind = .copyIn → host = .ok bs → bs.length = m.length → stored fun k => bs.getD k 0)
     ∧ (∀ w p, m.kind = .fill w p → stored fun k => (leBytes p.toNat w).getD (k % w) 0)
     ∧ (m.kind = .copyOut → m.length ≠ 0 →
         let t := s.mapPool fun p => { p with moves := p.moves.filter fun x => x.id != id }
         done (hostWrite m.host ((List.range m.length).map fun k =>
           cellGet 0 s.pool.mem (h.addr (m.offset + k))) t))
     ∧ (∀ bs, m.kind = .copyIn → host = .fail bs → bs.length ≤ m.length → ∃ t : State,
         exec (.dataMoveDone id host [] []) s = .next (finish 0x13 m.sub stMemError 0 (aerRaise t))
         ∧ (∀ k, k < bs.length → cellGet 0 t.pool.mem (h.addr (m.offset + k)) = bs.getD k 0)
         ∧ (∀ a, (∀ k, k < bs.length → a ≠ h.addr (m.offset + k)) → cellGet 0 t.pool.mem a = cellGet 0 s.pool.mem a)
         ∧ t = { s with pool := { s.pool with moves := s.pool.moves.filter (fun x => x.id != id), mem := t.pool.mem } }))))

/-! ### Ring commands: surfaces, layers, posts, scenes -/

/-- R103, R104, R244, R102: SURFACE_DEFINE and SURFACE_RETIRE, each outcome. -/
def Obligations.SurfaceCommands : Prop := ∀ (sub : Sub) (id : Half) (d : SurfDesc) (s : State),
  (Runs (.surfaceDefine sub id d) s →
    let b := begun (.surfaceDefine sub id d) s
    let ends (st : Half) : Prop := exec (.surfaceDefine sub id d) s = .next (finish 0x20 sub st 0 b)
    let inRange := d.layout.toNat < 4 ∧ 1 ≤ id.toNat ∧ id.toNat ≤ 4095
    (¬ inRange → ends stBadOperand)
    ∧ (inRange → (∃ x ∈ b.scn.surfs, x.id = id.toNat) → ends stInUse)
    ∧ (inRange → (∀ x ∈ b.scn.surfs, x.id ≠ id.toNat) → b.handle d.handle = none → ends stBadHandle)
    ∧ ∀ h, inRange → (∀ x ∈ b.scn.surfs, x.id ≠ id.toNat) → b.handle d.handle = some h →
      let total := h.blocks.length * 65536
      (SurfDesc.ok d total = false → ends stBadOperand)
      ∧ (SurfDesc.ok d total = true → exec (.surfaceDefine sub id d) s = .next (finish 0x20 sub stOk
          (BitVec.ofNat 64 (id.toNat + 2 ^ 32 * SurfDesc.effSize d total))
          (b.mapScn fun c =>
            { c with surfs := c.surfs ++ [⟨id.toNat, SurfDesc.withDefaults d, SurfDesc.effSize d total⟩] }))))
  ∧ (Runs (.surfaceRetire sub id) s →
    let b := begun (.surfaceRetire sub id) s
    ((∀ x ∈ b.scn.surfs, x.id ≠ id.toNat) →
      exec (.surfaceRetire sub id) s = .next (finish 0x21 sub stBadHandle 0 b))
    ∧ ((∃ x ∈ b.scn.surfs, x.id = id.toNat) → b.surfUsed id.toNat = true →
      exec (.surfaceRetire sub id) s = .next (finish 0x21 sub stInUse 0 b))
    ∧ ((∃ x ∈ b.scn.surfs, x.id = id.toNat) → b.surfUsed id.toNat = false →
      exec (.surfaceRetire sub id) s = .next (finish 0x21 sub stOk 0
        (b.mapScn fun c => { c with surfs := c.surfs.filter fun x => x.id != id.toNat }))))

/-- R118, R125, R245, R246, Table 11.8: LAYER_SET changes the working scene or a coefficient set only: a V or G layer
takes its block, S0 its block and its shape list, forms 1 and 2 their set or order; the checks that can refuse each. -/
def Obligations.LayerSetForms : Prop := ∀ (sub : Sub) (s : State),
  (∀ (f : Byte), Runs (.layerSet sub (.bad f)) s →
    exec (.layerSet sub (.bad f)) s = .next (finish 0x22 sub stBadOperand 0 (begun (.layerSet sub (.bad f)) s)))
  ∧ (∀ (l : Byte) (o : LayerOps), Runs (.layerSet sub (.params l o)) s →
    let i : Instr := .layerSet sub (.params l o)
    let b := begun i s
    let codes := o.blend.toNat ≤ 4 ∧ o.notReady.toNat ≤ 3 ∧ o.streaming.toNat ≤ 1 ∧ l.toNat ≤ 6
    (¬ codes → exec i s = .next (finish 0x22 sub stBadOperand 0 b))
    ∧ (codes → l.toNat < 6 → LayerOps.vgOk (decide (l.toNat < 2)) o = false →
        exec i s = .next (finish 0x22 sub stBadOperand 0 b))
    ∧ (∀ bl nr, codes → l.toNat < 6 → LayerOps.vgOk (decide (l.toNat < 2)) o = true →
        blendOf o.blend = some bl → notReadyOf o.notReady = some nr →
        exec i s = .next (finish 0x22 sub stOk 0 (b.mapScn fun c =>
          { c with work := { c.work with layers := c.work.layers.set l.toNat (LayerOps.toCfg o l.toNat bl nr) } })))
    ∧ (codes → l = 6 → LayerOps.s0Ok o (o.streaming == 1) = false →
        exec i s = .next (finish 0x22 sub stBadOperand 0 b))
    ∧ (∀ bl nr, codes → l = 6 → LayerOps.s0Ok o (o.streaming == 1) = true →
        blendOf o.blend = some bl → notReadyOf o.notReady = some nr →
        let put (b : State) (sh : List Shape) : Prop := exec i s = .next (finish 0x22 sub stOk 0 (b.mapScn fun c =>
          { c with work := { c.work with layers := c.work.layers.set 6 (LayerOps.toCfg o 6 bl nr), shapes := sh } }))
        let c := copied o.surface (LayerOps.shapeOffset o) (64 * o.srcW.toNat) b
        let read := b.poolRead o.surface (LayerOps.shapeOffset o) (64 * o.srcW.toNat)
        (o.srcW = 0 → put b [])
        ∧ (∀ st, o.srcW ≠ 0 → read = .bad st → exec i s = .next (finish 0x22 sub st 0 b))
        ∧ (∀ u, o.srcW ≠ 0 → read = .units u → exec i s = .next (finish 0x22 sub stMemError 0 (raiseUe 10 u b)))
        ∧ (∀ bs, o.srcW ≠ 0 → read = .data bs → parseShapes bs o.srcW.toNat = none →
            exec i s = .next (finish 0x22 sub stBadOperand 0 c))
        ∧ (∀ bs sh, o.srcW ≠ 0 → read = .data bs → parseShapes bs o.srcW.toNat = some sh → put c sh)))
  ∧ (∀ (n : Byte) (h : Half) (off : Word), Runs (.layerSet sub (.coefs n h off)) s →
    let i : Instr := .layerSet sub (.coefs n h off)
    let b := begun i s
    let good := (n = 1 ∨ n = 2 ∨ n = 3) ∧ (b.handle h = none ∨ off.toNat % 64 = 0)
    (¬ good → exec i s = .next (finish 0x22 sub stBadOperand 0 b))
    ∧ (∀ st, good → b.poolRead h off.toNat 1536 = .bad st → exec i s = .next (finish 0x22 sub st 0 b))
    ∧ (∀ u, good → b.poolRead h off.toNat 1536 = .units u →
        exec i s = .next (finish 0x22 sub stMemError 0 (raiseUe 10 u b)))
    ∧ (∀ bs, good → b.poolRead h off.toNat 1536 = .data bs → coefsOk (parseCoefs bs) = false →
        exec i s = .next (finish 0x22 sub stBadOperand 0 (copied h off.toNat 1536 b)))
    ∧ (∀ bs, good → b.poolRead h off.toNat 1536 = .data bs → coefsOk (parseCoefs bs) = true →
        exec i s = .next (finish 0x22 sub stOk 0
          ((copied h off.toNat 1536 b).mapScn fun c => { c with coefs := c.coefs.set n.toNat (parseCoefs bs) }))))
  ∧ (∀ (m : Byte) (idx : List Byte), idx.length = 7 → Runs (.layerSet sub (.order m idx)) s →
    let i : Instr := .layerSet sub (.order m idx)
    let b := begun i s
    let put (ord : List Nat) : Prop := exec i s = .next (finish 0x22 sub stOk 0
      (b.mapScn fun c => { c with work := { c.work with orderMode := m.toNat, order := ord } }))
    (2 ≤ m.toNat → exec i s = .next (finish 0x22 sub stBadOperand 0 b))
    ∧ (m = 0 → (∃ x ∈ idx, x ≠ 0) → exec i s = .next (finish 0x22 sub stBadOperand 0 b))
    ∧ ((∃ x ∈ idx, 7 ≤ x.toNat) → exec i s = .next (finish 0x22 sub stBadOperand 0 b))
    ∧ (m = 0 → (∀ x ∈ idx, x = 0) → put [0, 1, 2, 3, 4, 5, 6])
    ∧ (m = 1 → (∀ x ∈ idx, x.toNat ≤ 6) → put (idx.map BitVec.toNat)))

/-- R133, R134, R248, Table 11.6: LAYER_POST and SHAPES_POST: the layer, the surface or handle, the other ranges with
the fence and the streaming flag, checked in this order (the order is the model's, log entry 79), and the post that
replaces the newest one of its layer; `RESULT` is the frame whose cut-off first considers it. The order of the
checks beyond LAYER, SURFACE_ID and STREAMING is the model's reading, log entry 79. -/
def Obligations.PostCommands : Prop :=
  ∀ (i : Instr) (op : Nat) (sub : Sub) (layer : Nat) (inRange ok : Bool) (named : State → Bool) (fence : FenceOps)
    (post : Option Fence → Post) (s : State),
  ((∃ o : PostOps, i = .layerPost sub o ∧ op = 0x23 ∧ layer = o.layer.toNat ∧ inRange = decide (o.layer.toNat ≤ 5)
      ∧ ok = true ∧ named = (fun b => b.postable o.surface.toNat) ∧ fence = o.fence
      ∧ post = fun f =>
          ⟨o.surface.toNat, 0, 0, 0, o.srcX.toNat, o.srcY.toNat, o.srcW.toNat, o.srcH.toNat, f, none⟩)
    ∨ (∃ h off n, i = .shapesPost sub h off n fence ∧ op = 0x24 ∧ layer = 6 ∧ inRange = true
        ∧ ok = (decide (n.toNat ≤ 64) && off.toNat % 64 == 0) ∧ named = (fun b => (b.handle h).isSome)
        ∧ post = fun f => ⟨0, h, off.toNat, n.toNat, 0, 0, 0, 0, f, none⟩)) →
  Runs i s →
  let b := begun i s
  let fenceOk := (fence.valid = 0 ∧ fence.ring = 0 ∧ fence.seq = 0) ∨ (fence.valid = 1 ∧ fence.ring.toNat ≤ 15)
  let f : Option Fence := if fence.valid = 1 then some ⟨sub.origin, fence.ring.toNat, fence.seq⟩ else none
  (inRange = false → exec i s = .next (finish op sub stBadOperand 0 b))
  ∧ (inRange = true → named b = false → exec i s = .next (finish op sub stBadHandle 0 b))
  ∧ (inRange = true → named b = true → ¬ fenceOk ∨ ok = false → exec i s = .next (finish op sub stBadOperand 0 b))
  ∧ (inRange = true → fenceOk → ok = true → named b = true → b.streamingNext layer = false →
      exec i s = .next (finish op sub stWrongState 0 b))
  ∧ (inRange = true → fenceOk → ok = true → named b = true → b.streamingNext layer = true →
      exec i s = .next (finish op sub stOk
        ((if b.frm.cutDone then b.nextFrame + 1 else b.nextFrame).zeroExtend 64)
        (b.mapScn fun c =>
          { c with
            runs := c.runs.modify layer fun r => { r with newest := some (post f) }
            inUse := c.inUse ++ (if layer = 6 then [] else [(post f).surface])
            inUseH := c.inUseH ++ (if layer = 6 then [(post f).handle] else []) })))

/-- R117, R228, R251: CAPTURE_SET sets the capture of the working scene, and its refusals: the surface is looked up
before the other operands are judged. -/
def Obligations.CaptureSetCases : Prop := ∀ (sub : Sub) (id : Half) (tap mode : Byte) (s : State),
  let i : Instr := .captureSet sub id tap mode
  Runs i s →
  let b := begun i s
  let put (m : CaptureMode) : Prop := exec i s = .next (finish 0x25 sub stOk 0 (b.mapScn fun c =>
    { c with work := { c.work with capSurf := id.toNat, capTap := tap.toNat, capMode := m } }))
  let good := mode.toNat ≤ 2 ∧ tap.toNat ≤ 1
  (mode = 0 → (id ≠ 0 ∨ 2 ≤ tap.toNat) → exec i s = .next (finish 0x25 sub stBadOperand 0 b))
  ∧ (good → mode = 0 → id = 0 → put .off)
  ∧ (mode ≠ 0 → b.surf id.toNat = none → exec i s = .next (finish 0x25 sub stBadHandle 0 b))
  ∧ (∀ d, mode ≠ 0 → b.surf id.toNat = some d → (¬ good ∨ SurfDesc.captureOk d.desc = false) →
      exec i s = .next (finish 0x25 sub stBadOperand 0 b))
  ∧ (∀ d, good → mode ≠ 0 → b.surf id.toNat = some d → SurfDesc.captureOk d.desc = true →
      put (if mode = 1 then .continuous else .single))

/-- R129, R130, R132, R252: SCENE_COMMIT snapshots the working scene and the coefficient sets under the next scene
sequence for its first frame, in place of a staged scene with the same first frame; `ST_OK_DEFERRED` when that frame
is later than the first that R37 allows. A commit that fails a check changes nothing. R253, Table 11.10: SCENE_QUERY
of the scene in force (0), the working scene (1) and the newest staged scene (2). The lead L of a scene whose
content cannot be read is a free value, log entry 51. -/
def Obligations.SceneCommands : Prop :=
  (∀ (sub : Sub) (frame : Word) (s : State),
     let i : Instr := .sceneCommit sub frame
     Runs i s →
     let b := begun i s
     let c := b.scn.work
     let p := b.frm.params
     let first := b.firstFrame (leadUs (b.sceneBytes c) p.leadFix p.tGuard)
     (sub.atTick = false → frame ≠ 0 → exec i s = .next (finish 0x30 sub stBadOperand 0 b))
     ∧ (sub.atTick = true ∨ frame = 0 →
         (∀ st, b.sceneCheck13 c = some st → exec i s = .next (finish 0x30 sub st 0 b))
         ∧ (∀ st, b.sceneCheck13 c = none → b.sceneCheck45 c = some st → exec i s = .next (finish 0x30 sub st 0 b))
         ∧ (b.sceneCheck13 c = none → b.sceneCheck45 c = none →
             let f := if sub.atTick then frame else first
             let full := 4 ≤ b.scn.staged.length ∧ ∀ g ∈ b.scn.staged, g.first ≠ f
             let budget := budgetOk (b.sceneBytes c) p.leadFix p.tGuard p.pNom b.internal = true
             let past := sub.atTick = true ∧ (b.passed f = true ∨ 2 ^ 31 ≤ (f - first).toNat)
             (full → exec i s = .next (finish 0x30 sub stBusy 0 b))
             ∧ (¬ full → ¬ budget → exec i s = .next (finish 0x30 sub stBudget 0 b))
             ∧ (¬ full → budget → past → exec i s = .next (finish 0x30 sub stWrongState 0 b))
             ∧ (¬ full → budget → ¬ past → exec i s = .next (finish 0x30 sub (if f = first then stOk else stOkDeferred)
                 (BitVec.ofNat 64 (b.scn.nextSeq.toNat + 2 ^ 32 * f.toNat))
                 (b.mapScn fun x =>
                   { x with
                     staged := x.staged.filter (fun g => g.first != f)
                       ++ [⟨x.nextSeq, f, c, x.coefs, b.sceneBytes c⟩]
                     nextSeq := x.nextSeq + 1
                     inUse := x.inUse ++ Scene.surfaces c }))))))
  ∧ (∀ (sub : Sub) (w : Byte) (d : Dword) (s : State),
     let i : Instr := .sceneQuery sub w d
     Runs i s →
     let b := begun i s
     (3 ≤ w.toNat → exec i s = .next (finish 0x31 sub stBadOperand 0 b))
     ∧ (w = 2 → b.scn.staged = [] → exec i s = .next (finish 0x31 sub stWrongState 0 b))
     ∧ (∀ c seq first, w.toNat ≤ 2 → b.queried w.toNat = some (c, seq, first) →
         exec i s = .next (reply 0x31 sub stOk (BitVec.ofNat 64 (seq.toNat + 2 ^ 32 * first.toNat))
           [(0, d, b.sceneRecord c seq first (b.queriedBytes w.toNat c) (Config.freePick s.free))]
           { b with free := s.free + 1 }))
     ∧ b.queried 1 = some (b.scn.work, 0, 0)
     ∧ (∀ g, b.scn.cur = some g → b.queried 0 = some (g.scene, g.seq, g.first)))

/-! ### Ring commands: set commands (R236, R237) -/

/-- R236, R237, R254, R255, R256, R320, Tables 02.2 and 11.11: TIMING_SET, SYNC_SET and PWM_SET. The relations of the
timing parameters and then the budget of R35 are checked against the values in force with every earlier armed change
and these. A follower refuses P_NOM and the sync fields; on a lead, a group or team TIMING_SET reaches its own part
without P_NOM. R236, R258, R147, R152, Table 11.12: CURB_SET, DERATE_SET, PROBE_SET and NEIGHBOUR_FILL_SET, with
their ranges. -/
def Obligations.FrameAndArraySets : Prop :=
  ((∀ (sub : Sub) (o : TimingOps),
       let part (b : State) : TimingOps :=
         if b.tm.leading = true ∧ groupTarget sub.target = true then { o with mask := o.mask &&& 0xFFFE, pNom := 0 } else o
       ArmsFor (.timingSet sub o) sub 0x38 (fun b => (part b).mask) o.frame
         (fun b => maskOk (part b).mask 6 (TimingOps.fields (part b)) && decide (o.scan.toNat ≤ 1)
           && decide (o.events.toNat ≤ 31))
         (fun b => if b.actsFollower = true ∧ (part b).mask.getLsbD 0 = true then some stWrongState
           else b.timingCheck (TimingOps.changes (part b)))
         (fun b => TimingOps.changes (part b))
         (fun b => leadUs b.curBytes ((TimingOps.changes (part b)).foldl Params.apply b.view).leadFix
           ((TimingOps.changes (part b)).foldl Params.apply b.view).tGuard))
     ∧ (∀ (sub : Sub) (o : SyncOps),
       ArmsFor (.syncSet sub o) sub 0x39 (fun _ => o.mask) o.frame
         (fun _ => maskOk o.mask 5 (SyncOps.fields o) && decide (o.source.toNat ≤ 1) && decide (o.edge.toNat ≤ 1)
           && decide (o.foEnable.toNat ≤ 1) && decide (o.foCam.toNat ≤ 1))
         (fun b => if b.actsFollower = true ∧ o.mask &&& 0xF ≠ 0 then some stWrongState
           else b.timingCheck (SyncOps.changes o))
         (fun _ => SyncOps.changes o) (fun _ => 0))
     ∧ (∀ (sub : Sub) (o : PwmOps),
       ArmsFor (.pwmSet sub o) sub 0x3A (fun _ => o.mask) o.frame
         (fun _ => maskOk o.mask 4 [(0, o.n.toNat), (1, o.k.toNat), (2, o.oCam.toNat), (3, o.dither.toNat)]
           && decide (o.dither.toNat ≤ 2) && (!o.mask.getLsbD 0 || decide (8 ≤ o.n.toNat ∧ o.n.toNat ≤ 16)))
         (fun b => b.timingCheck (PwmOps.changes o)) (fun _ => PwmOps.changes o)
         (fun b =>
           let p := (PwmOps.changes o).foldl Params.apply b.view
           p.pwmResult (b.teamWith p))))
  ∧ ((∀ (sub : Sub) (o : CurbOps),
       let l : List Change := (if o.mask.getLsbD 0 then [.iLimit o.iLimit.toNat] else [])
         ++ (if o.mask.getLsbD 1 then [.hT o.hT.toNat] else [])
       ArmsFor (.curbSet sub o) sub 0x40 (fun _ => o.mask) o.frame
         (fun _ => decide (o.mask.toNat ≤ 3)
           && (if o.mask.getLsbD 0 then decide (100 ≤ o.iLimit.toNat ∧ o.iLimit.toNat ≤ 12500) else o.iLimit == 0)
           && (if o.mask.getLsbD 1 then decide (500 ≤ o.hT.toNat ∧ o.hT.toNat ≤ 800 ∧ o.hT.toNat % 25 = 0)
               else o.hT == 0))
         (fun _ => none) (fun _ => l)
         (fun b => (l.foldl Params.apply b.view).iLimit + 65536 * b.iPredMa))
     ∧ (∀ (sub : Sub) (o : DerateOps),
       let l : List Change := (if o.mask.getLsbD 0 then [.regional (o.mode == 1)] else [])
         ++ (if o.mask.getLsbD 1 then [.knee o.knee.toInt] else []) ++ (if o.mask.getLsbD 2 then [.tZero o.tZero.toInt] else [])
       ArmsFor (.derateSet sub o) sub 0x41 (fun _ => o.mask) o.frame
         (fun b =>
           let p := l.foldl Params.apply b.view
           decide (o.mask.toNat ≤ 7) && decide (o.mode.toNat ≤ 1) && (o.mask.getLsbD 0 || o.mode == 0)
           && (o.mask.getLsbD 1 || o.knee == 0) && (o.mask.getLsbD 2 || o.tZero == 0)
           && decide (80 ≤ p.knee ∧ p.knee ≤ 140 ∧ p.knee + 10 ≤ p.tZero ∧ p.tZero ≤ 150))
         (fun _ => none) (fun _ => l) (fun b => b.pho.dGTick))
     ∧ (∀ (sub : Sub) (e : Byte) (frame : Word),
       ArmsFor (.probeSet sub e frame) sub 0x43 (fun _ => 1) frame (fun _ => decide (e.toNat ≤ 3)) (fun _ => none)
         (fun _ => [.probe (e.getLsbD 0) (e.getLsbD 1)]) (fun _ => 0))
     ∧ (∀ (sub : Sub) (f : Byte) (frame : Word),
       ArmsFor (.neighbourFillSet sub f frame) sub 0x45 (fun _ => 1) frame (fun _ => decide (f.toNat ≤ 64))
         (fun _ => none) (fun _ => [.fill f.toNat]) (fun _ => 0)))

/-- R236, R270, R273, R274, R275, Tables 12.3, 12.5 and 12.7: HALLMARK_SELECT, CAN_LISTEN_SET, ROAD_MODE and
TEAM_CONFIG, with their operands. R272, R236, Table 12.5: FALLBACK_SET. A field must be in range and its default
scene loaded. HB_TIMEOUT applies at execution, restarts the monitor, and alone arms nothing; the other fields are
armed. That a DEFAULT scene marked invalid while it was filled is refused as one that is not loaded is the model's
reading, log entry 64 (DEDUCED). -/
def Obligations.SafetyAndFallbackSets : Prop :=
  ((∀ (sub : Sub) (mask add : Half) (frame : Word),
       ArmsFor (.hallmarkSelect sub mask add frame) sub 0x50 (fun _ => mask) frame
         (fun b => decide (mask.toNat ≤ 1) && (mask == 1 || add == 0) && add &&& ~~~(loadedMarks b.hallByte) == 0)
         (fun _ => none) (fun _ => if mask.getLsbD 0 then [.addMarks add] else [])
         (fun b => b.demanded.toNat + 65536 * (b.demanded ||| add).toNat))
     ∧ (∀ (sub : Sub) (o : CanOps),
       ArmsFor (.canListenSet sub o) sub 0x53 (fun _ => o.mask) o.frame (fun _ => canSetOk o) (fun _ => none)
         (fun _ => CanOps.changes o) (fun _ => 0))
     ∧ (∀ (sub : Sub) (mask : Half) (on : Byte) (frame : Word),
       ArmsFor (.roadMode sub mask on frame) sub 0x54 (fun _ => mask) frame
         (fun _ => decide (mask.toNat ≤ 1) && decide (on.toNat ≤ 1) && (mask == 1 || on == 0))
         (fun b => if b.view.roadSrc ≠ 0 then some stWrongState else none)
         (fun _ => if mask.getLsbD 0 then [.road (on == 1)] else []) (fun _ => 0))
     ∧ (∀ (sub : Sub) (o : TeamOps),
       ArmsFor (.teamConfig sub o) sub 0x60 (fun _ => o.mask) o.frame (fun b => b.teamConfigOk o) (fun _ => none)
         (fun _ => TeamOps.changes o) (fun _ => 0)))
  ∧ (∀ (sub : Sub) (o : FallbackOps) (s : State),
     let i : Instr := .fallbackSet sub o
     Runs i s →
     let b := begun i s
     let ok := o.mask.toNat ≤ 7 ∧ (o.mask.getLsbD 0 = true ∨ o.dflt = 0) ∧ (o.mask.getLsbD 1 = true ∨ o.hb = 0)
       ∧ (o.mask.getLsbD 2 = true ∨ o.force = 0) ∧ o.force.toNat ≤ 8
       ∧ (o.mask.getLsbD 0 = true → o.dflt.toNat ≤ 7 ∧ b.sceneUsable o.dflt.toNat = true)
       ∧ (o.mask.getLsbD 1 = true → 50 ≤ o.hb.toNat ∧ o.hb.toNat ≤ 10000) ∧ (sub.atTick = true ∨ o.frame = 0)
     let past := sub.atTick = true ∧ b.passed o.frame = true
     let hb := hbTimeoutApply o.hb.toNat b
     let l : List Change := (if o.mask.getLsbD 0 then [.dfltScene o.dflt.toNat] else [])
       ++ (if o.mask.getLsbD 2 then [.force o.force.toNat] else [])
     let at_ := if sub.atTick then o.frame else if b.frm.blank then b.nextFrame + 1 else b.nextFrame
     (¬ ok → exec i s = .next (finish 0x52 sub stBadOperand 0 b))
     ∧ (ok → o.mask = 0 → exec i s = .next (finish 0x52 sub stOk 0 b))
     ∧ (ok → o.mask ≠ 0 → past → exec i s = .next (finish 0x52 sub stWrongState 0 b))
     ∧ (ok → ¬ past → o.mask = 2 → exec i s = .next (finish 0x52 sub stOk 0 hb))
     ∧ (ok → ¬ past → o.mask ≠ 0 → o.mask ≠ 2 → 16 ≤ b.armedSets → exec i s = .next (finish 0x52 sub stBusy 0 b))
     ∧ (ok → ¬ past → o.mask ≠ 0 → o.mask ≠ 2 → b.armedSets < 16 →
         exec i s = .next (finish 0x52 sub stOkDeferred (BitVec.ofNat 64 (2 ^ 32 * at_.toNat))
           ((if o.mask.getLsbD 1 then hb else b).mapFrm fun f =>
             { f with armed := f.armed ++ [⟨at_, l, f.armSeq, true, sub.atTick⟩], armSeq := f.armSeq + 1 })))
     ∧ hb.frm.params = { b.frm.params with hbTimeout := o.hb.toNat } ∧ hb.saf = { b.saf with hbLast := s.clk.loc }
     ∧ hb = { b with frm := hb.frm, saf := hb.saf, reg := hb.reg })

/-- R40, R236, R237, R408, R409, R320: a tick applies the changes that are armed for its frame or an earlier one, in the
order of their arming, a later one over an earlier one, and keeps the others armed; on a lead, a P_NOM of the team
due at the tick comes after them. The register sets due at the tick are merged into the values in force in the order
of their strobes, and leave. What further commands are checked against is the parameters with everything armed. -/
def Obligations.ChangesApplyInOrder : Prop :=
  (∀ (bad : List (BitVec 8)) (s : State), s.ticking = true → s.tm.entries = [] →
    let f := s.nextFrame
    let due (c : ArmedCmd) : Bool := decide ((f - c.frame).toNat < 2 ^ 31)
    let now := s.frm.armed.filter due
    let sets := s.reg.sets.filter fun a => a.whenTo == .tick && decide ((f - a.target.truncate 32).toNat < 2 ^ 31)
    ∃ t, exec (.tick bad) s = .next t
      ∧ t.frm.armed = s.frm.armed.filter (fun c => !due c)
      ∧ (s.tm.teamP = [] → t.frm.params = (now.flatMap ArmedCmd.changes).foldl Params.apply s.frm.params)
      ∧ (now = [] → t.frm.params = { s.frm.params with pNom := s.nomAt (s.tm.tickNo + 1) }
          ∧ t.tm.teamP = s.tm.teamP.filter (fun e => decide ((s.tm.tickNo + 1).toNat < e.1.toNat)))
      ∧ ((∀ a ∈ sets, a.group ≠ 0 ∧ a.group ≠ 5 ∧ a.group ≠ 6) →
          (∀ o, t.cfg o = (sets.foldl (fun u a => mergeAll u a.group a.values) s).cfg o)
          ∧ t.reg.sets = s.reg.sets.filter (fun a => !sets.contains a)))
  ∧ (∀ (s : State) (a : ArmedCmd), s.frm.armed = [a] → s.tm.teamP = [] → s.view = a.changes.foldl Params.apply s.frm.params)
  ∧ (∀ (s : State) (l m : List ArmedCmd), s.frm.armed = l ++ m → s.tm.teamP = [] →
      s.view = (m.flatMap ArmedCmd.changes).foldl Params.apply ((l.flatMap ArmedCmd.changes).foldl Params.apply s.frm.params))
  ∧ (∀ (s : State) (e : Dword × Nat) (l : List (Dword × Nat)), s.tm.teamP = l ++ [e] →
      s.view = { (s.frm.armed.flatMap ArmedCmd.changes).foldl Params.apply s.frm.params with pNom := e.2 })
  ∧ (∀ (p : Params) (v w : Nat), (p.apply (.iLimit v)).apply (.iLimit w) = { p with iLimit := w }
      ∧ (p.apply (.iLimit v)).apply (.hT w) = { p with iLimit := v, hT := w }
      ∧ (p.apply (.pNom v)).apply (.dutyN w) = { p with pNom := v, dutyN := w }
      ∧ (p.apply (.fill v)).apply (.force w) = { p with fillF := v, force := w })

/-! ### Ring commands: reports, time, thermal, faults, power -/

/-- R271, R276, R279, R285, R259, Tables 11.13 and 12.4: the commands that report. SAFETY_STATUS and UPDATE_STATUS
answer a result word; TEAM_STATUS and TIME_QUERY write their record to a non-zero `DEST`; PIXMAP_READ meets the
units that hold its rows (R142, R176) and writes rows and summary, or is refused for a row range beyond the array.
Nothing but the completion, its writes and the memory errors met changes. R291, R292, R371: FAULT_ACK: a source
beyond 0x9F, a condition that persists, and the release of the source's latches; F_PIXEL_STUCK in a session writes
its touchmark first. The members that TEAM_STATUS knows, PIXMAP_READ without a memory error, and the list of
persisting conditions are the model's readings, log entries 56, 59 and 62. -/
def Obligations.ReportAndAckCommands : Prop :=
  (∀ (sub : Sub) (d : Dword) (s : State),
     (Runs (.safetyStatus sub) s →
       let b := begun (.safetyStatus sub) s
       exec (.safetyStatus sub) s = .next (finish 0x51 sub stOk b.safetyResult b))
     ∧ (Runs (.teamStatus sub d) s →
       let b := begun (.teamStatus sub d) s
       exec (.teamStatus sub d) s = .next
         (reply 0x61 sub stOk b.teamResult [(0, d, if d = 0 then [] else b.memberRecords)] b))
     ∧ (Runs (.timeQuery sub d) s →
       let b := begun (.timeQuery sub d) s
       exec (.timeQuery sub d) s = .next (reply 0x64 sub stOk s.clk.team [(0, d,
         leBytes s.clk.team.toNat 8 ++ leBytes (BitVec.ofInt 32 (if b.actsFollower then s.clk.offset else 0)).toNat 4
           ++ leBytes b.quality.toNat 1 ++ leBytes b.hops 1 ++ leBytes b.discCode 1 ++ List.replicate 17 0)] b))
     ∧ (Runs (.updateStatus sub) s →
       let b := begun (.updateStatus sub) s
       exec (.updateStatus sub) s = .next (finish 0x84 sub stOk b.updateResult b))
     ∧ (∀ o : PixmapOps, Runs (.pixmapRead sub o) s →
       let b := begun (.pixmapRead sub o) s
       let at_ := pixmapBase + 2048 * o.firstRow.toNat
       let c := raised (pixMeet b.frm.frame (fun u => decide (at_ ≤ u ∧ u < at_ + 2048 * o.rows.toNat)) ([], b))
       let n := coverCounts c.hlt.hist
       (b.pool.ce = [] → b.pool.ue = [] → c.pool = b.pool ∧ c.hlt = b.hlt ∧ c.lg = b.lg ∧ c.flt = b.flt)
       ∧ (511 < o.firstRow.toNat ∨ 512 < o.firstRow.toNat + o.rows.toNat →
         exec (.pixmapRead sub o) s = .next (finish 0x44 sub stBadOperand 0 b))
       ∧ (o.firstRow.toNat ≤ 511 → o.firstRow.toNat + o.rows.toNat ≤ 512 →
         exec (.pixmapRead sub o) s = .next (reply 0x44 sub (if o.rows = 0 then stOkZero else stOk)
           (BitVec.ofNat 64 (n.1 + 2 ^ 32 * n.2))
           [(0, o.dest, (List.range o.rows.toNat).flatMap fun k => c.pixRow (o.firstRow.toNat + k)),
             (1, o.summary, c.pixSummary n)] c))))
  ∧ (∀ (sub : Sub) (src : Byte) (s : State),
     let i : Instr := .faultAck sub src
     Runs i s →
     let b := begun i s
     (0xA0 ≤ src.toNat → exec i s = .next (finish 0xA1 sub stBadOperand 0 b))
     ∧ (src.toNat ≤ 0x9F → b.persists src.toNat = true → exec i s = .next (finish 0xA1 sub stWrongState 0 b))
     ∧ (src.toNat = 0x54 → b.persists 0x54 = false → b.sessionOk sub = true →
         (b.logFull = true → exec i s = .next (finish 0xA1 sub stLogFull 0 b))
         ∧ (b.logFull = false → exec i s = .next (flashStart sub 3 (.ackStuck src) b)))
     ∧ (src.toNat ≤ 0x9F → b.persists src.toNat = false → (src.toNat ≠ 0x54 ∨ b.sessionOk sub = false) →
         ∃ t, exec i s = .next (finish 0xA1 sub stOk 0 t)
           ∧ t.flt.degrade.getLsbD src.toNat = false ∧ t.flt.safe.getLsbD src.toNat = false
           ∧ t.flt.dark.getLsbD src.toNat = false ∧ t.flt.held.getLsbD src.toNat = false
           ∧ t.flt.sticky = s.flt.sticky ∧ t.flt.valid = s.flt.valid ∧ t.flt.pin = s.flt.pin))

/-- R293, R361, R385: THERM_REARM ends the latch-off, releases the shutdown's latch and its cause of fast-dark, when the
latch-off holds and the restart condition is met; else `ST_WRONG_STATE`. R290: FAULT_READ clears nothing; its result
word and its 64-byte record. R278: TIME_SET: operands, a follower refuses it, PTM needs PTM Enable; mode 0 sets team
time and logs `EV_TIME_STEP`, modes 1 and 2 select the PTM discipline and free-run. -/
def Obligations.RearmReadTimeSet : Prop :=
  (∀ (sub : Sub) (s : State),
     let i : Instr := .thermRearm sub
     Runs i s →
     let b := begun i s
     (¬ (s.hk.latchOff = true ∧ s.hk.cool = true) → exec i s = .next (finish 0xA2 sub stWrongState 0 b))
     ∧ (s.hk.latchOff = true → s.hk.cool = true → ∃ t, exec i s = .next (finish 0xA2 sub stOk 0 t)
         ∧ t.hk = { s.hk with latchOff := false, trips := [] }
         ∧ t.flt.dark.getLsbD 0x70 = false ∧ t.flt.safe.getLsbD 0x70 = false ∧ .thermal ∉ t.arr.causes))
  ∧ (∀ (sub : Sub) (d : Dword) (s : State),
     Runs (.faultRead sub d) s →
     let b := begun (.faultRead sub d) s
     exec (.faultRead sub d) s = .next (reply 0xA0 sub stOk
       (BitVec.ofNat 64 (s.flt.src.toNat + (if s.flt.valid then 256 else 0) + (if s.flt.ovf then 512 else 0)
         + b.highestSev % 16 * 1024))
       [(0, d, padTo 64 (leBytes s.flt.ts.toNat 8 ++ leBytes s.flt.src.toNat 1
         ++ leBytes ((if s.flt.valid then 1 else 0) + (if s.flt.ovf then 2 else 0)) 1 ++ leBytes 0 2
         ++ leBytes s.flt.sticky.toNat 20))] b))
  ∧ (∀ (sub : Sub) (m : Byte) (v : Dword) (s : State),
     let i : Instr := .timeSet sub m v
     Runs i s →
     let b := begun i s
     let good := m.toNat ≤ 2 ∧ (m = 0 ∨ v = 0)
     (¬ good → exec i s = .next (finish 0x63 sub stBadOperand 0 b))
     ∧ (good → b.actsFollower = true → exec i s = .next (finish 0x63 sub stWrongState 0 b))
     ∧ (good → b.actsFollower = false → m = 1 → s.bus.ptmEn = false →
         exec i s = .next (finish 0x63 sub stWrongState 0 b))
     ∧ (good → b.actsFollower = false → m = 0 → ∃ t, exec i s = .next (finish 0x63 sub stOk 0 t)
         ∧ t.clk.team = v ∧ t.clk.disc = .setValue ∧ t.clk.slew = 0
         ∧ t.frm.frame = s.frm.frame ∧ t.frm.tickLoc = s.frm.tickLoc ∧ t.frm.params = b.frm.params
         ∧ ∃ e ∈ t.lg.onDie, e.kind = 2 ∧ e.code = BitVec.ofNat 16 evTimeStep)
     ∧ (good → b.actsFollower = false → m = 1 → s.bus.ptmEn = true →
         exec i s = .next (finish 0x63 sub stOk 0 (b.mapClk fun c =>
           { c with
             disc := .ptm, slew := 0, ptmStep := true, ptmSettled := false, ptmT1 := none, rate := 0, rateOver := 0
             holdAt := none })))
     ∧ (good → b.actsFollower = false → m = 2 →
         exec i s = .next (finish 0x63 sub stOk 0 (b.mapClk fun c =>
           { c with disc := .freeRun, slew := 0, rate := 0, rateOver := 0, holdAt := none }))))

/-- R280, R281, R425, Table 19.2: POWER_STATE: the pending slot during a transition, the refusals of SLEEP and STANDBY,
the beginning of an entry unless a wake qualifies in the same nanosecond, and the move between IDLE and ACTIVE at
its tick. -/
def Obligations.PowerStateCases : Prop := ∀ (sub : Sub) (v : Byte) (s : State),
  let i : Instr := .powerState sub v
  Runs i s →
  let b := begun i s
  let f := if b.frm.blank then b.nextFrame + 1 else b.nextFrame
  (v = 0 ∨ 4 < v.toNat → exec i s = .next (finish 0x70 sub stBadOperand 0 b))
  ∧ (1 ≤ v.toNat → v.toNat ≤ 4 → s.pwr.entry ≠ none → s.pwr.pend = none →
      exec i s = .next (keepRunning sub (b.mapPwr fun p => { p with pend := some (v, sub) })))
  ∧ (∀ u old, 1 ≤ v.toNat → v.toNat ≤ 4 → s.pwr.entry ≠ none → s.pwr.pend = some (u, old) →
      exec i s = .next (keepRunning sub ((finish 0x70 old stBusy 0 b).mapPwr fun p => { p with pend := some (v, sub) })))
  ∧ (v = 1 ∨ v = 2 → s.pwr.entry = none → b.entryRefused = true →
      exec i s = .next (finish 0x70 sub stWrongState 0 b))
  ∧ (v = 1 ∨ v = 2 → s.pwr.entry = none → b.entryRefused = false → s.pwr.wakeSeen = some s.clk.loc →
      exec i s = .next (finish 0x70 sub stAbortedByWake 0 b))
  ∧ (v = 1 ∨ v = 2 → s.pwr.entry = none → b.entryRefused = false → s.pwr.wakeSeen ≠ some s.clk.loc → ∃ t, exec i s = .next t
      ∧ t.pwr.entry = some ⟨v == 1, sub, s.pwr.mode, 0, false, s.clk.loc⟩ ∧ t.pwr.mode = s.pwr.mode
      ∧ ∀ n, n < 8 → s.lan.l.length = 8 → (t.lane n).test = none)
  ∧ (s.pwr.entry = none → b.movePending = false →
      (v = 3 → s.pwr.mode = .idle → exec i s = .next (finish 0x70 sub stOk 0 b))
      ∧ (v = 4 → s.pwr.mode = .active → exec i s = .next (finish 0x70 sub stOk 0 b)))
  ∧ (v = 3 ∨ v = 4 → s.pwr.entry = none →
      (b.movePending = true ∨ s.pwr.mode ≠ (if v = 3 then .idle else .active)) →
      exec i s = .next (finish 0x70 sub stOkDeferred (BitVec.ofNat 64 (2 ^ 32 * f.toNat)) (b.mapFrm fun x =>
        { x with armed := x.armed ++ [⟨f, [.idle (v == 3)], x.armSeq, false, false⟩], armSeq := x.armSeq + 1 })))

/-! ### Ring commands: sessions, protected items, settings, logs -/

/-- R262 to R264, R466, Table 12.2: AUTH_LOGIN. A right password resets the failure count and opens the session for the
origin; a wrong one counts a failure, raises F_AUTH_FAIL and, from the fifth on, starts a lockout; the record is
written first where it does not hold the count yet. Modes 1 and 2 draw the challenge and check the response. R262:
AUTH_LOGOUT ends the session of its own origin only, SESSION_TIMEOUT ends any; R263: LOCKOUT_EXPIRY ends the
lockout; R446: TRNG_HEALTH_FAILURE makes the generator withhold its output, and with its health restored every
waiting operation has been served. The hash, the signature check and the drawn bytes are uninterpreted, log entries
9 and 10; the record written for a failed login is log entry 44. -/
def Obligations.SessionCases : Prop :=
  (∀ (sub : Sub) (o : LoginOps) (d : HostRead) (s : State),
     let i : Instr := .authLogin sub o d
     Runs i s →
     let b := begun i s
     let c := b.mapSec fun x => { x with challenge := none }
     let p := s.sec.set.prot
     (loginOk o = false → exec i s = .next (finish 0x88 sub stBadOperand 0 b))
     ∧ (loginOk o = true → o.mode = 0 → b.lockedOut = true → exec i s = .next (finish 0x88 sub stLockedOut 0 c))
     ∧ (loginOk o = true → o.mode = 0 → b.lockedOut = false → p.pwState ≠ 1 →
         exec i s = .next (finish 0x88 sub stNotAuthorized 0 c))
     ∧ (loginOk o = true → o.mode = 0 → b.lockedOut = false → p.pwState = 1 →
         Config.pbkdf2 (o.password.take o.pwLen.toNat) p.salt = p.digest →
         let n := c.mapSec fun x => { x with fails := 0, lockEnd := none }
         (p.fails = 0 ∧ p.lockS = 0 → exec i s = .next (finish 0x88 sub stOk 0
           (n.mapSec fun x => { x with session := some ⟨sub.origin, o.operator, s.clk.loc⟩ })))
         ∧ (¬ (p.fails = 0 ∧ p.lockS = 0) → exec i s = .next (flashStart sub 4 (.login true o.operator) n)))
     ∧ (loginOk o = true → o.mode = 0 → b.lockedOut = false → p.pwState = 1 →
         Config.pbkdf2 (o.password.take o.pwLen.toNat) p.salt ≠ p.digest →
         let k := min 255 (s.sec.fails + 1)
         let w := lockSeconds k
         let n := raise fAuthFail [] (c.mapSec fun x =>
           { x with fails := k, lockEnd := if w = 0 then x.lockEnd else some (s.clk.loc + 1000000000 * w) })
         (n.failsStored = true → exec i s = .next (finish 0x88 sub stNotAuthorized 0 n))
         ∧ (n.failsStored = false → exec i s = .next (flashStart sub 4 (.login false o.operator) n)))
     ∧ (loginOk o = true → o.mode = 1 → s.pwr.trngOk = true →
         let r := (List.range 32).map fun k => Config.freeByte (s.free + k)
         let ch := leBytes b.serialNo.toNat 8 ++ r ++ leBytes p.recovery.toNat 8
         exec i s = .next (reply 0x88 sub stOk 0 [(0, BitVec.ofNat 64 (leAt o.password 0 8), ch)]
           { b with free := s.free + 32, sec := { b.sec with challenge := some ch } }))
     ∧ (loginOk o = true → o.mode = 1 → s.pwr.trngOk = false → exec i s = .next (keepRunning sub (c.mapSec fun x =>
         { x with waits := x.waits ++ [.challenge sub (BitVec.ofNat 64 (leAt o.password 0 8))] })))
     ∧ (loginOk o = true → o.mode = 2 →
         let c := hostRead sub (BitVec.ofNat 64 (leAt o.password 0 8)) 64 c
         (∀ l, d = .fail l →
             exec i s = .next (finish 0x88 sub stMemError 0 (if sub.origin = none then aerRaise c else c)))
         ∧ (∀ l, d = .ok l →
             (∀ m, s.sec.challenge = some m → Config.ecdsaOk s.idn.recoveryKey m (padTo 64 l) = false) →
             exec i s = .next (finish 0x88 sub stNotAuthorized 0 c))
         ∧ (∀ l m, d = .ok l → s.sec.challenge = some m →
             Config.ecdsaOk s.idn.recoveryKey m (padTo 64 l) = true → s.sec.marks.length < 6000 →
             exec i s = .next (flashStart sub 4 (.recovery o.operator) c))))
  ∧ (∀ (sub : Sub) (s : State),
     (Runs (.authLogout sub) s →
       let b := begun (.authLogout sub) s
       exec (.authLogout sub) s = .next (finish 0x89 sub stOk 0
         (if (s.sec.session.map fun e => e.origin) = some sub.origin then b.mapSec fun c => { c with session := none } else b)))
     ∧ exec .sessionTimeout s = .next (s.mapSec fun c => { c with session := none })
     ∧ exec .lockoutExpiry s = .next (s.mapSec fun c => { c with lockEnd := none })
     ∧ exec .trngHealthFailure s = .next (s.mapPwr fun p => { p with trngOk := false })
     ∧ (s.sec.waits = [] → exec .trngHealthRestored s = .next
         ((s.mapPwr fun p => { p with trngOk := true }).mapSec fun c => { c with waits := [] }))
     ∧ (∀ w rest, s.sec.waits = w :: rest →
         exec .trngHealthRestored s = .next (rest.foldl (fun t x => trngServe x t) (trngServe w
           ((s.mapPwr fun p => { p with trngOk := true }).mapSec fun c => { c with waits := [] })))))

/-- R257, R263, R265 to R267, R277, R236: PASSWORD_SET, PROTECTED_WRITE, CUTOFF_SET and TEAM_PAIR: the checks that
refuse each, and the flash write that each starts. What CUTOFF_SET does while its flash write runs is the model's
reading, log entry 45; the order of lockout, log room and old password is log entry 77; the record of a failed
password is log entry 44; hash, keys and drawn bytes are uninterpreted, log entries 9 and 10. -/
def Obligations.ProtectedCommandsStart : Prop := ∀ (sub : Sub) (s : State),
  (∀ (item : Half) (v : Word), Runs (.protectedWrite sub item v) s →
    let i : Instr := .protectedWrite sub item v
    let b := begun i s
    let good := (item = 1 ∧ 205 ≤ v.toNat ∧ v.toNat ≤ 1023) ∨ (item = 2 ∧ v.toNat ≤ 4) ∨ (item = 3 ∧ v.toNat ≤ 2)
    (¬ good → exec i s = .next (finish 0x8A sub stBadOperand 0 b))
    ∧ (good → 4096 ≤ s.sec.marks.length → exec i s = .next (finish 0x8A sub stLogFull 0 b))
    ∧ (good → s.sec.marks.length < 4096 → exec i s = .next (flashStart sub 4 (.protWrite item v) b)))
  ∧ (∀ k : BitVec 128, Runs (.teamPair sub k) s →
    let b := begun (.teamPair sub k) s
    (4096 ≤ s.sec.marks.length → exec (.teamPair sub k) s = .next (finish 0x62 sub stLogFull 0 b))
    ∧ (s.sec.marks.length < 4096 → exec (.teamPair sub k) s = .next (flashStart sub 4 (.teamKey k) b)))
  ∧ (∀ (ol nl : Byte) (op : Half) (h : Dword) (d : HostRead), Runs (.passwordSet sub ol nl op h d) s →
    let i : Instr := .passwordSet sub ol nl op h d
    let b := begun i s
    let p := s.sec.set.prot
    let good := (ol = 0 ∨ (8 ≤ ol.toNat ∧ ol.toNat ≤ 32)) ∧ 8 ≤ nl.toNat ∧ nl.toNat ≤ 32
    (¬ good → exec i s = .next (finish 0x8B sub stBadOperand 0 b))
    ∧ (good →
        let c := hostRead sub h 64 b
        (∀ l, d = .fail l →
            exec i s = .next (finish 0x8B sub stMemError 0 (if sub.origin = none then aerRaise c else c)))
        ∧ (∀ l, d = .ok l → l.length = 64 →
            (zeroFrom (l.take 32) ol.toNat = false ∨ zeroFrom (l.drop 32) nl.toNat = false →
              exec i s = .next (finish 0x8B sub stBadOperand 0 c))
            ∧ (zeroFrom (l.take 32) ol.toNat = true → zeroFrom (l.drop 32) nl.toNat = true →
                let may := (p.pwState = 0 ∧ ol = 0) ∨ (p.pwState = 1 ∧ ol ≠ 0)
                let room := b.lockedOut = false ∧ s.sec.marks.length < 4096
                let fits := ol = 0 ∨ Config.pbkdf2 (l.take ol.toNat) p.salt = p.digest
                (p.pwState = 2 → exec i s = .next (finish 0x8B sub stNotAuthorized 0 c))
                ∧ (p.pwState = 0 → ol ≠ 0 → exec i s = .next (finish 0x8B sub stBadOperand 0 c))
                ∧ (p.pwState = 1 → ol = 0 → exec i s = .next (finish 0x8B sub stBadOperand 0 c))
                ∧ (may → b.lockedOut = true → exec i s = .next (finish 0x8B sub stLockedOut 0 c))
                ∧ (may → b.lockedOut = false → 4096 ≤ s.sec.marks.length →
                    exec i s = .next (finish 0x8B sub stLogFull 0 c))
                ∧ (may → room → ¬ fits →
                    ((authFailure c).failsStored = true →
                      exec i s = .next (finish 0x8B sub stNotAuthorized 0 (authFailure c)))
                    ∧ ((authFailure c).failsStored = false →
                      exec i s = .next (flashStart sub 4 .pwFail (authFailure c))))
                ∧ (may → room → fits → s.pwr.trngOk = true →
                    let salt := (List.range 16).map fun k => Config.freeByte (s.free + k)
                    exec i s = .next (flashStart sub 4
                      (.password salt (Config.pbkdf2 ((l.drop 32).take nl.toNat) salt) op) { c with free := s.free + 16 }))
                ∧ (may → room → fits → s.pwr.trngOk = false → exec i s = .next (keepRunning sub (c.mapSec fun x =>
                    { x with waits := x.waits ++ [.password sub op ((l.drop 32).take nl.toNat)] })))))))
  ∧ (∀ o : CutoffOps, Runs (.cutoffSet sub o) s →
    let i : Instr := .cutoffSet sub o
    let b := begun i s
    let ok := cutoffShape o = true ∧ (sub.atTick = true ∨ o.frame = 0)
    let go (b : State) (vs : List (Nat × Nat)) : Prop :=
      (sub.atTick = true → b.passed o.frame = true → exec i s = .next (finish 0x42 sub stWrongState 0 b))
      ∧ ((sub.atTick = false ∨ b.passed o.frame = false) →
          (16 ≤ b.armedSets → exec i s = .next (finish 0x42 sub stBusy 0 b))
          ∧ (b.armedSets < 16 → 4096 ≤ s.sec.marks.length → exec i s = .next (finish 0x42 sub stLogFull 0 b))
          ∧ (b.armedSets < 16 → s.sec.marks.length < 4096 → exec i s = .next (flashStart sub 4
              (.cutoff (cutoffChanges o vs) o.frame (if o.mask.getLsbD 0 then some (o.side, vs) else none)
                (if o.mask.getLsbD 1 then some o.limit else none)) b)))
    (¬ ok → exec i s = .next (finish 0x42 sub stBadOperand 0 b))
    ∧ (ok → o.mask = 0 → exec i s = .next (finish 0x42 sub stOk 0 b))
    ∧ (ok → o.mask ≠ 0 → o.count = 0 → go b [])
    ∧ (∀ bs, ok → o.mask ≠ 0 → o.count ≠ 0 → b.poolRead o.handle o.offset.toNat (4 * o.count.toNat) = .data bs →
        let c := copied o.handle o.offset.toNat (4 * o.count.toNat) b
        (vertsOk (parseVerts bs o.count.toNat) = false → exec i s = .next (finish 0x42 sub stBadOperand 0 c))
        ∧ (vertsOk (parseVerts bs o.count.toNat) = true → go c (parseVerts bs o.count.toNat)))
    ∧ (∀ st, ok → o.mask ≠ 0 → o.count ≠ 0 → b.poolRead o.handle o.offset.toNat (4 * o.count.toNat) = .bad st →
        exec i s = .next (finish 0x42 sub st 0 b))
    ∧ (∀ u, ok → o.mask ≠ 0 → o.count ≠ 0 → b.poolRead o.handle o.offset.toNat (4 * o.count.toNat) = .units u →
        exec i s = .next (finish 0x42 sub stMemError 0 (raiseUe 10 u b))))

/-- R268, R269, R286, R287, R461: SETTINGS_READ, SETTINGS_WRITE, CFG_COMMIT, LOG_READ and LOG_ARCHIVE. A zero LENGTH of
SETTINGS_READ and log entries never written are the model's readings, log entries 43 and 46. -/
def Obligations.SettingsAndLogCommands : Prop := ∀ (sub : Sub) (s : State),
  (∀ (w : Byte) (off : Word) (d : Dword) (n : Word), Runs (.settingsRead sub w off d n) s →
    let i : Instr := .settingsRead sub w off d n
    let b := begun i s
    (2 ≤ w.toNat ∨ 4096 < off.toNat + n.toNat → exec i s = .next (finish 0x90 sub stBadOperand 0 b))
    ∧ (w.toNat ≤ 1 → off.toNat + n.toNat ≤ 4096 →
        exec i s = .next (reply 0x90 sub (if n = 0 then stOkZero else stOk) 0
          [(0, d, ((b.settingsBytes (if w = 1 then { s.sec.set with ord := s.sec.work } else s.sec.set)).drop
            off.toNat).take n.toNat)] b)))
  ∧ (∀ (f : Half) (n : Byte) (l : List Byte), l.length = 32 → Runs (.settingsWrite sub f n l) s →
    let i : Instr := .settingsWrite sub f n l
    let b := begun i s
    let good := 1 ≤ n.toNat ∧ n.toNat ≤ 32 ∧ zeroFrom l n.toNat = true
    (¬ good ∨ fieldPut f (l.take n.toNat) s.sec.work = none → exec i s = .next (finish 0x91 sub stBadOperand 0 b))
    ∧ (∀ w, good → fieldPut f (l.take n.toNat) s.sec.work = some w →
        exec i s = .next (finish 0x91 sub stOk 0 (b.mapSec fun c => { c with work := w }))))
  ∧ (Runs (.cfgCommit sub) s →
    let b := begun (.cfgCommit sub) s
    (4096 ≤ s.sec.marks.length → exec (.cfgCommit sub) s = .next (finish 0x92 sub stLogFull 0 b))
    ∧ (s.sec.marks.length < 4096 → exec (.cfgCommit sub) s = .next (flashStart sub 4 .cfgCommit b)))
  ∧ (∀ (w : Byte) (f : Word) (d : Dword) (n : Word), Runs (.logRead sub w f d n) s →
    let i : Instr := .logRead sub w f d n
    let b := begun i s
    let good := w.toNat ≤ 1 ∧ n.toNat ≤ 4096 ∧ (w = 1 ∨ f.toNat < 131070)
    (¬ good → exec i s = .next (finish 0x8C sub stBadOperand 0 b))
    ∧ (good → n = 0 → exec i s = .next (finish 0x8C sub stOkZero (BitVec.ofNat 64 (2 ^ 32 * f.toNat)) b))
    ∧ (good → n ≠ 0 → w = 0 →
        let r := logRun b.lg n.toNat f.toNat
        exec i s = .next (reply 0x8C sub stOk
          (BitVec.ofNat 64 (r.length + 2 ^ 32 * ((f.toNat + r.length) % 131070)))
          [(0, d, r.flatMap b.logBytes)]
          (meetUnits 8 (b.logUnits f.toNat n.toNat) (b.logUe f.toNat n.toNat) b)))
    ∧ (good → n ≠ 0 → w = 1 →
        let r := (s.sec.marks.filter fun t => decide (f.toNat ≤ t.seq.toNat)).take n.toNat
        exec i s = .next (reply 0x8C sub stOk
          (BitVec.ofNat 64 (r.length + 2 ^ 32 * ((r.getLast?.map fun t => t.seq + 1).getD f).toNat))
          [(0, d, r.flatMap Touchmark.bytes)] b)))
  ∧ (∀ u : Word, Runs (.logArchive sub u) s →
    let b := begun (.logArchive sub u) s
    ((s.sec.nextMark - 1).toNat < u.toNat → exec (.logArchive sub u) s = .next (finish 0x8D sub stBadOperand 0 b))
    ∧ (u.toNat ≤ (s.sec.nextMark - 1).toNat →
        exec (.logArchive sub u) s = .next (flashStart sub 3 (.archive u) b)))

/-! ### Field update, flash writes, core reloads -/

/-- R284, R285, R442, R456, Table 12.10: the update commands. UPDATE_OPEN: length, an update or erase under way, the
refusals, the erase, preceded in state 2 by the record that cancels the try. UPDATE_WRITE: operands, no open update,
the range, a conflict, pages written already, else the flash write; a failed host read writes the whole pages before
the failing request and is reported (R235). UPDATE_CLOSE: every byte written. UPDATE_CONFIRM: only a trial. The
inactive slot and the cancelled try are the model's readings, log entry 40. -/
def Obligations.UpdateCommands : Prop := ∀ (sub : Sub) (s : State),
  (∀ n : Word, let i : Instr := .updateOpen sub n
    Runs i s →
    let b := begun i s
    let good := 256 ≤ n.toNat ∧ n.toNat ≤ 6291456 ∧ n.toNat % 256 = 0
    let busy := s.fls.upd.state = 1 ∨ s.fls.upd.waiting ≠ none
    let u := { b with fls := { b.fls with upd := { b.fls.upd with length := n.toNat, waiting := some sub } } }
    (¬ good → exec i s = .next (finish 0x80 sub stBadOperand 0 b))
    ∧ (good → busy → exec i s = .next (finish 0x80 sub stBusy 0 b))
    ∧ (good → ¬ busy → b.openRefused = true → exec i s = .next (finish 0x80 sub stWrongState 0 b))
    ∧ (good → ¬ busy → b.openRefused = false → s.fls.upd.state ≠ 2 → exec i s = .next (keepRunning sub u))
    ∧ (good → ¬ busy → b.openRefused = false → s.fls.upd.state = 2 →
        exec i s = .next (flashStart sub 6 .updCancel u)))
  ∧ (∀ (off : Word) (host : Dword) (len : Word) (d : HostRead), let i : Instr := .updateWrite sub off host len d
    Runs i s →
    let b := begun i s
    let good := off.toNat % 256 = 0 ∧ len.toNat % 256 = 0 ∧ len.toNat ≤ 65536
    let fits := off.toNat < s.fls.upd.length ∧ off.toNat + len.toNat ≤ s.fls.upd.length
    (¬ good → exec i s = .next (finish 0x81 sub stBadOperand 0 b))
    ∧ (good → s.fls.upd.state ≠ 1 → exec i s = .next (finish 0x81 sub stWrongState 0 b))
    ∧ (good → s.fls.upd.state = 1 → ¬ fits → exec i s = .next (finish 0x81 sub stBadOperand 0 b))
    ∧ (good → s.fls.upd.state = 1 → fits → len = 0 → exec i s = .next (finish 0x81 sub stOkZero 0 b))
    ∧ (∀ bs, good → s.fls.upd.state = 1 → fits → len ≠ 0 → d = .ok bs →
        let pages := pagesOf off.toNat (padTo len.toNat bs)
        let clash := ∃ p ∈ pages, b.pageConflict p = true
        let old := ∀ p ∈ pages, p.1 ∈ s.fls.upd.written
        let c := hostRead sub host len.toNat b
        (clash → exec i s = .next (finish 0x81 sub stUpdConflict 0 c))
        ∧ (¬ clash → old → exec i s = .next (finish 0x81 sub stOk 0 c))
        ∧ (¬ clash → ¬ old → exec i s = .next
            (flashStart sub (if b.inactive then 1 else 0) (.updWrite off.toNat (padTo len.toNat bs)) c)))
    ∧ (∀ bs, good → s.fls.upd.state = 1 → fits → len ≠ 0 → d = .fail bs →
        let pages := pagesOf off.toNat (bs.take len.toNat)
        let none_ := (∃ p ∈ pages, b.pageConflict p = true) ∨ ∀ p ∈ pages, p.1 ∈ s.fls.upd.written
        let c := hostRead sub host len.toNat b
        let c := if sub.origin = none then aerRaise c else c
        (none_ → exec i s = .next (finish 0x81 sub stMemError 0 c))
        ∧ (¬ none_ → exec i s = .next
            (flashStart sub (if b.inactive then 1 else 0) (.updPartial off.toNat (bs.take len.toNat)) c))))
  ∧ (let i : Instr := .updateClose sub
    Runs i s →
    let b := begun i s
    let whole := s.fls.upd.length ≤ s.fls.upd.written.length * 256
    (s.fls.upd.state ≠ 1 → exec i s = .next (finish 0x82 sub stWrongState 0 b))
    ∧ (s.fls.upd.state = 1 → ¬ whole → exec i s = .next (finish 0x82 sub stUpdIncomplete 0 b))
    ∧ (s.fls.upd.state = 1 → whole → (s.pwr.mode ≠ .halter ∨ b.manifest b.inactive = .ok) →
        exec i s = .next (flashStart sub 6 .updClose b))
    ∧ (s.fls.upd.state = 1 → whole → s.pwr.mode = .halter → b.manifest b.inactive = .rollback →
        exec i s = .next (finish 0x82 sub stUpdRollback 0 (imageFault b.inactive .rollback b)))
    ∧ (∀ r, s.fls.upd.state = 1 → whole → s.pwr.mode = .halter → b.manifest b.inactive = .bad r →
        exec i s = .next (finish 0x82 sub stUpdSignature 0 b)))
  ∧ (let i : Instr := .updateConfirm sub
    Runs i s →
    let b := begun i s
    (s.fls.trial = false → exec i s = .next (finish 0x83 sub stWrongState 0 b))
    ∧ (s.fls.trial = true → exec i s = .next (flashStart sub 6 .updConfirm b)))

/-- R448, R265 to R269, R284, R285, R398, R456, R466, R468: the end of a flash write. A failed compare is retried once;
the second failure raises F_BOOT_IMAGE with reason 6, leaves every record as it is but for the copy that was being
written, which is not the one in force, and ends the command with its own flash status or ST_MEM_ERROR. A passed
compare does what remains of the command: a command that changes a protected item, the ordinary settings or the
calibration has its new record in force and writes the touchmark with the CRCs of the item; then that touchmark is
in the change log and the command completes with its effect. A login and a failed login write the failure count,
LOG_ARCHIVE removes touchmarks, FAULT_ACK releases, the pages of an update are programmed, UPDATE_CLOSE sets
TRY_NEXT, and UPDATE_CONFIRM is confirmed and completes once the fuses are blown. R284, R459: the end of the erase
of the inactive slot opens the update and completes UPDATE_OPEN with the slot and its size; a failed erase raises
F_BOOT_IMAGE and completes with the update's flash status. One flash job at a time, a touchmark as a write of its
own, and what a failed erase or write leaves, are the model's choices, log entries 12, 39, 40 and 84; the writes of
start-up are log entry 34; the keyed wrapping and sealing of records are uninterpreted functions, log entry 9. -/
def Obligations.FlashWorkEnds : Prop :=
  ((∀ (s : State) (j : FlashJob) (rest : List FlashJob), s.fls.jobs = j :: rest →
     let u := s.mapFls fun f => { f with jobs := rest }
     let done (t : State) : Prop := exec (.flashWriteDone true) s = .next t
     let boot (slotB : Bool) (state : Nat) : List (List Byte) :=
       s.fls.boot.set (copyTarget BootRec.seq s.bootCopies)
         (BootRec.bytes ⟨((s.bootRec.map BootRec.seq).getD 0) + 1, slotB, state, 0⟩)
     (j.retried = false → exec (.flashWriteDone false) s
         = .next (s.mapFls fun f => { f with jobs := { j with retried := true } :: rest }))
     ∧ (j.retried = true → ∃ t, exec (.flashWriteDone false) s = .next
           (let v := bootImage j.kind 6 (s.flashCopy j.kind) t
            match j.sub with
             | none => bootWritten j.act v
             | some sub => finish j.act.op sub
               (match j.act with
                 | .calStore _ | .marked _ (.calStore _) => stCalFlash
                 | .updWrite _ _ | .updClose | .updConfirm | .updCancel => stUpdFlash
                 | .marked _ a => a.failStatus
                 | _ => stMemError) 0 v)
         ∧ t.fls.jobs = rest ∧ t.sec = s.sec ∧ t.cal = s.cal ∧ t.idn = s.idn ∧ t.fls.trial = s.fls.trial
         ∧ (∀ k, (j.kind = 2 ∧ k = s.flashCopy 2) ∨ t.fls.cals[k]? = s.fls.cals[k]?)
         ∧ (∀ k, (j.kind = 4 ∧ k = s.flashCopy 4) ∨ t.fls.sets[k]? = s.fls.sets[k]?)
         ∧ (∀ k, (j.kind = 6 ∧ k = s.flashCopy 6) ∨ t.fls.boot[k]? = s.fls.boot[k]?)
         ∧ (if s.inactive then t.fls.slotA = s.fls.slotA else t.fls.slotB = s.fls.slotB))
     ∧ (∀ (item : Nat) (by_ : Half) (edit : Settings → Settings) (bytes : ProtFields → List Byte),
         ((∃ n v, j.act = .protWrite n v ∧ item = n.toNat ∧ by_ = s.operator
             ∧ edit = Settings.mapProt (fun p => p.put n.toNat v.toNat) ∧ bytes = fun p => p.itemBytes n.toNat)
           ∨ (∃ l f g m, j.act = .cutoff l f g m ∧ item = 0x10 ∧ by_ = s.operator ∧ bytes = ProtFields.cutBytes
               ∧ edit = Settings.mapProt (fun p =>
                 { p with
                   cutSide := (g.map Prod.fst).getD p.cutSide, cutVerts := (g.map Prod.snd).getD p.cutVerts
                   cutLimit := m.getD p.cutLimit }))
           ∨ (∃ salt d o, j.act = .password salt d o ∧ item = 0x20 ∧ by_ = o ∧ bytes = ProtFields.pwBytes
               ∧ edit = Settings.mapProt (fun p => { p with pwState := 1, salt := salt, digest := d }))
           ∨ (∃ o, j.act = .recovery o ∧ item = 0x21 ∧ by_ = o ∧ bytes = ProtFields.pwBytes
               ∧ edit = Settings.mapProt (fun p =>
                 { p with
                   pwState := 0, salt := List.replicate 16 0, digest := List.replicate 32 0, fails := 0, lockS := 0
                   recovery := p.recovery + 1 }))
           ∨ (∃ k, j.act = .teamKey k ∧ item = 0x30 ∧ by_ = s.operator ∧ bytes = (fun p => padTo 16 p.keyId)
               ∧ edit = Settings.mapProt (fun p => { p with keyId := keyIdOf k }))) →
         ∃ r : Settings, r.prot = { (edit s.sec.set).prot with wrapped := r.prot.wrapped } ∧ r.seq = s.sec.set.seq + 1
           ∧ r.ord = s.sec.set.ord ∧ (r.prot.keyId.all (· == 0) = true → r.prot.wrapped = List.replicate 16 0)
           ∧ ∃ t, done t ∧ t.sec.set = r
             ∧ t.fls.sets = s.fls.sets.set (s.flashCopy 4) (s.settingsImage r)
             ∧ t.fls.jobs = ⟨j.sub, 3, .marked ⟨by_, item, crc32 (bytes s.sec.set.prot), crc32 (bytes r.prot)⟩ j.act, false⟩ :: rest
             ∧ t = { s with fls := t.fls, sec := { s.sec with set := r, teamKey := t.sec.teamKey } })
     ∧ (j.act = .cfgCommit → ∃ r : Settings, r.ord = s.sec.work ∧ r.seq = s.sec.set.seq + 1
         ∧ r.prot = { s.sec.set.prot with wrapped := r.prot.wrapped }
         ∧ ∃ t, done t ∧ t.sec.set = r ∧ t.fls.sets = s.fls.sets.set (s.flashCopy 4) (s.settingsImage r)
           ∧ t.fls.jobs = ⟨j.sub, 3, .marked ⟨s.operator, 0x50, crc32 (s.sec.set.body false), crc32 (r.body false)⟩ .cfgCommit,
               false⟩ :: rest)
     ∧ (∀ r, j.act = .calStore r →
         let q := { r with seq := ((copyWinner CalRec.seq s.calCopies).map fun c => c.2.seq).getD 0 + 1 }
         done (s.mapFls fun f =>
           { f with
             cals := f.cals.set (s.flashCopy 2) (s.calBytes q)
             jobs := ⟨j.sub, 3, .marked ⟨s.operator, 0x40, crc32 ((s.calRecord.map CalRec.body).getD []), crc32 q.body⟩
               (.calStore q), false⟩ :: rest }))
     ∧ (∀ m act, j.act = .marked m act →
         let v := touchmarkBy m.operator m.item m.old m.new u
         (∃ e : Touchmark, v.sec.marks = s.sec.marks ++ [e] ∧ e.seq = s.sec.nextMark ∧ e.operator = m.operator
           ∧ e.item = BitVec.ofNat 16 m.item ∧ e.oldCrc = m.old ∧ e.newCrc = m.new)
         ∧ (∀ n x, act = .protWrite n x →
             done (flashFinish j stOkDeferred (m.new.zeroExtend 64 ||| (v.nextTick.zeroExtend 64 <<< 32)) (v.mapFrm fun f =>
               { f with
                 armed := f.armed ++ [⟨v.nextTick, (protChange n x).toList, f.armSeq, false, false⟩]
                 armSeq := f.armSeq + 1 })))
         ∧ (∀ l f g k, act = .cutoff l f g k →
             let given := j.sub.any Sub.atTick && !v.passed f
             let at_ := if given then f else v.nextTick
             done (flashFinish j stOkDeferred (m.new.zeroExtend 64 ||| (at_.zeroExtend 64 <<< 32)) (v.mapFrm fun x =>
               { x with armed := x.armed ++ [⟨at_, l, x.armSeq, true, given⟩], armSeq := x.armSeq + 1 })))
         ∧ (∀ salt d o, act = .password salt d o → done (flashFinish j stOk 0 v))
         ∧ (∀ k, act = .teamKey k → done (flashFinish j stOk 0 v))
         ∧ (act = .cfgCommit → done (flashFinish j stOk (s.sec.set.seq.zeroExtend 64 ||| (m.new.zeroExtend 64 <<< 32)) v))
         ∧ (∀ o sub, act = .recovery o → j.sub = some sub → ∃ t, done (flashFinish j stOk 0 t)
             ∧ t.sec = { v.sec with fails := 0, lockEnd := none, session := some ⟨sub.origin, o, s.clk.loc⟩ })
         ∧ (∀ r, act = .calStore r → ∃ t, done (flashFinish j stOk (v.nextComp.zeroExtend 64) t) ∧ t.cal.pend = some r
             ∧ (s.cal.trims = some (r.trims, r.q) → t.cal.trims = none) ∧ (s.cal.map = some r.map → t.cal.map = none)
             ∧ (s.cal.assay = some r.assay → t.cal.assay = none) ∧ (s.cal.map ≠ some r.map → t.cal.map = s.cal.map)))
     ∧ (∀ good o, j.act = .login good o → ∃ t, done (flashFinish j (if good then stOk else stNotAuthorized) 0 t)
         ∧ t.sec.set.prot.fails = BitVec.ofNat 8 s.sec.fails
         ∧ t.fls.sets = s.fls.sets.set (s.flashCopy 4) (s.settingsImage t.sec.set)
         ∧ (∀ sub, good = true → j.sub = some sub → t.sec.session = some ⟨sub.origin, o, s.clk.loc⟩)
         ∧ (good = false → t.sec.session = s.sec.session))
     ∧ (j.act = .pwFail → ∃ t, done (flashFinish j stNotAuthorized 0 t) ∧ t.sec.set.prot.fails = BitVec.ofNat 8 s.sec.fails
         ∧ t.fls.sets = s.fls.sets.set (s.flashCopy 4) (s.settingsImage t.sec.set))
     ∧ (∀ n, j.act = .archive n →
         let gone := s.sec.marks.filter fun e => decide (e.seq.toNat ≤ n.toNat)
         ∃ t e, done (flashFinish j stOk (BitVec.ofNat 64 gone.length) t) ∧ t.sec.upTo = n ∧ e.item = 0xFF ∧ e.oldCrc = n
           ∧ t.sec.marks = s.sec.marks.filter (fun e => decide (n.toNat < e.seq.toNat)) ++ [e])
     ∧ (∀ src : Byte, j.act = .ackStuck src → src = 0x54 → ∃ t, done (flashFinish j stOk 1 t)
         ∧ t.flt.degrade.getLsbD src.toNat = false ∧ t.flt.safe.getLsbD src.toNat = false
         ∧ t.flt.dark.getLsbD src.toNat = false ∧ ∃ e : Touchmark, t.sec.marks = s.sec.marks ++ [e] ∧ e.item = 0x60)
     ∧ (∀ off bs, (j.act = .updWrite off bs ∨ j.act = .updPartial off bs) →
         let pages := pagesOf off bs
         let clash := pages.any u.pageConflict = true
         let good := j.act = .updWrite off bs
         (clash → done (flashFinish j (if good then stUpdConflict else stMemError) 0 u))
         ∧ (¬ clash → ∃ t, done (flashFinish j (if good then stOk else stMemError) 0 t)
             ∧ t.fls.upd.written = s.fls.upd.written
                 ++ (pages.filter fun p => !s.fls.upd.written.contains p.1).map Prod.fst
             ∧ (if s.inactive then t.fls.slotA = s.fls.slotA else t.fls.slotB = s.fls.slotB)))
     ∧ (j.act = .updClose → ∃ t, done (flashFinish j stOk 0 t)
         ∧ t.fls.upd.state = 2 ∧ t.fls.jobs = rest ∧ t.fls.boot = boot s.inactive 1)
     ∧ (j.act = .updConfirm → ∃ t, done t ∧ t.fls.upd.state = 0 ∧ t.fls.trial = false ∧ t.fls.jobs = rest
         ∧ t.fls.boot = boot (s.fls.run.getD false) 0 ∧ t.fls.blow = j.sub ∧ t = { s with fls := t.fls })
     ∧ (∀ sub, j.act = .updCancel → j.sub = some sub → ∃ t, done (keepRunning sub t)
         ∧ t.fls.upd.state = 0 ∧ t.fls.upd.waiting = some sub ∧ t.fls.boot = boot (!s.inactive) 0))
     ∧ (∀ (s : State) (sub : Sub), s.fls.blow = some sub → s.pending = [] → s.pwr.mode ≠ .off →
         (popcount s.idn.fuses < min 64 s.fls.imgSec → ∃ t, step s = .next t ∧ t.fls = s.fls
           ∧ popcount t.idn.fuses = popcount s.idn.fuses + 1
           ∧ ∀ k, s.idn.fuses.getLsbD k = true → t.idn.fuses.getLsbD k = true)
         ∧ (min 64 s.fls.imgSec ≤ popcount s.idn.fuses → ∃ t, step s = .next (finish 0x83 sub stOk 0 t)
             ∧ t.fls.blow = none ∧ t.idn = s.idn)))
  ∧ (∀ (s : State) (sub : Sub), s.fls.upd.waiting = some sub →
     (∀ j ∈ s.fls.jobs, j.act ≠ .updCancel) →
     let slot := if s.inactive then 1 else 0
     (∃ t, exec (.updateEraseDone true) s
           = .next (finish 0x80 sub stOk (BitVec.ofNat 64 (slot + 2 ^ 32 * 6291456)) t)
         ∧ t.fls.upd.state = 1 ∧ t.fls.upd.written = [] ∧ t.fls.upd.waiting = none
         ∧ t.fls.upd.length = s.fls.upd.length
         ∧ (if s.inactive then t.fls.slotB = [] ∧ t.fls.slotA = s.fls.slotA
             else t.fls.slotA = [] ∧ t.fls.slotB = s.fls.slotB))
     ∧ ∃ t, exec (.updateEraseDone false) s = .next (finish 0x80 sub stUpdFlash 0 (bootImage slot 6 0 t))
         ∧ t.fls.upd = { s.fls.upd with waiting := none }
         ∧ (if s.inactive then t.fls.slotA = s.fls.slotA ∧ (t.fls.slotB = s.fls.slotB ∨ t.fls.slotB = [])
             else t.fls.slotB = s.fls.slotB ∧ (t.fls.slotA = s.fls.slotA ∨ t.fls.slotA = [])))

/-- R17, R18, R455: a watchdog expiry stops its core and raises F_WDOG; the reload of a groom or ostler section whose
hash is right restarts the core, a wrong hash leaves it stopped with F_BOOT_IMAGE kind 5, and a core that a third
expiry within 60 s has stopped is reloaded no more. A follower whose ostler core stops leaves tick sync and its team
time is disciplined no more. -/
def Obligations.WatchdogAndReload : Prop := ∀ (s : State),
  (∀ c, s.coreOn c = true → s.pwr.coreClock = true → ∃ t, exec (.watchdogExpiry c) s
        = .next (raise fWdog [BitVec.ofNat 8 (match c with | .farrier => 0 | .groom => 1 | .ostler => 2)] t)
      ∧ t.coreOn c = false ∧ (∀ d, d ≠ c → t.coreOn d = s.coreOn d)
      ∧ (let n := (s.pwr.wdogs.filter fun e => e.1 == c && decide (s.clk.loc < e.2 + 60000000000)).length
         t.pwr.stopped = if 2 ≤ n then s.pwr.stopped ++ [c] else s.pwr.stopped)
      ∧ (c = .ostler → s.actsFollower = true → t.tm.tickSync = false ∧ t.clk.slew = 0) ∧ t.frm = s.frm ∧ t.rng = s.rng)
  ∧ (∀ c, s.coreOn c = false → exec (.watchdogExpiry c) s = .next s)
  ∧ (∀ c slot, c ≠ .farrier → s.fls.run = some slot → s.coreOn c = false → s.pwr.farrier = true →
      c ∉ s.pwr.stopped →
      let found := s.sectionOf slot (if c = .groom then 2 else 3)
      (∀ x, found = some x → s.sectionOk slot x = true →
        ∃ t, exec (.coreReloadDone c) s = .next t ∧ t.coreOn c = true ∧ (∀ d, d ≠ c → t.coreOn d = s.coreOn d)
          ∧ t = { s with pwr := t.pwr })
      ∧ (∀ x, found = some x → s.sectionOk slot x = false →
          exec (.coreReloadDone c) s = .next (bootImage 5 3 0 s)))
  ∧ (∀ c, c ∈ s.pwr.stopped → exec (.coreReloadDone c) s = .next s)

/-! ### Calibration -/

/-- R282, R283, R397, R400, Table 12.9: the calibration commands: operands, the refusals of R282, flat-field mode, the
start of a run, the staged map, the record to be stored and the reads. R392, R394, R395, Table 17.3: the end of a
run of phases 1 to 3: the first phase that fails ends it with its status and names itself in the assay record, with
the results of the earlier phases staged; without a failure the run completes with its duration, and phase 3 stages
for each tile the largest trim code whose current does not exceed 100.00 µA. PHASES 0, the base of the assay record
and rounding are the model's readings, log entry 42. -/
def Obligations.Calibration : Prop :=
  (∀ (sub : Sub) (s : State),
     (∀ (phases : Byte) (level : Half), let i : Instr := .calRun sub phases level
       Runs i s →
       let b := begun i s
       let good := ((1 ≤ phases.toNat ∧ phases.toNat ≤ 7 ∨ phases = 16) ∧ level = 0) ∨ phases = 8
       let refused := b.calRefused = true ∨ s.cal.run ≠ none
       (¬ good → exec i s = .next (finish 0x78 sub stBadOperand 0 b))
       ∧ (good → refused → exec i s = .next (finish 0x78 sub stWrongState 0 b))
       ∧ (good → ¬ refused → phases = 8 →
           exec i s = .next (finish 0x78 sub stOk 0 (b.mapCal fun c => { c with flat := some level.toNat })))
       ∧ (good → ¬ refused → phases = 16 →
           exec i s = .next (finish 0x78 sub stOk 0 (b.mapCal fun c => { c with flat := none })))
       ∧ (good → ¬ refused → phases.toNat ≤ 7 →
           exec i s = .next (keepRunning sub (b.mapCal fun c => { c with run := some ⟨phases, sub, false, 0⟩ }))))
     ∧ (∀ (h : Half) (off : Word), let i : Instr := .calLoadMap sub h off
       Runs i s →
       let b := begun i s
       let good := b.handle h = none ∨ off.toNat % 64 = 0
       (¬ good → exec i s = .next (finish 0x79 sub stBadOperand 0 b))
       ∧ (∀ st, good → b.poolRead h off.toNat 1048576 = .bad st →
           exec i s = .next (finish 0x79 sub (if st = stBadOperand then stCalMapRange else st) 0 b))
       ∧ (good → (∀ st, b.poolRead h off.toNat 1048576 ≠ .bad st) → s.cal.run ≠ none →
           exec i s = .next (finish 0x79 sub stWrongState 0 b))
       ∧ (∀ u, good → b.poolRead h off.toNat 1048576 = .units u → s.cal.run = none →
           exec i s = .next (finish 0x79 sub stMemError 0 (raiseUe 10 u b)))
       ∧ (∀ bs, good → s.cal.run = none → b.poolRead h off.toNat 1048576 = .data bs →
           ∃ t, exec i s = .next (finish 0x79 sub stOk 0 t) ∧ t = { copied h off.toNat 1048576 b with cal := t.cal }
             ∧ t.cal.map = some (freshCells 128 0 bs)
             ∧ ∃ a, t.cal.assay = some a ∧ a.unifRes
                 = ((bs.filter fun v => v == 0 || v == 255).length * 100000 + 524288) / 1048576))
     ∧ (let i : Instr := .calStore sub
       Runs i s →
       let b := begun i s
       (b.calStaged = false → exec i s = .next (finish 0x7A sub stWrongState 0 b))
       ∧ (b.calStaged = true → b.logFull = true → exec i s = .next (finish 0x7A sub stLogFull 0 b))
       ∧ (b.calStaged = true → b.logFull = false → ∃ t, exec i s = .next (flashStart sub 2 (.calStore t.calToStore) t)
           ∧ t = { b with cal := { b.cal with assay := t.cal.assay } }))
     ∧ (∀ (what : Byte) (off : Word) (dest : Dword) (n : Word), let i : Instr := .calRead sub what off dest n
       Runs i s →
       let b := begun i s
       let good := what.toNat ≤ 2 ∧ off.toNat + n.toNat ≤ (if what = 0 then 64 else 1048576)
       (¬ good → exec i s = .next (finish 0x7B sub stBadOperand 0 b))
       ∧ (good → n = 0 → exec i s = .next (finish 0x7B sub stOkZero 0 b))
       ∧ (∀ l, good → n ≠ 0 → b.calUe what off.toNat n.toNat = [] → b.calItem what off.toNat n.toNat = some l →
           exec i s = .next (reply 0x7B sub stOk 0 [(0, dest, l)]
             (if what = 1 then raised (frameCe 2 0 s.nextFrame (unitsOf (0x06000000 + off.toNat) n.toNat) ([], b)) else b)))
       ∧ (good → n ≠ 0 → b.calUe what off.toNat n.toNat ≠ [] →
           ∃ t, exec i s = .next (finish 0x7B sub stMemError 0 t) ∧ t.cal.held = s.cal.held)))
  ∧ (∀ (s : State) (r : CalRun) (m : CalMeas),
     s.cal.run = some r → r.running = true →
     let i : Instr := .calRunEnd m
     let ref := 2450 ≤ m.refinMv ∧ m.refinMv ≤ 2550 ∧ m.refinSpread ≤ 8
     let res := 950 ≤ m.calresMv ∧ m.calresMv ≤ 1050
     let ok1 := r.phases.getLsbD 0 = false ∨ ref
     let ok2 := r.phases.getLsbD 1 = false ∨ res
     let tile (t : Nat) : Nat := m.tilesNa.getD t 0
     let fits (t : Nat) (c : Int) : Prop :=
       -128 ≤ c ∧ c ≤ 127 ∧ 102092800 ≤ tile t * (1024 + c).toNat ∧ tile t * (1024 + c).toNat ≤ 102400000
       ∧ ∀ d : Int, c < d → d ≤ 127 → 102400000 < tile t * (1024 + d).toNat
     (¬ ok1 → ∃ t, exec i s = .next (finish 0x78 r.sub stCalRefin 0 t)
         ∧ t.cal.run = none ∧ ∃ a, t.cal.assay = some a ∧ a.failed = 1)
     ∧ (ok1 → ¬ ok2 → ∃ t, exec i s = .next (finish 0x78 r.sub stCalCalres 0 t)
         ∧ t.cal.run = none ∧ (∃ a, t.cal.assay = some a ∧ a.failed = 2)
         ∧ (r.phases.getLsbD 0 = true → t.cal.adc = some (m.adcGain, m.adcOffset)))
     ∧ (ok1 → ok2 → r.phases.getLsbD 2 = true → (∃ k, k < 256 ∧ ∀ c, ¬ fits k c) →
         ∃ t, exec i s = .next (finish 0x78 r.sub stCalTile 0 t) ∧ t.cal.run = none ∧ t.cal.trims = s.cal.trims
           ∧ ∃ a, t.cal.assay = some a ∧ a.failed = 3 ∧ a.tile.toNat < 256 ∧ ∀ c, ¬ fits a.tile.toNat c)
     ∧ (ok1 → ok2 → (r.phases.getLsbD 2 = true → ∀ k, k < 256 → ∃ c, fits k c) →
         ∃ t, exec i s = .next (finish 0x78 r.sub stOk (BitVec.ofNat 64 (msOf (s.clk.loc - r.start) % 65536)) t) ∧ t.cal.run = none
           ∧ (r.phases.getLsbD 1 = true → t.cal.ref = some (m.refTrim, m.refErr))
           ∧ (r.phases.getLsbD 2 = true → ∃ ts q, t.cal.trims = some (ts, q) ∧ ts.length = 256
               ∧ ∀ k, k < 256 → fits k (ts.getD k 0).toInt)
           ∧ (r.phases.getLsbD 2 = false → t.cal.trims = s.cal.trims)))

/-! ### Lanes -/

/-- R203, R207, R288, Table 12.11: LINK_TEST: operands, a refused lane, a start on all the named lanes with their
counters cleared, a stop of those that run a test. EYE_SCAN (R289): operands, handle, an unlocked receiver, a lane
being scanned, the start. R204, R205, R207, R208: what happens on a lane: the checker locks, or loses lock and
counts it; a test whose duration runs out ends; a quick eye counts the open points through the centre, along each
axis, and writes width and height to the lane and to RESULT; a full scan writes 16,256 bytes, after the moves and
scans of its ring that began before it and write there. The counts of bit errors are free values, and a start on a
testing lane is refused: log entries 24 and 31, and what the training of a lane chooses is log entry 81. -/
def Obligations.Lanes : Prop :=
  (∀ (sub : Sub) (s : State), s.lan.l.length = 8 →
     (∀ o : LinkTestOps, let i : Instr := .linkTest sub o
       Runs i s →
       let b := begun i s
       let named (n : Nat) : Prop := n < 8 ∧ o.lanes.getLsbD n = true
       let force := o.flags.getLsbD 3
       let stopOk := o.pattern = 0 ∧ o.flags = 0 ∧ o.loopback = 0 ∧ o.rate = 0 ∧ o.duration = 0
       let startOk := o.pattern.toNat ≤ 5 ∧ o.flags.toNat ≤ 15 ∧ o.loopback.toNat ≤ 3 ∧ o.rate.toNat ≤ 5
         ∧ ¬ ((o.flags.getLsbD 0 = true ∨ o.flags.getLsbD 1 = true) ∧ o.pattern = 0)
         ∧ ¬ (o.loopback = 3 ∧ o.flags.getLsbD 0 = true)
       (o.lanes = 0 ∨ 1 < o.action.toNat → exec i s = .next (finish 0x98 sub stBadOperand 0 b))
       ∧ (o.lanes ≠ 0 → o.action = 0 → ¬ stopOk → exec i s = .next (finish 0x98 sub stBadOperand 0 b))
       ∧ (o.lanes ≠ 0 → o.action = 0 → stopOk → ∃ t res, exec i s = .next (finish 0x98 sub stOk res t)
           ∧ (∀ n, n < 64 → (res.getLsbD n = true ↔ named n ∧ (s.lane n).test ≠ none))
           ∧ ∀ n, n < 8 → (t.lane n).test = (if o.lanes.getLsbD n then none else (s.lane n).test))
       ∧ (o.lanes ≠ 0 → o.action = 1 → ¬ startOk → exec i s = .next (finish 0x98 sub stBadOperand 0 b))
       ∧ (o.lanes ≠ 0 → o.action = 1 → startOk → (∃ n, named n ∧ b.laneRefused force n ≠ none) →
           ∃ st, exec i s = .next (finish 0x98 sub st 0 b) ∧ (st = stInUse ∨ st = stWrongState))
       ∧ (o.lanes ≠ 0 → o.action = 1 → startOk → (∀ n, named n → b.laneRefused force n = none) →
           ∃ t, exec i s = .next (finish 0x98 sub stOk (o.lanes.zeroExtend 64) t)
             ∧ ∀ n, named n → (t.lane n).test = some (testOf o) ∧ (t.lane n).errCnt = 0 ∧ (t.lane n).bitCount = 0
                 ∧ (t.lane n).lockLoss = 0 ∧ (t.lane n).prbsLock = false))
     ∧ (∀ (lane form : Byte) (h : Half) (off : Word), let i : Instr := .eyeScan sub lane form h off
       Runs i s →
       let b := begun i s
       let quick := form = 0 ∧ h = 0 ∧ off = 0
       let placed := quick ∨ (form = 1 ∧ off.toNat % 64 = 0 ∧ ∃ g, b.handle h = some g ∧ off.toNat + 16256 ≤ g.size)
       (7 < lane.toNat ∨ 1 < form.toNat ∨ (form = 0 ∧ ¬ quick) → exec i s = .next (finish 0x99 sub stBadOperand 0 b))
       ∧ (lane.toNat ≤ 7 → form = 1 → b.handle h = none → exec i s = .next (finish 0x99 sub stBadHandle 0 b))
       ∧ (∀ g, lane.toNat ≤ 7 → form = 1 → b.handle h = some g → (off.toNat % 64 ≠ 0 ∨ g.size < off.toNat + 16256) →
           exec i s = .next (finish 0x99 sub stBadOperand 0 b))
       ∧ (lane.toNat ≤ 7 → placed → (s.lane lane.toNat).cdrLock = false →
           exec i s = .next (finish 0x99 sub stWrongState 0 b))
       ∧ (lane.toNat ≤ 7 → placed → (s.lane lane.toNat).cdrLock = true → (s.lane lane.toNat).scan ≠ none →
           exec i s = .next (finish 0x99 sub stBusy 0 b))
       ∧ (lane.toNat ≤ 7 → placed → (s.lane lane.toNat).cdrLock = true → (s.lane lane.toNat).scan = none →
           exec i s = .next (keepRunning sub ((mapLane lane.toNat
             (fun l => { l with scan := some ⟨b.pool.nextMove, sub, form == 1, h, off.toNat⟩ }) b).mapPool
               fun p => { p with nextMove := p.nextMove + 1 })))))
  ∧ (∀ (n : Fin 8) (s : State), s.lan.l.length = 8 →
     let l := s.lane n.val
     (∀ t, l.test = some t → t.checker = true → l.prbsLock = false →
       exec (.prbsLock n) s = .next (mapLane n.val (fun l =>
         { l with
           prbsLock := true, since := s.clk.loc
           sigDet := l.sigDet || t.loopback != 2, cdrLock := l.cdrLock || t.loopback != 2 }) s))
     ∧ (l.prbsLock = true ∨ (∀ t, l.test = some t → t.checker = false) → exec (.prbsLock n) s = .next s)
     ∧ (l.prbsLock = true → ∃ t, exec (.prbsLockLoss n) s = .next t
         ∧ (t.lane n.val).prbsLock = false
         ∧ (t.lane n.val).lockLoss.toNat = min 0xFFFF (l.lockLoss.toNat + 1)
         ∧ l.errCnt.toNat ≤ (t.lane n.val).errCnt.toNat ∧ l.bitCount ≤ (t.lane n.val).bitCount
         ∧ (t.lane n.val).errCnt.toNat - l.errCnt.toNat ≤ (t.lane n.val).bitCount / 10000 - l.bitCount / 10000
         ∧ ∀ k, k < 8 → k ≠ n.val → t.lane k = s.lane k)
     ∧ (∀ t, l.test = some t → t.duration ≠ 0 → ∃ u, exec (.linkTestEnd n) s = .next u
         ∧ (u.lane n.val).test = none ∧ (u.lane n.val).prbsLock = false
         ∧ ∀ k, k < 8 → k ≠ n.val → u.lane k = s.lane k)
     ∧ (∀ t, l.test = some t → t.duration = 0 → exec (.linkTestEnd n) s = .next s)
     ∧ (∀ e across upright, l.scan = some e → e.full = false → across.length = 64 → upright.length = 127 →
         let seen (l : List Half) (k : Nat) : Prop := (l.getD k 0).toNat < 16
         ∃ w h, exec (.eyeScanDone n (.quick across upright)) s = .next
           (finish 0x99 e.sub stOk (BitVec.ofNat 64 (w + 256 * h)) (mapLane n.val (fun l =>
             { l with scan := none, eyeW := BitVec.ofNat 7 w, eyeH := BitVec.ofNat 7 h, eyeValid := true }) s))
           ∧ w ≤ 64 ∧ h ≤ 127 ∧ (w = 0 ↔ ¬ seen across 32) ∧ (h = 0 ↔ ¬ seen upright 63)
           ∧ (∀ k, k < 64 → (∀ i, min k 32 ≤ i → i ≤ max k 32 → seen across i) → max k 32 - min k 32 < w)
           ∧ (∀ k, k < 127 → (∀ i, min k 63 ≤ i → i ≤ max k 63 → seen upright i) → max k 63 - min k 63 < h))
     ∧ (∀ e counts g, l.scan = some e → e.full = true → s.handleAny e.handle = some g →
         (s.writeBehind e.id e.sub e.handle e.offset 16256 = true → exec (.eyeScanDone n (.full counts)) s = .next s)
         ∧ (s.writeBehind e.id e.sub e.handle e.offset 16256 = false →
           exec (.eyeScanDone n (.full counts)) s = .next (finish 0x99 e.sub stOk 0
             (poolWrite g 16257 e.offset (padTo 16256 (counts.flatMap fun c => leBytes c.toNat 2))
               (mapLane n.val (fun l => { l with scan := none }) s))))))

/-! ### Set-up registers -/

/-- R407, R408, R410, R429: the four forms of UPD_STROBE on a request that the function answers. `GROUPS` 0 does
nothing; `WHEN` 3, and in halter mode a group other than 0 and 1, is refused whole with kind 7; an immediate set of
one group takes the shadow values at once; WHEN 1 arms each selected group for the next tick, replacing its armed
set; WHEN 2 arms for an instant, and a passed instant applies at once with LATE. Sets whose instant is reached are
applied and disarmed. Groups without BAR0 fields are log entry 63. -/
def Obligations.StrobeCommands : Prop := ∀ (s₀ : State) (groups : BitVec 9),
  let s : State := { s₀ with bus := { s₀.bus with l1 := false } }
  let halted := s.pwr.mode = .halter ∧ groups &&& 0x1FC ≠ 0
  let refused := regAccess 0x100 7 0 0xF { s with reg := { s.reg with refused := s.reg.refused ||| groups } }
  let disarmed (g : Nat) (late : Bool) : State :=
    { s with
      reg := { s.reg with
        sets := s.reg.sets.filter fun a => a.group != g
        replaced := s.reg.replaced || s.reg.sets.any fun a => a.group == g
        late := s.reg.late || late }
      frm := { s.frm with armSeq := s.frm.armSeq + 1 } }
  let instant := (s.reg.atHi.zeroExtend 64 <<< 32) ||| s.reg.atLo.zeroExtend 64
  (s.memOn = true →
    (groups = 0 → exec (.updStrobeImmediate groups) s₀ = .next s ∧ exec (.updStrobeNextTick groups) s₀ = .next s
      ∧ exec (.updStrobeAtTime groups) s₀ = .next s ∧ exec (.updStrobeRefused groups) s₀ = .next s)
    ∧ (groups ≠ 0 → exec (.updStrobeRefused groups) s₀ = .next refused)
    ∧ (halted → exec (.updStrobeImmediate groups) s₀ = .next refused ∧ exec (.updStrobeNextTick groups) s₀ = .next refused
      ∧ exec (.updStrobeAtTime groups) s₀ = .next refused)
    ∧ (∀ g, g < 9 → groups = 1#9 <<< g → ¬ halted → s.pwr.mode ≠ .sleep →
        exec (.updStrobeImmediate groups) s₀ = .next (applySet g (s.groupValues g) (disarmed g false))
        ∧ (instant.toNat < s.clk.team.toNat →
            exec (.updStrobeAtTime groups) s₀ = .next (applySet g (s.groupValues g) (disarmed g true)))
        ∧ (instant = s.clk.team →
            exec (.updStrobeAtTime groups) s₀ = .next (applySet g (s.groupValues g) (disarmed g false)))
        ∧ (s.clk.team.toNat < instant.toNat → ∃ t, exec (.updStrobeAtTime groups) s₀ = .next t
            ∧ t.reg.sets = (disarmed g false).reg.sets ++ [⟨g, s.groupValues g, .atTime, instant, s.frm.armSeq⟩]
            ∧ t.reg.force = s.reg.force ∧ t.reg.late = s.reg.late))
    ∧ (¬ halted → ∃ t, exec (.updStrobeNextTick groups) s₀ = .next t
        ∧ t.reg.force = s.reg.force ∧ t.reg.shadow = s.reg.shadow
        ∧ ∀ g, g < 9 →
          (groups.getLsbD g = false → t.reg.sets.filter (fun a => a.group == g) = s.reg.sets.filter (fun a => a.group == g))
          ∧ (groups.getLsbD g = true → ∃ k, t.reg.sets.filter (fun a => a.group == g)
              = [⟨g, s.groupValues g, .tick, (if s.frm.blank then s.nextFrame + 1 else s.nextFrame).zeroExtend 64, k⟩])))
  ∧ (s.pwr.mode ≠ .sleep → s.pwr.configReady = true → ∃ t, exec .armedSetAtTime s₀ = .next t
      ∧ t.reg.sets = s.reg.sets.filter fun a => !(a.whenTo == .atTime && decide (a.target.toNat ≤ s.clk.team.toNat)))

/-- R402 to R406, R370, R212, R414, R416, R421: single double-word writes. A write of a class-C register reaches its
shadow only, a severity above 6 as 6 (R364); a locked field keeps its value with kind 6; a partial write is refused
with kind 3 and a read-only register ignores a write. The strobes CFG_CRC_COMMIT, CFG_LOCK, FLT_PIN_REL, SEQ_RESET,
GPIO_SET and GPIO_CLR do what their rules say. R402, R404, R205, R366, R420: the reads with an effect. A partial or
reserved double word ends the request with Completer Abort and kind 1 or 2; FLT_FIRST_SRC empties the first-error
latch and copies its time; TT_NOW_LO latches the high half; LTn_ERRCNT is returned, cleared, and its bit total
copied; a read at the alias clears nothing. The AER status bit of a refused request is PRESUMED, log entry 16; the
counts of LTn_ERRCNT are free values, log entry 24. -/
def Obligations.RegisterAccess : Prop :=
  (∀ (s₀ : State), s₀.memOn = true →
     let s : State := { s₀ with bus := { s₀.bus with l1 := false } }
     (∀ (o : Half) (v : Word) (bl : BitVec 4), o.toNat ∈ classCRegs → ¬ (0x1040 ≤ o.toNat ∧ o.toNat ≤ 0x108C) →
       let m := classCMask o.toNat
       let locked := (o = 0x134 ∨ o = 0x138) ∧ s.reg.locked = true
       (¬ locked → exec (.registerWrite .bar0 o [v] 0xF bl) s₀ = .next { s with reg := { s.reg with
           shadow := regPut s.reg.shadow o.toNat ((s.shadowVal o.toNat &&& ~~~m) ||| (v &&& m)) } })
       ∧ (locked → exec (.registerWrite .bar0 o [v] 0xF bl) s₀ = .next (regAccess o.toNat 6 0 0xF s)))
     ∧ (∀ (o : Half) (v : Word) (bl : BitVec 4), o.toNat ∈ classCRegs → 0x1040 ≤ o.toNat → o.toNat ≤ 0x108C →
       let m := classCMask o.toNat
       ∃ x : Word, (∀ k, k < 8 → x.toNat / 16 ^ k % 16
           = if sourceKnown (8 * ((o.toNat - 0x1040) / 4) + k) then min 6 (v.toNat / 16 ^ k % 16) else 0)
         ∧ exec (.registerWrite .bar0 o [v] 0xF bl) s₀ = .next { s with reg := { s.reg with
             shadow := regPut s.reg.shadow o.toNat ((s.shadowVal o.toNat &&& ~~~m) ||| (x &&& m)) } })
     ∧ (∀ (o : Half) (v : Word) (be bl : BitVec 4), be ≠ 0xF → o.toNat % 4 = 0 →
         exec (.registerWrite .bar0 o [v] be bl) s₀
           = .next (regAccess o.toNat 3 0 be.toNat { s with bus := { s.bus with
               aerUnc := s.bus.aerUnc ||| 0x8000, out := s.bus.out ++ [.errNonfatal] } }))
     ∧ (∀ (o : Half) (v : Word) (bl : BitVec 4), 0x2100 ≤ o.toNat → o.toNat < 0x2180 → o.toNat % 4 = 0 →
         exec (.registerWrite .bar0 o [v] 0xF bl) s₀ = .next s)
     ∧ (∀ v, exec (.cfgCrcCommit .shared v) s₀ = .next
         (if s.reg.freshS = true ∧ v = s.reg.curS then
           { s with reg := { s.reg with refS := s.reg.curS, staleS := false, lateS := false } }
         else regAccess 0x120 8 0 0xF s))
     ∧ (∀ v, exec (.cfgCrcCommit .localPart v) s₀ = .next
         (if s.reg.freshL = true ∧ v = s.reg.curL then
           { s with reg := { s.reg with refL := s.reg.curL, staleL := false, lateL := false } }
         else regAccess 0x124 8 0 0xF s))
     ∧ exec .cfgLock s₀ = .next { s with reg := { s.reg with locked := true } }
     ∧ (∃ t, exec .fltPinRel s₀ = .next t ∧ t = { s with flt := { s.flt with pin := t.flt.pin, pinSev := t.flt.pinSev, relPending := t.flt.relPending } }
         ∧ (s.flt.pin = false → t.flt.pin = false ∧ t.flt.relPending = false)
         ∧ (s.flt.pin = true → s.latched = true → t.flt.pin = true ∧ t.flt.relPending = true)
         ∧ (t.flt.pin = true → t.flt.relPending = true))
     ∧ (∀ r : Fin 16,
         ((s.ring r.val).enabled = true →
           exec (.seqReset r) s₀ = .next (regAccess (0x41C + 0x40 * r.val) 8 0 0xF s))
         ∧ ((s.ring r.val).enabled = false → exec (.seqReset r) s₀ = .next
             (mapRing r.val (fun q =>
               { q with
                 seqValid := false, lastSeq := 0, window := [], muted := q.muted.map (Sub.turn r.val .muted .lost) })
               (s.mapSubs (Sub.turn r.val .muted .lost)))))
     ∧ (∀ b, exec (.gpioSet b) s₀ = .next { s with pwr := { s.pwr with gpioLatch := s.pwr.gpioLatch ||| b } })
     ∧ (∀ b, exec (.gpioClr b) s₀ = .next { s with pwr := { s.pwr with gpioLatch := s.pwr.gpioLatch &&& ~~~b } }))
  ∧ (∀ (s₀ : State), s₀.memOn = true →
     let s : State := { s₀ with bus := { s₀.bus with l1 := false } }
     let answered (w : Word) (t : State) : State :=
       { t with bus := { t.bus with out := t.bus.out ++ [.readData [w]], l1 := false } }
     let aborted (t : State) : State := { t with bus := { t.bus with out := t.bus.out ++ [.readAbort], l1 := false } }
     let abort : State := { s with bus := { s.bus with aerUnc := s.bus.aerUnc ||| 0x8000 } }
     (∀ (bar : BarId) (o : Half) (be bl : BitVec 4), be ≠ 0xF → o.toNat % 4 = 0 →
       exec (.refusedRead bar o 1 be bl) s₀
         = .next (aborted (regAccess o.toNat 1 (match bar with | .bar0 => 0 | .bar2 => 2) be.toNat abort)))
     ∧ (∀ (o : Half) (bl : BitVec 4), o.toNat % 4 = 0 → (0x10000 ≤ o.toNat ∨ regHas (o.toNat % 0x8000) = false) →
         exec (.refusedRead .bar0 o 1 0xF bl) s₀ = .next (aborted (regAccess o.toNat 2 0 0xF abort)))
     ∧ exec .fltFirstSrcRead s₀ = .next
         (let t := answered (s.regRead 0x1000) s
          { t with flt := { t.flt with
             tsLo := s.flt.ts.truncate 32, tsHi := (s.flt.ts >>> 32).truncate 32
             valid := false, src := 0, sev := 0, ts := 0, ovf := false } })
     ∧ exec .ttNowLoRead s₀ = .next (answered (s.clk.team.truncate 32)
         { s with clk := { s.clk with nowHi := (s.clk.team >>> 32).truncate 32 } })
     ∧ (∀ n : Fin 8, s.lan.l.length = 8 → ∃ c t, exec (.ltnErrcntRead n) s₀ = .next t
         ∧ t.bus.out = s.bus.out ++ [.readData [c]] ∧ (s.lane n.val).errCnt.toNat ≤ c.toNat
         ∧ (t.lane n.val).errCnt = 0 ∧ (t.lane n.val).bitCount < 10000 ∧ (t.lane n.val).test = (s.lane n.val).test
         ∧ ((s.lane n.val).prbsLock = false → c = (s.lane n.val).errCnt
             ∧ (t.lane n.val).bitsLo = BitVec.ofNat 32 ((s.lane n.val).bitCount / 10000)
             ∧ (t.lane n.val).bitsHi = BitVec.ofNat 32 ((s.lane n.val).bitCount / 10000 / 2 ^ 32))
         ∧ ∀ k, k < 8 → k ≠ n.val → t.lane k = s.lane k)
     ∧ exec (.clearingRead 0x208 1) s₀ = .next (answered (s.reg.intStat.zeroExtend 32)
         { s with reg := { s.reg with intStat := 0 } })
     ∧ exec (.clearingRead 0x818 1) s₀ = .next (answered s.rng.eq.lost
         { s with rng := { s.rng with eq := { s.rng.eq with lost := 0 } } })
     ∧ exec (.clearingRead 0x10C 1) s₀ = .next (answered s.updStatus
         { s with reg := { s.reg with refused := 0, replaced := false, late := false } })
     ∧ exec (.clearingRead 0x2004 1) s₀ = .next (answered (s.powerRead 0x2004)
         { s with pwr := { s.pwr with wakeCause := 0, wakeLane := 0, wakeStandby := false } })
     ∧ (∀ k, k < 5 → ∃ t, exec (.clearingRead (BitVec.ofNat 16 (0x1020 + 4 * k)) 1) s₀ = .next t
         ∧ t.bus.out = s.bus.out ++ [.readData [(s.flt.sticky >>> (32 * k)).truncate 32]]
         ∧ ∀ b, b < 160 → t.flt.sticky.getLsbD b = (s.flt.sticky.getLsbD b && decide (b / 32 ≠ k)))
     ∧ exec (.clearingRead 0x8208 1) s₀ = .next (answered (s.reg.intStat.zeroExtend 32) s))

/-- R411, R413, R415, R416, R490: the end of a CRC pass writes both computed CRCs and counts the pass; a partition that
is committed, not stale and not touched is compared, and a difference raises F_CFG_CRC at each such pass, with the
partition, the computed and the reference CRC; with its AUTO bit the engine commits a fresh stale partition itself.
A partition stale for too long raises F_CFG_STALE once, until its next commit. What the local partition's CRC runs
over is the model's reading, log entry 13; that F_CFG_CRC is raised at each differing pass, with no hold between
them, is log entry 57. -/
def Obligations.ConfigurationCrc : Prop := ∀ (s : State) (a b : Word),
  (s.passesRun = false → exec (.cfgCrcPass a b) s = .next s)
  ∧ (s.passesRun = true →
      let curS := crc32 s.frm.params.sharedRecords ^^^ a
      let curL := crc32 (itemRecords s.localItems) ^^^ b
      let seenS := s.reg.committed = true ∧ s.reg.staleS = false ∧ s.reg.touchS = false
      let seenL := s.reg.committed = true ∧ s.reg.staleL = false ∧ s.reg.touchL = false
      let raises (t : State) (part : Nat) (cur ref : Word) : Prop := s.sevOf fCfgCrc 0 ≠ 0 →
        t.flt.sticky.getLsbD fCfgCrc = true ∧ ∃ e ∈ t.lg.onDie, e.kind = 5 ∧ e.code = BitVec.ofNat 16 fCfgCrc
          ∧ e.data.take 12 = leBytes part 4 ++ leBytes cur.toNat 4 ++ leBytes ref.toNat 4
      ∃ t, exec (.cfgCrcPass a b) s = .next t
      ∧ t.reg.passes = s.reg.passes + 1 ∧ t.reg.curS = curS ∧ t.reg.curL = curL
      ∧ t.reg.freshS = (s.reg.freshS || !s.reg.touchS) ∧ t.reg.freshL = (s.reg.freshL || !s.reg.touchL)
      ∧ t.reg.touchS = false ∧ t.reg.touchL = false
      ∧ (seenS → t.reg.mismS = decide (curS ≠ s.reg.refS) ∧ t.reg.refS = s.reg.refS
          ∧ (curS ≠ s.reg.refS → raises t 0 curS s.reg.refS))
      ∧ (seenL → t.reg.mismL = decide (curL ≠ s.reg.refL) ∧ t.reg.refL = s.reg.refL
          ∧ (curL ≠ s.reg.refL → raises t 1 curL s.reg.refL))
      ∧ ((¬ seenS ∨ curS = s.reg.refS) → (¬ seenL ∨ curL = s.reg.refL) → t = { s with reg := t.reg })
      ∧ (s.reg.committed = true → s.reg.staleS = true → t.reg.freshS = true → (s.cfg 0x134).getLsbD 0 = true →
          t.reg.staleS = false ∧ t.reg.refS = curS)
      ∧ (s.reg.committed = true → s.reg.staleL = true → t.reg.freshL = true → (s.cfg 0x134).getLsbD 1 = true →
          t.reg.staleL = false ∧ t.reg.refL = curL)
      ∧ (s.reg.staleS = true → t.reg.freshS = false → t.reg.staleS = true ∧ t.reg.refS = s.reg.refS)
      ∧ (s.reg.staleL = true → t.reg.freshL = false → t.reg.staleL = true ∧ t.reg.refL = s.reg.refL))
  ∧ (∀ p,
      let new := (match p with
        | .shared => s.reg.staleS = true ∧ s.reg.lateS = false
        | .localPart => s.reg.staleL = true ∧ s.reg.lateL = false) ∧ s.reg.committed = true ∧ s.passesRun = true
      (new → exec (.cfgStaleTimeout p) s = .next
        (raise fCfgStale [match p with | .shared => 0 | .localPart => 1]
          { s with reg := (match p with
            | .shared => { s.reg with lateS := true }
            | .localPart => { s.reg with lateL := true }) }))
      ∧ (¬ new → exec (.cfgStaleTimeout p) s = .next s))

/-! ### Doorbells, rings, the host port -/

/-- R214, R215: a doorbell outside SLEEP and outside a SLEEP or STANDBY entry: the index is taken from bits [12:0]; it
is discarded with F_RING_PROTOCOL when the engine is not ready, the queue is disabled, the index reaches the size,
or a head would release entries not yet written; else the queue's index is exactly that, and nothing else changes.
The precedence of the reasons, a completion ring that is full with size - 1 entries, and a tail that announces more
than the ring holds are the model's readings, log entry 87. -/
def Obligations.Doorbells : Prop := ∀ (s₀ : State) (n : Fin 16) (v : Word),
  s₀.memOn = true → s₀.pwr.mode ≠ .sleep → s₀.pwr.entry = none →
  let s : State := { s₀ with bus := { s₀.bus with l1 := false } }
  let i : BitVec 13 := v.truncate 13
  let r := s.ring n.val
  let q := s.rng.eq
  let sq := bits (s.cfg (ringReg n.val 0x10)) 0 13
  let cq := bits (s.cfg (ringReg n.val 0x10)) 16 13
  let eq := bits (s.cfg 0x808) 0 13
  let owed := (i.toNat + cq - r.cqHead) % cq ≤ (r.cqTail + cq - r.cqHead) % cq
  let eqOwed := (i.toNat + eq - q.head) % eq ≤ (q.tail + eq - q.head) % eq
  (exec (.sqTailDoorbell n v) s₀ = .next (if s.pwr.ready = false then ringProtocol 4 n.val 0 i.toNat s
    else if r.enabled = false then ringProtocol 2 n.val 0 i.toNat s
    else if sq ≤ i.toNat then ringProtocol 1 n.val 0 i.toNat s
    else { s with rng := { s.rng with q := s.rng.q.modify n.val fun r => { r with sqTail := i.toNat, sqIndex := i } } }))
  ∧ (exec (.cqHeadDoorbell n v) s₀ = .next (if s.pwr.ready = false then ringProtocol 4 n.val 1 i.toNat s
    else if r.enabled = false then ringProtocol 2 n.val 1 i.toNat s
    else if cq ≤ i.toNat then ringProtocol 1 n.val 1 i.toNat s
    else if ¬ owed then ringProtocol 3 n.val 1 i.toNat s
    else { s with rng := { s.rng with q := s.rng.q.modify n.val fun r => { r with cqHead := i.toNat, cqIndex := i } } }))
  ∧ (exec (.eqHeadDoorbell v) s₀ = .next (if s.pwr.ready = false then ringProtocol 4 16 2 i.toNat s
    else if q.enabled = false then ringProtocol 2 16 2 i.toNat s
    else if eq ≤ i.toNat then ringProtocol 1 16 2 i.toNat s
    else if ¬ eqOwed then ringProtocol 3 16 2 i.toNat s
    else { s with rng := { s.rng with eq := { q with head := i.toNat, index := i } } }))

/-- R215, R216, R226, Table 10.9: the fetch of an entry. One request reads its 64 bytes at SQ_HEAD. The entry joins the
ring's fetched ones and SQ_HEAD advances; an entry at the head that does not execute is answered at once: a repeat
with the same digest from the window with DUP, one with another digest ST_SEQ_REUSED, any other sequence
ST_SEQ_STALE. A failed fetch halts the ring and is reported (R199). R221, R226, R228, R243: the start of an entry.
With no eligible ring the heads are settled and nothing starts; with one eligible ring, its head entry leaves the
ring and runs as the command its words spell, with GAP when its sequence jumps; a bad opcode or reserved bit gets
its status, and a FILL with a non-zero HOST answers its HANDLE first. Classification at the head of a ring and the
first turn at reset are the model's readings, log entries 17 and 48; that a FILL with a non-zero HOST answers its
HANDLE first is log entry 73 (DEDUCED). -/
def Obligations.EntryFetchAndStart : Prop :=
  (∀ (s : State) (n : Fin 16) (e : BitVec 512),
     let r := s.ring n.val
     let size := bits (s.cfg (ringReg n.val 0x10)) 0 13
     let seq : Word := (e >>> 32).truncate 32
     let d := (seq - r.lastSeq).toNat
     let executes := r.seqValid = false ∨ (1 ≤ d ∧ d < 2 ^ 31)
     let asked : State := { s with bus := { s.bus with
       out := s.bus.out
         ++ [.memRead (BitVec.ofNat 64 (s.cfg64 (ringReg n.val 0) + 64 * r.sqHead)) 64 (Config.readTag s.bus.reads)]
       l1 := false, reads := s.bus.reads + 1 } }
     let moved : State := mapRing n.val (fun r => { r with sqHead := if r.sqHead + 1 < size then r.sqHead + 1 else 0 }) asked
     let refusal (st : Half) (t : State) : State :=
       cqWrite (e.truncate 8).toNat (e.getLsbD 8)
         { seq := seq, status := st, ring := BitVec.ofNat 8 n.val, dup := false, gap := false
           tag := (e >>> 64).truncate 64, tDone := s.clk.team, result := 0 } t
     (s.canFetch n.val = false → ∀ f, exec (.entryFetch n f) s = .next s)
     ∧ (s.canFetch n.val = true → exec (.entryFetch n .failed) s
         = .next (raised ([⟨fLinkAer, 0, []⟩, ⟨fRingProtocol, 0, [5, BitVec.ofNat 8 n.val, 3, 0] ++ leBytes r.sqHead 4⟩],
             aerUncorrectable (intCause 5 (mapRing n.val (fun q => { q with halted := true }) asked)))))
     ∧ (s.canFetch n.val = true → s.rng.q.length = 16 → executes → r.fetched = [] → ∃ t, exec (.entryFetch n (.ok e)) s = .next t
         ∧ (t.ring n.val) = { (moved.ring n.val) with fetched := [e] } ∧ t.bus = asked.bus)
     ∧ (s.canFetch n.val = true → s.rng.q.length = 16 → ¬ executes → r.fetched = [] → s.cqRoom n.val = true →
         (∀ w, r.window.find? (fun w => w.seq == seq) = some w → w.digest = digestOf e → w.done = true →
           exec (.entryFetch n (.ok e)) s = .next (cqWrite (e.truncate 8).toNat (e.getLsbD 8)
             { seq := seq, status := if w.status.toNat < 256 then stOkDuplicate else w.status
               ring := BitVec.ofNat 8 n.val, dup := true, gap := false, tag := (e >>> 64).truncate 64
               tDone := w.tDone, result := w.result } moved))
         ∧ (∀ w, r.window.find? (fun w => w.seq == seq) = some w → w.digest ≠ digestOf e →
             exec (.entryFetch n (.ok e)) s
               = .next (refusal stSeqReused (ringProtocol 6 n.val 3 seq.toNat moved)))
         ∧ (r.window.find? (fun w => w.seq == seq) = none →
             exec (.entryFetch n (.ok e)) s = .next (refusal stSeqStale moved))))
  ∧ ((∀ (s : State) (d : HostRead), (settleHeads s).pickRing = none → exec (.entryStart d) s = .next (settleHeads s))
     ∧ (∀ (s : State), (∀ k, k < 16 → (s.ring k).fetched = []) → settleHeads s = s ∧ s.pickRing = none)
     ∧ ∀ (s : State) (d : HostRead), (∃ t, exec (.entryStart d) s = .next t)
       ∧ ∀ (n : Fin 16) (e : BitVec 512),
         s.rng.q.length = 16 → (s.ring n.val).fetched = [e] → s.eligible n.val = true →
         (∀ k, k < 16 → k ≠ n.val → (s.ring k).fetched = []) →
         let gap := (s.ring n.val).seqValid && decide (2 ≤ (e32 e 4 - (s.ring n.val).lastSeq).toNat)
         let b := entrySub n gap none e
         ∃ g : Rngs, g.eq = s.rng.eq
           ∧ g.q = s.rng.q.modify n.val (fun r => { r with fetched := [] })
           ∧ (fillHost b d e = none → ∀ i, entryRead b d e = .inl i → ∃ t, exec i { s with rng := g } = .next t
               ∧ exec (.entryStart d) s = .next (settleHeads t))
           ∧ (fillHost b d e = none → ∀ st, entryRead b d e = .inr st →
               exec (.entryStart d) s = .next (finish (entryOp e) b st 0
                 (windowOpen n.val b.seq (digestOf e) { s with rng := g })))
           ∧ (∀ p, fillHost b d e = some p → s.serves p = true → s.entryCheck p = none → s.namesSelf b = true →
               exec (.entryStart d) s = .next (finish 0x15 b
                 (if (s.handle (e16 e 16)).isNone then stBadHandle else stBadOperand) 0
                 (startWindow p { s with rng := g }))))

/-- R174, R176, R178, R199, R429: the BAR4 aperture and the scrub. Outside allocated blocks, and in self-refresh, a read
returns zeros, a write is discarded and F_APERTURE is raised; inside, a read returns the pool's bytes, poisoned and
reported in AER where they hold an uncorrectable unit, and an aligned write of whole units changes exactly its
bytes. The scrub moves on one unit at each read and wraps at 112 MiB. That a scrub, as every meeting, reports the
units that hold corrected and uncorrectable errors is log entry 76; which words of a unit are in error is a free
value, log entry 10; the AER row of a poisoned read is log entry 52; which blocks BAR4 reaches is log entry 87. -/
def Obligations.ApertureAndScrub : Prop := ∀ (s₀ : State),
  let s : State := { s₀ with bus := { s₀.bus with l1 := false } }
  (∀ (o : BitVec 27) (n : Nat) (ue ce : List Nat), s.memOn = true →
    s.apertureOk o.toNat n = false ∨ s.pwr.selfRefresh = true →
    exec (.bar4Read o n ue ce) s₀
      = .next (busReply (.bar4Data (List.replicate n 0) false) (raise fAperture [] s₀)))
  ∧ (∀ (o : BitVec 27) (n : Nat), s.memOn = true → s.apertureOk o.toNat n = true →
      (∀ u ∈ unitsOf o.toNat n, u ∉ s.pool.ue ∧ u ∉ s.pool.ce) →
      exec (.bar4Read o n [] []) s₀
        = .next (busReply (.bar4Data ((List.range n).map fun k => cellGet 0 s.pool.mem (o.toNat + k)) false) s))
  ∧ (∀ (o : BitVec 27) (n u : Nat), s.memOn = true → s.apertureOk o.toNat n = true → unitsOf o.toNat n = [u] →
      u ∈ s.pool.ue → u ∉ s.pool.ce → ∃ (w : Byte) (k : Nat), w ≠ 0 ∧ k < 32 ∧ exec (.bar4Read o n [] []) s₀
        = .next (busReply (.bar4Data ((List.range n).map fun k => cellGet 0 s.pool.mem (o.toNat + k)) true)
            (raised ([⟨fMemUe, 0, leBytes u 4 ++ [4, w, 0, 0] ++ leBytes 0 4⟩, ⟨fLinkAer, 0, []⟩],
              { s₀ with free := s₀.free + 2, bus := { s₀.bus with aerUnc := s₀.bus.aerUnc ||| (1#32 <<< k) } }))))
  ∧ (∀ (o : BitVec 27) (bs : List (Option Byte)) (ue ce : List Nat), s.memOn = true →
      s.apertureOk o.toNat bs.length = false ∨ s.pwr.selfRefresh = true →
      exec (.bar4Write o bs ue ce) s₀ = .next (raise fAperture [] s))
  ∧ (∀ (o : BitVec 27) (bs : List Byte), s.memOn = true → s.apertureOk o.toNat 64 = true → bs.length = 64 →
      o.toNat % 64 = 0 → Memory.wf s.pool.mem → ∃ t, exec (.bar4Write o (bs.map some) [] []) s₀ = .next t
        ∧ (∀ k, k < 64 → cellGet 0 t.pool.mem (o.toNat + k) = bs.getD k 0)
        ∧ (∀ a, (a < o.toNat ∨ o.toNat + 64 ≤ a) → cellGet 0 t.pool.mem a = cellGet 0 s.pool.mem a)
        ∧ t.pool.handles = s.pool.handles ∧ t.flt = s.flt ∧ t.bus = s.bus)
  ∧ (s.scrubOn = false → ∀ r, exec (.scrubRead r) s₀ = .next s)
  ∧ (s.scrubOn = true →
      let t := { s with pool := { s.pool with
        scrub := if s.pool.scrub + 1 < 0x1C0000 then s.pool.scrub + 1 else 0 } }
      let u := 64 * s.pool.scrub
      let data (w : Byte) : List Byte := leBytes u 4 ++ [0, w, 0, 0] ++ leBytes 0 4
      (u ∉ s.pool.ue → u ∉ s.pool.ce → exec (.scrubRead .clean) s₀ = .next t)
      ∧ (∀ w : Byte, u ∉ s.pool.ue → u ∉ s.pool.ce → exec (.scrubRead (.corrected w)) s₀ = .next (raise fMemCe (data w) t))
      ∧ (∀ w : Byte, u ∉ s.pool.ue → exec (.scrubRead (.uncorrectable w)) s₀
          = .next (raise fMemUe (data w) { t with pool := { t.pool with ue := s.pool.ue ++ [u] } }))
      ∧ (u ∈ s.pool.ue → ∃ w, exec (.scrubRead .clean) s₀ = .next (raise fMemUe (data w) { t with free := t.free + 1 }))
      ∧ (u ∉ s.pool.ue → u ∈ s.pool.ce → ∃ w, exec (.scrubRead .clean) s₀ = .next (raise fMemCe (data w)
          { t with free := t.free + 1, pool := { t.pool with ce := s.pool.ce.filter (fun x => x != u) } })))

/-- R194, R195, R201, R310: the configuration space and PTM. Retry status before it is ready; a read answers its word; a
Command-register write sets Memory Space Enable and Bus Master Enable; a masked vector's message waits in the
pending array. A PTM dialog takes t1; its response steps the counter by the offset of R310 or slews it. The places
of the standard bits and when PTM counts as settled are presumed or chosen, log entries 16 and 38; the taps and the
lane reversal that training finds at LINK_UP are log entry 81; which AER bit an error sets is log entry 52; messages
that a queue had counted are log entry 87. -/
def Obligations.HostPortCommands : Prop := ∀ (s : State),
  (∀ o w, s.bus.linkUp = true → s.pwr.configReady = false →
    exec (.configurationRequest o w) s = .next (busReply .retryStatus s))
  ∧ (∀ o, s.bus.linkUp = true → s.pwr.configReady = true → exec (.configurationRequest o none) s
      = .next (busReply (.cfgData (s.cfgRead (o.toNat / 4 * 4))) s))
  ∧ (∀ v, s.bus.linkUp = true → s.pwr.configReady = true →
      ∃ t, exec (.configurationRequest 0x004 (some (v, 0xF))) s = .next t
        ∧ t.bus.memEn = v.getLsbD 1 ∧ t.bus.master = v.getLsbD 2
        ∧ (v.getLsbD 2 = true → s.bus.d3 = false → t.bus.held = []))
  ∧ (s.bus.linkUp = true → s.pwr.configReady = true →
      ∃ t, exec (.configurationRequest 0x000 none) s = .next t
        ∧ t.bus.out = s.bus.out ++ [.cfgData 0x10481F3D])
  ∧ (s.started = true → exec .configSpaceReady s = .next { s with pwr := { s.pwr with configReady := true } })
  ∧ (∀ sp w, s.started = true → s.linkOk sp w = true → s.lan.l.length = 8 → ∃ t, exec (.linkUp sp w) s = .next t
      ∧ (∃ l : List BusOut, t.bus = { s.bus with
            linkUp := true, speed := sp, width := w, reversed := t.bus.reversed, out := s.bus.out ++ l, l1 := t.bus.l1 }
          ∧ (sp ≤ 2 → l = [])
          ∧ (3 ≤ sp → l.length = w ∧ ∀ o ∈ l, ∃ n r, n < s.maxWidth ∧ o = .txEq n 48 16 r))
      ∧ (t.bus.reversed = true → 1 < s.maxWidth) ∧ t.rng = s.rng ∧ t.reg = s.reg
      ∧ ∀ n, n < s.pcieLanes →
        let used := ∃ k, k < w ∧ n = (if t.bus.reversed then s.maxWidth - 1 - k else k)
        (used → (t.lane n).sigDet = true ∧ (t.lane n).cdrLock = true
          ∧ (sp ≤ 2 → ((t.lane n).pre, (t.lane n).main, (t.lane n).post) = (0, 40, 8)
              ∨ ((t.lane n).pre, (t.lane n).main, (t.lane n).post) = (0, 36, 12))
          ∧ (3 ≤ sp → ((t.lane n).pre, (t.lane n).main, (t.lane n).post)
                = ((s.lane n).pre, (s.lane n).main, (s.lane n).post)
              ∨ ((t.lane n).pre.toNat + (t.lane n).main.toNat + (t.lane n).post.toNat = 48
                  ∧ (t.lane n).pre.toNat ≤ 12 ∧ (t.lane n).post.toNat ≤ 16)))
        ∧ (¬ used → (t.lane n).sigDet = false ∧ (t.lane n).cdrLock = false))
  ∧ (s.bus.linkUp = true → s.bus.aspmL1 = true → s.bus.l1 = false → exec .l1Entry s = .next
      { s with bus := { s.bus with out := s.bus.out ++ [.requestL1], l1 := true } })
  ∧ (s.ptmRuns = true → exec .ptmDialog s = .next
      { s with
        bus := { s.bus with out := s.bus.out ++ [.ptmRequest], l1 := false }
        clk := { s.clk with ptmT1 := some s.clk.team } })
  ∧ (∀ m d t1, s.ptmRuns = true → s.clk.ptmT1 = some t1 →
      let h := m + d + BitVec.ofInt 64 (((s.clk.team - t1).toInt - d.toInt) / 2)
      let theta := (s.clk.team - h).toInt
      (s.clk.ptmCtx = true → s.clk.ptmStep = false → exec (.ptmResponse m d) s = .next
        { s with clk := { s.clk with
          ptmT1 := none, ptmCtx := true, slew := -theta, holdAt := none
          rate := -theta, rateOver := s.clk.loc - s.clk.ptmAt, ptmAt := s.clk.loc
          ptmSettled := s.clk.ptmSettled || decide (theta.natAbs < 20) } })
      ∧ (s.clk.ptmCtx = true → s.clk.ptmStep = true → ∃ t, exec (.ptmResponse m d) s = .next t
          ∧ t.clk.team = h ∧ t.clk.ptmStep = false ∧ t.clk.slew = 0)
      ∧ (s.clk.ptmCtx = false → exec (.ptmResponse m d) s
          = .next { s with clk := { s.clk with ptmT1 := none, ptmCtx := true } }))
  ∧ (∃ b, b < 32 ∧ exec (.aerErrorLogged false) s = .next (raise fLinkAer []
      { s with free := s.free + 1, bus := { s.bus with aerUnc := s.bus.aerUnc ||| (1#32 <<< b) } }))
  ∧ (∃ b, b < 32 ∧
     let l := (s.bus.corr.filter fun t => decide (s.clk.loc < t + 1000000000)) ++ [s.clk.loc]
     let t := { s with free := s.free + 1, bus := { s.bus with corr := l, aerCor := s.bus.aerCor ||| (1#32 <<< b) } }
     (l.length ≤ 16 → exec (.aerErrorLogged true) s = .next t)
     ∧ (16 < l.length → exec (.aerErrorLogged true) s = .next (raise fLinkAer [] t)))
  ∧ (∀ n : Fin 16, bits (s.cfg (ringReg n.val 0x18)) 8 16 ≠ 0 → 0 < (s.ring n.val).modCount →
      exec (.cqModTimeout (.cq n)) s = .next (mapRing n.val (fun r => { r with modCount := 0 })
        (msixSend (bits (s.cfg (ringReg n.val 0x14)) 8 5) s)))
  ∧ (bits (s.cfg 0x810) 8 16 ≠ 0 → 0 < s.rng.eq.modCount → ∃ t, exec (.cqModTimeout .eq) s = .next t
      ∧ t.rng.eq.modCount = 0 ∧ t = { msixSend (bits (s.cfg 0x80C) 8 5) s with rng := t.rng } ∧ t.rng.q = s.rng.q)

/-- R195, Table 10.3: a write to the MSI-X table outside SLEEP and outside a SLEEP or STANDBY entry changes the
addressed word of the addressed entry, and sends the messages that wait on vectors no longer masked; the table bits
below the double word of a message address read zero. The pending array is read-only; a reserved offset is a bus
error. R196, R262: a loss of the data link resets the ring pairs, the event ring, the MSI-X structures and the bus
state, ends the session of the engine's own host and raises F_LINK_DOWN; the duplicate windows and the engine's
other state stay. That a link loss resets the ring registers is the model's reading, log entry 37; the AER bit
logged for a reserved offset is the model's choice, log entry 16 (PRESUMED). -/
def Obligations.MsixAndLinkLoss : Prop :=
  (∀ (s₀ : State) (v : Word),
     s₀.memOn = true → s₀.pwr.mode ≠ .sleep → s₀.pwr.entry = none → s₀.bus.msix.length = 32 →
     let s : State := { s₀ with bus := { s₀.bus with l1 := false } }
     (∀ k, k < 32 →
       let e := s.bus.msix.getD k ⟨0, 0, true⟩
       let at4 (j : Nat) : Half := BitVec.ofNat 16 (0x800 + 16 * k + 4 * j)
       (∃ t, exec (.msixTableWrite (at4 2) v) s₀ = .next t ∧ (t.bus.msix.getD k ⟨0, 0, true⟩) = { e with data := v })
       ∧ (∃ t, exec (.msixTableWrite (at4 0) v) s₀ = .next t
           ∧ (t.bus.msix.getD k ⟨0, 0, true⟩).addr.truncate 32 = v &&& 0xFFFFFFFC)
       ∧ (v.getLsbD 0 = true → exec (.msixTableWrite (at4 3) v) s₀ = .next
           (msixRelease { s with bus := { s.bus with msix := s.bus.msix.modify k fun e => { e with masked := true } } }))
       ∧ (v.getLsbD 0 = false → s.bus.pba = 1#32 <<< k → s.bus.msixEn = true → s.bus.funcMask = false →
           s.bus.master = true → s.bus.d3 = false →
           ∃ t, exec (.msixTableWrite (at4 3) v) s₀ = .next t ∧ t.bus.pba = 0
             ∧ t.bus.out = s.bus.out ++ [.msix k e.addr e.data]))
     ∧ exec (.msixTableWrite 0xC00 v) s₀ = .next s
     ∧ exec (.msixTableWrite 0xB00 v) s₀ = .next (regAccess 0xB00 4 2 0xF
         (busReply .errNonfatal { s with bus := { s.bus with aerUnc := s.bus.aerUnc ||| 0x8000 } })))
  ∧ (∀ (s : State), s.bus.linkUp = true → s.rng.q.length = 16 →
     ∃ t, exec .linkDown s = .next (raise fLinkDown [] t)
       ∧ t.bus.linkUp = false ∧ t.bus.width = 0 ∧ t.clk.ptmCtx = false ∧ t.bus.pba = 0 ∧ t.bus.msix = List.replicate 32 ⟨0, 0, true⟩ ∧ t.bus.held = []
       ∧ t.rng.eq.enabled = false
       ∧ (∀ n, n < 16 → (t.ring n).enabled = false ∧ (t.ring n).window = (s.ring n).window
           ∧ (t.ring n).lastSeq = (s.ring n).lastSeq ∧ (t.ring n).seqValid = (s.ring n).seqValid
           ∧ (t.ring n).cqPhase = true ∧ (t.ring n).sqTail = 0)
       ∧ (∀ e, s.sec.session = some e → (e.origin = none → t.sec.session = none) ∧ (e.origin ≠ none → t.sec.session = s.sec.session))
       ∧ t.frm.frame = s.frm.frame ∧ t.scn = s.scn ∧ t.arr = s.arr ∧ t.pho = s.pho
       ∧ t.pool.handles.map (fun x : Handle => { x with waiting := none })
           = s.pool.handles.map (fun x : Handle => { x with waiting := none })
       ∧ t.pool.mem = s.pool.mem)

/-! ### The frame -/

/-- R23, R36, R39, R42, R44, Table 02.7: a tick. It is numbered one after the last, takes its instants, and starts the
next period's schedule afresh. If the frame is finished and nothing bars it, A takes the codes of S, the curb code
and alpha fixed at the guard take effect, and the shown frame is that frame; if not, A and what it shows stay, and a
skip that is no repeat counts. Which skip counts is the model's reading, log entry 71. -/
def Obligations.TickShowsOrSkips : Prop := ∀ (bad : List (BitVec 8)) (s : State), s.ticking = true →
  let i : Instr := .tick bad
  let shows := s.frameGood = true ∧ s.frm.under = false ∧ s.frm.sleepTicks = false
  ∃ t, exec i s = .next t
    ∧ t.frm.frame = s.nextFrame ∧ t.frm.ticked = true ∧ t.frm.tickLoc = s.clk.loc
    ∧ t.clk.tickTime = s.clk.team ∧ t.clk.tickFrame = s.nextFrame
    ∧ t.frm.cutDone = false ∧ t.frm.blank = false ∧ t.frm.compOn = false ∧ t.frm.rows = 0 ∧ t.frm.dec = none
    ∧ t.frm.comp = none ∧ t.arr.s = s.arr.s
    ∧ (∀ c d, s.frm.blank = true → shows → s.frm.comp = some c → s.frm.dec = some d →
        t.arr.a = s.arr.s ∧ t.arr.crcA = s.arr.crcS ∧ t.pho.curb = s.pho.fixed ∧ t.frm.skips = 0
        ∧ ∃ h, t.frm.shown = some h ∧ h.frame = c.frame ∧ h.fallback = d.fallback ∧ h.scene = d.scene
          ∧ h.demanded = d.demanded ∧ h.road = d.road)
    ∧ (s.frm.blank = true → ¬ shows →
        t.arr.a = s.arr.a ∧ t.arr.crcA = s.arr.crcA ∧ t.frm.shown = s.frm.shown ∧ t.pho.curb = s.pho.curb
        ∧ (s.frm.sleepTicks = false → (∀ d, s.frm.dec = some d → d.skipRep = false) → t.frm.skips = s.frm.skips + 1))

/-- R36, R37, R42, R76, R79, R130, R334, R340, R342, R349: the building of a frame, each event in its place in the
period and out of it, where it changes nothing. The cut-off commits the due scene and fixes a decision with the
marks, the road mode and the cut-off geometry that hold, for the fallback path when a cause holds; the composition
starts on cleared sums; each row enters S with its CRC and counts, and a read-back that differs from that CRC bars
the frame unless a fallback fill has taken its place; the last row completes the composition; the guard blanks,
calls an unfinished frame an underrun and fixes the curb code of a finished one, which a wrong residue bars. A row
of A whose CRC differs raises F_ROW_CRC. That a row's raises come once it is written, so that a fallback fill drops
it, is log entry 70; a composition is complete with its last row, log entry 78; a scene that ends cause 6 is log
entry 79. -/
def Obligations.FrameBuilding : Prop := ∀ (s : State),
  (∀ ue,
    let here := s.ticking = true ∧ s.frm.cutDone = false ∧ s.frm.blank = false ∧ s.frm.sleepTicks = false
    (¬ here → exec (.cutoff ue) s = .next s)
    ∧ (here → ∃ t d, exec (.cutoff ue) s = .next t
        ∧ t.frm.cutDone = true ∧ t.frm.dec = some d ∧ t.scn.cur = s.sceneFor s.nextFrame
        ∧ t.scn.staged = s.scn.staged.filter (fun x => decide (2 ^ 31 ≤ (s.nextFrame - x.first).toNat))
        ∧ t.arr.a = s.arr.a ∧ t.arr.s = s.arr.s ∧ t.frm.shown = s.frm.shown
        ∧ d.demanded = s.demanded ∧ d.road = s.road ∧ d.added = s.frm.params.addMarks
        ∧ d.geom = s.frm.params.cutGeom ∧ d.limit = s.frm.params.cutLimit
        ∧ (s.fallbackNext = true → d.fallback = true ∧ d.skipRep = false
            ∧ d.scene = s.fbSelect s.causes ∧ d.causes = s.causes)))
  ∧ (let here := s.ticking = true ∧ s.frm.cutDone = true ∧ s.frm.compOn = false ∧ s.frm.blank = false
        ∧ ∃ d, s.frm.dec = some d ∧ d.skipRep = false
     (¬ here → exec .compositionStart s = .next s)
     ∧ (here → ∃ t c, exec .compositionStart s = .next t
        ∧ t.frm.compOn = true ∧ t.frm.rows = 0 ∧ t.frm.compStart = s.clk.loc ∧ t.frm.dec = s.frm.dec
        ∧ t.frm.fail = (if s.frm.cutTest = some false then some .cutoff else none)
        ∧ t.pho.aH = 0 ∧ t.pho.aN = 0 ∧ t.arr.crcS = [] ∧ t.arr.a = s.arr.a ∧ t.frm.comp = some c
        ∧ c.frame = s.nextFrame ∧ c.n = s.frm.params.dutyN ∧ c.iLimit = s.frm.params.iLimit
        ∧ c.bottomUp = s.frm.params.bottomUp ∧ c.alpha = s.pho.alpha))
  ∧ (∀ o,
      let here := s.ticking = true ∧ s.frm.compOn = true ∧ s.frm.blank = false ∧ s.frm.rows < 512
      (¬ here ∨ s.frm.comp = none ∨ s.frm.dec = none ∨ (∃ d, s.frm.dec = some d ∧ d.skipRep = true) →
        exec (.rowWrite o) s = .next s)
      ∧ (∀ c d, here → s.frm.comp = some c → s.frm.dec = some d → d.skipRep = false →
          let y := if c.bottomUp then 511 - s.frm.rows else s.frm.rows
          ∃ t, exec (.rowWrite o) s = .next t
            ∧ t.arr.a = s.arr.a ∧ t.frm.shown = s.frm.shown
            ∧ (t.frm.dec.map Decision.fallback = some d.fallback → t.frm.rows = s.frm.rows + 1
              ∧ (∃ codes, t.arr.s = rowPut s.arr.s y codes ∧ t.arr.crcS = alPut s.arr.crcS y (rowCrc y codes))
              ∧ (s.frm.fail ≠ none → t.frm.fail = s.frm.fail)
              ∧ ∀ w, o.readBack = some w → alGet t.arr.crcS y = some w ∨ t.frm.fail ≠ none)
            ∧ (t.frm.dec.map Decision.fallback ≠ some d.fallback → t.frm.rows = 0 ∧ t.arr.crcS = [])))
  ∧ (let here := s.ticking = true ∧ s.frm.compOn = true ∧ s.frm.compDone = false ∧ s.frm.blank = false
        ∧ s.frm.comp ≠ none ∧ 512 ≤ s.frm.rows
     (¬ here → exec .composeDone s = .next s)
     ∧ (here → ∃ t, exec .composeDone s = .next t
        ∧ t.frm = { s.frm with compDone := true } ∧ t.arr = s.arr ∧ t.pho = s.pho ∧ s.hk.vSet ≤ t.hk.vSet))
  ∧ (∀ bad,
      (s.ticking = false ∨ s.frm.blank = true → exec (.guardStart bad) s = .next s)
      ∧ (s.ticking = true → s.frm.blank = false → ∃ t, exec (.guardStart bad) s = .next t
          ∧ t.frm.blank = true ∧ t.arr.a = s.arr.a ∧ t.arr.s = s.arr.s ∧ t.frm.shown = s.frm.shown
          ∧ t.pho.curb = s.pho.curb ∧ t.frm.rows = s.frm.rows
          ∧ (s.frm.sleepTicks = true ∨ (∃ d, s.frm.dec = some d ∧ d.skipRep = true) →
              t.frm.under = s.frm.under ∧ t.pho.fixed = s.pho.fixed)
          ∧ (s.frm.sleepTicks = false → (∀ d, s.frm.dec = some d → d.skipRep = false) →
              (s.frm.rows < 512 ∨ s.frm.compOn = false → t.frm.under = true ∧ t.pho.fixed = s.pho.fixed)
              ∧ (∀ c d, s.frm.compOn = true → s.frm.rows = 512 → s.frm.comp = some c → s.frm.dec = some d →
                  t.frm.under = s.frm.under ∧ t.frm.compDone = true
                  ∧ (bad = false → s.frm.fail = none → t.frm.fail = none ∧ t.pho.fixed = s.curbFor c)
                  ∧ (bad = true ∨ s.frm.fail ≠ none → t.frm.fail ≠ none ∧ t.pho.fixed = s.pho.fixed)))))
  ∧ (∀ (r : Fin 512) w,
      let kept := (alGet s.arr.crcA r.val).getD 0
      (s.ticking = false ∨ s.frm.shown = none ∨ w = none ∨ w = some kept → exec (.aScanRow r w) s = .next s)
      ∧ (∀ h v, s.ticking = true → s.frm.shown = some h → w = some v → v ≠ kept →
          exec (.aScanRow r w) s = .next (raise fRowCrc
            ([1, 0] ++ leBytes r.val 2 ++ leBytes h.frame.toNat 4 ++ leBytes kept.toNat 4 ++ leBytes v.toNat 4) s)))

/-- R28, R31, R33, R49, R180, R319: the other events of the frame's timing: a counted or a reference edge on FSYNC_IN,
the loss of the reference, the pulse of FSYNC_OUT, the flush of the flight log's on-die part, the entry into tick
sync. The form of the lock loop is the model's choice, log entry 27, and that each FSYNC_OUT_PULSE moves the pin to
its other level is log entry 88. -/
def Obligations.TickSources : Prop := ∀ (s : State),
  (∀ rising, s.ticking = false ∨ s.frm.src ≠ .fsync ∨ rising = s.frm.params.falling →
    exec (.fsyncInEdge rising) s = .next { s with frm := { s.frm with fsyncIn := rising } })
  ∧ (∀ rising, s.ticking = true → s.frm.src = .fsync → rising ≠ s.frm.params.falling →
      (s.frm.sync.selCount + 1 < s.frm.params.ns → exec (.fsyncInEdge rising) s = .next
        { s with frm := { s.frm with
          fsyncIn := rising, sync := { s.frm.sync with selCount := s.frm.sync.selCount + 1 } } })
      ∧ (s.frm.params.ns ≤ s.frm.sync.selCount + 1 → ∃ t, exec (.fsyncInEdge rising) s = .next t
          ∧ t.clk.edge = s.clk.team ∧ t.frm.sync.lastEdge = s.clk.loc ∧ t.frm.sync.selCount = 0))
  ∧ (s.ticking = true → s.frm.src = .fsync → s.frm.sync.state = .acquiring ∨ s.frm.sync.state = .locked →
      exec .fsyncLost s = .next (raise fFsyncLost [] { s with frm := { s.frm with sync := { s.frm.sync with
        state := .holdover, edges := 0, good := 0, bad := 0, measured := [], stretch := 0, trim := 0 } } }))
  ∧ (s.ticking = false ∨ s.frm.params.foEnable = false ∨ s.frm.fsyncOut = true →
      exec .fsyncOutPulse s = .next { s with frm := { s.frm with fsyncOut := false } })
  ∧ (s.ticking = true → s.frm.params.foEnable = true → s.frm.fsyncOut = false →
      let due := s.frm.frame.toNat % s.frm.params.foDiv = 0 ∧ s.frm.foDone = false
      (due → exec .fsyncOutPulse s = .next { s with frm := { s.frm with fsyncOut := true, foDone := true } })
      ∧ (¬ due → exec .fsyncOutPulse s = .next s))
  ∧ (s.ticking = true → s.pwr.hasDram = true → s.pwr.selfRefresh = false → s.lg.next < 131070 →
      ∃ t, exec .logFlush s = .next t ∧ t = { s with lg := t.lg, pool := t.pool }
        ∧ t.pool = { s.pool with ue := t.pool.ue, ce := t.pool.ce } ∧ t.lg.onDie = []
        ∧ t.lg.next = (s.lg.next + s.lg.onDie.length) % 131070
        ∧ ∀ e, s.lg.onDie = [e] → alGet t.lg.dram s.lg.next = some e)
  ∧ (∀ e, s.ticking = true → s.syncReady = true → s.syncTarget = some e → ∃ t, exec .tickSyncEntry s = .next t
      ∧ t.tm.tickSync = true ∧ t.tm.leftSync = false ∧ t.tm.tickNo = e.tick - 1
      ∧ t.frm.period = (s.clk.loc - s.frm.tickLoc) + (e.time.toNat - s.clk.team.toNat) ∧ t.frm.stretched = true)
  ∧ (s.syncReady = false → exec .tickSyncEntry s = .next s)

/-! ### The array: pixels, tiles, fast-dark -/

/-- R142 to R145, R154: the evaluation of pixels. A sample that can find the fault joins the finds of the running
period, a probe that can those of its slot; any other is dropped; a stuck-on pixel in the clamped part of a road-
mode frame isolates its tile. R156 to R160, R64, R67, R354: over-current and fast-dark. A tile whose current has
been above 450 mA for 200 ns, or whose charge passes its threshold, trips and opens, for good on its third trip
within 1 s; other measurements trip nothing. A charge above that of the array's threshold opens every tile and caps
the relit curb; DARK_N opens every tile while it lasts; a relight closes the tile rows one after another, and a tile
that tripped counts its charge anew. The charge that the array's comparator meets is a free value, log entry 10. -/
def Obligations.ArrayEvents : Prop :=
  (∀ (s : State),
     (∀ p, s.ticking = false ∨ s.measuring = true ∨ s.sampleValid p = false → exec (.pixelSample p) s = .next s)
     ∧ (∀ p, s.ticking = true → s.measuring = false → s.sampleValid p = true → ∃ t, exec (.pixelSample p) s = .next t
         ∧ t.hlt.found = s.hlt.found ++ [p] ∧ t.hlt.map = s.hlt.map ∧ t.arr.a = s.arr.a
         ∧ (p.kind ≠ .stuck → t = { s with hlt := { s.hlt with found := s.hlt.found ++ [p] } })
         ∧ (p.kind = .stuck → s.stuckIsolates p.x.val p.y.val = true → s.held154 (tileOf p.x.val p.y.val) = false →
             t.tileClosed (tileOf p.x.val p.y.val) = false
             ∧ ∀ u, u < 256 → u ≠ tileOf p.x.val p.y.val → t.tileClosed u = s.tileClosed u))
     ∧ (∀ l, s.ticking = true → s.measuring = false → s.frm.probed = none → ∃ t, exec (.probeSlot l) s = .next t
         ∧ (∃ p, t.frm.probed = some p ∧ p.closed = s.closedTiles ∧ p.onProbe = s.frm.params.onProbe
             ∧ p.offProbe = s.frm.params.offProbe) ∧ t.hlt.slotFound = s.hlt.slotFound ++ l.filter s.probeValid
         ∧ t.hlt.found = s.hlt.found ∧ t.hlt.map = s.hlt.map)
     ∧ (∀ l, s.frm.probed ≠ none → exec (.probeSlot l) s = .next s))
  ∧ (∀ (s : State),
     (∀ m : TileTrip,
       let tile := m.tile
       let recent := (s.arr.tileTrips.filter fun e => decide (s.clk.team.toNat < e.2 + 1000000000))
       let own := (recent.filter fun e => e.1 == tile.toNat).length
       let trips := s.chargeTrips m.tile.toNat m.charge = true ∨ (450 < m.ma ∧ 200 ≤ m.ns)
       (¬ trips → exec (.tileOvercurrentTrip m) s = .next s)
       ∧ (s.tileClosed tile.toNat = false → s.arrayTripped tile.toNat = false →
         exec (.tileOvercurrentTrip m) s = .next s)
       ∧ (trips → s.tileClosed tile.toNat = true ∨ s.arrayTripped tile.toNat = true →
           ∃ t, exec (.tileOvercurrentTrip m) s = .next t
             ∧ t.arr.tileTrips = recent ++ [(tile.toNat, s.clk.team.toNat)]
             ∧ (2 ≤ own → t.arr.hw159.getLsbD tile.toNat = true ∧ t.arr.isol.getLsbD tile.toNat = true))
       ∧ (trips → s.tileClosed tile.toNat = true → ∃ t, exec (.tileOvercurrentTrip m) s = .next t
           ∧ t.tileClosed tile.toNat = false
           ∧ (own < 2 → (tile.toNat ∈ t.arr.tripOpen ∨ .fault ∈ t.arr.causes) ∧ t.arr.hw159 = s.arr.hw159))
       ∧ (tile.toNat ∉ s.arr.tripOpen → exec (.tileReclose tile) s = .next s)
       ∧ (tile.toNat ∈ s.arr.tripOpen → ∃ t, exec (.tileReclose tile) s = .next t
           ∧ t.arr = { s.arr with
               tripOpen := s.arr.tripOpen.filter fun k => k != tile.toNat, chargeAt := t.arr.chargeAt }
           ∧ alGet t.arr.chargeAt tile.toNat = some s.clk.loc
           ∧ t = { s with arr := t.arr, hlt := { s.hlt with spans := t.hlt.spans, spanAt := t.hlt.spanAt } }))
     ∧ (s.closedTiles = 0 ∨ s.arrayTrips (Config.arrayCharge s.free + 1) = false →
         exec .arrayOvercurrentTrip s = .next { s with free := s.free + 1 })
     ∧ (s.closedTiles ≠ 0 → s.arrayTrips (Config.arrayCharge s.free + 1) = true → ∃ t, exec .arrayOvercurrentTrip s = .next t
         ∧ t.pho.cap = true ∧ t.arr.relit = 0 ∧ .array ∉ t.arr.causes ∧ ∀ k, k < 256 → t.tileClosed k = false)
     ∧ (let lifts := s.pho.cap = true ∧ (∀ k, s.arr.arrTripAt = some k → k + 100000000 ≤ s.frm.tickLoc)
        (¬ lifts → exec .relightCapLift s = .next s)
        ∧ (lifts → ∃ t, exec .relightCapLift s = .next t ∧ t.pho.cap = false ∧ t.pho.curb = s.pho.curb
           ∧ t.arr = s.arr ∧ t.flt = s.flt ∧ t.frm = s.frm))
     ∧ (s.arr.relight = none → exec .relightStep s = .next s)
     ∧ (∀ r, s.arr.relight = some r → ∃ t, exec .relightStep s = .next t
         ∧ t = { s with
           arr := { s.arr with
             relit := bitPut s.arr.relit r true, relight := if r + 1 < 8 then some (r + 1) else none
             chargeAt := t.arr.chargeAt, tripDark := t.arr.tripDark }
           hlt := { s.hlt with spans := t.hlt.spans, spanAt := t.hlt.spanAt } }
         ∧ ∀ k, k < 256 →
           (k / 32 = r → t.arr.tripDark.getLsbD k = false
             ∧ (s.arr.tripDark.getLsbD k = true → alGet t.arr.chargeAt k = some s.clk.loc))
           ∧ (k / 32 ≠ r → t.arr.tripDark.getLsbD k = s.arr.tripDark.getLsbD k
             ∧ alGet t.arr.chargeAt k = alGet s.arr.chargeAt k))
     ∧ (s.saf.darkPin = false → s.pwr.vaon = true → ∃ t, exec .darkNAssert s = .next t
         ∧ t.saf.darkPin = true ∧ .pin ∈ t.arr.causes ∧ ∀ k, k < 256 → t.tileClosed k = false)
     ∧ (s.saf.darkPin = true → exec .darkNAssert s = .next s)
     ∧ (s.saf.darkPin = true → ∃ t, exec .darkNRelease s = .next t
         ∧ t.saf.darkPin = false ∧ .pin ∉ t.arr.causes ∧ (∀ c, c ≠ .pin → (c ∈ t.arr.causes ↔ c ∈ s.arr.causes))))

/-! ### Temperature and housekeeping -/

/-- R72, R74, R375, R379 to R388, R398: the events of housekeeping. A sample, corrected by the stored calibration
record, goes to the next of 32 channels in turn, and a reading above 136 °C ends the restart condition; a round lets
the governor's factor rise by at most 41 and not at all while relaxing is held; learned offsets stay within 6 K; a
comparator trips into fast-dark, the third within 60 s latches off, and the restart condition releases it unless
latched; VLED_ADJ moves by one towards its set point, or by 8 without the groom core. The neighbours of the sensor
S0, rounding, and the raise below the window are the model's choices, log entries 29 and 30; that TRIPPED clears
only at the restart, and that a reading above 136 °C ends the restart condition, is log entry 75 (DEDUCED); the
correction of a conversion is a free function, log entry 10. -/
def Obligations.HousekeepingEvents : Prop := ∀ (s : State), s.hk.ch.length = 32 →
  (∀ raw, s.hkRuns = true → s.hk.next < 32 → ∃ t, exec (.hkSample raw) s = .next t
    ∧ t.hk.next = (s.hk.next + 1) % 32 ∧ t.hk.round = s.hk.round
    ∧ t.hk.rot = (if s.hk.next = 31 then (s.hk.rot + 1) % 4 else s.hk.rot)
    ∧ (t.hkCh s.hk.next).stamp = s.clk.team
    ∧ (∀ v, s.hkValue s.hk.next raw = .value v → s.hk.next ≤ 20 → (t.hkCh s.hk.next).value = v)
    ∧ (∀ v, s.hkValue s.hk.next raw = .value v → s.hk.next < 18 → 2176 < v → t.hk.cool = false)
    ∧ (s.hk.next ≤ 20 → (s.hkCh s.hk.next).failed = true → (t.hkCh s.hk.next).failed = true)
    ∧ (∀ v, s.hkValue s.hk.next raw = .value v → s.hk.next ≤ 20 → (v < -880 ∨ 2800 < v) → (t.hkCh s.hk.next).failed = true))
  ∧ (∀ l, s.hkRuns = true → ∃ t, exec (.hkRoundEnd l) s = .next t
      ∧ t.hk.round = s.hk.round + 1
      ∧ (s.pwr.groom = false → t.pho.dG = s.pho.dG ∧ t.pho.dq = s.pho.dq)
      ∧ t.pho.dG ≤ s.pho.dG + 41
      ∧ (s.hk.hold = true → t.pho.dG ≤ s.pho.dG))
  ∧ (s.hkRuns = true → s.pwr.groom = true → ∃ t, exec .learnedOffsetUpdate s = .next t ∧ t = { s with hk := t.hk }
      ∧ ∀ c, c < 32 →
        let ok := c < 18 ∧ (s.hkCh c).failed = false ∧ ∀ k ∈ neighbours c, (s.hkCh k).failed = false
        let n : Int := (neighbours c).length
        let d := Int.fdiv (n * (s.hkCh c).value * 64 - s.nbSum c * 64) n
        let o := (s.hkCh c).offset
        (ok → (t.hkCh c).offset = max (-6144) (min 6144 (o + Int.fdiv (d - o) 64)))
        ∧ (¬ ok → t.hkCh c = s.hkCh c))
  ∧ exec .relaxationHoldEnd s = .next { s with hk := { s.hk with hold := false } }
  ∧ (∀ v, s.pwr.groom = true → s.hk.loop = true → s.measuring = false → s.hkRuns = true →
      (s.hk.vSet + 10000 < 1000 * v →
        exec (.vledAdjStep v) s = .next { s with hk := { s.hk with adj := min 1023 (s.hk.adj + 1) } })
      ∧ (1000 * v + 10000 < s.hk.vSet →
          exec (.vledAdjStep v) s = .next { s with hk := { s.hk with adj := s.hk.adj - 1 } })
      ∧ (s.hk.vSet ≤ 1000 * v + 10000 → 1000 * v ≤ s.hk.vSet + 10000 → exec (.vledAdjStep v) s = .next s))
  ∧ (∀ h, s.pwr.groom = false → s.hkRuns = true →
      (h < 450 → exec (.headroomHwStep h) s = .next { s with hk := { s.hk with adj := s.hk.adj - 8 } })
      ∧ (450 ≤ h → exec (.headroomHwStep h) s = .next s))
  ∧ (∀ c : Fin 18, s.pwr.vaon = true → s.pwr.mode ≠ .standby → s.pwr.mode ≠ .off → s.hk.tripped = 0 →
      let recent := s.hk.trips.filter fun t => decide (s.clk.loc < t + 60000000000)
      ∃ t, exec (.tempTrip c) s = .next t ∧ t.hk.tripped.getLsbD c.val = true ∧ t.hk.cool = false
        ∧ .thermal ∈ t.arr.causes ∧ t.hk.latchOff = (s.hk.latchOff || decide (2 ≤ recent.length)))
  ∧ (s.hk.cool = true → exec .thermalRestart s = .next s)
  ∧ (s.hk.cool = false → s.hk.latchOff = true →
      exec .thermalRestart s = .next { s with hk := { s.hk with tripped := 0, cool := true } })
  ∧ (s.hk.cool = false → s.hk.latchOff = false → ∃ t, exec .thermalRestart s = .next t
      ∧ t.hk = { s.hk with tripped := 0, cool := true } ∧ .thermal ∉ t.arr.causes
      ∧ t.flt.dark.getLsbD 0x70 = false)

/-! ### Safety inputs -/

/-- R335, R336, R351 to R353, Table 14.2: the safety inputs. A TPO pulse opens its window; at its close an input that
showed no low, or reads low, is in demand; a low outside every window is a demand; the heartbeat's timeout raises
its source and its cause holds; an accepted CAN frame selects the scene of the first rule that hits and restarts the
timeout. The first qualification and the selection before any frame are the model's choices, log entries 18, 20 and
41. -/
def Obligations.SafetyInputs : Prop := ∀ (s : State), s.saf.sin.length = 4 →
  (∀ x : Fin 2, s.saf.tpoOn = true → s.saf.win.getLsbD x.val = false → ∃ t, exec (.tpoPulse x) s = .next t
    ∧ t = { s with saf := t.saf } ∧ t.saf.tpo.getLsbD x.val = false ∧ t.saf.win.getLsbD x.val = true
    ∧ ∀ n, n < 4 → s.sinOwn n = some x.val → (t.sinAt n).lowOwn = !(s.sinAt n).level)
  ∧ (∀ x : Fin 2, s.saf.tpoOn = false ∨ s.saf.win.getLsbD x.val = true → exec (.tpoPulse x) s = .next s)
  ∧ (∀ x : Fin 2, s.saf.win.getLsbD x.val = true → ∃ t, exec (.tpoWindowClose x) s = .next t
      ∧ t.saf.tpo.getLsbD x.val = true ∧ t.saf.win.getLsbD x.val = false
      ∧ (∀ n, n < 4 → s.sinOwn n = some x.val → (s.sinAt n).level = false ∨ (s.sinAt n).lowOwn = false →
          (t.sinAt n).demand = true)
      ∧ ∀ n, n < 4 → s.sinOwn n = none → t.sinAt n = s.sinAt n)
  ∧ (∀ n : Fin 4, s.pwr.vaon = true → ∃ t, exec (.sinEdge n true) s = .next t
      ∧ t = { s with saf := t.saf } ∧ t.sinAt n.val = { s.sinAt n.val with level := true })
  ∧ (∀ (n : Fin 4) o, s.pwr.vaon = true → s.collects = true → s.sinOwn n.val = some o → s.saf.win = 0 →
      ∃ t, exec (.sinEdge n false) s = .next t ∧ (t.sinAt n.val).level = false ∧ (t.sinAt n.val).demand = true)
  ∧ (s.saf.hbArmed = true → s.saf.hbExp = false → ∃ t, exec .heartbeatTimeout s = .next (raise fHostHeartbeat [] t)
      ∧ t.saf.hbExp = true)
  ∧ (s.saf.hbArmed = false ∨ s.saf.hbExp = true → exec .heartbeatTimeout s = .next s)
  ∧ (∀ f, s.ticking = true → s.canAccepts f = true → ∃ t, exec (.canFrame f) s = .next t
      ∧ t = { s with saf := { s.saf with canSel := s.canSelect f, canOut := false, canAt := s.clk.loc }, lg := t.lg })
  ∧ (∀ f, s.canAccepts f = false → exec (.canFrame f) s = .next s)
  ∧ (s.ticking = true → s.frm.params.can.on = true → s.saf.canOut = false →
      exec .canTimeout s = .next (raise fCanTimeout [] { s with saf := { s.saf with canOut := true } }))

/-- R360, R370: the releases that come without a command: a DEGRADE latch whose condition is absent, and FAULT_N once no
latch is set, a release is requested or automatic, and its minimum width has passed. R358 to R360, R365, R369: a
raise whose applied severity is not 0 sets the source's sticky bit; an empty first-error latch takes source,
severity and team time, a full one keeps its entry and sets OVF; from severity 3 FAULT_N is asserted and a pending
release cancelled; from 4 its latch is set, at 6 fast-dark, but not for F_HOST_HEARTBEAT (R351). A raise of severity
0 changes nothing. -/
def Obligations.FaultCollector : Prop :=
  (∀ (s : State),
     (∀ src : Byte, src.toNat ≤ 0x9F → s.persists src.toNat = false → exec (.degradeRelease src) s
       = .next { s with flt := { s.flt with degrade := bitPut s.flt.degrade src.toNat false } })
     ∧ (∀ src : Byte, s.persists src.toNat = true → exec (.degradeRelease src) s = .next s)
     ∧ (let width := 1000000 * max 1 (bits (s.cfg 0x1014) 0 8)
        let asked := s.flt.relPending = true ∨ (s.cfg 0x1014).getLsbD 8 = true
        let running := s.pwr.mode ≠ .halter ∧ s.pwr.mode ≠ .reset ∧ s.pwr.mode ≠ .off ∧ s.pwr.mode ≠ .standby
        let free := s.flt.degrade = 0 ∧ s.flt.safe = 0 ∧ s.flt.dark = 0
        (s.flt.pin = true → asked → running → free → s.flt.pinSince + width ≤ s.clk.loc →
          exec .faultNRelease s = .next { s with flt := { s.flt with pin := false, pinSev := false, relPending := false } })
        ∧ (¬ (s.flt.pin = true ∧ asked ∧ running ∧ free ∧ s.flt.pinSince + width ≤ s.clk.loc) →
            exec .faultNRelease s = .next s)))
  ∧ (∀ (src : Nat) (data : List Byte) (s : State), src < 160 →
     let sev := max (min 6 (bits (s.cfg (0x1040 + 4 * (src / 8))) (4 * (src % 8)) 4)) (floorSev src)
     let acts := decide (src ≠ 0x23)
     let t := raise src data s
     (sev = 0 → t = s)
     ∧ (1 ≤ sev →
       (∀ k, k < 160 → t.flt.sticky.getLsbD k = (s.flt.sticky.getLsbD k || decide (k = src)))
       ∧ t.flt.valid = true
       ∧ (s.flt.valid = false → t.flt.src = BitVec.ofNat 8 src ∧ t.flt.sev = sev ∧ t.flt.ts = s.clk.team)
       ∧ (s.flt.valid = true → t.flt.ovf = true)
       ∧ (s.flt.valid = true → t.flt.src = s.flt.src ∧ t.flt.ts = s.flt.ts))
     ∧ (1 ≤ sev ∧ sev ≤ 2 → t.flt.pin = s.flt.pin ∧ t.flt.relPending = s.flt.relPending)
     ∧ (3 ≤ sev → t.flt.pin = true ∧ t.flt.relPending = false ∧ t.flt.pinSince = s.clk.loc)
     ∧ (∀ k, k < 160 → t.flt.degrade.getLsbD k = (s.flt.degrade.getLsbD k || (decide (k = src) && decide (sev = 4) && acts)))
     ∧ (∀ k, k < 160 → t.flt.safe.getLsbD k = (s.flt.safe.getLsbD k || (decide (k = src) && decide (sev = 5) && acts)))
     ∧ (∀ k, k < 160 → t.flt.dark.getLsbD k = (s.flt.dark.getLsbD k || (decide (k = src) && decide (6 ≤ sev) && acts)))
     ∧ (6 ≤ sev → acts = true → .fault ∈ t.arr.causes ∧ ∀ u, u < 256 → t.tileClosed u = false)
     ∧ t.arr.a = s.arr.a ∧ t.clk = s.clk ∧ t.pool = s.pool ∧ t.reg.force = s.reg.force ∧ t.scn.surfs = s.scn.surfs)

/-! ### Teams and trace links -/

/-- R296, R297, R301 to R303: the life of a port. Signal starts an enabled port that is down and locks its receiver; a
HELLO is answered and gives both ends their keys; the first frame under those keys brings the port UP; a timeout
repeats every unacknowledged frame, the fourth time it takes the port down; TAG failures, silence and disabling take
it down; a discarded frame is counted and, when reliable, answered with a NAK. HELLO on a port that is UP, and a
silent disabling, are the model's readings, log entries 23, 54 and 82. -/
def Obligations.PortLife : Prop := ∀ (p : Fin 4) (s : State), s.trc.ports.length = 4 →
  let q := s.port p
  (s.pwr.vaon = true → s.pwr.mode = .active → s.portOn p = true → q.state = .down → s.laneTested (s.portLane p) = false →
    s.lockSet = false → s.pwr.trngOk = true → ∃ t, exec (.portSignalDetect p) s = .next t
      ∧ (t.port p).state = .starting ∧ (t.port p).signal = true ∧ (t.port p).discards = q.discards
      ∧ (s.lan.l.length = 8 → (t.lane (s.portLane p)).sigDet = true ∧ (t.lane (s.portLane p)).cdrLock = true)
      ∧ ∀ r, r ≠ p → t.port r = s.port r)
  ∧ (q.answered = true ∨ q.state ≠ .starting → exec (.helloSend p) s = .next s)
  ∧ (q.state = .starting → q.answered = false → s.teamCore = true → ∃ t, exec (.helloSend p) s = .next t
      ∧ t.trc.out = s.trc.out ++ [⟨p.val, q.txFcnt, 0, q.rxNext, false, .hello (s.helloOf p),
          s.wire p.val q 0 false (.hello (s.helloOf p))⟩])
  ∧ (∀ h pl, s.teamCore = true → q.state = .starting → q.fresh h.fcnt = true → ∃ t, exec (.hello p h pl) s = .next t
      ∧ (t.port p).state = .starting ∧ (t.port p).answered = true ∧ (t.port p).peer = some pl
      ∧ (t.port p).rxFcnt = some h.fcnt
      ∧ t.trc.out.map Sent.frame = s.trc.out.map Sent.frame ++ [.hello (s.helloOf p)]
      ∧ ((t.port p).txKey, (t.port p).rxKey) = sessionKeys s.sec.teamKey q.ownNonce pl.nonce)
  ∧ (∀ h, q.state = .starting → q.answered = true → q.fresh h.fcnt = true → q.replay = [] → h.nak = false →
      ∃ t, exec (.acknak p h) s = .next t ∧ (t.port p).state = .up ∧ (t.port p).rxFcnt = some h.fcnt)
  ∧ (∀ h, q.state = .starting → q.answered = false → exec (.acknak p h) s = .next s)
  ∧ (∀ h, Arrives p h s → exec (.acknak p h) s = .next (arrived p h s))
  ∧ (q.state = .up ∨ q.answered = true → exec (.acknakTimer p) s = .next (portEmit p 0 false (.acknak false) s))
  ∧ (q.state = .up → q.replay = [] → exec (.retransmitTimeout p) s = .next s)
  ∧ (q.state = .up → q.replay ≠ [] → q.retries < 3 → ∃ t, exec (.retransmitTimeout p) s = .next t
      ∧ (t.port p).retries = q.retries + 1 ∧ (t.port p).replay = q.replay ∧ (t.port p).state = .up
      ∧ t.trc.out.length = s.trc.out.length + q.replay.length)
  ∧ (q.state = .up → q.replay ≠ [] → 3 ≤ q.retries → ∃ t, exec (.retransmitTimeout p) s = .next t
      ∧ (t.port p).state ≠ .up)
  ∧ (∀ r : Byte, (r = 2 ∨ r = 3 ∨ r = 4) → q.state = .up → ∃ t, exec (.portDown p r) s = .next t
      ∧ (t.port p).state ≠ .up ∧ (t.port p).replay = [] ∧ (t.port p).queue = [])
  ∧ (s.portOn p = false → q.state ≠ .down → ∃ t, exec (.portDown p 0) s = .next t ∧ (t.port p).state = .down)
  ∧ (∃ t, exec (.portDown p 1) s = .next t ∧ (t.port p).state = .down ∧ (t.port p).signal = false)
  ∧ (∀ why reliable, q.state = .up → why ≠ .tag → ∃ t, exec (.traceFrameDiscarded p why reliable) s = .next t
      ∧ (t.port p).discards = q.discards + 1 ∧ (t.port p).state = .up
      ∧ (reliable = true → t.trc.out = s.trc.out ++ [⟨p.val, q.txFcnt, 0, q.rxNext, false, .acknak true,
          s.wire p.val q 0 false (.acknak true)⟩])
      ∧ (reliable = false → t.trc.out = s.trc.out))
  ∧ (∀ why reliable, q.state = .down → exec (.traceFrameDiscarded p why reliable) s = .next s)

/-- R311 to R313: link delays and team time. A request is answered with its stamps; a response gives half the difference
of the two intervals; a follower takes the offset to the lead's time at its arrival, slews inside 1,000 ns, steps
beyond, and in tick sync leaves it beyond 500 ns; when TIME_SYNC stays away it goes on at its last rate and slews no
more. Residence time 0 in a relayed frame is log entry 68. -/
def Obligations.TeamTimeFrames : Prop := ∀ (p : Fin 4) (h : FrameHdr) (s : State), s.trc.ports.length = 4 →
  let q := s.port p
  (q.state = .up → exec (.pdelayTimer p) s = .next (portEmit p 0 false (.pdelayReq (q.delayNo + 1))
    (mapPort p (fun q => { q with delayNo := q.delayNo + 1, delayT1 := some (q.delayNo + 1, s.clk.team) }) s)))
  ∧ (∀ n, Arrives p h s → exec (.pdelayReq p h n) s
      = .next (portEmit p 0 false (.pdelayResp n s.clk.team s.clk.team) (arrived p h s)))
  ∧ (∀ n t1 t2 t3, Arrives p h s → q.delayT1 = some (n, t1) → exec (.pdelayResp p h n t2 t3) s
      = .next (mapPort p (fun q => { q with
          delayT1 := none
          delays := ((((s.clk.team - t1) - (t3 - t2)).toInt / 2).toNat :: q.delays).take 8 }) (arrived p h s)))
  ∧ (∀ pl, Arrives p h s → q.standby = false → s.tm.leading = false → s.actsFollower = true → s.tm.parent = some p →
      s.teamCore = true →
      let lead := pl.origin + BitVec.ofInt 64 (pl.correction.toInt / 65536) + BitVec.ofNat 64 q.delay
      let d := (s.clk.team - lead).toInt
      ∃ t, exec (.timeSync p h pl) s = .next t ∧ t.clk.offset = d ∧ t.tm.heard = true
        ∧ (d.natAbs ≤ 500 → t.clk.team = s.clk.team ∧ t.clk.slew = -d ∧ t.tm.tickSync = s.tm.tickSync
            ∧ t.clk.holdAt = none ∧ t.clk.rate = -d ∧ t.clk.rateOver = s.clk.loc - s.clk.ptmAt)
        ∧ (s.tm.tickSync = true → 500 < d.natAbs → t.tm.tickSync = false ∧ t.tm.leftSync = true ∧ t.clk.slew = 0)
        ∧ (s.tm.tickSync = false → 1000 < d.natAbs → t.clk.team = lead ∧ t.clk.slew = 0)
        ∧ (s.tm.tickSync = false → 500 < d.natAbs → d.natAbs ≤ 1000 → t.clk.team = s.clk.team ∧ t.clk.slew = -d))
  ∧ (s.tm.leading = true → s.tm.isMember = true → s.teamCore = true → exec .timeSyncSend s
      = .next (sendDown (.timeSync ⟨s.clk.team, 0, 0, s.engineId.zeroExtend 16, s.tm.term, s.quality⟩) s))
  ∧ (s.actsFollower = false → exec .timeSyncTimeout s = .next s)
  ∧ (s.actsFollower = true → exec .timeSyncTimeout s = .next
      { s with
        tm := { s.tm with heard := false }
        clk := if s.teamCore then { s.clk with slew := 0, holdAt := s.clk.holdAt.or (some s.clk.loc) } else s.clk })

/-- R306, R308, R317, R318, R326 to R331: what members tell each other. SCHEDULE gives a follower its entries; DIGEST
updates the lead's record of the member, else goes up; a STATE frame is flooded once and noted, and a heal frame
ends every block; ENUM carries the path, the records and the IDs. The conveyance of paths and of group data, and
bytes that the tables leave open, are the model's readings, log entries 23, 25 and 82. -/
def Obligations.TeamFrames : Prop := ∀ (p : Fin 4) (h : FrameHdr) (s : State), s.trc.ports.length = 4 →
  let q := s.port p
  (∀ pl, Arrives p h s → q.standby = false → s.tm.leading = false → s.actsFollower = true → s.teamCore = true →
    s.tm.excluded = false → s.tm.lead = some (pl.lead.truncate 10) → s.tm.term = pl.term → s.tm.noLead = false →
    ∃ t, exec (.schedule p h pl) s = .next t ∧ t.tm.gotSched = true ∧ t.tm.leadCrc = pl.sharedCrc
      ∧ t.tm.policy = pl.policy.toNat ∧ t.tm.lead = s.tm.lead
      ∧ t.tm.entries = s.tm.entries.filter (fun e => decide (e.tick.toNat < pl.tick.toNat)) ++
          [⟨pl.tick, pl.time, true, pl.len0.toNat⟩,
            ⟨pl.tick + 1, pl.time + BitVec.ofNat 64 pl.len0.toNat, false, pl.len1.toNat⟩,
            ⟨pl.tick + 2, pl.time + BitVec.ofNat 64 (pl.len0.toNat + pl.len1.toNat), false, pl.len2.toNat⟩,
            ⟨pl.tick + 3, pl.time + BitVec.ofNat 64 (pl.len0.toNat + pl.len1.toNat + pl.len2.toNat), false,
              pl.len2.toNat⟩])
  ∧ (∀ d m, Arrives p h s → q.standby = false → s.tm.leading = true → s.teamCore = true →
      s.tm.members.find? (fun m => m.id.toNat == d.engine.toNat) = some m → ∃ t, exec (.digest p h d) s = .next t
        ∧ t.tm.members = s.tm.members.map fun x => if x.id = m.id then
            { m with crc := d.sharedCrc, major := d.csMajor, minor := d.csMinor, image := d.image, state := d.state
                     quality := d.quality, leadUs := d.leadUs.toNat, stale := d.stale, missed := 0 } else x)
  ∧ (∀ d, Arrives p h s → q.standby = false → s.tm.leading = false → s.tm.parent ≠ some p →
      exec (.digest p h d) s = .next (sendUp (.digest d) (arrived p h s)))
  ∧ (∀ pl, ArrivesNext p h s →
      let key : BitVec 10 × Byte × Dword := (pl.engine.truncate 10, pl.kind, pl.time)
      (key ∈ s.tm.seen → exec (.state p h pl) s = .next (arrivedNext p h s))
      ∧ (key ∉ s.tm.seen → pl.engine.toNat ≠ s.engineId.toNat → ∃ t, exec (.state p h pl) s = .next t
          ∧ t.tm.seen = (key :: s.tm.seen).take 64
          ∧ (pl.kind = 1 → ∀ r, (t.port r).standby = false)
          ∧ (pl.kind = 2 → s.tm.isMember = true → s.followsState pl.data = true →
              t.tm.stPend = s.tm.stPend ++ [(pl.engine.truncate 10, true, s.nextTick)])
          ∧ (pl.kind = 3 → s.tm.isMember = true →
              t.tm.stPend = s.tm.stPend ++ [(pl.engine.truncate 10, false, s.nextTick)])))
  ∧ (∀ r, ArrivesNext p h s → q.standby = false → s.tm.leading = false →
      exec (.enum p h (.record r)) s = .next (sendUp (.enum (.record r)) (arrivedNext p h s)))
  ∧ (∀ path, ArrivesNext p h s → q.standby = false → s.tm.parent = some p → ∃ t,
      exec (.enum p h (.request path)) s = .next t ∧ t.tm.path = path)
  ∧ (∀ id, ArrivesNext p h s → q.standby = false → s.tm.parent = some p → s.teamCore = true → s.tm.dist < 256 → ∃ t,
      exec (.enum p h (.reply s.tm.path (BitVec.ofNat 8 s.tm.dist) id)) s = .next t ∧ t.tm.id = some id)
  ∧ (s.tm.leading = true → s.teamCore = true → ∃ t, exec .enumeration s = .next t
      ∧ t.tm.members = s.tm.members.map (fun m => { m with seen := false, fresh := false }))

/-- R321 to R325: forwarded commands on their way. A CMD for this engine is acknowledged and, when its origin's window
says that it executes, starts in its place, or waits for the host data that it reads; on the lead one for other
engines goes down the tree to them, or is refused where there are none or the one is excluded; E2E_ACK moves a
target on or ends an owed completion; CPL answers its target, and is acknowledged unless the origin is to
acknowledge it, and the last answer of all targets completes the command with the combined completion of R323; EVENT
is written on the lead, else goes up; a BULK piece goes to the address its command names. A routed frame for another
engine goes on. Relay over tree ports and the layout of BULK pieces are the model's readings, log entries 19, 21 and
68; that the lead learns targets and groups from the answers (targetLearn, groupsLearn), and which members a group
target means to it, is log entry 25 (DEDUCED and a free choice). -/
def Obligations.ForwardedFrames : Prop := ∀ (p : Fin 4) (h : FrameHdr) (s : State), s.trc.ports.length = 4 →
  ArrivesNext p h s → (s.port p).standby = false →
  let a := arrivedNext p h s
  (∀ pl, s.dstHere h.dst = true → s.teamCore = true → s.tm.isMember = true → s.pwr.ready = true →
    s.pwr.farrier = true →
    let o : BitVec 10 := pl.origin.truncate 10
    let n : Fin 16 := Fin.ofNat 16 pl.ring.toNat
    let w := (s.originWin o n.val).getD ⟨o, n.val, false, 0, [], 0⟩
    s.barrierWaits o n pl.entry = false →
    let b := entrySub n (w.gapOf (e32 pl.entry 4)) (some o) pl.entry
    let u := mapOrigin o n.val (originOpen (e32 pl.entry 4) (digestOf pl.entry)) (cmdAck pl a)
    (w.executes (e32 pl.entry 4) = true → (s.tm.leading = false ∨ b.target.toNat = s.engineId.toNat) →
      (entryReads pl.entry = 0 ∨ entryOp pl.entry = 0x13 →
        exec (.cmd p h pl.head pl.entry) s = .next (entryStartOp b (.ok []) pl.entry u))
      ∧ (entryReads pl.entry ≠ 0 → entryOp pl.entry ≠ 0x13 →
          (∀ d, u.readOf b (entryReads pl.entry) = some d →
            exec (.cmd p h pl.head pl.entry) s = .next (entryStartOp b d pl.entry (readDrop b u)))
          ∧ (u.readOf b (entryReads pl.entry) = none →
            exec (.cmd p h pl.head pl.entry) s = .next { u with tm := { u.tm with reads := u.tm.reads ++ [(b, pl.entry)] } })))
    ∧ (w.executes (e32 pl.entry 4) = true → s.tm.leading = true → b.target.toNat ≠ s.engineId.toNat →
        ¬ (groupTarget b.target = true ∧ entryOp pl.entry = 0x38) →
        let v := if groupTarget b.target = true then u.draw.2 else u
        let targets := u.targetsOf u.free b.target
        let excluded := groupTarget b.target = false
          ∧ ∃ m ∈ u.tm.members, m.id.toNat = b.target.toNat ∧ m.state.getLsbD 5 = true
        let f : Forward := ⟨b, pl.entry, groupTarget b.target, targets.map fun x => (x, .waiting 1)⟩
        (targets = [] → exec (.cmd p h pl.head pl.entry) s = .next (finish (entryOp pl.entry) b stUnreachable 0 v))
        ∧ (targets ≠ [] → excluded →
            exec (.cmd p h pl.head pl.entry) s = .next (finish (entryOp pl.entry) b stVersion 0 v))
        ∧ (targets ≠ [] → ¬ excluded → s.engineId ∉ targets → exec (.cmd p h pl.head pl.entry) s = .next
            (sendDown (.cmd b.target ⟨o.zeroExtend 16, BitVec.ofNat 8 n.val, false, pl.entry⟩)
              { v with tm := { v.tm with fwds := v.tm.fwds ++ [f] } })))
    ∧ (∀ x, w.executes (e32 pl.entry 4) = false → w.window.find? (fun x => x.seq == e32 pl.entry 4) = some x →
        x.digest = digestOf pl.entry → x.done = false → exec (.cmd p h pl.head pl.entry) s = .next (cmdAck pl a)))
  ∧ (∀ pl, s.dstHere h.dst = false → s.cmdHere h.dst = false →
      exec (.cmd p h pl.head pl.entry) s = .next (routeOn p h.dst (.cmd h.dst pl) a))
  ∧ (∀ pl, s.dstHere h.dst = true → s.teamCore = true → pl.kind = 0 → exec (.e2eAck p h pl) s
      = .next (fwdTarget (s.originKey pl.origin) (pl.ring.toNat % 16) pl.seq (pl.engine.truncate 10)
          (fun t => match t with | .waiting _ => .accepted | t => t)
          (targetLearn (s.originKey pl.origin) (pl.ring.toNat % 16) pl.seq (pl.engine.truncate 10) a)))
  ∧ (∀ pl, s.dstHere h.dst = true → s.teamCore = true → pl.kind = 1 → ∃ t, exec (.e2eAck p h pl) s = .next t
      ∧ ((∀ w ∈ s.tm.owed, w.acks = []) → t = { a with tm := { a.tm with owed := t.tm.owed } })
      ∧ ∀ w, w ∈ t.tm.owed ↔ w ∈ s.tm.owed ∧ ¬ (w.origin.toNat = pl.origin.toNat
          ∧ w.pl.ring.toNat % 16 = pl.ring.toNat % 16 ∧ w.pl.cpl.seq = pl.seq))
  ∧ (∀ pl, s.dstHere h.dst = true → s.teamCore = true →
      let key := s.originKey pl.origin
      let n := pl.ring.toNat % 16
      let eng : BitVec 10 := pl.engine.truncate 10
      let later := key ≠ none ∧ (s.fwd key n pl.cpl.seq ≠ none
        ∨ ∃ w ∈ s.tm.owed, w.pl.origin = pl.origin ∧ w.pl.ring = pl.ring ∧ w.pl.cpl.seq = pl.cpl.seq)
      ∃ u, (later → u = targetLearn key n pl.cpl.seq eng a)
        ∧ (¬ later → u = targetLearn key n pl.cpl.seq eng
            (routeSend (.e2eAck (pl.engine.truncate 11) ⟨pl.origin, pl.ring, 1, pl.cpl.seq, pl.engine⟩) a))
        ∧ (u.fwd key n pl.cpl.seq = none → exec (.cpl p h pl) s = .next u)
        ∧ (∀ f, u.fwd key n pl.cpl.seq = some f → exec (.cpl p h pl) s
            = .next (fwdTarget key n pl.cpl.seq eng (fun _ => .answered pl.cpl)
              (groupsLearn f eng pl.cpl.status u)))
        ∧ (∀ f, s.tm.fwds = [f] → f.sub.origin = key → f.sub.ring.val = n → f.sub.seq = pl.cpl.seq →
            (∃ x ∈ f.targets, x.1 = eng) →
            let g : Forward := { f with targets := f.targets.map fun x =>
              if x.1 = eng ∧ x.2.isFinal = false then (x.1, .answered pl.cpl) else x }
            let v := groupsLearn f eng pl.cpl.status u
            let streams := v.tm.streams.filter fun x =>
              !(x.out && x.fin.isNone && key.isNone && x.number == f.sub.seq)
            let v' : State := { v with tm := { v.tm with fwds := [], streams := streams } }
            let acks := (g.targets.filter fun x => x.1 != s.engineId && x.2 != .unreachable).map Prod.fst
            let c := combine g s.clk.team
            ((∃ x ∈ g.targets, x.2.isFinal = false) →
                exec (.cpl p h pl) s = .next { v with tm := { v.tm with fwds := [g] } })
            ∧ ((∀ x ∈ g.targets, x.2.isFinal = true) → key = none →
                exec (.cpl p h pl) s = .next (ownDone (entryOp f.entry) f.sub c.1 c.2.1 c.2.2 v'))
            ∧ (∀ o, (∀ x ∈ g.targets, x.2.isFinal = true) → key = some o → exec (.cpl p h pl) s = .next
                (cplSend (entryOp f.entry) o false false acks
                  ⟨f.sub.seq, c.1, BitVec.ofNat 8 n, false, f.sub.gap, f.sub.tag, c.2.2, c.2.1⟩ v'))))
  ∧ (∀ (g : Forward) now, g.group = true →
      ((∀ x ∈ g.targets, isSuccess x.2.outcome.1 = true) →
        (combine g now).1 = stOk ∧ (combine g now).2.1 = BitVec.ofNat 64 g.targets.length)
      ∧ (∀ x ∈ g.targets, isSuccess x.2.outcome.1 = false →
          (∀ y ∈ g.targets, isSuccess y.2.outcome.1 = false → y = x ∨ x.1.toNat < y.1.toNat) →
          let bad := (g.targets.filter fun y => !isSuccess y.2.outcome.1).length
          (combine g now).1 = x.2.outcome.1 ∧ (combine g now).2.1 = BitVec.ofNat 64 (g.targets.length - bad + 2 ^ 16 * bad
            + 2 ^ 32 * x.1.toNat + 2 ^ 48 * x.2.outcome.1.toNat)))
  ∧ (∀ pl, s.dstHere h.dst = false → exec (.cpl p h pl) s = .next (routeOn p h.dst (.cpl h.dst pl) a)
      ∧ ∀ e2e, exec (.e2eAck p h e2e) s = .next (routeOn p h.dst (.e2eAck h.dst e2e) a))
  ∧ (∀ e, s.tm.leading = true → s.teamCore = true →
      exec (.event p h e) s = .next (eqWrite { e with fwd := true } a))
  ∧ (∀ e, s.tm.leading = false → s.tm.parent ≠ some p → exec (.event p h e) s = .next (sendUp (.event e) a))
  ∧ (∀ pl b, s.dstHere h.dst = true → s.teamCore = true → s.readers.find? (fun b => b.seq == pl.stream) = some b →
      exec (.bulk p h pl) s = .next (readTake b pl a))
  ∧ (∀ pl f, s.dstHere h.dst = true → s.teamCore = true → s.readers.find? (fun b => b.seq == pl.stream) = none →
      s.tm.fwds.find? (fun f => f.sub.origin.isNone && f.sub.seq == pl.stream) = some f →
      s.bus.master = true → s.bus.d3 = false →
      let at_ := (bulkAddr f.entry pl.offset).toNat
      ∃ t, exec (.bulk p h pl) s = .next t
        ∧ t.bus.out = s.bus.out ++ (requestCuts s.payloadSize pl.data.length at_ pl.data.length).map fun c =>
            .memWrite (BitVec.ofNat 64 c.1) ((pl.data.drop (c.1 - at_)).take c.2))

/-- R322, R324, R326, R327, R329, R330: the timers and decisions of a team. An unanswered CMD goes out again, the eighth
time its target counts as unreachable; an owed completion and a chunk in flight go out again; a member without
digests leaves; four mismatches make a follower DIVERGENT, four matches end it at the next tick; three missing
schedules lose the lead; an announced handback passes the lead on under the next term. The details of a handback are
the model's reading, log entry 66. -/
def Obligations.TeamDecisions : Prop := ∀ (s : State),
  (∀ (r : Fin 16) seq target f k, s.tm.fwds = [f] → f.sub.ring = r → f.sub.seq = seq →
    f.targets = [(target, .waiting k)] →
    (k < 8 → ∃ t, exec (.cmdRetryTimer r seq target) s = .next t
      ∧ ∃ g, t.tm.fwds = [g] ∧ g.targets = [(target, .waiting (k + 1))] ∧ t.rng = s.rng)
    ∧ (8 ≤ k → ∃ t, exec (.cmdRetryTimer r seq target) s = .next t ∧ t.tm.fwds = []))
  ∧ (∀ o (r : Fin 16) seq w, s.tm.leading = false → s.tm.owed.find? (fun w =>
        w.origin == o && w.pl.ring.toNat == r.val && w.pl.cpl.seq == seq) = some w →
      exec (.cplRetryTimer o r seq) s = .next (sendUp (.cpl 0x400 w.pl) s))
  ∧ (∀ stream off t, s.tm.streams.find? (fun t => t.out && t.number == stream && t.flight.any fun e => e.1 == off) = some t →
      exec (.bulkRetryTimer stream off) s = .next (streamSend t s))
  ∧ (∀ e m, s.tm.leading = true → s.tm.members.find? (fun m => m.id == e) = some m → s.tm.fwds = [] →
      (m.missed < 8 → exec (.memberLeft e) s = .next s)
      ∧ (8 ≤ m.missed → ∃ t, exec (.memberLeft e) s = .next t
          ∧ t.tm.members = s.tm.members.filter fun x => x.id != m.id))
  ∧ (s.actsFollower = true → s.tm.isMember = true → s.tm.divergent = false →
      (s.tm.mism < 4 → exec .divergentEnter s = .next s)
      ∧ (4 ≤ s.tm.mism → ∃ t, exec .divergentEnter s = .next t ∧ t.tm.divergent = true ∧ t.causes.getLsbD 6 = true))
  ∧ (s.tm.divergent = true → s.tm.divOut = false → 4 ≤ s.tm.agree → ∃ t, exec .divergentLeave s = .next t
      ∧ t.tm.divergent = true ∧ t.tm.divOut = true)
  ∧ (s.actsFollower = true → s.tm.lead ≠ none → s.tm.noLead = false → 3 ≤ s.tm.missed → ∃ t,
      exec .leadLost s = .next t ∧ t.tm.noLead = true ∧ t.tm.lostUp = s.frm.params.backup)
  ∧ (∀ l n, s.tm.handback = some (l, n) → s.tm.isMember = true → n.toNat ≤ s.tm.tickNo.toNat → ∃ t,
      exec .handback s = .next t ∧ t.tm.lead = some l ∧ t.tm.term = s.tm.term + 1
        ∧ (s.tm.leading = true → t.tm.leading = false ∧ t.clk.disc = .team)
        ∧ (s.tm.leading = false → s.tm.id = some l → t.tm.leading = true ∧ t.clk.disc = .freeRun))
  ∧ (∀ l n, s.tm.handback = some (l, n) → s.tm.tickNo.toNat < n.toNat → exec .handback s = .next s)

/-! ### Power, reset, start-up -/

/-- R423, R424, Tables 19.2 and 19.3: the entry into SLEEP or STANDBY. Once every started command has completed the
entry is drained; then it passes A1 to A4 in turn: the array goes dark, the DRAM into self-refresh, ticks and ports
stop, and SLEEP is reached, or the supply is dropped and STANDBY keeps what the always-on domain holds. R424, R426,
R427, R430, R198, Table 19.3: wakes. In SLEEP each enabled cause starts the wake and is recorded once; of two in one
cycle the lower code counts; a disabled one changes nothing; WAKE leaves STANDBY as well. Before A4 a wake abandons
the entry, which undoes what it has done and completes with ST_ABORTED_BY_WAKE; one in the cycle of its start is not
recorded. The wake from SLEEP returns to the state left, restarts the light and completes the command with the cause
and the time asleep. One abort point with each POWER_ENTRY_DARK, and what counts as the cycle of a start or of two
wakes, are the model's choices, log entry 33. -/
def Obligations.SleepAndWake : Prop :=
  (∀ (s : State),
     (s.pwr.entry = none → exec .powerEntryDrained s = .next s ∧ exec .powerEntryDark s = .next s)
     ∧ ∀ e : PowerEntry, s.pwr.entry = some e →
     (e.abort = 0 → s.drained = true → exec .powerEntryDrained s
       = .next { s with pwr := { s.pwr with entry := some { e with drained := true } } })
     ∧ (e.abort ≠ 0 ∨ s.drained = false → exec .powerEntryDrained s = .next s)
     ∧ (e.abort = 0 → (e.drained = false ∨ s.drained = false) → exec .powerEntryDark s = .next s)
     ∧ (e.abort = 0 → e.drained = true → s.drained = true → ∃ t, exec .powerEntryDark s = .next t
         ∧ t.pwr = { s.pwr with entry := some { e with abort := 1 } } ∧ t.arr.relit = 0 ∧ t.arr.relight = none
         ∧ t.frm.powerDark = true ∧ t.frm.sleepTicks = true ∧ (∀ k, k < 256 → t.tileClosed k = false)
         ∧ t.pool = s.pool ∧ t.tm = s.tm ∧ t.trc = s.trc)
     ∧ (e.abort = 1 → ∃ t, exec .powerEntryDark s = .next t
         ∧ t.pwr = { s.pwr with selfRefresh := true, entry := some { e with abort := 2 } }
         ∧ t.lg.onDie = [] ∧ t.pool.mem = s.pool.mem ∧ t.pool.handles = s.pool.handles ∧ t.frm = s.frm ∧ t.arr = s.arr)
     ∧ (e.abort = 2 → ∃ t, exec .powerEntryDark s = .next t
         ∧ t.pwr = { s.pwr with mode := .sleep, coreClock := false, entry := some { e with abort := 3 } }
         ∧ (∀ p, (t.port p).state ≠ .up) ∧ t.tm.tickSync = false ∧ t.pool = s.pool ∧ t.arr = s.arr)
     ∧ (e.abort = 3 → e.standby = false → ∃ t, exec .powerEntryDark s = .next t
         ∧ t.pwr = { s.pwr with entry := some { e with abort := 4, drained := true }, sleepAt := s.clk.team }
         ∧ t.sec.session = none ∧ t.pool = s.pool ∧ t.arr = s.arr
         ∧ (s.bus.linkUp = true → s.bus.aspmL1 = true → t.bus.l1 = true))
     ∧ (e.abort = 3 → e.standby = true → ∃ t, exec .powerEntryDark s = .next t
         ∧ t.pwr.mode = .standby ∧ t.pwr.pwrEn = false ∧ t.pwr.supplies = false ∧ t.rng = State.reset.rng
         ∧ t.pool = State.reset.pool ∧ t.sec.session = none ∧ t.pending = s.pending
         ∧ t.pwr.standbyCount.toNat = min 0xFFFF (s.pwr.standbyCount.toNat + 1)
         ∧ t.fls.slotA = s.fls.slotA ∧ t.fls.sets = s.fls.sets ∧ t.idn = s.idn ∧ t.sec.marks = s.sec.marks)
     ∧ (4 ≤ e.abort → exec .powerEntryDark s = .next s))
  ∧ (∀ (s : State),
     let woken (cause lane : Nat) (t : State) : State := { t with pwr := { t.pwr with
       wake := some ⟨cause, lane, t.clk.team, t.clk.loc⟩, wakeCause := BitVec.ofNat 4 cause, wakeLane := BitVec.ofNat 3 lane
       wakeStandby := false } }
     let enabled (k : Nat) : Bool := (s.cfg 0x200C ||| 9).getLsbD (k - 1)
     (∀ e, s.pwr.mode = .sleep → s.pwr.entry = some e → 4 ≤ e.abort →
       (s.pwr.wake = none →
         exec .wakePin s = .next (woken 1 0 s)
         ∧ exec .canRxWake s = .next (if enabled 2 then woken 2 0 s else s)
         ∧ (∀ (n : Fin 8) p, s.lanePort n.val = some p → ∃ t, exec (.traceSignalWake n) s = .next t
             ∧ t.pwr = (if enabled 3 then (woken 3 n.val s).pwr else s.pwr))
         ∧ exec .teamTimeAlarm s = .next (if s.cfg64 0x2010 ≠ 0 ∧ enabled 5 then woken 5 0 s else s))
       ∧ (∀ w, s.pwr.wake = some w →
         (w.at_ ≠ s.clk.loc →
           exec .wakePin s = .next s ∧ exec .canRxWake s = .next s ∧ exec .teamTimeAlarm s = .next s)
         ∧ (w.at_ = s.clk.loc → exec .wakePin s = .next (if 1 < w.cause then woken 1 0 s else s)
             ∧ exec .canRxWake s = .next (if enabled 2 ∧ 2 < w.cause then woken 2 0 s else s))))
     ∧ (∀ e, s.pwr.entry = some e → e.abort < 4 → s.pwr.mode ≠ .standby → s.pwr.pend = none →
         (e.begun = s.clk.loc → exec .wakePin s
           = .next (finish 0x70 e.sub stAbortedByWake 0 { s with pwr := { s.pwr with entry := none } }))
         ∧ (e.begun ≠ s.clk.loc → ∃ t, exec .wakePin s = .next t ∧ t.pwr.entry = none ∧ t.pwr.wakeCause = 1
             ∧ t.pwr.wake = s.pwr.wake ∧ t.pwr.mode = (if 3 ≤ e.abort then e.prev else s.pwr.mode)
             ∧ (3 ≤ e.abort → t.pwr.coreClock = true) ∧ (2 ≤ e.abort → t.pwr.selfRefresh = false)
             ∧ (1 ≤ e.abort → t.frm.powerDark = false ∧ t.frm.sleepTicks = false)))
     ∧ (s.pwr.entry = none → s.pwr.mode ≠ .standby →
         exec .wakePin s = .next { s with pwr := { s.pwr with wakeSeen := some s.clk.loc } })
     ∧ (s.pwr.mode = .standby → s.pwr.wake = none → ∃ t, exec .wakePin s = .next t
         ∧ t.pwr.wake = some ⟨1, 0, s.clk.team, s.clk.loc⟩ ∧ t.pwr.wakeCause = 1 ∧ t.pwr.wakeStandby = true)
     ∧ (∀ w, s.pwr.mode = .standby → s.pwr.wake = some w → exec .pwrEnReassert s = .next
         { s with pwr := { s.pwr with mode := .reset, pwrEn := true, resetCause := 3, wake := none } })
     ∧ (∀ w e, s.pwr.wake = some w → s.pwr.entry = some e → s.pwr.pend = none → ∃ t, exec .wakeComplete s = .next t
         ∧ t.pwr.mode = e.prev ∧ t.pwr.entry = none ∧ t.pwr.wake = none ∧ t.pwr.selfRefresh = false
         ∧ t.pwr.coreClock = true ∧ t.frm.powerDark = false ∧ t.frm.sleepTicks = false
         ∧ (s.arr.causes = [] → s.arr.relit = 0 → t.arr.causes = [] → t.arr.relight = some 0)))

/-- R422, R430, R432, R433, R435, R436, Table 19.7: power and reset. VAON starts in reset; the later of the supplies and
RST_N is the reference of the start-up, which counts the start; the straps are sampled when the supplies come up; a
warm reset clears everything but the always-on domain, flash, OTP, the memory's content and the GPIO outputs; a loss
of VAON ends in OFF and releases FAULT_N. Only a flash write in progress leaves a mark in flash: in the copy or the
slot that it was writing. What reset stands for, the sampled strap levels and a flash write cut short are the
model's choices, log entries 1, 6, 10 and 84. -/
def Obligations.PowerAndReset : Prop := ∀ (s : State),
  let stored (t : State) : Prop :=
    (∀ k, k ≠ s.flashCopy 2 → t.fls.cals[k]? = s.fls.cals[k]?) ∧ (∀ k, k ≠ s.flashCopy 4 → t.fls.sets[k]? = s.fls.sets[k]?)
    ∧ (∀ k, k ≠ s.flashCopy 6 → t.fls.boot[k]? = s.fls.boot[k]?)
    ∧ (s.inactive = true → t.fls.slotA = s.fls.slotA) ∧ (s.inactive = false → t.fls.slotB = s.fls.slotB)
    ∧ (s.fls.jobs = [] → s.fls.upd.waiting = none → t.fls.slotA = s.fls.slotA ∧ t.fls.slotB = s.fls.slotB
      ∧ t.fls.sets = s.fls.sets ∧ t.fls.cals = s.fls.cals ∧ t.fls.boot = s.fls.boot)
  (s.pwr.mode = .off → ∃ t, exec .vaonPowerOn s = .next t
    ∧ t = { s with pwr := { s.pwr with mode := .reset, vaon := true, resetCause := 0 }
                   flt := { s.flt with pin := true, pinSince := s.clk.loc } })
  ∧ (s.pwr.mode ≠ .off → exec .vaonPowerOn s = .next s)
  ∧ (s.pwr.mode = .reset → s.pwr.vaon = true → exec .pwrEnAssert s = .next { s with pwr := { s.pwr with pwrEn := true } })
  ∧ (s.pwr.mode = .reset → s.pwr.pwrEn = true → s.pwr.supplies = false → ∃ t, exec .supplyTimeout s = .next t
      ∧ t = { s with pwr := { s.pwr with pwrEn := false, failed := t.pwr.failed } }
      ∧ t.pwr.failed.toNat = min 7 (s.pwr.failed.toNat + 1))
  ∧ (s.pwr.mode = .reset → s.pwr.vaon = true → s.pwr.pwrEn = true → ∃ t, exec .suppliesValid s = .next t
      ∧ t.pwr.supplies = true ∧ t.saf.tpo = 0b11
      ∧ (s.pwr.supplies = true → t.idn = s.idn)
      ∧ t.idn = { s.idn with pcieW := t.idn.pcieW, refclkSel := t.idn.refclkSel, clkMode := t.idn.clkMode
                             flashMode := t.idn.flashMode, boardId := t.idn.boardId }
      ∧ (s.pwr.rstN = false → t.pwr.mode = .reset)
      ∧ (s.pwr.rstN = true → t.pwr.mode = .startup ∧ t.pwr.failedRead = s.pwr.failed
          ∧ t.pwr.failed.toNat = min 7 (s.pwr.failed.toNat + 1) ∧ t.pwr.prevStep = s.pwr.step ∧ t.pwr.step = 1
          ∧ t.clk.team = 0))
  ∧ (s.pwr.mode = .reset → s.pwr.vaon = true → s.pwr.pwrEn = true → ∃ t, exec .rstNRelease s = .next t
      ∧ t.pwr.rstN = true ∧ t.flt.pinSince = (if s.pwr.rstN then s.flt.pinSince else s.clk.loc)
      ∧ (s.pwr.supplies = false → t.pwr.mode = .reset)
      ∧ (s.pwr.supplies = true → t.pwr.mode = .startup ∧ t.pwr.farrier = true ∧ t.clk.team = 0))
  ∧ (s.started = false → exec .rstNAssert s = .next { s with pwr := { s.pwr with rstN := false } })
  ∧ (s.started = true →
      let kept (t : State) (cause : Nat) : Prop :=
        t.pwr.resetCause = cause ∧ t.pool.mem = s.pool.mem ∧ t.pool.handles = [] ∧ t.rng = State.reset.rng
        ∧ t.scn = State.reset.scn ∧ t.sec.session = none ∧ t.sec.fails = s.sec.fails ∧ t.sec.marks = s.sec.marks
        ∧ stored t ∧ t.idn = s.idn ∧ t.pwr.gpioLatch = s.pwr.gpioLatch ∧ t.cfg 0x5004 = s.cfg 0x5004 ∧ t.cfg 0x138 = 100
        ∧ .reset ∈ t.arr.causes ∧ t.pending = s.pending
      (∃ t, exec .rstNAssert s = .next t ∧ t.pwr.mode = .reset ∧ t.pwr.rstN = false ∧ kept t 1)
      ∧ (s.pwr.coreClock = true → ∃ t, exec (.clockFail .other) s = .next t ∧ kept t 2)
      ∧ (∀ n : Fin 8, s.pwr.coreClock = true → s.lan.l.length = 8 → s.lanePort n.val = none →
          ∃ t, exec (.clockFail (.lane n)) s = .next t ∧ (t.lane n.val).cdrLock = false
            ∧ (t.lane n.val).errCnt = 0 ∧ (t.lane n.val).test = (s.lane n.val).test ∧ t.rng = s.rng))
  ∧ (s.pwr.mode ≠ .off → ∃ t, exec .vaonLoss s = .next t
      ∧ t.pwr.mode = .off ∧ t.pwr.vaon = false ∧ t.pwr.standbyCount = 0 ∧ t.pwr.failed = 0 ∧ t.sec.fails = 0
      ∧ t.sec.lockEnd = none ∧ t.pool = State.reset.pool ∧ stored t ∧ t.idn = s.idn
      ∧ (s.pwr.mode = .standby → t.fls = { Fls.reset with boot := s.fls.boot, sets := s.fls.sets, cals := s.fls.cals
                                                          slotA := s.fls.slotA, slotB := s.fls.slotB })
      ∧ t.pwr.rstN = s.pwr.rstN ∧ t.flt.pin = false)

/-- R416, R434, R436, R437, R439 to R441, R450, R459, Table 19.9: start-up. A good OTP load goes on to the image, unless
four starts have failed; the third bad one ends in halter mode. A confirmed image that passes steps 3 and 4 is
taken; a trial is counted in the boot record first and checked once that record is written; one that fails, or has
been tried three times, is given up. Training makes the DRAM usable and, with an image, loads calibration, stores
and settings once step 8 has passed them. The first tick shows frame 0 and ends the dark of reset; READY commits
both partitions and clears the failed starts. That a write of the boot record holds the start up, and commits in
halter mode, are the model's readings, log entries 34, 40 and 65; the settings copy taken as found is log entry 35. -/
def Obligations.StartUp : Prop := ∀ (s : State),
  let job (act : AfterFlash) : FlashJob := ⟨none, 6, act, false⟩
  let record (b : Bool) (state trial : Nat) : List (List Byte) := s.fls.boot.set (copyTarget BootRec.seq s.bootCopies)
    (BootRec.bytes ⟨((s.bootRec.map BootRec.seq).getD 0) + 1, b, state, trial⟩)
  (s.pwr.mode = .startup → s.pwr.otpOk = false → s.pwr.otpFailed = false →
    let u : State := { s with pwr := { s.pwr with otpOk := true } }
    (4 ≤ s.pwr.failedRead.toNat → ∃ t, exec (.otpLoadDone true) s = .next t
      ∧ t.pwr.mode = .halter ∧ t.pwr.otpOk = true ∧ t.fls.run = none ∧ .halter ∈ t.arr.causes ∧ t.saf.tpoOn = true
      ∧ t.flt.pin = true)
    ∧ (∀ r, s.pwr.failedRead.toNat < 4 → s.bootRec = some r →
        (r.state = 0 → u.manifest r.slotB = .ok → u.hashesOk r.slotB [1, 2, 3] = true →
          ∃ t, exec (.otpLoadDone true) s = .next t ∧ t.pwr.mode = .startup ∧ t.pwr.step = 6 ∧ t.fls.run = some r.slotB
            ∧ t.fls.trial = false ∧ t.fls.swap = false ∧ t.pwr.groom = true ∧ t.pwr.ostler = true
            ∧ t.fls.boot = s.fls.boot)
        ∧ (r.state ≠ 0 → r.trial ≠ 3 → ∃ t, exec (.otpLoadDone true) s = .next t ∧ t.pwr.step = 2
            ∧ t.fls = { s.fls with jobs := s.fls.jobs ++ [job (.bootTrial r.slotB (r.trial + 1))] })
        ∧ (r.state ≠ 0 → r.trial = 3 → ∃ t, exec (.otpLoadDone true) s = .next t ∧ t.pwr.revert = some (r.slotB, 0)
            ∧ t.fls.run = none ∧ t.fls.jobs = s.fls.jobs ++ [job (.bootRevert (!r.slotB))]))
    ∧ (s.pwr.otpTries < 2 → exec (.otpLoadDone false) s = .next (raise fOtpLoad
        [BitVec.ofNat 8 (s.pwr.otpTries + 1)] { s with pwr := { s.pwr with otpTries := s.pwr.otpTries + 1 } }))
    ∧ (2 ≤ s.pwr.otpTries → ∃ t, exec (.otpLoadDone false) s = .next t
        ∧ t.pwr.mode = .halter ∧ t.pwr.otpFailed = true ∧ t.fls.run = none ∧ t.flt.pin = true))
  ∧ (∀ rest b n, s.pwr.mode = .startup → s.fls.jobs = job (.bootTrial b n) :: rest →
      let passes := s.manifest b = .ok ∧ s.hashesOk b [1, 2, 3] = true
      ∃ t, exec (.flashWriteDone true) s = .next t ∧ t.fls.boot = record b 2 n
        ∧ (passes → t.fls.run = some b ∧ t.fls.trial = true ∧ t.fls.upd.state = 3 ∧ t.pwr.step = 6 ∧ t.fls.jobs = rest)
        ∧ (¬ passes → t.fls.run = none ∧ t.fls.jobs = rest ++ [job (.bootRevert (!b))]
            ∧ t.pwr.revert = some (b, if s.manifest b = .rollback then 2 else 1)))
  ∧ (∀ rest b, s.pwr.mode = .startup → s.fls.jobs = job (.bootOther b) :: rest →
      ∃ t, exec (.flashWriteDone true) s = .next t ∧ t.fls.boot = record b 0 0 ∧ t.fls.swap = false ∧ t.pwr.step = 9)
  ∧ (s.pwr.mode = .halter → s.pwr.hasDram = false → ∃ t, exec .dramTrained s = .next t
      ∧ t.pwr.hasDram = true ∧ t.pwr.mode = .halter ∧ t.lg.hdrOk = true
      ∧ (s.lg.hdrOk = true → t.lg.dram = s.lg.dram ∧ t.lg.starts = s.lg.starts + 1)
      ∧ (s.lg.hdrOk = false → t.lg.dram = [] ∧ t.lg.starts = 1)
      ∧ ∃ m ∈ t.lg.onDie, m.kind = 6)
  ∧ (∀ b, s.pwr.mode = .startup → s.fls.run = some b → s.pwr.hasDram = false →
      let passes := s.hashesOk b [4, 5] = true ∧ s.storesOk b = true
      ∃ t, exec .dramTrained s = .next t ∧ t.pwr.hasDram = true
        ∧ (passes → s.fls.swap = false → t.pwr.mode = .startup ∧ t.pwr.step = 9 ∧ t.fls.run = some b
            ∧ t.saf.hall = s.storeCells b 5 ∧ t.saf.fall = s.storeCells b 4 ∧ t.saf.fbBad = 0
            ∧ t.sec.set = s.settingsFound.1 ∧ t.sec.work = s.settingsFound.1.ord
            ∧ t.frm.params.floorC = s.settingsFound.1.prot.floorC.toNat
            ∧ (∀ i r, copyWinner CalRec.seq s.calCopies = some (i, r) → t.cal.held = some r ∧ t.pho.map = r.map
                ∧ t.arr.trims = r.trims ∧ t.arr.q = r.q))
        ∧ (passes → s.fls.swap = true → t.pwr.step = 8 ∧ t.fls.jobs = s.fls.jobs ++ [job (.bootOther b)])
        ∧ (¬ passes → s.fls.trial = true → t.pwr.revert = some (b, 1) ∧ t.fls.run = none
            ∧ t.fls.jobs = s.fls.jobs ++ [job (.bootRevert (!b))])
        ∧ (¬ passes → s.fls.trial = false → s.fls.swap = true → t.pwr.mode = .halter ∧ t.fls.run = none))
  ∧ (s.pwr.mode = .startup → s.pwr.step = 9 → s.frm.ticked = false →
      ∃ t, exec .startupFirstTick s = .next t
        ∧ t.frm.ticked = true ∧ t.frm.frame = 0 ∧ t.pwr.step = 9 ∧ .reset ∉ t.arr.causes)
  ∧ (s.pwr.mode = .startup → s.pwr.step ≠ 9 → exec .startupFirstTick s = .next s)
  ∧ (s.pwr.mode = .startup → s.frm.ticked = true → s.pwr.ready = false → ∃ t, exec .startupReady s = .next t
      ∧ t.pwr.ready = true ∧ t.pwr.configReady = true ∧ t.pwr.mode = .active ∧ t.pwr.failed = 0 ∧ t.pwr.step = 10
      ∧ t.reg.committed = true ∧ t.reg.staleS = false ∧ t.reg.staleL = false
      ∧ t.reg.intStat.getLsbD 1 = true ∧ t.reg.refS = crc32 s.frm.params.sharedRecords ∧ (s.lockSet = true → t.reg.locked = true))
  ∧ (s.pwr.mode = .halter → s.pwr.ready = false → ∃ t, exec .startupReady s = .next t
      ∧ t.pwr.ready = true ∧ t.pwr.mode = .halter ∧ t.reg.committed = true ∧ t.frm = s.frm)
  ∧ (s.pwr.ready = true → exec .startupReady s = .next s)

/-! ### The machine as a whole -/

/-- Tables 10.4, 10.5 and the operand tables of chapters 11 and 12, R228 (checks 1 to 3): the entry of every well-formed
ring command reads back as that command with every operand, and its flags, sequence, tag and target as those of the
command; `d` is what the host's memory answers to a command that reads it. -/
def Obligations.EntryRoundTrip : Prop := ∀ (i : Instr) (p : Spelled) (d : HostRead),
  spelled i = some p → i.wf = true → (toldByHost i = none ∨ toldByHost i = some d) →
  entrySub p.sub.ring p.sub.gap p.sub.origin p.entry = { p.sub with reply := .due }
  ∧ entryRead p.sub d p.entry = .inl i

/-- Assumption 11: the pool's memory and the pixel-fault map are kept in one canonical form by every step. -/
def Obligations.MemoriesKept : Prop := ∀ (s t : State), MemoriesWf s → step s = .next t → MemoriesWf t

/-- Assumption 11: the memories of reset have that form. -/
def Obligations.ResetHoldsMemories : Prop := MemoriesWf State.reset

/-- R23, R39, R42: no ring command, on any path through its checks, changes what the array shows, the number or the
instant of the running frame, a housekeeping reading or the engine's identity; only PIXMAP_READ touches the pixel-fault map, whose
bytes it drops in units that it finds uncorrectable (R144, assumption 10). -/
def Obligations.RingCommandsKeepTheArray : Prop := ∀ (i : Instr) (p : Spelled) (s t : State),
  spelled i = some p → exec i s = .next t →
  t.arr.a = s.arr.a ∧ t.arr.crcA = s.arr.crcA ∧ t.frm.frame = s.frm.frame ∧ t.frm.tickLoc = s.frm.tickLoc
  ∧ t.hk.ch = s.hk.ch ∧ t.idn = s.idn
  ∧ ∃ bad : List Nat, t.hlt.ueRows = s.hlt.ueRows ++ bad ∧ (∀ u ∈ bad, u ∈ s.pool.ue)
    ∧ t.hlt.map = s.hlt.map.filter (fun c => !bad.contains (pixUnit c.1))
    ∧ ((∀ o, i ≠ .pixmapRead p.sub o) → bad = [])
end

