-- ==== Sys2Proof/Laws/Cells.lean ====
section
/-!
SUPPORT. The byte memories: what a read gives after a write, and that every operation on the pool's memory keeps the
canonical form.
-/
namespace Sys2Proof.Laws

open Sys2Proof.Machine

/-- Fresh cells lie in the written range and are not the default byte. -/
theorem freshCells_mem (d : Byte) (bs : List Byte) : ∀ (a : Nat), ∀ c ∈ freshCells d a bs,
    a ≤ c.1 ∧ c.1 < a + bs.length ∧ c.2 ≠ d := by
  induction bs with
  | nil => intro a c h; simp [freshCells] at h
  | cons b bs ih =>
    intro a c h
    simp only [freshCells] at h
    split at h
    · obtain ⟨h1, h2, h3⟩ := ih (a + 1) c h
      exact ⟨by omega, by simp only [List.length_cons]; omega, h3⟩
    · rename_i hb
      rcases List.mem_cons.1 h with rfl | h
      · exact ⟨Nat.le_refl a, by simp, hb⟩
      · obtain ⟨h1, h2, h3⟩ := ih (a + 1) c h
        exact ⟨by omega, by simp only [List.length_cons]; omega, h3⟩

/-- Fresh cells are in the canonical form. -/
theorem freshCells_wf (d : Byte) (bs : List Byte) : ∀ a, cellsWf d (freshCells d a bs) := by
  induction bs with
  | nil => intro a; simp [freshCells, cellsWf]
  | cons b bs ih =>
    intro a
    refine ⟨?_, fun c hc => (freshCells_mem d _ a c hc).2.2⟩
    simp only [freshCells]
    split
    · exact (ih (a + 1)).1
    · refine List.pairwise_cons.2 ⟨fun c hc => ?_, (ih (a + 1)).1⟩
      have := freshCells_mem d bs (a + 1) c hc
      exact this.1

/-- A selection of cells is in the canonical form. -/
theorem filter_wf {d : Byte} {m : List Host.Cell} (p : Host.Cell → Bool) (h : cellsWf d m) : cellsWf d (m.filter p) :=
  ⟨h.1.filter _, fun c hc => h.2 c (List.mem_filter.1 hc).1⟩

/-- A write keeps the canonical form. -/
theorem cellsPut_wf {d : Byte} {m : List Host.Cell} (a : Nat) (bs : List Byte) (h : cellsWf d m) :
    cellsWf d (cellsPut d m a bs) := by
  have hl := filter_wf (fun c => decide (c.1 < a)) h
  have hr := filter_wf (fun c => decide (a + bs.length ≤ c.1)) h
  have hf := freshCells_wf d bs a
  refine ⟨List.pairwise_append.2 ⟨hl.1, List.pairwise_append.2 ⟨hf.1, hr.1, fun x hx y hy => ?_⟩, fun x hx y hy => ?_⟩,
    fun c hc => ?_⟩
  · have h1 := freshCells_mem d bs a x hx
    have h2 := (List.mem_filter.1 hy).2
    simp only [decide_eq_true_eq] at h2
    omega
  · have h1 := (List.mem_filter.1 hx).2
    simp only [decide_eq_true_eq] at h1
    rcases List.mem_append.1 hy with hy | hy
    · have := freshCells_mem d bs a y hy; omega
    · have h2 := (List.mem_filter.1 hy).2
      simp only [decide_eq_true_eq] at h2
      omega
  · rcases List.mem_append.1 hc with hc | hc
    · exact hl.2 c hc
    · rcases List.mem_append.1 hc with hc | hc
      · exact hf.2 c hc
      · exact hr.2 c hc

/-- What a read sees of two memories in a row. -/
theorem cellGet_append (d : Byte) (l m : List Host.Cell) (a : Nat) :
    cellGet d (l ++ m) a = if ∃ c ∈ l, c.1 = a then cellGet d l a else cellGet d m a := by
  unfold cellGet
  rw [List.find?_append]
  split
  · rename_i h
    obtain ⟨c, hc, rfl⟩ := h
    have : (l.find? fun x => x.1 == c.1).isSome := by
      rw [List.find?_isSome]; exact ⟨c, hc, by simp⟩
    obtain ⟨x, hx⟩ := Option.isSome_iff_exists.1 this
    simp [hx]
  · rename_i h
    have : (l.find? fun x => x.1 == a) = none := by
      rw [List.find?_eq_none]; intro x hx hxa; exact h ⟨x, hx, by simpa using hxa⟩
    simp [this]

/-- A memory that lists no entry at an address reads there as the default. -/
theorem cellGet_none (d : Byte) (m : List Host.Cell) (a : Nat) (h : ∀ c ∈ m, c.1 ≠ a) : cellGet d m a = d := by
  have : (m.find? fun x => x.1 == a) = none := by
    rw [List.find?_eq_none]; intro x hx hxa; exact h x hx (by simpa using hxa)
  simp [cellGet, this]

/-- A read inside fresh cells gives the byte written. -/
theorem cellGet_fresh (d : Byte) (bs : List Byte) : ∀ (a k : Nat), k < bs.length →
    cellGet d (freshCells d a bs) (a + k) = bs.getD k d := by
  induction bs with
  | nil => intro a k h; simp at h
  | cons b bs ih =>
    intro a k h
    simp only [freshCells]
    cases k with
    | zero =>
      split
      · rename_i hb
        rw [cellGet_none]
        · simp [hb]
        · intro c hc; have := freshCells_mem d bs (a + 1) c hc; omega
      · simp [cellGet]
    | succ k =>
      have hk : k < bs.length := by simpa using h
      have hr := ih (a + 1) k hk
      rw [show a + 1 + k = a + (k + 1) by omega] at hr
      split
      · rw [hr]; simp
      · rw [← List.singleton_append, cellGet_append, if_neg (by simp), hr]; simp

/-- A selection of cells reads as before at an address all of whose entries it keeps. -/
theorem cellGet_filter (d : Byte) (m : List Host.Cell) (p : Host.Cell → Bool) (a : Nat)
    (h : ∀ c : Host.Cell, c.1 = a → p c = true) : cellGet d (m.filter p) a = cellGet d m a := by
  unfold cellGet
  congr 2
  induction m with
  | nil => rfl
  | cons c m ih =>
    by_cases hc : c.1 = a
    · simp [h c hc, hc]
    · by_cases hp : p c = true <;> simp [hp, hc, ih]

/-- A read after a write: the written byte inside the range, the former byte outside it. -/
theorem cellGet_cellsPut (d : Byte) (m : List Host.Cell) (a : Nat) (bs : List Byte) (x : Nat) :
    cellGet d (cellsPut d m a bs) x = if a ≤ x ∧ x < a + bs.length then bs.getD (x - a) d else cellGet d m x := by
  have hL : ∀ c ∈ m.filter (fun c => decide (c.1 < a)), c.1 < a := fun c hc => by
    simpa using (List.mem_filter.1 hc).2
  have hF : ∀ c ∈ freshCells d a bs, a ≤ c.1 ∧ c.1 < a + bs.length := fun c hc =>
    ⟨(freshCells_mem d bs a c hc).1, (freshCells_mem d bs a c hc).2.1⟩
  have hR : ∀ c ∈ m.filter (fun c => decide (a + bs.length ≤ c.1)), a + bs.length ≤ c.1 := fun c hc => by
    simpa using (List.mem_filter.1 hc).2
  unfold cellsPut
  rw [cellGet_append, cellGet_append]
  by_cases h1 : x < a
  · have n1 : ¬ ∃ c ∈ freshCells d a bs, c.1 = x := by rintro ⟨c, hc, rfl⟩; have := hF c hc; omega
    have n2 : ¬ (a ≤ x ∧ x < a + bs.length) := by omega
    have e1 := cellGet_filter d m (fun c => decide (c.1 < a)) x (by intro c hc; simp [hc, h1])
    rw [if_neg n1, if_neg n2]
    split
    · exact e1
    · rename_i hl
      rw [cellGet_none _ _ _ (fun c hc hcx => by have := hR c hc; omega), ← e1]
      exact (cellGet_none _ _ _ fun c hc hcx => hl ⟨c, hc, hcx⟩).symm
  · have n1 : ¬ ∃ c ∈ m.filter (fun c => decide (c.1 < a)), c.1 = x := by
      rintro ⟨c, hc, rfl⟩; have := hL c hc; omega
    rw [if_neg n1]
    by_cases h2 : x < a + bs.length
    · have n2 : a ≤ x ∧ x < a + bs.length := by omega
      have hf := cellGet_fresh d bs a (x - a) (by omega)
      rw [show a + (x - a) = x by omega] at hf
      rw [if_pos n2]
      split
      · exact hf
      · rename_i hn
        rw [cellGet_none _ _ _ (fun c hc hcx => by have := hR c hc; omega), ← hf]
        exact (cellGet_none _ _ _ fun c hc hcx => hn ⟨c, hc, hcx⟩).symm
    · have n2 : ¬ (a ≤ x ∧ x < a + bs.length) := by omega
      have n3 : ¬ ∃ c ∈ freshCells d a bs, c.1 = x := by rintro ⟨c, hc, rfl⟩; have := hF c hc; omega
      rw [if_neg n2, if_neg n3]
      exact cellGet_filter d m _ x (by intro c hc; simp [hc]; omega)

/-- A write to the pool keeps the canonical form. -/
theorem memWrite_wf (a : Nat) (bs : List Byte) (s : State) (h : Memory.wf s.pool.mem) :
    Memory.wf (memWrite a bs s).pool.mem := cellsPut_wf a bs h

/-- A write to the pool changes the pool's bytes and unit marks only. -/
theorem memWrite_frame (a : Nat) (bs : List Byte) (s : State) :
    memWrite a bs s = { s with pool := { s.pool with mem := (memWrite a bs s).pool.mem, ue := (memWrite a bs s).pool.ue, ce := (memWrite a bs s).pool.ce } } :=
  rfl

/-- A write into a handle's range keeps the canonical form. -/
theorem poolWrite_wf (h : Handle) (fuel : Nat) : ∀ (off : Nat) (bs : List Byte) (s : State), Memory.wf s.pool.mem →
    Memory.wf (poolWrite h fuel off bs s).pool.mem := by
  induction fuel with
  | zero => intro off bs s hs; exact hs
  | succ n ih =>
    intro off bs s hs
    simp only [poolWrite]
    split
    · exact hs
    · exact ih _ _ _ (memWrite_wf _ _ _ hs)

/-- The zeroing of blocks keeps the canonical form. -/
theorem zeroBlocks_wf (bs : List Nat) (s : State) (h : Memory.wf s.pool.mem) :
    Memory.wf (zeroBlocks bs s).pool.mem := filter_wf _ h

/-- After zeroing, the blocks read as zero and every other byte as before. -/
theorem zeroBlocks_get (bs : List Nat) (s : State) (a : Nat) :
    cellGet 0 (zeroBlocks bs s).pool.mem a = if a / 65536 ∈ bs then 0 else cellGet 0 s.pool.mem a := by
  show cellGet 0 (s.pool.mem.filter fun c => !bs.contains (c.1 / 65536)) a = _
  split
  · rename_i h
    refine cellGet_none _ _ _ fun c hc hca => ?_
    have := (List.mem_filter.1 hc).2
    simp [hca, h] at this
  · rename_i h
    exact cellGet_filter _ _ _ _ (by intro c hc; simp [hc, h])

/-- The pool's memory of reset has the canonical form. -/
theorem reset_mem_wf : Memory.wf State.reset.pool.mem := by
  show cellsWf 0 []
  simp [cellsWf]

end Sys2Proof.Laws
end

