-- ==== Sys2Proof/Laws/State.lean ====
section
/-!
SUPPORT. What each update of a group of the state changes: one lemma per group and update, all true by `rfl`.
-/
namespace Sys2Proof.Machine

variable (s : State) (f : Clk → Clk) in
@[simp] theorem State.mapClk_clk : (s.mapClk f).clk = f s.clk := rfl
@[simp] theorem State.mapClk_pending (s : State) (f : Clk → Clk) : (s.mapClk f).pending = s.pending := rfl
@[simp] theorem State.mapClk_free (s : State) (f : Clk → Clk) : (s.mapClk f).free = s.free := rfl
@[simp] theorem State.mapClk_idn (s : State) (f : Clk → Clk) : (s.mapClk f).idn = s.idn := rfl
@[simp] theorem State.mapClk_pwr (s : State) (f : Clk → Clk) : (s.mapClk f).pwr = s.pwr := rfl
@[simp] theorem State.mapClk_bus (s : State) (f : Clk → Clk) : (s.mapClk f).bus = s.bus := rfl
@[simp] theorem State.mapClk_reg (s : State) (f : Clk → Clk) : (s.mapClk f).reg = s.reg := rfl
@[simp] theorem State.mapClk_rng (s : State) (f : Clk → Clk) : (s.mapClk f).rng = s.rng := rfl
@[simp] theorem State.mapClk_lg (s : State) (f : Clk → Clk) : (s.mapClk f).lg = s.lg := rfl
@[simp] theorem State.mapClk_flt (s : State) (f : Clk → Clk) : (s.mapClk f).flt = s.flt := rfl
@[simp] theorem State.mapClk_pool (s : State) (f : Clk → Clk) : (s.mapClk f).pool = s.pool := rfl
@[simp] theorem State.mapClk_scn (s : State) (f : Clk → Clk) : (s.mapClk f).scn = s.scn := rfl
@[simp] theorem State.mapClk_frm (s : State) (f : Clk → Clk) : (s.mapClk f).frm = s.frm := rfl
@[simp] theorem State.mapClk_pho (s : State) (f : Clk → Clk) : (s.mapClk f).pho = s.pho := rfl
@[simp] theorem State.mapClk_arr (s : State) (f : Clk → Clk) : (s.mapClk f).arr = s.arr := rfl
@[simp] theorem State.mapClk_hlt (s : State) (f : Clk → Clk) : (s.mapClk f).hlt = s.hlt := rfl
@[simp] theorem State.mapClk_saf (s : State) (f : Clk → Clk) : (s.mapClk f).saf = s.saf := rfl
@[simp] theorem State.mapClk_hk (s : State) (f : Clk → Clk) : (s.mapClk f).hk = s.hk := rfl
@[simp] theorem State.mapClk_cal (s : State) (f : Clk → Clk) : (s.mapClk f).cal = s.cal := rfl
@[simp] theorem State.mapClk_sec (s : State) (f : Clk → Clk) : (s.mapClk f).sec = s.sec := rfl
@[simp] theorem State.mapClk_fls (s : State) (f : Clk → Clk) : (s.mapClk f).fls = s.fls := rfl
@[simp] theorem State.mapClk_lan (s : State) (f : Clk → Clk) : (s.mapClk f).lan = s.lan := rfl
@[simp] theorem State.mapClk_tm (s : State) (f : Clk → Clk) : (s.mapClk f).tm = s.tm := rfl
@[simp] theorem State.mapClk_trc (s : State) (f : Clk → Clk) : (s.mapClk f).trc = s.trc := rfl

variable (s : State) (f : Idn → Idn) in
@[simp] theorem State.mapIdn_idn : (s.mapIdn f).idn = f s.idn := rfl
@[simp] theorem State.mapIdn_pending (s : State) (f : Idn → Idn) : (s.mapIdn f).pending = s.pending := rfl
@[simp] theorem State.mapIdn_free (s : State) (f : Idn → Idn) : (s.mapIdn f).free = s.free := rfl
@[simp] theorem State.mapIdn_clk (s : State) (f : Idn → Idn) : (s.mapIdn f).clk = s.clk := rfl
@[simp] theorem State.mapIdn_pwr (s : State) (f : Idn → Idn) : (s.mapIdn f).pwr = s.pwr := rfl
@[simp] theorem State.mapIdn_bus (s : State) (f : Idn → Idn) : (s.mapIdn f).bus = s.bus := rfl
@[simp] theorem State.mapIdn_reg (s : State) (f : Idn → Idn) : (s.mapIdn f).reg = s.reg := rfl
@[simp] theorem State.mapIdn_rng (s : State) (f : Idn → Idn) : (s.mapIdn f).rng = s.rng := rfl
@[simp] theorem State.mapIdn_lg (s : State) (f : Idn → Idn) : (s.mapIdn f).lg = s.lg := rfl
@[simp] theorem State.mapIdn_flt (s : State) (f : Idn → Idn) : (s.mapIdn f).flt = s.flt := rfl
@[simp] theorem State.mapIdn_pool (s : State) (f : Idn → Idn) : (s.mapIdn f).pool = s.pool := rfl
@[simp] theorem State.mapIdn_scn (s : State) (f : Idn → Idn) : (s.mapIdn f).scn = s.scn := rfl
@[simp] theorem State.mapIdn_frm (s : State) (f : Idn → Idn) : (s.mapIdn f).frm = s.frm := rfl
@[simp] theorem State.mapIdn_pho (s : State) (f : Idn → Idn) : (s.mapIdn f).pho = s.pho := rfl
@[simp] theorem State.mapIdn_arr (s : State) (f : Idn → Idn) : (s.mapIdn f).arr = s.arr := rfl
@[simp] theorem State.mapIdn_hlt (s : State) (f : Idn → Idn) : (s.mapIdn f).hlt = s.hlt := rfl
@[simp] theorem State.mapIdn_saf (s : State) (f : Idn → Idn) : (s.mapIdn f).saf = s.saf := rfl
@[simp] theorem State.mapIdn_hk (s : State) (f : Idn → Idn) : (s.mapIdn f).hk = s.hk := rfl
@[simp] theorem State.mapIdn_cal (s : State) (f : Idn → Idn) : (s.mapIdn f).cal = s.cal := rfl
@[simp] theorem State.mapIdn_sec (s : State) (f : Idn → Idn) : (s.mapIdn f).sec = s.sec := rfl
@[simp] theorem State.mapIdn_fls (s : State) (f : Idn → Idn) : (s.mapIdn f).fls = s.fls := rfl
@[simp] theorem State.mapIdn_lan (s : State) (f : Idn → Idn) : (s.mapIdn f).lan = s.lan := rfl
@[simp] theorem State.mapIdn_tm (s : State) (f : Idn → Idn) : (s.mapIdn f).tm = s.tm := rfl
@[simp] theorem State.mapIdn_trc (s : State) (f : Idn → Idn) : (s.mapIdn f).trc = s.trc := rfl

variable (s : State) (f : Pwr → Pwr) in
@[simp] theorem State.mapPwr_pwr : (s.mapPwr f).pwr = f s.pwr := rfl
@[simp] theorem State.mapPwr_pending (s : State) (f : Pwr → Pwr) : (s.mapPwr f).pending = s.pending := rfl
@[simp] theorem State.mapPwr_free (s : State) (f : Pwr → Pwr) : (s.mapPwr f).free = s.free := rfl
@[simp] theorem State.mapPwr_clk (s : State) (f : Pwr → Pwr) : (s.mapPwr f).clk = s.clk := rfl
@[simp] theorem State.mapPwr_idn (s : State) (f : Pwr → Pwr) : (s.mapPwr f).idn = s.idn := rfl
@[simp] theorem State.mapPwr_bus (s : State) (f : Pwr → Pwr) : (s.mapPwr f).bus = s.bus := rfl
@[simp] theorem State.mapPwr_reg (s : State) (f : Pwr → Pwr) : (s.mapPwr f).reg = s.reg := rfl
@[simp] theorem State.mapPwr_rng (s : State) (f : Pwr → Pwr) : (s.mapPwr f).rng = s.rng := rfl
@[simp] theorem State.mapPwr_lg (s : State) (f : Pwr → Pwr) : (s.mapPwr f).lg = s.lg := rfl
@[simp] theorem State.mapPwr_flt (s : State) (f : Pwr → Pwr) : (s.mapPwr f).flt = s.flt := rfl
@[simp] theorem State.mapPwr_pool (s : State) (f : Pwr → Pwr) : (s.mapPwr f).pool = s.pool := rfl
@[simp] theorem State.mapPwr_scn (s : State) (f : Pwr → Pwr) : (s.mapPwr f).scn = s.scn := rfl
@[simp] theorem State.mapPwr_frm (s : State) (f : Pwr → Pwr) : (s.mapPwr f).frm = s.frm := rfl
@[simp] theorem State.mapPwr_pho (s : State) (f : Pwr → Pwr) : (s.mapPwr f).pho = s.pho := rfl
@[simp] theorem State.mapPwr_arr (s : State) (f : Pwr → Pwr) : (s.mapPwr f).arr = s.arr := rfl
@[simp] theorem State.mapPwr_hlt (s : State) (f : Pwr → Pwr) : (s.mapPwr f).hlt = s.hlt := rfl
@[simp] theorem State.mapPwr_saf (s : State) (f : Pwr → Pwr) : (s.mapPwr f).saf = s.saf := rfl
@[simp] theorem State.mapPwr_hk (s : State) (f : Pwr → Pwr) : (s.mapPwr f).hk = s.hk := rfl
@[simp] theorem State.mapPwr_cal (s : State) (f : Pwr → Pwr) : (s.mapPwr f).cal = s.cal := rfl
@[simp] theorem State.mapPwr_sec (s : State) (f : Pwr → Pwr) : (s.mapPwr f).sec = s.sec := rfl
@[simp] theorem State.mapPwr_fls (s : State) (f : Pwr → Pwr) : (s.mapPwr f).fls = s.fls := rfl
@[simp] theorem State.mapPwr_lan (s : State) (f : Pwr → Pwr) : (s.mapPwr f).lan = s.lan := rfl
@[simp] theorem State.mapPwr_tm (s : State) (f : Pwr → Pwr) : (s.mapPwr f).tm = s.tm := rfl
@[simp] theorem State.mapPwr_trc (s : State) (f : Pwr → Pwr) : (s.mapPwr f).trc = s.trc := rfl

variable (s : State) (f : Bus → Bus) in
@[simp] theorem State.mapBus_bus : (s.mapBus f).bus = f s.bus := rfl
@[simp] theorem State.mapBus_pending (s : State) (f : Bus → Bus) : (s.mapBus f).pending = s.pending := rfl
@[simp] theorem State.mapBus_free (s : State) (f : Bus → Bus) : (s.mapBus f).free = s.free := rfl
@[simp] theorem State.mapBus_clk (s : State) (f : Bus → Bus) : (s.mapBus f).clk = s.clk := rfl
@[simp] theorem State.mapBus_idn (s : State) (f : Bus → Bus) : (s.mapBus f).idn = s.idn := rfl
@[simp] theorem State.mapBus_pwr (s : State) (f : Bus → Bus) : (s.mapBus f).pwr = s.pwr := rfl
@[simp] theorem State.mapBus_reg (s : State) (f : Bus → Bus) : (s.mapBus f).reg = s.reg := rfl
@[simp] theorem State.mapBus_rng (s : State) (f : Bus → Bus) : (s.mapBus f).rng = s.rng := rfl
@[simp] theorem State.mapBus_lg (s : State) (f : Bus → Bus) : (s.mapBus f).lg = s.lg := rfl
@[simp] theorem State.mapBus_flt (s : State) (f : Bus → Bus) : (s.mapBus f).flt = s.flt := rfl
@[simp] theorem State.mapBus_pool (s : State) (f : Bus → Bus) : (s.mapBus f).pool = s.pool := rfl
@[simp] theorem State.mapBus_scn (s : State) (f : Bus → Bus) : (s.mapBus f).scn = s.scn := rfl
@[simp] theorem State.mapBus_frm (s : State) (f : Bus → Bus) : (s.mapBus f).frm = s.frm := rfl
@[simp] theorem State.mapBus_pho (s : State) (f : Bus → Bus) : (s.mapBus f).pho = s.pho := rfl
@[simp] theorem State.mapBus_arr (s : State) (f : Bus → Bus) : (s.mapBus f).arr = s.arr := rfl
@[simp] theorem State.mapBus_hlt (s : State) (f : Bus → Bus) : (s.mapBus f).hlt = s.hlt := rfl
@[simp] theorem State.mapBus_saf (s : State) (f : Bus → Bus) : (s.mapBus f).saf = s.saf := rfl
@[simp] theorem State.mapBus_hk (s : State) (f : Bus → Bus) : (s.mapBus f).hk = s.hk := rfl
@[simp] theorem State.mapBus_cal (s : State) (f : Bus → Bus) : (s.mapBus f).cal = s.cal := rfl
@[simp] theorem State.mapBus_sec (s : State) (f : Bus → Bus) : (s.mapBus f).sec = s.sec := rfl
@[simp] theorem State.mapBus_fls (s : State) (f : Bus → Bus) : (s.mapBus f).fls = s.fls := rfl
@[simp] theorem State.mapBus_lan (s : State) (f : Bus → Bus) : (s.mapBus f).lan = s.lan := rfl
@[simp] theorem State.mapBus_tm (s : State) (f : Bus → Bus) : (s.mapBus f).tm = s.tm := rfl
@[simp] theorem State.mapBus_trc (s : State) (f : Bus → Bus) : (s.mapBus f).trc = s.trc := rfl

variable (s : State) (f : Reg → Reg) in
@[simp] theorem State.mapReg_reg : (s.mapReg f).reg = f s.reg := rfl
@[simp] theorem State.mapReg_pending (s : State) (f : Reg → Reg) : (s.mapReg f).pending = s.pending := rfl
@[simp] theorem State.mapReg_free (s : State) (f : Reg → Reg) : (s.mapReg f).free = s.free := rfl
@[simp] theorem State.mapReg_clk (s : State) (f : Reg → Reg) : (s.mapReg f).clk = s.clk := rfl
@[simp] theorem State.mapReg_idn (s : State) (f : Reg → Reg) : (s.mapReg f).idn = s.idn := rfl
@[simp] theorem State.mapReg_pwr (s : State) (f : Reg → Reg) : (s.mapReg f).pwr = s.pwr := rfl
@[simp] theorem State.mapReg_bus (s : State) (f : Reg → Reg) : (s.mapReg f).bus = s.bus := rfl
@[simp] theorem State.mapReg_rng (s : State) (f : Reg → Reg) : (s.mapReg f).rng = s.rng := rfl
@[simp] theorem State.mapReg_lg (s : State) (f : Reg → Reg) : (s.mapReg f).lg = s.lg := rfl
@[simp] theorem State.mapReg_flt (s : State) (f : Reg → Reg) : (s.mapReg f).flt = s.flt := rfl
@[simp] theorem State.mapReg_pool (s : State) (f : Reg → Reg) : (s.mapReg f).pool = s.pool := rfl
@[simp] theorem State.mapReg_scn (s : State) (f : Reg → Reg) : (s.mapReg f).scn = s.scn := rfl
@[simp] theorem State.mapReg_frm (s : State) (f : Reg → Reg) : (s.mapReg f).frm = s.frm := rfl
@[simp] theorem State.mapReg_pho (s : State) (f : Reg → Reg) : (s.mapReg f).pho = s.pho := rfl
@[simp] theorem State.mapReg_arr (s : State) (f : Reg → Reg) : (s.mapReg f).arr = s.arr := rfl
@[simp] theorem State.mapReg_hlt (s : State) (f : Reg → Reg) : (s.mapReg f).hlt = s.hlt := rfl
@[simp] theorem State.mapReg_saf (s : State) (f : Reg → Reg) : (s.mapReg f).saf = s.saf := rfl
@[simp] theorem State.mapReg_hk (s : State) (f : Reg → Reg) : (s.mapReg f).hk = s.hk := rfl
@[simp] theorem State.mapReg_cal (s : State) (f : Reg → Reg) : (s.mapReg f).cal = s.cal := rfl
@[simp] theorem State.mapReg_sec (s : State) (f : Reg → Reg) : (s.mapReg f).sec = s.sec := rfl
@[simp] theorem State.mapReg_fls (s : State) (f : Reg → Reg) : (s.mapReg f).fls = s.fls := rfl
@[simp] theorem State.mapReg_lan (s : State) (f : Reg → Reg) : (s.mapReg f).lan = s.lan := rfl
@[simp] theorem State.mapReg_tm (s : State) (f : Reg → Reg) : (s.mapReg f).tm = s.tm := rfl
@[simp] theorem State.mapReg_trc (s : State) (f : Reg → Reg) : (s.mapReg f).trc = s.trc := rfl

variable (s : State) (f : Rngs → Rngs) in
@[simp] theorem State.mapRng_rng : (s.mapRng f).rng = f s.rng := rfl
@[simp] theorem State.mapRng_pending (s : State) (f : Rngs → Rngs) : (s.mapRng f).pending = s.pending := rfl
@[simp] theorem State.mapRng_free (s : State) (f : Rngs → Rngs) : (s.mapRng f).free = s.free := rfl
@[simp] theorem State.mapRng_clk (s : State) (f : Rngs → Rngs) : (s.mapRng f).clk = s.clk := rfl
@[simp] theorem State.mapRng_idn (s : State) (f : Rngs → Rngs) : (s.mapRng f).idn = s.idn := rfl
@[simp] theorem State.mapRng_pwr (s : State) (f : Rngs → Rngs) : (s.mapRng f).pwr = s.pwr := rfl
@[simp] theorem State.mapRng_bus (s : State) (f : Rngs → Rngs) : (s.mapRng f).bus = s.bus := rfl
@[simp] theorem State.mapRng_reg (s : State) (f : Rngs → Rngs) : (s.mapRng f).reg = s.reg := rfl
@[simp] theorem State.mapRng_lg (s : State) (f : Rngs → Rngs) : (s.mapRng f).lg = s.lg := rfl
@[simp] theorem State.mapRng_flt (s : State) (f : Rngs → Rngs) : (s.mapRng f).flt = s.flt := rfl
@[simp] theorem State.mapRng_pool (s : State) (f : Rngs → Rngs) : (s.mapRng f).pool = s.pool := rfl
@[simp] theorem State.mapRng_scn (s : State) (f : Rngs → Rngs) : (s.mapRng f).scn = s.scn := rfl
@[simp] theorem State.mapRng_frm (s : State) (f : Rngs → Rngs) : (s.mapRng f).frm = s.frm := rfl
@[simp] theorem State.mapRng_pho (s : State) (f : Rngs → Rngs) : (s.mapRng f).pho = s.pho := rfl
@[simp] theorem State.mapRng_arr (s : State) (f : Rngs → Rngs) : (s.mapRng f).arr = s.arr := rfl
@[simp] theorem State.mapRng_hlt (s : State) (f : Rngs → Rngs) : (s.mapRng f).hlt = s.hlt := rfl
@[simp] theorem State.mapRng_saf (s : State) (f : Rngs → Rngs) : (s.mapRng f).saf = s.saf := rfl
@[simp] theorem State.mapRng_hk (s : State) (f : Rngs → Rngs) : (s.mapRng f).hk = s.hk := rfl
@[simp] theorem State.mapRng_cal (s : State) (f : Rngs → Rngs) : (s.mapRng f).cal = s.cal := rfl
@[simp] theorem State.mapRng_sec (s : State) (f : Rngs → Rngs) : (s.mapRng f).sec = s.sec := rfl
@[simp] theorem State.mapRng_fls (s : State) (f : Rngs → Rngs) : (s.mapRng f).fls = s.fls := rfl
@[simp] theorem State.mapRng_lan (s : State) (f : Rngs → Rngs) : (s.mapRng f).lan = s.lan := rfl
@[simp] theorem State.mapRng_tm (s : State) (f : Rngs → Rngs) : (s.mapRng f).tm = s.tm := rfl
@[simp] theorem State.mapRng_trc (s : State) (f : Rngs → Rngs) : (s.mapRng f).trc = s.trc := rfl

variable (s : State) (f : Log → Log) in
@[simp] theorem State.mapLg_lg : (s.mapLg f).lg = f s.lg := rfl
@[simp] theorem State.mapLg_pending (s : State) (f : Log → Log) : (s.mapLg f).pending = s.pending := rfl
@[simp] theorem State.mapLg_free (s : State) (f : Log → Log) : (s.mapLg f).free = s.free := rfl
@[simp] theorem State.mapLg_clk (s : State) (f : Log → Log) : (s.mapLg f).clk = s.clk := rfl
@[simp] theorem State.mapLg_idn (s : State) (f : Log → Log) : (s.mapLg f).idn = s.idn := rfl
@[simp] theorem State.mapLg_pwr (s : State) (f : Log → Log) : (s.mapLg f).pwr = s.pwr := rfl
@[simp] theorem State.mapLg_bus (s : State) (f : Log → Log) : (s.mapLg f).bus = s.bus := rfl
@[simp] theorem State.mapLg_reg (s : State) (f : Log → Log) : (s.mapLg f).reg = s.reg := rfl
@[simp] theorem State.mapLg_rng (s : State) (f : Log → Log) : (s.mapLg f).rng = s.rng := rfl
@[simp] theorem State.mapLg_flt (s : State) (f : Log → Log) : (s.mapLg f).flt = s.flt := rfl
@[simp] theorem State.mapLg_pool (s : State) (f : Log → Log) : (s.mapLg f).pool = s.pool := rfl
@[simp] theorem State.mapLg_scn (s : State) (f : Log → Log) : (s.mapLg f).scn = s.scn := rfl
@[simp] theorem State.mapLg_frm (s : State) (f : Log → Log) : (s.mapLg f).frm = s.frm := rfl
@[simp] theorem State.mapLg_pho (s : State) (f : Log → Log) : (s.mapLg f).pho = s.pho := rfl
@[simp] theorem State.mapLg_arr (s : State) (f : Log → Log) : (s.mapLg f).arr = s.arr := rfl
@[simp] theorem State.mapLg_hlt (s : State) (f : Log → Log) : (s.mapLg f).hlt = s.hlt := rfl
@[simp] theorem State.mapLg_saf (s : State) (f : Log → Log) : (s.mapLg f).saf = s.saf := rfl
@[simp] theorem State.mapLg_hk (s : State) (f : Log → Log) : (s.mapLg f).hk = s.hk := rfl
@[simp] theorem State.mapLg_cal (s : State) (f : Log → Log) : (s.mapLg f).cal = s.cal := rfl
@[simp] theorem State.mapLg_sec (s : State) (f : Log → Log) : (s.mapLg f).sec = s.sec := rfl
@[simp] theorem State.mapLg_fls (s : State) (f : Log → Log) : (s.mapLg f).fls = s.fls := rfl
@[simp] theorem State.mapLg_lan (s : State) (f : Log → Log) : (s.mapLg f).lan = s.lan := rfl
@[simp] theorem State.mapLg_tm (s : State) (f : Log → Log) : (s.mapLg f).tm = s.tm := rfl
@[simp] theorem State.mapLg_trc (s : State) (f : Log → Log) : (s.mapLg f).trc = s.trc := rfl

variable (s : State) (f : Flt → Flt) in
@[simp] theorem State.mapFlt_flt : (s.mapFlt f).flt = f s.flt := rfl
@[simp] theorem State.mapFlt_pending (s : State) (f : Flt → Flt) : (s.mapFlt f).pending = s.pending := rfl
@[simp] theorem State.mapFlt_free (s : State) (f : Flt → Flt) : (s.mapFlt f).free = s.free := rfl
@[simp] theorem State.mapFlt_clk (s : State) (f : Flt → Flt) : (s.mapFlt f).clk = s.clk := rfl
@[simp] theorem State.mapFlt_idn (s : State) (f : Flt → Flt) : (s.mapFlt f).idn = s.idn := rfl
@[simp] theorem State.mapFlt_pwr (s : State) (f : Flt → Flt) : (s.mapFlt f).pwr = s.pwr := rfl
@[simp] theorem State.mapFlt_bus (s : State) (f : Flt → Flt) : (s.mapFlt f).bus = s.bus := rfl
@[simp] theorem State.mapFlt_reg (s : State) (f : Flt → Flt) : (s.mapFlt f).reg = s.reg := rfl
@[simp] theorem State.mapFlt_rng (s : State) (f : Flt → Flt) : (s.mapFlt f).rng = s.rng := rfl
@[simp] theorem State.mapFlt_lg (s : State) (f : Flt → Flt) : (s.mapFlt f).lg = s.lg := rfl
@[simp] theorem State.mapFlt_pool (s : State) (f : Flt → Flt) : (s.mapFlt f).pool = s.pool := rfl
@[simp] theorem State.mapFlt_scn (s : State) (f : Flt → Flt) : (s.mapFlt f).scn = s.scn := rfl
@[simp] theorem State.mapFlt_frm (s : State) (f : Flt → Flt) : (s.mapFlt f).frm = s.frm := rfl
@[simp] theorem State.mapFlt_pho (s : State) (f : Flt → Flt) : (s.mapFlt f).pho = s.pho := rfl
@[simp] theorem State.mapFlt_arr (s : State) (f : Flt → Flt) : (s.mapFlt f).arr = s.arr := rfl
@[simp] theorem State.mapFlt_hlt (s : State) (f : Flt → Flt) : (s.mapFlt f).hlt = s.hlt := rfl
@[simp] theorem State.mapFlt_saf (s : State) (f : Flt → Flt) : (s.mapFlt f).saf = s.saf := rfl
@[simp] theorem State.mapFlt_hk (s : State) (f : Flt → Flt) : (s.mapFlt f).hk = s.hk := rfl
@[simp] theorem State.mapFlt_cal (s : State) (f : Flt → Flt) : (s.mapFlt f).cal = s.cal := rfl
@[simp] theorem State.mapFlt_sec (s : State) (f : Flt → Flt) : (s.mapFlt f).sec = s.sec := rfl
@[simp] theorem State.mapFlt_fls (s : State) (f : Flt → Flt) : (s.mapFlt f).fls = s.fls := rfl
@[simp] theorem State.mapFlt_lan (s : State) (f : Flt → Flt) : (s.mapFlt f).lan = s.lan := rfl
@[simp] theorem State.mapFlt_tm (s : State) (f : Flt → Flt) : (s.mapFlt f).tm = s.tm := rfl
@[simp] theorem State.mapFlt_trc (s : State) (f : Flt → Flt) : (s.mapFlt f).trc = s.trc := rfl

variable (s : State) (f : Pool → Pool) in
@[simp] theorem State.mapPool_pool : (s.mapPool f).pool = f s.pool := rfl
@[simp] theorem State.mapPool_pending (s : State) (f : Pool → Pool) : (s.mapPool f).pending = s.pending := rfl
@[simp] theorem State.mapPool_free (s : State) (f : Pool → Pool) : (s.mapPool f).free = s.free := rfl
@[simp] theorem State.mapPool_clk (s : State) (f : Pool → Pool) : (s.mapPool f).clk = s.clk := rfl
@[simp] theorem State.mapPool_idn (s : State) (f : Pool → Pool) : (s.mapPool f).idn = s.idn := rfl
@[simp] theorem State.mapPool_pwr (s : State) (f : Pool → Pool) : (s.mapPool f).pwr = s.pwr := rfl
@[simp] theorem State.mapPool_bus (s : State) (f : Pool → Pool) : (s.mapPool f).bus = s.bus := rfl
@[simp] theorem State.mapPool_reg (s : State) (f : Pool → Pool) : (s.mapPool f).reg = s.reg := rfl
@[simp] theorem State.mapPool_rng (s : State) (f : Pool → Pool) : (s.mapPool f).rng = s.rng := rfl
@[simp] theorem State.mapPool_lg (s : State) (f : Pool → Pool) : (s.mapPool f).lg = s.lg := rfl
@[simp] theorem State.mapPool_flt (s : State) (f : Pool → Pool) : (s.mapPool f).flt = s.flt := rfl
@[simp] theorem State.mapPool_scn (s : State) (f : Pool → Pool) : (s.mapPool f).scn = s.scn := rfl
@[simp] theorem State.mapPool_frm (s : State) (f : Pool → Pool) : (s.mapPool f).frm = s.frm := rfl
@[simp] theorem State.mapPool_pho (s : State) (f : Pool → Pool) : (s.mapPool f).pho = s.pho := rfl
@[simp] theorem State.mapPool_arr (s : State) (f : Pool → Pool) : (s.mapPool f).arr = s.arr := rfl
@[simp] theorem State.mapPool_hlt (s : State) (f : Pool → Pool) : (s.mapPool f).hlt = s.hlt := rfl
@[simp] theorem State.mapPool_saf (s : State) (f : Pool → Pool) : (s.mapPool f).saf = s.saf := rfl
@[simp] theorem State.mapPool_hk (s : State) (f : Pool → Pool) : (s.mapPool f).hk = s.hk := rfl
@[simp] theorem State.mapPool_cal (s : State) (f : Pool → Pool) : (s.mapPool f).cal = s.cal := rfl
@[simp] theorem State.mapPool_sec (s : State) (f : Pool → Pool) : (s.mapPool f).sec = s.sec := rfl
@[simp] theorem State.mapPool_fls (s : State) (f : Pool → Pool) : (s.mapPool f).fls = s.fls := rfl
@[simp] theorem State.mapPool_lan (s : State) (f : Pool → Pool) : (s.mapPool f).lan = s.lan := rfl
@[simp] theorem State.mapPool_tm (s : State) (f : Pool → Pool) : (s.mapPool f).tm = s.tm := rfl
@[simp] theorem State.mapPool_trc (s : State) (f : Pool → Pool) : (s.mapPool f).trc = s.trc := rfl

variable (s : State) (f : Scn → Scn) in
@[simp] theorem State.mapScn_scn : (s.mapScn f).scn = f s.scn := rfl
@[simp] theorem State.mapScn_pending (s : State) (f : Scn → Scn) : (s.mapScn f).pending = s.pending := rfl
@[simp] theorem State.mapScn_free (s : State) (f : Scn → Scn) : (s.mapScn f).free = s.free := rfl
@[simp] theorem State.mapScn_clk (s : State) (f : Scn → Scn) : (s.mapScn f).clk = s.clk := rfl
@[simp] theorem State.mapScn_idn (s : State) (f : Scn → Scn) : (s.mapScn f).idn = s.idn := rfl
@[simp] theorem State.mapScn_pwr (s : State) (f : Scn → Scn) : (s.mapScn f).pwr = s.pwr := rfl
@[simp] theorem State.mapScn_bus (s : State) (f : Scn → Scn) : (s.mapScn f).bus = s.bus := rfl
@[simp] theorem State.mapScn_reg (s : State) (f : Scn → Scn) : (s.mapScn f).reg = s.reg := rfl
@[simp] theorem State.mapScn_rng (s : State) (f : Scn → Scn) : (s.mapScn f).rng = s.rng := rfl
@[simp] theorem State.mapScn_lg (s : State) (f : Scn → Scn) : (s.mapScn f).lg = s.lg := rfl
@[simp] theorem State.mapScn_flt (s : State) (f : Scn → Scn) : (s.mapScn f).flt = s.flt := rfl
@[simp] theorem State.mapScn_pool (s : State) (f : Scn → Scn) : (s.mapScn f).pool = s.pool := rfl
@[simp] theorem State.mapScn_frm (s : State) (f : Scn → Scn) : (s.mapScn f).frm = s.frm := rfl
@[simp] theorem State.mapScn_pho (s : State) (f : Scn → Scn) : (s.mapScn f).pho = s.pho := rfl
@[simp] theorem State.mapScn_arr (s : State) (f : Scn → Scn) : (s.mapScn f).arr = s.arr := rfl
@[simp] theorem State.mapScn_hlt (s : State) (f : Scn → Scn) : (s.mapScn f).hlt = s.hlt := rfl
@[simp] theorem State.mapScn_saf (s : State) (f : Scn → Scn) : (s.mapScn f).saf = s.saf := rfl
@[simp] theorem State.mapScn_hk (s : State) (f : Scn → Scn) : (s.mapScn f).hk = s.hk := rfl
@[simp] theorem State.mapScn_cal (s : State) (f : Scn → Scn) : (s.mapScn f).cal = s.cal := rfl
@[simp] theorem State.mapScn_sec (s : State) (f : Scn → Scn) : (s.mapScn f).sec = s.sec := rfl
@[simp] theorem State.mapScn_fls (s : State) (f : Scn → Scn) : (s.mapScn f).fls = s.fls := rfl
@[simp] theorem State.mapScn_lan (s : State) (f : Scn → Scn) : (s.mapScn f).lan = s.lan := rfl
@[simp] theorem State.mapScn_tm (s : State) (f : Scn → Scn) : (s.mapScn f).tm = s.tm := rfl
@[simp] theorem State.mapScn_trc (s : State) (f : Scn → Scn) : (s.mapScn f).trc = s.trc := rfl

variable (s : State) (f : Frm → Frm) in
@[simp] theorem State.mapFrm_frm : (s.mapFrm f).frm = f s.frm := rfl
@[simp] theorem State.mapFrm_pending (s : State) (f : Frm → Frm) : (s.mapFrm f).pending = s.pending := rfl
@[simp] theorem State.mapFrm_free (s : State) (f : Frm → Frm) : (s.mapFrm f).free = s.free := rfl
@[simp] theorem State.mapFrm_clk (s : State) (f : Frm → Frm) : (s.mapFrm f).clk = s.clk := rfl
@[simp] theorem State.mapFrm_idn (s : State) (f : Frm → Frm) : (s.mapFrm f).idn = s.idn := rfl
@[simp] theorem State.mapFrm_pwr (s : State) (f : Frm → Frm) : (s.mapFrm f).pwr = s.pwr := rfl
@[simp] theorem State.mapFrm_bus (s : State) (f : Frm → Frm) : (s.mapFrm f).bus = s.bus := rfl
@[simp] theorem State.mapFrm_reg (s : State) (f : Frm → Frm) : (s.mapFrm f).reg = s.reg := rfl
@[simp] theorem State.mapFrm_rng (s : State) (f : Frm → Frm) : (s.mapFrm f).rng = s.rng := rfl
@[simp] theorem State.mapFrm_lg (s : State) (f : Frm → Frm) : (s.mapFrm f).lg = s.lg := rfl
@[simp] theorem State.mapFrm_flt (s : State) (f : Frm → Frm) : (s.mapFrm f).flt = s.flt := rfl
@[simp] theorem State.mapFrm_pool (s : State) (f : Frm → Frm) : (s.mapFrm f).pool = s.pool := rfl
@[simp] theorem State.mapFrm_scn (s : State) (f : Frm → Frm) : (s.mapFrm f).scn = s.scn := rfl
@[simp] theorem State.mapFrm_pho (s : State) (f : Frm → Frm) : (s.mapFrm f).pho = s.pho := rfl
@[simp] theorem State.mapFrm_arr (s : State) (f : Frm → Frm) : (s.mapFrm f).arr = s.arr := rfl
@[simp] theorem State.mapFrm_hlt (s : State) (f : Frm → Frm) : (s.mapFrm f).hlt = s.hlt := rfl
@[simp] theorem State.mapFrm_saf (s : State) (f : Frm → Frm) : (s.mapFrm f).saf = s.saf := rfl
@[simp] theorem State.mapFrm_hk (s : State) (f : Frm → Frm) : (s.mapFrm f).hk = s.hk := rfl
@[simp] theorem State.mapFrm_cal (s : State) (f : Frm → Frm) : (s.mapFrm f).cal = s.cal := rfl
@[simp] theorem State.mapFrm_sec (s : State) (f : Frm → Frm) : (s.mapFrm f).sec = s.sec := rfl
@[simp] theorem State.mapFrm_fls (s : State) (f : Frm → Frm) : (s.mapFrm f).fls = s.fls := rfl
@[simp] theorem State.mapFrm_lan (s : State) (f : Frm → Frm) : (s.mapFrm f).lan = s.lan := rfl
@[simp] theorem State.mapFrm_tm (s : State) (f : Frm → Frm) : (s.mapFrm f).tm = s.tm := rfl
@[simp] theorem State.mapFrm_trc (s : State) (f : Frm → Frm) : (s.mapFrm f).trc = s.trc := rfl

variable (s : State) (f : Pho → Pho) in
@[simp] theorem State.mapPho_pho : (s.mapPho f).pho = f s.pho := rfl
@[simp] theorem State.mapPho_pending (s : State) (f : Pho → Pho) : (s.mapPho f).pending = s.pending := rfl
@[simp] theorem State.mapPho_free (s : State) (f : Pho → Pho) : (s.mapPho f).free = s.free := rfl
@[simp] theorem State.mapPho_clk (s : State) (f : Pho → Pho) : (s.mapPho f).clk = s.clk := rfl
@[simp] theorem State.mapPho_idn (s : State) (f : Pho → Pho) : (s.mapPho f).idn = s.idn := rfl
@[simp] theorem State.mapPho_pwr (s : State) (f : Pho → Pho) : (s.mapPho f).pwr = s.pwr := rfl
@[simp] theorem State.mapPho_bus (s : State) (f : Pho → Pho) : (s.mapPho f).bus = s.bus := rfl
@[simp] theorem State.mapPho_reg (s : State) (f : Pho → Pho) : (s.mapPho f).reg = s.reg := rfl
@[simp] theorem State.mapPho_rng (s : State) (f : Pho → Pho) : (s.mapPho f).rng = s.rng := rfl
@[simp] theorem State.mapPho_lg (s : State) (f : Pho → Pho) : (s.mapPho f).lg = s.lg := rfl
@[simp] theorem State.mapPho_flt (s : State) (f : Pho → Pho) : (s.mapPho f).flt = s.flt := rfl
@[simp] theorem State.mapPho_pool (s : State) (f : Pho → Pho) : (s.mapPho f).pool = s.pool := rfl
@[simp] theorem State.mapPho_scn (s : State) (f : Pho → Pho) : (s.mapPho f).scn = s.scn := rfl
@[simp] theorem State.mapPho_frm (s : State) (f : Pho → Pho) : (s.mapPho f).frm = s.frm := rfl
@[simp] theorem State.mapPho_arr (s : State) (f : Pho → Pho) : (s.mapPho f).arr = s.arr := rfl
@[simp] theorem State.mapPho_hlt (s : State) (f : Pho → Pho) : (s.mapPho f).hlt = s.hlt := rfl
@[simp] theorem State.mapPho_saf (s : State) (f : Pho → Pho) : (s.mapPho f).saf = s.saf := rfl
@[simp] theorem State.mapPho_hk (s : State) (f : Pho → Pho) : (s.mapPho f).hk = s.hk := rfl
@[simp] theorem State.mapPho_cal (s : State) (f : Pho → Pho) : (s.mapPho f).cal = s.cal := rfl
@[simp] theorem State.mapPho_sec (s : State) (f : Pho → Pho) : (s.mapPho f).sec = s.sec := rfl
@[simp] theorem State.mapPho_fls (s : State) (f : Pho → Pho) : (s.mapPho f).fls = s.fls := rfl
@[simp] theorem State.mapPho_lan (s : State) (f : Pho → Pho) : (s.mapPho f).lan = s.lan := rfl
@[simp] theorem State.mapPho_tm (s : State) (f : Pho → Pho) : (s.mapPho f).tm = s.tm := rfl
@[simp] theorem State.mapPho_trc (s : State) (f : Pho → Pho) : (s.mapPho f).trc = s.trc := rfl

variable (s : State) (f : Arr → Arr) in
@[simp] theorem State.mapArr_arr : (s.mapArr f).arr = f s.arr := rfl
@[simp] theorem State.mapArr_pending (s : State) (f : Arr → Arr) : (s.mapArr f).pending = s.pending := rfl
@[simp] theorem State.mapArr_free (s : State) (f : Arr → Arr) : (s.mapArr f).free = s.free := rfl
@[simp] theorem State.mapArr_clk (s : State) (f : Arr → Arr) : (s.mapArr f).clk = s.clk := rfl
@[simp] theorem State.mapArr_idn (s : State) (f : Arr → Arr) : (s.mapArr f).idn = s.idn := rfl
@[simp] theorem State.mapArr_pwr (s : State) (f : Arr → Arr) : (s.mapArr f).pwr = s.pwr := rfl
@[simp] theorem State.mapArr_bus (s : State) (f : Arr → Arr) : (s.mapArr f).bus = s.bus := rfl
@[simp] theorem State.mapArr_reg (s : State) (f : Arr → Arr) : (s.mapArr f).reg = s.reg := rfl
@[simp] theorem State.mapArr_rng (s : State) (f : Arr → Arr) : (s.mapArr f).rng = s.rng := rfl
@[simp] theorem State.mapArr_lg (s : State) (f : Arr → Arr) : (s.mapArr f).lg = s.lg := rfl
@[simp] theorem State.mapArr_flt (s : State) (f : Arr → Arr) : (s.mapArr f).flt = s.flt := rfl
@[simp] theorem State.mapArr_pool (s : State) (f : Arr → Arr) : (s.mapArr f).pool = s.pool := rfl
@[simp] theorem State.mapArr_scn (s : State) (f : Arr → Arr) : (s.mapArr f).scn = s.scn := rfl
@[simp] theorem State.mapArr_frm (s : State) (f : Arr → Arr) : (s.mapArr f).frm = s.frm := rfl
@[simp] theorem State.mapArr_pho (s : State) (f : Arr → Arr) : (s.mapArr f).pho = s.pho := rfl
@[simp] theorem State.mapArr_hlt (s : State) (f : Arr → Arr) : (s.mapArr f).hlt = s.hlt := rfl
@[simp] theorem State.mapArr_saf (s : State) (f : Arr → Arr) : (s.mapArr f).saf = s.saf := rfl
@[simp] theorem State.mapArr_hk (s : State) (f : Arr → Arr) : (s.mapArr f).hk = s.hk := rfl
@[simp] theorem State.mapArr_cal (s : State) (f : Arr → Arr) : (s.mapArr f).cal = s.cal := rfl
@[simp] theorem State.mapArr_sec (s : State) (f : Arr → Arr) : (s.mapArr f).sec = s.sec := rfl
@[simp] theorem State.mapArr_fls (s : State) (f : Arr → Arr) : (s.mapArr f).fls = s.fls := rfl
@[simp] theorem State.mapArr_lan (s : State) (f : Arr → Arr) : (s.mapArr f).lan = s.lan := rfl
@[simp] theorem State.mapArr_tm (s : State) (f : Arr → Arr) : (s.mapArr f).tm = s.tm := rfl
@[simp] theorem State.mapArr_trc (s : State) (f : Arr → Arr) : (s.mapArr f).trc = s.trc := rfl

variable (s : State) (f : Hlt → Hlt) in
@[simp] theorem State.mapHlt_hlt : (s.mapHlt f).hlt = f s.hlt := rfl
@[simp] theorem State.mapHlt_pending (s : State) (f : Hlt → Hlt) : (s.mapHlt f).pending = s.pending := rfl
@[simp] theorem State.mapHlt_free (s : State) (f : Hlt → Hlt) : (s.mapHlt f).free = s.free := rfl
@[simp] theorem State.mapHlt_clk (s : State) (f : Hlt → Hlt) : (s.mapHlt f).clk = s.clk := rfl
@[simp] theorem State.mapHlt_idn (s : State) (f : Hlt → Hlt) : (s.mapHlt f).idn = s.idn := rfl
@[simp] theorem State.mapHlt_pwr (s : State) (f : Hlt → Hlt) : (s.mapHlt f).pwr = s.pwr := rfl
@[simp] theorem State.mapHlt_bus (s : State) (f : Hlt → Hlt) : (s.mapHlt f).bus = s.bus := rfl
@[simp] theorem State.mapHlt_reg (s : State) (f : Hlt → Hlt) : (s.mapHlt f).reg = s.reg := rfl
@[simp] theorem State.mapHlt_rng (s : State) (f : Hlt → Hlt) : (s.mapHlt f).rng = s.rng := rfl
@[simp] theorem State.mapHlt_lg (s : State) (f : Hlt → Hlt) : (s.mapHlt f).lg = s.lg := rfl
@[simp] theorem State.mapHlt_flt (s : State) (f : Hlt → Hlt) : (s.mapHlt f).flt = s.flt := rfl
@[simp] theorem State.mapHlt_pool (s : State) (f : Hlt → Hlt) : (s.mapHlt f).pool = s.pool := rfl
@[simp] theorem State.mapHlt_scn (s : State) (f : Hlt → Hlt) : (s.mapHlt f).scn = s.scn := rfl
@[simp] theorem State.mapHlt_frm (s : State) (f : Hlt → Hlt) : (s.mapHlt f).frm = s.frm := rfl
@[simp] theorem State.mapHlt_pho (s : State) (f : Hlt → Hlt) : (s.mapHlt f).pho = s.pho := rfl
@[simp] theorem State.mapHlt_arr (s : State) (f : Hlt → Hlt) : (s.mapHlt f).arr = s.arr := rfl
@[simp] theorem State.mapHlt_saf (s : State) (f : Hlt → Hlt) : (s.mapHlt f).saf = s.saf := rfl
@[simp] theorem State.mapHlt_hk (s : State) (f : Hlt → Hlt) : (s.mapHlt f).hk = s.hk := rfl
@[simp] theorem State.mapHlt_cal (s : State) (f : Hlt → Hlt) : (s.mapHlt f).cal = s.cal := rfl
@[simp] theorem State.mapHlt_sec (s : State) (f : Hlt → Hlt) : (s.mapHlt f).sec = s.sec := rfl
@[simp] theorem State.mapHlt_fls (s : State) (f : Hlt → Hlt) : (s.mapHlt f).fls = s.fls := rfl
@[simp] theorem State.mapHlt_lan (s : State) (f : Hlt → Hlt) : (s.mapHlt f).lan = s.lan := rfl
@[simp] theorem State.mapHlt_tm (s : State) (f : Hlt → Hlt) : (s.mapHlt f).tm = s.tm := rfl
@[simp] theorem State.mapHlt_trc (s : State) (f : Hlt → Hlt) : (s.mapHlt f).trc = s.trc := rfl

variable (s : State) (f : Saf → Saf) in
@[simp] theorem State.mapSaf_saf : (s.mapSaf f).saf = f s.saf := rfl
@[simp] theorem State.mapSaf_pending (s : State) (f : Saf → Saf) : (s.mapSaf f).pending = s.pending := rfl
@[simp] theorem State.mapSaf_free (s : State) (f : Saf → Saf) : (s.mapSaf f).free = s.free := rfl
@[simp] theorem State.mapSaf_clk (s : State) (f : Saf → Saf) : (s.mapSaf f).clk = s.clk := rfl
@[simp] theorem State.mapSaf_idn (s : State) (f : Saf → Saf) : (s.mapSaf f).idn = s.idn := rfl
@[simp] theorem State.mapSaf_pwr (s : State) (f : Saf → Saf) : (s.mapSaf f).pwr = s.pwr := rfl
@[simp] theorem State.mapSaf_bus (s : State) (f : Saf → Saf) : (s.mapSaf f).bus = s.bus := rfl
@[simp] theorem State.mapSaf_reg (s : State) (f : Saf → Saf) : (s.mapSaf f).reg = s.reg := rfl
@[simp] theorem State.mapSaf_rng (s : State) (f : Saf → Saf) : (s.mapSaf f).rng = s.rng := rfl
@[simp] theorem State.mapSaf_lg (s : State) (f : Saf → Saf) : (s.mapSaf f).lg = s.lg := rfl
@[simp] theorem State.mapSaf_flt (s : State) (f : Saf → Saf) : (s.mapSaf f).flt = s.flt := rfl
@[simp] theorem State.mapSaf_pool (s : State) (f : Saf → Saf) : (s.mapSaf f).pool = s.pool := rfl
@[simp] theorem State.mapSaf_scn (s : State) (f : Saf → Saf) : (s.mapSaf f).scn = s.scn := rfl
@[simp] theorem State.mapSaf_frm (s : State) (f : Saf → Saf) : (s.mapSaf f).frm = s.frm := rfl
@[simp] theorem State.mapSaf_pho (s : State) (f : Saf → Saf) : (s.mapSaf f).pho = s.pho := rfl
@[simp] theorem State.mapSaf_arr (s : State) (f : Saf → Saf) : (s.mapSaf f).arr = s.arr := rfl
@[simp] theorem State.mapSaf_hlt (s : State) (f : Saf → Saf) : (s.mapSaf f).hlt = s.hlt := rfl
@[simp] theorem State.mapSaf_hk (s : State) (f : Saf → Saf) : (s.mapSaf f).hk = s.hk := rfl
@[simp] theorem State.mapSaf_cal (s : State) (f : Saf → Saf) : (s.mapSaf f).cal = s.cal := rfl
@[simp] theorem State.mapSaf_sec (s : State) (f : Saf → Saf) : (s.mapSaf f).sec = s.sec := rfl
@[simp] theorem State.mapSaf_fls (s : State) (f : Saf → Saf) : (s.mapSaf f).fls = s.fls := rfl
@[simp] theorem State.mapSaf_lan (s : State) (f : Saf → Saf) : (s.mapSaf f).lan = s.lan := rfl
@[simp] theorem State.mapSaf_tm (s : State) (f : Saf → Saf) : (s.mapSaf f).tm = s.tm := rfl
@[simp] theorem State.mapSaf_trc (s : State) (f : Saf → Saf) : (s.mapSaf f).trc = s.trc := rfl

variable (s : State) (f : Hk → Hk) in
@[simp] theorem State.mapHk_hk : (s.mapHk f).hk = f s.hk := rfl
@[simp] theorem State.mapHk_pending (s : State) (f : Hk → Hk) : (s.mapHk f).pending = s.pending := rfl
@[simp] theorem State.mapHk_free (s : State) (f : Hk → Hk) : (s.mapHk f).free = s.free := rfl
@[simp] theorem State.mapHk_clk (s : State) (f : Hk → Hk) : (s.mapHk f).clk = s.clk := rfl
@[simp] theorem State.mapHk_idn (s : State) (f : Hk → Hk) : (s.mapHk f).idn = s.idn := rfl
@[simp] theorem State.mapHk_pwr (s : State) (f : Hk → Hk) : (s.mapHk f).pwr = s.pwr := rfl
@[simp] theorem State.mapHk_bus (s : State) (f : Hk → Hk) : (s.mapHk f).bus = s.bus := rfl
@[simp] theorem State.mapHk_reg (s : State) (f : Hk → Hk) : (s.mapHk f).reg = s.reg := rfl
@[simp] theorem State.mapHk_rng (s : State) (f : Hk → Hk) : (s.mapHk f).rng = s.rng := rfl
@[simp] theorem State.mapHk_lg (s : State) (f : Hk → Hk) : (s.mapHk f).lg = s.lg := rfl
@[simp] theorem State.mapHk_flt (s : State) (f : Hk → Hk) : (s.mapHk f).flt = s.flt := rfl
@[simp] theorem State.mapHk_pool (s : State) (f : Hk → Hk) : (s.mapHk f).pool = s.pool := rfl
@[simp] theorem State.mapHk_scn (s : State) (f : Hk → Hk) : (s.mapHk f).scn = s.scn := rfl
@[simp] theorem State.mapHk_frm (s : State) (f : Hk → Hk) : (s.mapHk f).frm = s.frm := rfl
@[simp] theorem State.mapHk_pho (s : State) (f : Hk → Hk) : (s.mapHk f).pho = s.pho := rfl
@[simp] theorem State.mapHk_arr (s : State) (f : Hk → Hk) : (s.mapHk f).arr = s.arr := rfl
@[simp] theorem State.mapHk_hlt (s : State) (f : Hk → Hk) : (s.mapHk f).hlt = s.hlt := rfl
@[simp] theorem State.mapHk_saf (s : State) (f : Hk → Hk) : (s.mapHk f).saf = s.saf := rfl
@[simp] theorem State.mapHk_cal (s : State) (f : Hk → Hk) : (s.mapHk f).cal = s.cal := rfl
@[simp] theorem State.mapHk_sec (s : State) (f : Hk → Hk) : (s.mapHk f).sec = s.sec := rfl
@[simp] theorem State.mapHk_fls (s : State) (f : Hk → Hk) : (s.mapHk f).fls = s.fls := rfl
@[simp] theorem State.mapHk_lan (s : State) (f : Hk → Hk) : (s.mapHk f).lan = s.lan := rfl
@[simp] theorem State.mapHk_tm (s : State) (f : Hk → Hk) : (s.mapHk f).tm = s.tm := rfl
@[simp] theorem State.mapHk_trc (s : State) (f : Hk → Hk) : (s.mapHk f).trc = s.trc := rfl

variable (s : State) (f : Cal → Cal) in
@[simp] theorem State.mapCal_cal : (s.mapCal f).cal = f s.cal := rfl
@[simp] theorem State.mapCal_pending (s : State) (f : Cal → Cal) : (s.mapCal f).pending = s.pending := rfl
@[simp] theorem State.mapCal_free (s : State) (f : Cal → Cal) : (s.mapCal f).free = s.free := rfl
@[simp] theorem State.mapCal_clk (s : State) (f : Cal → Cal) : (s.mapCal f).clk = s.clk := rfl
@[simp] theorem State.mapCal_idn (s : State) (f : Cal → Cal) : (s.mapCal f).idn = s.idn := rfl
@[simp] theorem State.mapCal_pwr (s : State) (f : Cal → Cal) : (s.mapCal f).pwr = s.pwr := rfl
@[simp] theorem State.mapCal_bus (s : State) (f : Cal → Cal) : (s.mapCal f).bus = s.bus := rfl
@[simp] theorem State.mapCal_reg (s : State) (f : Cal → Cal) : (s.mapCal f).reg = s.reg := rfl
@[simp] theorem State.mapCal_rng (s : State) (f : Cal → Cal) : (s.mapCal f).rng = s.rng := rfl
@[simp] theorem State.mapCal_lg (s : State) (f : Cal → Cal) : (s.mapCal f).lg = s.lg := rfl
@[simp] theorem State.mapCal_flt (s : State) (f : Cal → Cal) : (s.mapCal f).flt = s.flt := rfl
@[simp] theorem State.mapCal_pool (s : State) (f : Cal → Cal) : (s.mapCal f).pool = s.pool := rfl
@[simp] theorem State.mapCal_scn (s : State) (f : Cal → Cal) : (s.mapCal f).scn = s.scn := rfl
@[simp] theorem State.mapCal_frm (s : State) (f : Cal → Cal) : (s.mapCal f).frm = s.frm := rfl
@[simp] theorem State.mapCal_pho (s : State) (f : Cal → Cal) : (s.mapCal f).pho = s.pho := rfl
@[simp] theorem State.mapCal_arr (s : State) (f : Cal → Cal) : (s.mapCal f).arr = s.arr := rfl
@[simp] theorem State.mapCal_hlt (s : State) (f : Cal → Cal) : (s.mapCal f).hlt = s.hlt := rfl
@[simp] theorem State.mapCal_saf (s : State) (f : Cal → Cal) : (s.mapCal f).saf = s.saf := rfl
@[simp] theorem State.mapCal_hk (s : State) (f : Cal → Cal) : (s.mapCal f).hk = s.hk := rfl
@[simp] theorem State.mapCal_sec (s : State) (f : Cal → Cal) : (s.mapCal f).sec = s.sec := rfl
@[simp] theorem State.mapCal_fls (s : State) (f : Cal → Cal) : (s.mapCal f).fls = s.fls := rfl
@[simp] theorem State.mapCal_lan (s : State) (f : Cal → Cal) : (s.mapCal f).lan = s.lan := rfl
@[simp] theorem State.mapCal_tm (s : State) (f : Cal → Cal) : (s.mapCal f).tm = s.tm := rfl
@[simp] theorem State.mapCal_trc (s : State) (f : Cal → Cal) : (s.mapCal f).trc = s.trc := rfl

variable (s : State) (f : Sec → Sec) in
@[simp] theorem State.mapSec_sec : (s.mapSec f).sec = f s.sec := rfl
@[simp] theorem State.mapSec_pending (s : State) (f : Sec → Sec) : (s.mapSec f).pending = s.pending := rfl
@[simp] theorem State.mapSec_free (s : State) (f : Sec → Sec) : (s.mapSec f).free = s.free := rfl
@[simp] theorem State.mapSec_clk (s : State) (f : Sec → Sec) : (s.mapSec f).clk = s.clk := rfl
@[simp] theorem State.mapSec_idn (s : State) (f : Sec → Sec) : (s.mapSec f).idn = s.idn := rfl
@[simp] theorem State.mapSec_pwr (s : State) (f : Sec → Sec) : (s.mapSec f).pwr = s.pwr := rfl
@[simp] theorem State.mapSec_bus (s : State) (f : Sec → Sec) : (s.mapSec f).bus = s.bus := rfl
@[simp] theorem State.mapSec_reg (s : State) (f : Sec → Sec) : (s.mapSec f).reg = s.reg := rfl
@[simp] theorem State.mapSec_rng (s : State) (f : Sec → Sec) : (s.mapSec f).rng = s.rng := rfl
@[simp] theorem State.mapSec_lg (s : State) (f : Sec → Sec) : (s.mapSec f).lg = s.lg := rfl
@[simp] theorem State.mapSec_flt (s : State) (f : Sec → Sec) : (s.mapSec f).flt = s.flt := rfl
@[simp] theorem State.mapSec_pool (s : State) (f : Sec → Sec) : (s.mapSec f).pool = s.pool := rfl
@[simp] theorem State.mapSec_scn (s : State) (f : Sec → Sec) : (s.mapSec f).scn = s.scn := rfl
@[simp] theorem State.mapSec_frm (s : State) (f : Sec → Sec) : (s.mapSec f).frm = s.frm := rfl
@[simp] theorem State.mapSec_pho (s : State) (f : Sec → Sec) : (s.mapSec f).pho = s.pho := rfl
@[simp] theorem State.mapSec_arr (s : State) (f : Sec → Sec) : (s.mapSec f).arr = s.arr := rfl
@[simp] theorem State.mapSec_hlt (s : State) (f : Sec → Sec) : (s.mapSec f).hlt = s.hlt := rfl
@[simp] theorem State.mapSec_saf (s : State) (f : Sec → Sec) : (s.mapSec f).saf = s.saf := rfl
@[simp] theorem State.mapSec_hk (s : State) (f : Sec → Sec) : (s.mapSec f).hk = s.hk := rfl
@[simp] theorem State.mapSec_cal (s : State) (f : Sec → Sec) : (s.mapSec f).cal = s.cal := rfl
@[simp] theorem State.mapSec_fls (s : State) (f : Sec → Sec) : (s.mapSec f).fls = s.fls := rfl
@[simp] theorem State.mapSec_lan (s : State) (f : Sec → Sec) : (s.mapSec f).lan = s.lan := rfl
@[simp] theorem State.mapSec_tm (s : State) (f : Sec → Sec) : (s.mapSec f).tm = s.tm := rfl
@[simp] theorem State.mapSec_trc (s : State) (f : Sec → Sec) : (s.mapSec f).trc = s.trc := rfl

variable (s : State) (f : Fls → Fls) in
@[simp] theorem State.mapFls_fls : (s.mapFls f).fls = f s.fls := rfl
@[simp] theorem State.mapFls_pending (s : State) (f : Fls → Fls) : (s.mapFls f).pending = s.pending := rfl
@[simp] theorem State.mapFls_free (s : State) (f : Fls → Fls) : (s.mapFls f).free = s.free := rfl
@[simp] theorem State.mapFls_clk (s : State) (f : Fls → Fls) : (s.mapFls f).clk = s.clk := rfl
@[simp] theorem State.mapFls_idn (s : State) (f : Fls → Fls) : (s.mapFls f).idn = s.idn := rfl
@[simp] theorem State.mapFls_pwr (s : State) (f : Fls → Fls) : (s.mapFls f).pwr = s.pwr := rfl
@[simp] theorem State.mapFls_bus (s : State) (f : Fls → Fls) : (s.mapFls f).bus = s.bus := rfl
@[simp] theorem State.mapFls_reg (s : State) (f : Fls → Fls) : (s.mapFls f).reg = s.reg := rfl
@[simp] theorem State.mapFls_rng (s : State) (f : Fls → Fls) : (s.mapFls f).rng = s.rng := rfl
@[simp] theorem State.mapFls_lg (s : State) (f : Fls → Fls) : (s.mapFls f).lg = s.lg := rfl
@[simp] theorem State.mapFls_flt (s : State) (f : Fls → Fls) : (s.mapFls f).flt = s.flt := rfl
@[simp] theorem State.mapFls_pool (s : State) (f : Fls → Fls) : (s.mapFls f).pool = s.pool := rfl
@[simp] theorem State.mapFls_scn (s : State) (f : Fls → Fls) : (s.mapFls f).scn = s.scn := rfl
@[simp] theorem State.mapFls_frm (s : State) (f : Fls → Fls) : (s.mapFls f).frm = s.frm := rfl
@[simp] theorem State.mapFls_pho (s : State) (f : Fls → Fls) : (s.mapFls f).pho = s.pho := rfl
@[simp] theorem State.mapFls_arr (s : State) (f : Fls → Fls) : (s.mapFls f).arr = s.arr := rfl
@[simp] theorem State.mapFls_hlt (s : State) (f : Fls → Fls) : (s.mapFls f).hlt = s.hlt := rfl
@[simp] theorem State.mapFls_saf (s : State) (f : Fls → Fls) : (s.mapFls f).saf = s.saf := rfl
@[simp] theorem State.mapFls_hk (s : State) (f : Fls → Fls) : (s.mapFls f).hk = s.hk := rfl
@[simp] theorem State.mapFls_cal (s : State) (f : Fls → Fls) : (s.mapFls f).cal = s.cal := rfl
@[simp] theorem State.mapFls_sec (s : State) (f : Fls → Fls) : (s.mapFls f).sec = s.sec := rfl
@[simp] theorem State.mapFls_lan (s : State) (f : Fls → Fls) : (s.mapFls f).lan = s.lan := rfl
@[simp] theorem State.mapFls_tm (s : State) (f : Fls → Fls) : (s.mapFls f).tm = s.tm := rfl
@[simp] theorem State.mapFls_trc (s : State) (f : Fls → Fls) : (s.mapFls f).trc = s.trc := rfl

variable (s : State) (f : Lan → Lan) in
@[simp] theorem State.mapLan_lan : (s.mapLan f).lan = f s.lan := rfl
@[simp] theorem State.mapLan_pending (s : State) (f : Lan → Lan) : (s.mapLan f).pending = s.pending := rfl
@[simp] theorem State.mapLan_free (s : State) (f : Lan → Lan) : (s.mapLan f).free = s.free := rfl
@[simp] theorem State.mapLan_clk (s : State) (f : Lan → Lan) : (s.mapLan f).clk = s.clk := rfl
@[simp] theorem State.mapLan_idn (s : State) (f : Lan → Lan) : (s.mapLan f).idn = s.idn := rfl
@[simp] theorem State.mapLan_pwr (s : State) (f : Lan → Lan) : (s.mapLan f).pwr = s.pwr := rfl
@[simp] theorem State.mapLan_bus (s : State) (f : Lan → Lan) : (s.mapLan f).bus = s.bus := rfl
@[simp] theorem State.mapLan_reg (s : State) (f : Lan → Lan) : (s.mapLan f).reg = s.reg := rfl
@[simp] theorem State.mapLan_rng (s : State) (f : Lan → Lan) : (s.mapLan f).rng = s.rng := rfl
@[simp] theorem State.mapLan_lg (s : State) (f : Lan → Lan) : (s.mapLan f).lg = s.lg := rfl
@[simp] theorem State.mapLan_flt (s : State) (f : Lan → Lan) : (s.mapLan f).flt = s.flt := rfl
@[simp] theorem State.mapLan_pool (s : State) (f : Lan → Lan) : (s.mapLan f).pool = s.pool := rfl
@[simp] theorem State.mapLan_scn (s : State) (f : Lan → Lan) : (s.mapLan f).scn = s.scn := rfl
@[simp] theorem State.mapLan_frm (s : State) (f : Lan → Lan) : (s.mapLan f).frm = s.frm := rfl
@[simp] theorem State.mapLan_pho (s : State) (f : Lan → Lan) : (s.mapLan f).pho = s.pho := rfl
@[simp] theorem State.mapLan_arr (s : State) (f : Lan → Lan) : (s.mapLan f).arr = s.arr := rfl
@[simp] theorem State.mapLan_hlt (s : State) (f : Lan → Lan) : (s.mapLan f).hlt = s.hlt := rfl
@[simp] theorem State.mapLan_saf (s : State) (f : Lan → Lan) : (s.mapLan f).saf = s.saf := rfl
@[simp] theorem State.mapLan_hk (s : State) (f : Lan → Lan) : (s.mapLan f).hk = s.hk := rfl
@[simp] theorem State.mapLan_cal (s : State) (f : Lan → Lan) : (s.mapLan f).cal = s.cal := rfl
@[simp] theorem State.mapLan_sec (s : State) (f : Lan → Lan) : (s.mapLan f).sec = s.sec := rfl
@[simp] theorem State.mapLan_fls (s : State) (f : Lan → Lan) : (s.mapLan f).fls = s.fls := rfl
@[simp] theorem State.mapLan_tm (s : State) (f : Lan → Lan) : (s.mapLan f).tm = s.tm := rfl
@[simp] theorem State.mapLan_trc (s : State) (f : Lan → Lan) : (s.mapLan f).trc = s.trc := rfl

variable (s : State) (f : Team → Team) in
@[simp] theorem State.mapTm_tm : (s.mapTm f).tm = f s.tm := rfl
@[simp] theorem State.mapTm_pending (s : State) (f : Team → Team) : (s.mapTm f).pending = s.pending := rfl
@[simp] theorem State.mapTm_free (s : State) (f : Team → Team) : (s.mapTm f).free = s.free := rfl
@[simp] theorem State.mapTm_clk (s : State) (f : Team → Team) : (s.mapTm f).clk = s.clk := rfl
@[simp] theorem State.mapTm_idn (s : State) (f : Team → Team) : (s.mapTm f).idn = s.idn := rfl
@[simp] theorem State.mapTm_pwr (s : State) (f : Team → Team) : (s.mapTm f).pwr = s.pwr := rfl
@[simp] theorem State.mapTm_bus (s : State) (f : Team → Team) : (s.mapTm f).bus = s.bus := rfl
@[simp] theorem State.mapTm_reg (s : State) (f : Team → Team) : (s.mapTm f).reg = s.reg := rfl
@[simp] theorem State.mapTm_rng (s : State) (f : Team → Team) : (s.mapTm f).rng = s.rng := rfl
@[simp] theorem State.mapTm_lg (s : State) (f : Team → Team) : (s.mapTm f).lg = s.lg := rfl
@[simp] theorem State.mapTm_flt (s : State) (f : Team → Team) : (s.mapTm f).flt = s.flt := rfl
@[simp] theorem State.mapTm_pool (s : State) (f : Team → Team) : (s.mapTm f).pool = s.pool := rfl
@[simp] theorem State.mapTm_scn (s : State) (f : Team → Team) : (s.mapTm f).scn = s.scn := rfl
@[simp] theorem State.mapTm_frm (s : State) (f : Team → Team) : (s.mapTm f).frm = s.frm := rfl
@[simp] theorem State.mapTm_pho (s : State) (f : Team → Team) : (s.mapTm f).pho = s.pho := rfl
@[simp] theorem State.mapTm_arr (s : State) (f : Team → Team) : (s.mapTm f).arr = s.arr := rfl
@[simp] theorem State.mapTm_hlt (s : State) (f : Team → Team) : (s.mapTm f).hlt = s.hlt := rfl
@[simp] theorem State.mapTm_saf (s : State) (f : Team → Team) : (s.mapTm f).saf = s.saf := rfl
@[simp] theorem State.mapTm_hk (s : State) (f : Team → Team) : (s.mapTm f).hk = s.hk := rfl
@[simp] theorem State.mapTm_cal (s : State) (f : Team → Team) : (s.mapTm f).cal = s.cal := rfl
@[simp] theorem State.mapTm_sec (s : State) (f : Team → Team) : (s.mapTm f).sec = s.sec := rfl
@[simp] theorem State.mapTm_fls (s : State) (f : Team → Team) : (s.mapTm f).fls = s.fls := rfl
@[simp] theorem State.mapTm_lan (s : State) (f : Team → Team) : (s.mapTm f).lan = s.lan := rfl
@[simp] theorem State.mapTm_trc (s : State) (f : Team → Team) : (s.mapTm f).trc = s.trc := rfl

variable (s : State) (f : Trc → Trc) in
@[simp] theorem State.mapTrc_trc : (s.mapTrc f).trc = f s.trc := rfl
@[simp] theorem State.mapTrc_pending (s : State) (f : Trc → Trc) : (s.mapTrc f).pending = s.pending := rfl
@[simp] theorem State.mapTrc_free (s : State) (f : Trc → Trc) : (s.mapTrc f).free = s.free := rfl
@[simp] theorem State.mapTrc_clk (s : State) (f : Trc → Trc) : (s.mapTrc f).clk = s.clk := rfl
@[simp] theorem State.mapTrc_idn (s : State) (f : Trc → Trc) : (s.mapTrc f).idn = s.idn := rfl
@[simp] theorem State.mapTrc_pwr (s : State) (f : Trc → Trc) : (s.mapTrc f).pwr = s.pwr := rfl
@[simp] theorem State.mapTrc_bus (s : State) (f : Trc → Trc) : (s.mapTrc f).bus = s.bus := rfl
@[simp] theorem State.mapTrc_reg (s : State) (f : Trc → Trc) : (s.mapTrc f).reg = s.reg := rfl
@[simp] theorem State.mapTrc_rng (s : State) (f : Trc → Trc) : (s.mapTrc f).rng = s.rng := rfl
@[simp] theorem State.mapTrc_lg (s : State) (f : Trc → Trc) : (s.mapTrc f).lg = s.lg := rfl
@[simp] theorem State.mapTrc_flt (s : State) (f : Trc → Trc) : (s.mapTrc f).flt = s.flt := rfl
@[simp] theorem State.mapTrc_pool (s : State) (f : Trc → Trc) : (s.mapTrc f).pool = s.pool := rfl
@[simp] theorem State.mapTrc_scn (s : State) (f : Trc → Trc) : (s.mapTrc f).scn = s.scn := rfl
@[simp] theorem State.mapTrc_frm (s : State) (f : Trc → Trc) : (s.mapTrc f).frm = s.frm := rfl
@[simp] theorem State.mapTrc_pho (s : State) (f : Trc → Trc) : (s.mapTrc f).pho = s.pho := rfl
@[simp] theorem State.mapTrc_arr (s : State) (f : Trc → Trc) : (s.mapTrc f).arr = s.arr := rfl
@[simp] theorem State.mapTrc_hlt (s : State) (f : Trc → Trc) : (s.mapTrc f).hlt = s.hlt := rfl
@[simp] theorem State.mapTrc_saf (s : State) (f : Trc → Trc) : (s.mapTrc f).saf = s.saf := rfl
@[simp] theorem State.mapTrc_hk (s : State) (f : Trc → Trc) : (s.mapTrc f).hk = s.hk := rfl
@[simp] theorem State.mapTrc_cal (s : State) (f : Trc → Trc) : (s.mapTrc f).cal = s.cal := rfl
@[simp] theorem State.mapTrc_sec (s : State) (f : Trc → Trc) : (s.mapTrc f).sec = s.sec := rfl
@[simp] theorem State.mapTrc_fls (s : State) (f : Trc → Trc) : (s.mapTrc f).fls = s.fls := rfl
@[simp] theorem State.mapTrc_lan (s : State) (f : Trc → Trc) : (s.mapTrc f).lan = s.lan := rfl
@[simp] theorem State.mapTrc_tm (s : State) (f : Trc → Trc) : (s.mapTrc f).tm = s.tm := rfl

end Sys2Proof.Machine
end

