-- ==== Sys2Proof/Laws/Done.lean ====
section
/-!
SUPPORT. What the shared operations of a completion can change: one frame lemma per operation, and the ring that a
completion leaves.
-/
namespace Sys2Proof.Laws

open Sys2Proof.Machine

/-- A log entry changes the log only. -/
theorem logAdd_frame (k c : Nat) (t : Dword) (d : List Byte) (s : State) :
    logAdd k c t d s = { s with lg := (logAdd k c t d s).lg } := rfl

/-- A request to the host changes the link only. -/
theorem busSend_frame (o : BusOut) (s : State) : busSend o s = { s with bus := (busSend o s).bus } := rfl

/-- What a request adds to the link while the function is a bus master and not in D3hot. -/
theorem busSend_out (o : BusOut) (s : State) (h : s.bus.master = true) (hd : s.bus.d3 = false) :
    busSend o s = s.mapBus fun b => { b with out := b.out ++ [o], l1 := false } := by
  simp [busSend, Bus.send, State.mapBus, h, hd]

/-- A host write changes the link only. -/
theorem hostWrite_frame (a : Dword) (bs : List Byte) (s : State) :
    hostWrite a bs s = { s with bus := (hostWrite a bs s).bus } := rfl

/-- An MSI-X message changes the link only. -/
theorem msixSend_frame (v : Nat) (s : State) : msixSend v s = { s with bus := (msixSend v s).bus } := by
  unfold msixSend; dsimp only; split <;> rfl

/-- A message adds at most itself to the link, and changes none of the fields that writes need. -/
theorem msixSend_bus (v : Nat) (s : State) :
    (∃ m, (msixSend v s).bus.out = s.bus.out ++ m ∧ m.length ≤ 1)
      ∧ (msixSend v s).bus.linkUp = s.bus.linkUp ∧ (msixSend v s).bus.master = s.bus.master
      ∧ (msixSend v s).bus.d3 = s.bus.d3 := by
  unfold msixSend
  dsimp only
  split
  · exact ⟨⟨[], by simp⟩, rfl, rfl, rfl⟩
  · unfold busSend Bus.send State.mapBus
    dsimp only
    split
    · exact ⟨⟨[_], rfl, by simp⟩, rfl, rfl, rfl⟩
    · exact ⟨⟨[], by simp⟩, rfl, rfl, rfl⟩

/-- A change of a ring changes the ring pairs only. -/
theorem mapRing_frame (n : Nat) (f : Ring → Ring) (s : State) :
    mapRing n f s = { s with rng := { s.rng with q := s.rng.q.modify n f } } := rfl

/-- The ring that was changed, and the others. -/
theorem mapRing_ring (n k : Nat) (f : Ring → Ring) (s : State) (h : n < s.rng.q.length) :
    (mapRing n f s).ring k = if k = n then f (s.ring n) else s.ring k := by
  simp only [State.ring, mapRing_frame, List.getD_eq_getElem?_getD, List.getElem?_modify]
  split
  · rename_i hk; subst hk; simp [h]
  · rename_i hk; simp [Ne.symm hk]

@[simp] theorem mapRing_length (n : Nat) (f : Ring → Ring) (s : State) :
    (mapRing n f s).rng.q.length = s.rng.q.length := by simp [mapRing_frame]

/-- The moderation of a CQ changes its count and the link. -/
theorem cqModCheck_cases (n : Nat) (s : State) :
    cqModCheck n s = s ∨ ∃ v, cqModCheck n s = mapRing n (fun r => { r with modCount := 0 }) (msixSend v s) := by
  unfold cqModCheck
  dsimp only
  split
  · exact .inr ⟨_, rfl⟩
  · exact .inl rfl

/-- Moderation, as a frame. -/
theorem cqModCheck_frame (n : Nat) (s : State) :
    cqModCheck n s = { s with bus := (cqModCheck n s).bus, rng := (cqModCheck n s).rng } := by
  rcases cqModCheck_cases n s with h | ⟨v, h⟩
  · rw [h]
  · rw [h, mapRing_frame, msixSend_frame]

/-- A completion changes the log, the link and the ring pairs. -/
theorem cqWrite_frame (op : Nat) (ioc : Bool) (c : Completion) (s : State) :
    cqWrite op ioc c s =
      { s with lg := (logCompletion op none c s).lg, bus := (cqWrite op ioc c s).bus, rng := (cqWrite op ioc c s).rng } := by
  unfold cqWrite
  dsimp only
  split
  · rfl
  · split
    · rw [cqModCheck_frame]; rfl
    · rfl

/-- The ring of a completion that is written: its CQ tail and phase advance, and only the moderation fields change beside
them. Other rings stay. -/
theorem cqWrite_ring (op : Nat) (ioc : Bool) (c : Completion) (s : State) (hn : c.ring.toNat < s.rng.q.length)
    (he : (s.ring c.ring.toNat).enabled = true) (hl : s.bus.linkUp = true) :
    let n := c.ring.toNat
    let r := s.ring n
    (∃ mc ms, (cqWrite op ioc c s).ring n =
      { r with
        cqTail := if r.cqTail + 1 < s.cqSize n then r.cqTail + 1 else 0
        cqPhase := if r.cqTail + 1 < s.cqSize n then r.cqPhase else !r.cqPhase
        modCount := mc, modStart := ms })
    ∧ (∀ k, k ≠ n → (cqWrite op ioc c s).ring k = s.ring k)
    ∧ (cqWrite op ioc c s).rng.q.length = s.rng.q.length ∧ (cqWrite op ioc c s).rng.eq = s.rng.eq := by
  intro n r
  have h0 : (!(s.ring c.ring.toNat).enabled || !s.bus.linkUp) = false := by simp [he, hl]
  unfold cqWrite
  dsimp only
  rw [if_neg (by simp [he, hl, logCompletion, logAdd])]
  generalize hS : mapRing c.ring.toNat _ (busSend _ (logCompletion op none c s)) = t
  have ht : t.rng.q.length = s.rng.q.length := by
    rw [← hS, mapRing_length]; rfl
  have htr : t.rng.eq = s.rng.eq := by rw [← hS]; rfl
  have hr : ∀ k, t.ring k = if k = n then
      { r with
        cqTail := if r.cqTail + 1 < s.cqSize n then r.cqTail + 1 else 0
        cqPhase := if r.cqTail + 1 < s.cqSize n then r.cqPhase else !r.cqPhase
        modCount := if ioc then r.modCount + 1 else r.modCount
        modStart := if ioc && r.modCount = 0 then s.clk.loc else r.modStart } else s.ring k := by
    intro k
    rw [← hS, mapRing_ring _ _ _ _ (by exact hn)]
    rfl
  have hcheck : (∃ mc ms, (cqModCheck n t).ring n = { t.ring n with modCount := mc, modStart := ms })
      ∧ (∀ k, k ≠ n → (cqModCheck n t).ring k = t.ring k) ∧ (cqModCheck n t).rng.q.length = t.rng.q.length
      ∧ (cqModCheck n t).rng.eq = t.rng.eq := by
    rcases cqModCheck_cases n t with h | ⟨v, h⟩
    · rw [h]; exact ⟨⟨_, _, rfl⟩, fun _ _ => rfl, rfl, rfl⟩
    · rw [h]
      have hk : ∀ k, (mapRing n (fun r => { r with modCount := 0 }) (msixSend v t)).ring k
          = if k = n then { t.ring n with modCount := 0 } else t.ring k := by
        intro k
        rw [msixSend_frame, mapRing_ring _ _ _ _ (by show n < t.rng.q.length; rw [ht]; exact hn)]
        rfl
      refine ⟨⟨0, (t.ring n).modStart, by rw [hk]; simp⟩, fun k h => by rw [hk]; simp [h], ?_, ?_⟩
      · rw [mapRing_length, msixSend_frame]
      · rw [msixSend_frame]; rfl
  split
  · obtain ⟨⟨mc, ms, h1⟩, h2, h3, h4⟩ := hcheck
    refine ⟨⟨mc, ms, ?_⟩, fun k hk => ?_, h3.trans ht, h4.trans htr⟩
    · exact h1.trans (by rw [hr]; simp)
    · exact (h2 k hk).trans (by rw [hr]; simp [hk])
  · refine ⟨⟨if ioc then r.modCount + 1 else r.modCount, if ioc && r.modCount = 0 then s.clk.loc else r.modStart, ?_⟩,
      fun k hk => ?_, ht, htr⟩
    · rw [hr]; simp
    · rw [hr]; simp [hk]

/-- The held repeats change what a completion changes. -/
theorem heldRelease_frame (op n : Nat) (ioc : Bool) (seq : Word) (s : State) :
    heldRelease op n ioc seq s =
      { s with
        lg := (heldRelease op n ioc seq s).lg, bus := (heldRelease op n ioc seq s).bus
        rng := (heldRelease op n ioc seq s).rng } := by
  unfold heldRelease
  dsimp only
  split
  · rfl
  · rename_i e _
    generalize ((s.ring n).held.filter fun h => h.1 == seq) = l
    have : ∀ (l : List (Word × Dword)) (t : State),
        l.foldl (fun s h => cqWrite op ioc (dupCompletion n e h.2) s) t =
          { t with
            lg := (l.foldl (fun s h => cqWrite op ioc (dupCompletion n e h.2) s) t).lg
            bus := (l.foldl (fun s h => cqWrite op ioc (dupCompletion n e h.2) s) t).bus
            rng := (l.foldl (fun s h => cqWrite op ioc (dupCompletion n e h.2) s) t).rng } := by
      intro l
      induction l with
      | nil => intro t; rfl
      | cons a l ih => intro t; simp only [List.foldl_cons]; rw [ih, cqWrite_frame]
    rw [mapRing_frame]
    conv_lhs => rw [this]

/-- A completion with no repeat held behind it releases none. -/
theorem heldRelease_none (op n : Nat) (ioc : Bool) (seq : Word) (s : State) (h : ∀ h ∈ (s.ring n).held, h.1 ≠ seq) :
    heldRelease op n ioc seq s = s := by
  unfold heldRelease
  have h1 : (s.ring n).held.filter (fun h => h.1 == seq) = [] := by
    rw [List.filter_eq_nil_iff]; intro a ha; simpa using h a ha
  have h2 : (s.ring n).held.filter (fun h => h.1 != seq) = (s.ring n).held := by
    rw [List.filter_eq_self]; intro a ha; simpa using h a ha
  dsimp only
  split
  · rfl
  · rw [h1]; simp only [List.foldl_nil]
    have : s.rng.q.modify n (fun r => { r with held := r.held.filter fun h => h.1 != seq }) = s.rng.q := by
      apply List.ext_getElem?
      intro k; rw [List.getElem?_modify]
      by_cases hk : n = k
      · subst hk
        simp only [State.ring, List.getD_eq_getElem?_getD] at h2
        cases hq : s.rng.q[n]? with
        | none => simp
        | some r => simp [hq] at h2 ⊢; congr 1; simpa using h2
      · simp [hk]
    rw [mapRing_frame, this]

/-- The end of an entry that was running when its ring was disabled, as a frame. -/
theorem mutedDone_frame (op : Nat) (sub : Sub) (st : Half) (res t : Dword) (s : State) :
    mutedDone op sub st res t s =
      { s with
        lg := (mutedDone op sub st res t s).lg, bus := (mutedDone op sub st res t s).bus
        rng := (mutedDone op sub st res t s).rng } := by
  unfold mutedDone
  dsimp only
  split
  · rfl
  · rw [heldRelease_frame]; rfl

/-- The completion of an own entry, as a frame: link, ring pairs, log. -/
theorem ownDone_frame (op : Nat) (sub : Sub) (st : Half) (res t : Dword) (s : State) :
    ownDone op sub st res t s =
      { s with
        lg := (ownDone op sub st res t s).lg, bus := (ownDone op sub st res t s).bus
        rng := (ownDone op sub st res t s).rng } := by
  unfold ownDone
  dsimp only
  split
  · exact mutedDone_frame ..
  · rw [heldRelease_frame, cqWrite_frame]; rfl

/-- A command of the engine's own ring that is not forwarded completes on that ring. -/
theorem finish_own (op : Nat) (sub : Sub) (st : Half) (res : Dword) (s : State) (ho : sub.origin = none)
    (hf : s.fwdBy none sub.ring.val sub.seq sub.reply = none) :
    finish op sub st res s = ownDone op sub st (if isSuccess st then res else 0) s.now s := by
  simp [finish, finishAt, ho, hf]

/-- Its frame: link, ring pairs, log. -/
theorem finish_frame (op : Nat) (sub : Sub) (st : Half) (res : Dword) (s : State) (ho : sub.origin = none)
    (hf : s.fwdBy none sub.ring.val sub.seq sub.reply = none) :
    finish op sub st res s =
      { s with
        lg := (finish op sub st res s).lg, bus := (finish op sub st res s).bus, rng := (finish op sub st res s).rng } := by
  rw [finish_own op sub st res s ho hf]; exact ownDone_frame ..

end Sys2Proof.Laws
end

