-- ==== Sys2Proof/Laws/PerInstr.lean ====
section
/-!
SUPPORT. Per command: the opcode of its entry is one byte, and its operands lie in bytes 16 to 63 (Table 10.4).
-/
namespace Sys2Proof.Laws.Entry

open Sys2Proof.Machine

set_option linter.unusedSimpArgs false

/-- What the entry of a ring command holds beside its head (Table 10.4). -/
def Statement (i : Instr) : Prop :=
  ∀ p, spelled i = some p → p.row.op < 256 ∧ ∀ e ∈ p.ops, 16 ≤ e.1 ∧ e.1 < 64

/-- The place of a member of a list of at most `n` elements. -/
theorem place_lt {α : Type} {l : List α} {n : Nat} {x : α × Nat} (h : x ∈ (l.take n).zipIdx) : x.2 < n := by
  have := List.snd_lt_of_mem_zipIdx h
  simp at this; omega

/-- The operands that a list of bytes gives. -/
theorem listAt_range {o n : Nat} {l : List Byte} {a b : Nat} (h : (a, b) ∈ listAt o (l.take n)) : o ≤ a ∧ a < o + n := by
  simp only [listAt, List.mem_map] at h
  obtain ⟨x, hx, h⟩ := h
  have := place_lt hx
  cases h; omega

/-- A command that is no ring command. -/
theorem of_none {i : Instr} (h : spelled i = none) : Statement i := fun p hp => by simp [h] at hp

theorem nop (sub : Sub) : Statement (.nop sub) := by
  intro p h; cases h; simp [rowAny, rowAdm, fenceOpsAt, descOpsAt, layerOpsAt]

theorem echo (sub : Sub) (value : Dword) : Statement (.echo sub value) := by
  intro p h; cases h; simp [rowAny, rowAdm, fenceOpsAt, descOpsAt, layerOpsAt]

theorem ident (sub : Sub) (dest : Dword) : Statement (.ident sub dest) := by
  intro p h; cases h; simp [rowAny, rowAdm, fenceOpsAt, descOpsAt, layerOpsAt]

theorem heartbeat (sub : Sub) : Statement (.heartbeat sub) := by
  intro p h; cases h; simp [rowAny, rowAdm, fenceOpsAt, descOpsAt, layerOpsAt]

theorem poolAlloc (sub : Sub) (count : Half) (channel flags : Byte) : Statement (.poolAlloc sub count channel flags) := by
  intro p h; cases h; simp [rowAny, rowAdm, fenceOpsAt, descOpsAt, layerOpsAt]

theorem zeroingDone (handle : Half) : Statement (.zeroingDone handle) := of_none rfl

theorem poolFree (sub : Sub) (handle : Half) : Statement (.poolFree sub handle) := by
  intro p h; cases h; simp [rowAny, rowAdm, fenceOpsAt, descOpsAt, layerOpsAt]

theorem poolQuery (sub : Sub) (handle : Half) (dest : Dword) : Statement (.poolQuery sub handle dest) := by
  intro p h; cases h; simp [rowAny, rowAdm, fenceOpsAt, descOpsAt, layerOpsAt]

theorem copyIn (sub : Sub) (handle : Half) (offset : Word) (host : Dword) (length : Word) : Statement (.copyIn sub handle offset host length) := by
  intro p h; cases h; simp [rowAny, rowAdm, fenceOpsAt, descOpsAt, layerOpsAt]

theorem copyOut (sub : Sub) (handle : Half) (offset : Word) (host : Dword) (length : Word) : Statement (.copyOut sub handle offset host length) := by
  intro p h; cases h; simp [rowAny, rowAdm, fenceOpsAt, descOpsAt, layerOpsAt]

theorem fill (sub : Sub) (handle : Half) (offset length : Word) (width : Byte) (pattern : Dword) : Statement (.fill sub handle offset length width pattern) := by
  intro p h; cases h; simp [rowAny, rowAdm, fenceOpsAt, descOpsAt, layerOpsAt]

theorem dataMoveDone (id : Nat) (host : HostRead) (ue ce : List Nat) : Statement (.dataMoveDone id host ue ce) := of_none rfl

theorem surfaceDefine (sub : Sub) (id : Half) (d : SurfDesc) : Statement (.surfaceDefine sub id d) := by
  intro p h; cases h; simp [rowAny, rowAdm, fenceOpsAt, descOpsAt, layerOpsAt]

theorem surfaceRetire (sub : Sub) (id : Half) : Statement (.surfaceRetire sub id) := by
  intro p h; cases h; simp [rowAny, rowAdm, fenceOpsAt, descOpsAt, layerOpsAt]

theorem layerSet (sub : Sub) (f : LayerForm) : Statement (.layerSet sub f) := by
  intro p h
  cases f <;> cases h <;> simp [rowAny, layerOpsAt]
  intro a b h; have := listAt_range h; omega

theorem layerPost (sub : Sub) (o : PostOps) : Statement (.layerPost sub o) := by
  intro p h; cases h; simp [rowAny, rowAdm, fenceOpsAt, descOpsAt, layerOpsAt]

theorem shapesPost (sub : Sub) (handle : Half) (offset : Word) (count : Byte) (fence : FenceOps) : Statement (.shapesPost sub handle offset count fence) := by
  intro p h; cases h; simp [rowAny, rowAdm, fenceOpsAt, descOpsAt, layerOpsAt]

theorem captureSet (sub : Sub) (surface : Half) (tap mode : Byte) : Statement (.captureSet sub surface tap mode) := by
  intro p h; cases h; simp [rowAny, rowAdm, fenceOpsAt, descOpsAt, layerOpsAt]

theorem sceneCommit (sub : Sub) (frame : Word) : Statement (.sceneCommit sub frame) := by
  intro p h; cases h; simp [rowAny, rowAdm, fenceOpsAt, descOpsAt, layerOpsAt]

theorem sceneQuery (sub : Sub) (which : Byte) (dest : Dword) : Statement (.sceneQuery sub which dest) := by
  intro p h; cases h; simp [rowAny, rowAdm, fenceOpsAt, descOpsAt, layerOpsAt]

theorem timingSet (sub : Sub) (o : TimingOps) : Statement (.timingSet sub o) := by
  intro p h; cases h; simp [rowAny, rowAdm, fenceOpsAt, descOpsAt, layerOpsAt]

theorem syncSet (sub : Sub) (o : SyncOps) : Statement (.syncSet sub o) := by
  intro p h; cases h; simp [rowAny, rowAdm, fenceOpsAt, descOpsAt, layerOpsAt]

theorem pwmSet (sub : Sub) (o : PwmOps) : Statement (.pwmSet sub o) := by
  intro p h; cases h; simp [rowAny, rowAdm, fenceOpsAt, descOpsAt, layerOpsAt]

theorem curbSet (sub : Sub) (o : CurbOps) : Statement (.curbSet sub o) := by
  intro p h; cases h; simp [rowAny, rowAdm, fenceOpsAt, descOpsAt, layerOpsAt]

theorem derateSet (sub : Sub) (o : DerateOps) : Statement (.derateSet sub o) := by
  intro p h; cases h; simp [rowAny, rowAdm, fenceOpsAt, descOpsAt, layerOpsAt]

theorem cutoffSet (sub : Sub) (o : CutoffOps) : Statement (.cutoffSet sub o) := by
  intro p h; cases h; simp [rowAny, rowAdm, fenceOpsAt, descOpsAt, layerOpsAt]

theorem probeSet (sub : Sub) (enables : Byte) (frame : Word) : Statement (.probeSet sub enables frame) := by
  intro p h; cases h; simp [rowAny, rowAdm, fenceOpsAt, descOpsAt, layerOpsAt]

theorem pixmapRead (sub : Sub) (o : PixmapOps) : Statement (.pixmapRead sub o) := by
  intro p h; cases h; simp [rowAny, rowAdm, fenceOpsAt, descOpsAt, layerOpsAt]

theorem neighbourFillSet (sub : Sub) (strength : Byte) (frame : Word) : Statement (.neighbourFillSet sub strength frame) := by
  intro p h; cases h; simp [rowAny, rowAdm, fenceOpsAt, descOpsAt, layerOpsAt]

theorem hallmarkSelect (sub : Sub) (mask add : Half) (frame : Word) : Statement (.hallmarkSelect sub mask add frame) := by
  intro p h; cases h; simp [rowAny, rowAdm, fenceOpsAt, descOpsAt, layerOpsAt]

theorem safetyStatus (sub : Sub) : Statement (.safetyStatus sub) := by
  intro p h; cases h; simp [rowAny, rowAdm, fenceOpsAt, descOpsAt, layerOpsAt]

theorem fallbackSet (sub : Sub) (o : FallbackOps) : Statement (.fallbackSet sub o) := by
  intro p h; cases h; simp [rowAny, rowAdm, fenceOpsAt, descOpsAt, layerOpsAt]

theorem canListenSet (sub : Sub) (o : CanOps) : Statement (.canListenSet sub o) := by
  intro p h; cases h; simp [rowAny]
  intro a b x k h he _; have := place_lt h; omega

theorem roadMode (sub : Sub) (mask : Half) (on : Byte) (frame : Word) : Statement (.roadMode sub mask on frame) := by
  intro p h; cases h; simp [rowAny, rowAdm, fenceOpsAt, descOpsAt, layerOpsAt]

theorem teamConfig (sub : Sub) (o : TeamOps) : Statement (.teamConfig sub o) := by
  intro p h; cases h; simp [rowAny]
  intro a b x k h he _; have := place_lt h; omega

theorem teamStatus (sub : Sub) (dest : Dword) : Statement (.teamStatus sub dest) := by
  intro p h; cases h; simp [rowAny, rowAdm, fenceOpsAt, descOpsAt, layerOpsAt]

theorem teamPair (sub : Sub) (key : BitVec 128) : Statement (.teamPair sub key) := by
  intro p h; cases h; simp [rowAny, rowAdm, fenceOpsAt, descOpsAt, layerOpsAt]

theorem timeSet (sub : Sub) (mode : Byte) (value : Dword) : Statement (.timeSet sub mode value) := by
  intro p h; cases h; simp [rowAny, rowAdm, fenceOpsAt, descOpsAt, layerOpsAt]

theorem timeQuery (sub : Sub) (dest : Dword) : Statement (.timeQuery sub dest) := by
  intro p h; cases h; simp [rowAny, rowAdm, fenceOpsAt, descOpsAt, layerOpsAt]

theorem powerState (sub : Sub) (state : Byte) : Statement (.powerState sub state) := by
  intro p h; cases h; simp [rowAny, rowAdm, fenceOpsAt, descOpsAt, layerOpsAt]

theorem calRun (sub : Sub) (phases : Byte) (level : Half) : Statement (.calRun sub phases level) := by
  intro p h; cases h; simp [rowAny, rowAdm, fenceOpsAt, descOpsAt, layerOpsAt]

theorem calRunEnd (m : CalMeas) : Statement (.calRunEnd m) := of_none rfl

theorem calLoadMap (sub : Sub) (handle : Half) (offset : Word) : Statement (.calLoadMap sub handle offset) := by
  intro p h; cases h; simp [rowAny, rowAdm, fenceOpsAt, descOpsAt, layerOpsAt]

theorem calStore (sub : Sub) : Statement (.calStore sub) := by
  intro p h; cases h; simp [rowAny, rowAdm, fenceOpsAt, descOpsAt, layerOpsAt]

theorem calRead (sub : Sub) (what : Byte) (offset : Word) (dest : Dword) (length : Word) : Statement (.calRead sub what offset dest length) := by
  intro p h; cases h; simp [rowAny, rowAdm, fenceOpsAt, descOpsAt, layerOpsAt]

theorem updateOpen (sub : Sub) (imageLength : Word) : Statement (.updateOpen sub imageLength) := by
  intro p h; cases h; simp [rowAny, rowAdm, fenceOpsAt, descOpsAt, layerOpsAt]

theorem updateEraseDone (ok : Bool) : Statement (.updateEraseDone ok) := of_none rfl

theorem updateWrite (sub : Sub) (offset : Word) (host : Dword) (length : Word) (data : HostRead) : Statement (.updateWrite sub offset host length data) := by
  intro p h; cases h; simp [rowAny, rowAdm, fenceOpsAt, descOpsAt, layerOpsAt]

theorem updateClose (sub : Sub) : Statement (.updateClose sub) := by
  intro p h; cases h; simp [rowAny, rowAdm, fenceOpsAt, descOpsAt, layerOpsAt]

theorem updateConfirm (sub : Sub) : Statement (.updateConfirm sub) := by
  intro p h; cases h; simp [rowAny, rowAdm, fenceOpsAt, descOpsAt, layerOpsAt]

theorem updateStatus (sub : Sub) : Statement (.updateStatus sub) := by
  intro p h; cases h; simp [rowAny, rowAdm, fenceOpsAt, descOpsAt, layerOpsAt]

theorem authLogin (sub : Sub) (o : LoginOps) (data : HostRead) : Statement (.authLogin sub o data) := by
  intro p h; cases h; simp [rowAdm]
  intro a b h; have := listAt_range h; omega

theorem authLogout (sub : Sub) : Statement (.authLogout sub) := by
  intro p h; cases h; simp [rowAny, rowAdm, fenceOpsAt, descOpsAt, layerOpsAt]

theorem protectedWrite (sub : Sub) (item : Half) (value : Word) : Statement (.protectedWrite sub item value) := by
  intro p h; cases h; simp [rowAny, rowAdm, fenceOpsAt, descOpsAt, layerOpsAt]

theorem passwordSet (sub : Sub) (oldLen newLen : Byte) (operator : Half) (host : Dword) (data : HostRead) : Statement (.passwordSet sub oldLen newLen operator host data) := by
  intro p h; cases h; simp [rowAny, rowAdm, fenceOpsAt, descOpsAt, layerOpsAt]

theorem logRead (sub : Sub) (log : Byte) (first : Word) (dest : Dword) (count : Word) : Statement (.logRead sub log first dest count) := by
  intro p h; cases h; simp [rowAny, rowAdm, fenceOpsAt, descOpsAt, layerOpsAt]

theorem logArchive (sub : Sub) (upTo : Word) : Statement (.logArchive sub upTo) := by
  intro p h; cases h; simp [rowAny, rowAdm, fenceOpsAt, descOpsAt, layerOpsAt]

theorem settingsRead (sub : Sub) (which : Byte) (offset : Word) (dest : Dword) (length : Word) : Statement (.settingsRead sub which offset dest length) := by
  intro p h; cases h; simp [rowAny, rowAdm, fenceOpsAt, descOpsAt, layerOpsAt]

theorem settingsWrite (sub : Sub) (field : Half) (length : Byte) (value : List Byte) : Statement (.settingsWrite sub field length value) := by
  intro p h; cases h; simp [rowAdm]
  intro a b h; have := listAt_range h; omega

theorem cfgCommit (sub : Sub) : Statement (.cfgCommit sub) := by
  intro p h; cases h; simp [rowAny, rowAdm, fenceOpsAt, descOpsAt, layerOpsAt]

theorem linkTest (sub : Sub) (o : LinkTestOps) : Statement (.linkTest sub o) := by
  intro p h; cases h; simp [rowAny, rowAdm, fenceOpsAt, descOpsAt, layerOpsAt]

theorem linkTestEnd (lane : Fin 8) : Statement (.linkTestEnd lane) := of_none rfl

theorem eyeScan (sub : Sub) (lane form : Byte) (handle : Half) (offset : Word) : Statement (.eyeScan sub lane form handle offset) := by
  intro p h; cases h; simp [rowAny, rowAdm, fenceOpsAt, descOpsAt, layerOpsAt]

theorem eyeScanDone (lane : Fin 8) (r : EyeResult) : Statement (.eyeScanDone lane r) := of_none rfl

theorem faultRead (sub : Sub) (dest : Dword) : Statement (.faultRead sub dest) := by
  intro p h; cases h; simp [rowAny, rowAdm, fenceOpsAt, descOpsAt, layerOpsAt]

theorem faultAck (sub : Sub) (source : Byte) : Statement (.faultAck sub source) := by
  intro p h; cases h; simp [rowAny, rowAdm, fenceOpsAt, descOpsAt, layerOpsAt]

theorem thermRearm (sub : Sub) : Statement (.thermRearm sub) := by
  intro p h; cases h; simp [rowAny, rowAdm, fenceOpsAt, descOpsAt, layerOpsAt]

theorem updStrobeImmediate (groups : BitVec 9) : Statement (.updStrobeImmediate groups) := of_none rfl

theorem updStrobeNextTick (groups : BitVec 9) : Statement (.updStrobeNextTick groups) := of_none rfl

theorem updStrobeAtTime (groups : BitVec 9) : Statement (.updStrobeAtTime groups) := of_none rfl

theorem updStrobeRefused (groups : BitVec 9) : Statement (.updStrobeRefused groups) := of_none rfl

theorem armedSetAtTime : Statement .armedSetAtTime := of_none rfl

theorem cfgCrcCommit (part : Partition) (value : Word) : Statement (.cfgCrcCommit part value) := of_none rfl

theorem cfgLock : Statement .cfgLock := of_none rfl

theorem fltPinRel : Statement .fltPinRel := of_none rfl

theorem seqReset (ring : Fin 16) : Statement (.seqReset ring) := of_none rfl

theorem gpioSet (bits : Byte) : Statement (.gpioSet bits) := of_none rfl

theorem gpioClr (bits : Byte) : Statement (.gpioClr bits) := of_none rfl

theorem registerWrite (bar : BarId) (offset : Half) (values : List Word) (beFirst beLast : BitVec 4) : Statement (.registerWrite bar offset values beFirst beLast) := of_none rfl

theorem refusedRead (bar : BarId) (offset : Half) (count : Nat) (beFirst beLast : BitVec 4) : Statement (.refusedRead bar offset count beFirst beLast) := of_none rfl

theorem clearingRead (offset : Half) (count : Nat) : Statement (.clearingRead offset count) := of_none rfl

theorem ltnErrcntRead (lane : Fin 8) : Statement (.ltnErrcntRead lane) := of_none rfl

theorem fltFirstSrcRead : Statement .fltFirstSrcRead := of_none rfl

theorem ttNowLoRead : Statement .ttNowLoRead := of_none rfl

theorem sqTailDoorbell (ring : Fin 16) (value : Word) : Statement (.sqTailDoorbell ring value) := of_none rfl

theorem cqHeadDoorbell (ring : Fin 16) (value : Word) : Statement (.cqHeadDoorbell ring value) := of_none rfl

theorem eqHeadDoorbell (value : Word) : Statement (.eqHeadDoorbell value) := of_none rfl

theorem msixTableWrite (offset : Half) (value : Word) : Statement (.msixTableWrite offset value) := of_none rfl

theorem bar4Read (offset : BitVec 27) (length : Nat) (ue ce : List Nat) : Statement (.bar4Read offset length ue ce) := of_none rfl

theorem bar4Write (offset : BitVec 27) (bytes : List (Option Byte)) (ue ce : List Nat) : Statement (.bar4Write offset bytes ue ce) := of_none rfl

theorem configurationRequest (offset : BitVec 12) (write : Option (Word × BitVec 4)) : Statement (.configurationRequest offset write) := of_none rfl

theorem entryFetch (ring : Fin 16) (r : FetchResult) : Statement (.entryFetch ring r) := of_none rfl

theorem entryStart (data : HostRead) : Statement (.entryStart data) := of_none rfl

theorem cqModTimeout (q : QueueId) : Statement (.cqModTimeout q) := of_none rfl

theorem linkDown : Statement .linkDown := of_none rfl

theorem linkUp (speed width : Nat) : Statement (.linkUp speed width) := of_none rfl

theorem l1Entry : Statement .l1Entry := of_none rfl

theorem ptmDialog : Statement .ptmDialog := of_none rfl

theorem ptmResponse (masterTime propDelay : Dword) : Statement (.ptmResponse masterTime propDelay) := of_none rfl

theorem tick (rampBad : List (BitVec 8)) : Statement (.tick rampBad) := of_none rfl

theorem probeSlot (found : List PixelFind) : Statement (.probeSlot found) := of_none rfl

theorem logFlush : Statement .logFlush := of_none rfl

theorem cutoff (ue : List Nat) : Statement (.cutoff ue) := of_none rfl

theorem compositionStart : Statement .compositionStart := of_none rfl

theorem rowWrite (o : RowObs) : Statement (.rowWrite o) := of_none rfl

theorem composeDone : Statement .composeDone := of_none rfl

theorem guardStart (divisionResidueBad : Bool) : Statement (.guardStart divisionResidueBad) := of_none rfl

theorem aScanRow (row : Fin 512) (readBack : Option Word) : Statement (.aScanRow row readBack) := of_none rfl

theorem fsyncInEdge (rising : Bool) : Statement (.fsyncInEdge rising) := of_none rfl

theorem fsyncLost : Statement .fsyncLost := of_none rfl

theorem fsyncOutPulse : Statement .fsyncOutPulse := of_none rfl

theorem pixelSample (p : PixelFind) : Statement (.pixelSample p) := of_none rfl

theorem tileOvercurrentTrip (tile : TileTrip) : Statement (.tileOvercurrentTrip tile) := of_none rfl

theorem tileReclose (tile : BitVec 8) : Statement (.tileReclose tile) := of_none rfl

theorem arrayOvercurrentTrip : Statement .arrayOvercurrentTrip := of_none rfl

theorem relightCapLift : Statement .relightCapLift := of_none rfl

theorem darkNAssert : Statement .darkNAssert := of_none rfl

theorem darkNRelease : Statement .darkNRelease := of_none rfl

theorem relightStep : Statement .relightStep := of_none rfl

theorem tempTrip (comparator : Fin 18) : Statement (.tempTrip comparator) := of_none rfl

theorem thermalRestart : Statement .thermalRestart := of_none rfl

theorem hkSample (raw : HkRaw) : Statement (.hkSample raw) := of_none rfl

theorem hkRoundEnd (reports : List (BitVec 8 × Nat)) : Statement (.hkRoundEnd reports) := of_none rfl

theorem learnedOffsetUpdate : Statement .learnedOffsetUpdate := of_none rfl

theorem relaxationHoldEnd : Statement .relaxationHoldEnd := of_none rfl

theorem vledAdjStep (vMeas : Nat) : Statement (.vledAdjStep vMeas) := of_none rfl

theorem headroomHwStep (headroom : Nat) : Statement (.headroomHwStep headroom) := of_none rfl

theorem scrubRead (r : ScrubResult) : Statement (.scrubRead r) := of_none rfl

theorem cfgCrcPass (flipShared flipLocal : Word) : Statement (.cfgCrcPass flipShared flipLocal) := of_none rfl

theorem cfgStaleTimeout (part : Partition) : Statement (.cfgStaleTimeout part) := of_none rfl

theorem tpoPulse (x : Fin 2) : Statement (.tpoPulse x) := of_none rfl

theorem tpoWindowClose (x : Fin 2) : Statement (.tpoWindowClose x) := of_none rfl

theorem sinEdge (n : Fin 4) (high : Bool) : Statement (.sinEdge n high) := of_none rfl

theorem heartbeatTimeout : Statement .heartbeatTimeout := of_none rfl

theorem canFrame (f : CanFrame) : Statement (.canFrame f) := of_none rfl

theorem canTimeout : Statement .canTimeout := of_none rfl

theorem degradeRelease (source : Byte) : Statement (.degradeRelease source) := of_none rfl

theorem faultNRelease : Statement .faultNRelease := of_none rfl

theorem watchdogExpiry (core : CoreId) : Statement (.watchdogExpiry core) := of_none rfl

theorem coreReloadDone (core : CoreId) : Statement (.coreReloadDone core) := of_none rfl

theorem sessionTimeout : Statement .sessionTimeout := of_none rfl

theorem trngHealthRestored : Statement .trngHealthRestored := of_none rfl

theorem flashWriteDone (ok : Bool) : Statement (.flashWriteDone ok) := of_none rfl

theorem portSignalDetect (port : Fin 4) : Statement (.portSignalDetect port) := of_none rfl

theorem helloSend (port : Fin 4) : Statement (.helloSend port) := of_none rfl

theorem hello (port : Fin 4) (h : FrameHdr) (p : HelloPl) : Statement (.hello port h p) := of_none rfl

theorem acknak (port : Fin 4) (h : FrameHdr) : Statement (.acknak port h) := of_none rfl

theorem acknakTimer (port : Fin 4) : Statement (.acknakTimer port) := of_none rfl

theorem retransmitTimeout (port : Fin 4) : Statement (.retransmitTimeout port) := of_none rfl

theorem portDown (port : Fin 4) (reason : Byte) : Statement (.portDown port reason) := of_none rfl

theorem timeSync (port : Fin 4) (h : FrameHdr) (p : TimeSyncPl) : Statement (.timeSync port h p) := of_none rfl

theorem timeSyncSend : Statement .timeSyncSend := of_none rfl

theorem timeSyncTimeout : Statement .timeSyncTimeout := of_none rfl

theorem pdelayTimer (port : Fin 4) : Statement (.pdelayTimer port) := of_none rfl

theorem pdelayReq (port : Fin 4) (h : FrameHdr) (n : Word) : Statement (.pdelayReq port h n) := of_none rfl

theorem pdelayResp (port : Fin 4) (h : FrameHdr) (n : Word) (t2 t3 : Dword) : Statement (.pdelayResp port h n t2 t3) := of_none rfl

theorem schedule (port : Fin 4) (h : FrameHdr) (p : SchedulePl) : Statement (.schedule port h p) := of_none rfl

theorem digest (port : Fin 4) (h : FrameHdr) (p : DigestPl) : Statement (.digest port h p) := of_none rfl

theorem state (port : Fin 4) (h : FrameHdr) (p : StatePl) : Statement (.state port h p) := of_none rfl

theorem enum (port : Fin 4) (h : FrameHdr) (p : EnumPl) : Statement (.enum port h p) := of_none rfl

theorem enumeration : Statement .enumeration := of_none rfl

theorem cmd (port : Fin 4) (h : FrameHdr) (p : CmdHead) (data : BitVec 512) : Statement (.cmd port h p data) := of_none rfl

theorem e2eAck (port : Fin 4) (h : FrameHdr) (p : E2ePl) : Statement (.e2eAck port h p) := of_none rfl

theorem cpl (port : Fin 4) (h : FrameHdr) (p : CplPl) : Statement (.cpl port h p) := of_none rfl

theorem event (port : Fin 4) (h : FrameHdr) (e : Event) : Statement (.event port h e) := of_none rfl

theorem bulk (port : Fin 4) (h : FrameHdr) (p : BulkPl) : Statement (.bulk port h p) := of_none rfl

theorem cmdRetryTimer (ring : Fin 16) (seq : Word) (target : BitVec 10) : Statement (.cmdRetryTimer ring seq target) := of_none rfl

theorem cplRetryTimer (origin : BitVec 10) (ring : Fin 16) (seq : Word) : Statement (.cplRetryTimer origin ring seq) := of_none rfl

theorem bulkRetryTimer (stream : Word) (offset : Word) : Statement (.bulkRetryTimer stream offset) := of_none rfl

theorem memberLeft (engine : BitVec 10) : Statement (.memberLeft engine) := of_none rfl

theorem divergentEnter : Statement .divergentEnter := of_none rfl

theorem divergentLeave : Statement .divergentLeave := of_none rfl

theorem tickSyncEntry : Statement .tickSyncEntry := of_none rfl

theorem leadLost : Statement .leadLost := of_none rfl

theorem handback : Statement .handback := of_none rfl

theorem powerEntryDrained : Statement .powerEntryDrained := of_none rfl

theorem powerEntryDark : Statement .powerEntryDark := of_none rfl

theorem wakePin : Statement .wakePin := of_none rfl

theorem canRxWake : Statement .canRxWake := of_none rfl

theorem traceSignalWake (lane : Fin 8) : Statement (.traceSignalWake lane) := of_none rfl

theorem teamTimeAlarm : Statement .teamTimeAlarm := of_none rfl

theorem wakeComplete : Statement .wakeComplete := of_none rfl

theorem pwrEnReassert : Statement .pwrEnReassert := of_none rfl

theorem rstNAssert : Statement .rstNAssert := of_none rfl

theorem rstNRelease : Statement .rstNRelease := of_none rfl

theorem clockFail (c : ClockId) : Statement (.clockFail c) := of_none rfl

theorem vaonPowerOn : Statement .vaonPowerOn := of_none rfl

theorem vaonLoss : Statement .vaonLoss := of_none rfl

theorem pwrEnAssert : Statement .pwrEnAssert := of_none rfl

theorem suppliesValid : Statement .suppliesValid := of_none rfl

theorem supplyTimeout : Statement .supplyTimeout := of_none rfl

theorem otpLoadDone (ok : Bool) : Statement (.otpLoadDone ok) := of_none rfl

theorem dramTrained : Statement .dramTrained := of_none rfl

theorem startupFirstTick : Statement .startupFirstTick := of_none rfl

theorem startupReady : Statement .startupReady := of_none rfl

theorem prbsLock (lane : Fin 8) : Statement (.prbsLock lane) := of_none rfl

theorem prbsLockLoss (lane : Fin 8) : Statement (.prbsLockLoss lane) := of_none rfl

theorem traceFrameDiscarded (port : Fin 4) (why : DiscardWhy) (reliable : Bool) : Statement (.traceFrameDiscarded port why reliable) := of_none rfl

theorem aerErrorLogged (correctable : Bool) : Statement (.aerErrorLogged correctable) := of_none rfl

theorem lockoutExpiry : Statement .lockoutExpiry := of_none rfl

theorem trngHealthFailure : Statement .trngHealthFailure := of_none rfl

theorem configSpaceReady : Statement .configSpaceReady := of_none rfl

end Sys2Proof.Laws.Entry

/-- Every command. -/
theorem Sys2Proof.Laws.entry_statement (i : Sys2Proof.Instr) : Sys2Proof.Laws.Entry.Statement i := by
  cases i
  all_goals first
    | exact Entry.of_none rfl
    | exact Entry.nop _
    | exact Entry.echo _ _
    | exact Entry.ident _ _
    | exact Entry.heartbeat _
    | exact Entry.poolAlloc _ _ _ _
    | exact Entry.poolFree _ _
    | exact Entry.poolQuery _ _ _
    | exact Entry.copyIn _ _ _ _ _
    | exact Entry.copyOut _ _ _ _ _
    | exact Entry.fill _ _ _ _ _ _
    | exact Entry.surfaceDefine _ _ _
    | exact Entry.surfaceRetire _ _
    | exact Entry.layerSet _ _
    | exact Entry.layerPost _ _
    | exact Entry.shapesPost _ _ _ _ _
    | exact Entry.captureSet _ _ _ _
    | exact Entry.sceneCommit _ _
    | exact Entry.sceneQuery _ _ _
    | exact Entry.timingSet _ _
    | exact Entry.syncSet _ _
    | exact Entry.pwmSet _ _
    | exact Entry.curbSet _ _
    | exact Entry.derateSet _ _
    | exact Entry.cutoffSet _ _
    | exact Entry.probeSet _ _ _
    | exact Entry.pixmapRead _ _
    | exact Entry.neighbourFillSet _ _ _
    | exact Entry.hallmarkSelect _ _ _ _
    | exact Entry.safetyStatus _
    | exact Entry.fallbackSet _ _
    | exact Entry.canListenSet _ _
    | exact Entry.roadMode _ _ _ _
    | exact Entry.teamConfig _ _
    | exact Entry.teamStatus _ _
    | exact Entry.teamPair _ _
    | exact Entry.timeSet _ _ _
    | exact Entry.timeQuery _ _
    | exact Entry.powerState _ _
    | exact Entry.calRun _ _ _
    | exact Entry.calLoadMap _ _ _
    | exact Entry.calStore _
    | exact Entry.calRead _ _ _ _ _
    | exact Entry.updateOpen _ _
    | exact Entry.updateWrite _ _ _ _ _
    | exact Entry.updateClose _
    | exact Entry.updateConfirm _
    | exact Entry.updateStatus _
    | exact Entry.authLogin _ _ _
    | exact Entry.authLogout _
    | exact Entry.protectedWrite _ _ _
    | exact Entry.passwordSet _ _ _ _ _ _
    | exact Entry.logRead _ _ _ _ _
    | exact Entry.logArchive _ _
    | exact Entry.settingsRead _ _ _ _ _
    | exact Entry.settingsWrite _ _ _ _
    | exact Entry.cfgCommit _
    | exact Entry.linkTest _ _
    | exact Entry.eyeScan _ _ _ _ _
    | exact Entry.faultRead _ _
    | exact Entry.faultAck _ _
    | exact Entry.thermRearm _
end

