-- ==== Sys2Proof/Laws/Entries.lean ====
section
/-!
SUPPORT. The bytes of an entry (Table 10.4): its opcode, and the fields that a reader finds at their places.
-/
namespace Sys2Proof.Laws

open Sys2Proof.Machine

/-- The operands of an entry as one number: a multiple of 2^128, since they begin at byte 16. -/
theorem ops_dvd (ops : List (Nat × Nat)) (h : ∀ e ∈ ops, 16 ≤ e.1) :
    2 ^ 128 ∣ (ops.map fun e => e.2 * 2 ^ (8 * e.1)).sum := by
  induction ops with
  | nil => simp
  | cons e l ih =>
    simp only [List.map_cons, List.sum_cons]
    refine Dvd.dvd.add (Dvd.dvd.mul_left (Nat.pow_dvd_pow 2 ?_) _) (ih fun x hx => h x (by simp [hx]))
    have := h e (by simp)
    omega

set_option exponentiation.threshold 600 in
/-- Bits of an entry below bit 512 are those of the sum of its fields. -/
theorem entry_mod (p : Spelled) (k : Nat) (hk : k ≤ 512) :
    p.entry.toNat % 2 ^ k
      = (p.row.op + 2 ^ 8 * Sub.flags p.sub + 2 ^ 16 * p.sub.target.toNat + 2 ^ 32 * p.sub.seq.toNat
          + 2 ^ 64 * p.sub.tag.toNat + (p.ops.map fun e => e.2 * 2 ^ (8 * e.1)).sum) % 2 ^ k := by
  simp only [Spelled.entry, BitVec.toNat_ofNat]
  exact Nat.mod_mod_of_dvd _ (Nat.pow_dvd_pow 2 hk)

/-- `OPCODE` of the entry of a command. -/
theorem entry_op (p : Spelled) (h : p.row.op < 256) (ho : ∀ e ∈ p.ops, 16 ≤ e.1) :
    p.entry.toNat % 256 = p.row.op := by
  have hd := ops_dvd p.ops ho
  have := entry_mod p 8 (by norm_num)
  norm_num at this
  rw [this]
  omega

/-- The head of an entry, bytes 0 to 15. -/
theorem entry_head (p : Spelled) (h : p.row.op < 256) (ho : ∀ e ∈ p.ops, 16 ≤ e.1) :
    p.entry.toNat % 2 ^ 128
      = p.row.op + 2 ^ 8 * Sub.flags p.sub + 2 ^ 16 * p.sub.target.toNat + 2 ^ 32 * p.sub.seq.toNat
          + 2 ^ 64 * p.sub.tag.toNat := by
  have hd := ops_dvd p.ops ho
  rw [entry_mod p 128 (by norm_num)]
  have h1 : Sub.flags p.sub < 16 := by
    simp only [Sub.flags, flag]
    split_ifs <;> omega
  have h2 := p.sub.target.isLt
  have h3 := p.sub.seq.isLt
  have h4 := p.sub.tag.isLt
  obtain ⟨c, hc⟩ := hd
  rw [hc]
  norm_num at h2 h3 h4 ⊢
  omega

/-- Fields by byte offset, length in bytes and value. -/
abbrev FieldsOk (k : Nat) (T : List (Nat × Nat × Nat)) : Prop :=
  T.Pairwise (fun a b => a.1 + a.2.1 ≤ b.1) ∧ ∀ t ∈ T, k ≤ t.1 ∧ t.2.2 < 2 ^ (8 * t.2.1)

/-- The number that fields spell. -/
def fieldSum (T : List (Nat × Nat × Nat)) : Nat := (T.map fun t => t.2.2 * 2 ^ (8 * t.1)).sum

/-- Fields from byte `k` on are a multiple of 2^(8k). -/
theorem fieldSum_dvd (k : Nat) (T : List (Nat × Nat × Nat)) (h : ∀ t ∈ T, k ≤ t.1) :
    2 ^ (8 * k) ∣ fieldSum T := by
  induction T with
  | nil => simp [fieldSum]
  | cons e l ih =>
    simp only [fieldSum, List.map_cons, List.sum_cons]
    refine Dvd.dvd.add (Dvd.dvd.mul_left (Nat.pow_dvd_pow 2 ?_) _) (ih fun x hx => h x (by simp [hx]))
    have := h e (by simp)
    omega

/-- A field is read back at its place: `r` is what lies below the first field. -/
theorem fieldSum_at (T : List (Nat × Nat × Nat)) : ∀ (k r : Nat), FieldsOk k T → r < 2 ^ (8 * k) → ∀ t ∈ T,
    (r + fieldSum T) / 2 ^ (8 * t.1) % 2 ^ (8 * t.2.1) = t.2.2 := by
  induction T with
  | nil => intro _ _ _ _ t ht; simp at ht
  | cons e l ih =>
    intro k r h hr t ht
    obtain ⟨hp, hv⟩ := h
    have hpc := List.pairwise_cons.1 hp
    have he := hv e (by simp)
    have hrest : fieldSum (e :: l) = e.2.2 * 2 ^ (8 * e.1) + fieldSum l := by simp [fieldSum]
    rw [hrest]
    have hr1 : r < 2 ^ (8 * e.1) := lt_of_lt_of_le hr (Nat.pow_le_pow_right (by norm_num) (by omega))
    rcases List.mem_cons.1 ht with rfl | ht
    · obtain ⟨c, hc⟩ := fieldSum_dvd (t.1 + t.2.1) l (fun x hx => hpc.1 x hx)
      rw [hc, mul_add, pow_add]
      have : r + (t.2.2 * 2 ^ (8 * t.1) + 2 ^ (8 * t.1) * 2 ^ (8 * t.2.1) * c)
          = r + 2 ^ (8 * t.1) * (t.2.2 + 2 ^ (8 * t.2.1) * c) := by ring
      rw [this, Nat.add_mul_div_left _ _ (by positivity), Nat.div_eq_of_lt hr1, zero_add,
        Nat.add_mul_mod_self_left, Nat.mod_eq_of_lt he.2]
    · rw [← add_assoc]
      refine ih (e.1 + e.2.1) _ ⟨hpc.2, fun x hx => ⟨hpc.1 x hx, (hv x (by simp [hx])).2⟩⟩ ?_ t ht
      rw [mul_add, pow_add]
      calc r + e.2.2 * 2 ^ (8 * e.1) < 2 ^ (8 * e.1) + e.2.2 * 2 ^ (8 * e.1) := by omega
        _ = (e.2.2 + 1) * 2 ^ (8 * e.1) := by ring
        _ ≤ 2 ^ (8 * e.2.1) * 2 ^ (8 * e.1) := Nat.mul_le_mul_right _ he.2
        _ = _ := by ring

/-- An operand of an entry is read back at its place, whatever the order in which the operands are listed. -/
theorem entry_field (p : Spelled) (T : List (Nat × Nat × Nat)) (hop : p.row.op < 256)
    (hT : p.ops.Perm (T.map fun t => (t.1, t.2.2))) (hf : FieldsOk 16 T) {t : Nat × Nat × Nat} (ht : t ∈ T)
    (hl : t.1 + t.2.1 ≤ 64) : p.entry.toNat / 2 ^ (8 * t.1) % 2 ^ (8 * t.2.1) = t.2.2 := by
  have hsum : (p.ops.map fun e => e.2 * 2 ^ (8 * e.1)).sum = fieldSum T := by
    rw [(hT.map _).sum_eq, List.map_map]; rfl
  have h1 : Sub.flags p.sub < 16 := by simp only [Sub.flags, flag]; split_ifs <;> omega
  have h2 := p.sub.target.isLt
  have h3 := p.sub.seq.isLt
  have h4 := p.sub.tag.isLt
  rw [← Nat.mod_mul_right_div_self, ← pow_add, entry_mod p _ (by omega), hsum, pow_add, Nat.mod_mul_right_div_self]
  refine fieldSum_at T 16 _ hf ?_ t ht
  norm_num at h2 h3 h4 ⊢
  omega

end Sys2Proof.Laws
end

