-- ==== Sys2Proof/Laws/Keeps.lean ====
section
/-!
SUPPORT. What reporting cannot change: sending, events, completions, raises and the fallback fill that a raise can bring
about leave the pool, the clocks, the identity, the fault map (but for the parts of the period that fast-dark ends),
housekeeping, flash, power, the array's side A, the running
frame's number and instant, the parameters, the registers and the surfaces as they are.
-/
namespace Sys2Proof.Laws

open Sys2Proof.Machine

/-- `t` agrees with `s` on everything that reporting leaves alone. -/
structure Keeps (s t : State) : Prop where
  pool : t.pool = s.pool
  clk : t.clk = s.clk
  idn : t.idn = s.idn
  hk : t.hk = s.hk
  hlt : t.hlt = { s.hlt with spans := t.hlt.spans, spanAt := t.hlt.spanAt }
  fls : t.fls = s.fls
  pwr : t.pwr = s.pwr
  sec : t.sec = s.sec
  arrA : t.arr.a = s.arr.a
  crcA : t.arr.crcA = s.arr.crcA
  frame : t.frm.frame = s.frm.frame
  tickLoc : t.frm.tickLoc = s.frm.tickLoc
  params : t.frm.params = s.frm.params
  force : t.reg.force = s.reg.force
  surfs : t.scn.surfs = s.scn.surfs
  pending : t.pending = s.pending

/-- Nothing at all is changed. -/
theorem Keeps.refl (s : State) : Keeps s s := ⟨rfl, rfl, rfl, rfl, rfl, rfl, rfl, rfl, rfl, rfl, rfl, rfl, rfl, rfl, rfl, rfl⟩

/-- One after the other. -/
theorem Keeps.trans {s t u : State} (h : Keeps s t) (k : Keeps t u) : Keeps s u :=
  ⟨k.pool.trans h.pool, k.clk.trans h.clk, k.idn.trans h.idn, k.hk.trans h.hk, k.hlt.trans (by rw [h.hlt]), k.fls.trans h.fls,
    k.pwr.trans h.pwr, k.sec.trans h.sec, k.arrA.trans h.arrA, k.crcA.trans h.crcA, k.frame.trans h.frame,
    k.tickLoc.trans h.tickLoc, k.params.trans h.params, k.force.trans h.force, k.surfs.trans h.surfs,
    k.pending.trans h.pending⟩

/-- A change of the link. -/
theorem keeps_mapBus (s : State) (f : Bus → Bus) : Keeps s (s.mapBus f) :=
  ⟨rfl, rfl, rfl, rfl, rfl, rfl, rfl, rfl, rfl, rfl, rfl, rfl, rfl, rfl, rfl, rfl⟩
/-- A change of the rings. -/
theorem keeps_mapRng (s : State) (f : Rngs → Rngs) : Keeps s (s.mapRng f) :=
  ⟨rfl, rfl, rfl, rfl, rfl, rfl, rfl, rfl, rfl, rfl, rfl, rfl, rfl, rfl, rfl, rfl⟩
/-- A change of the flight log. -/
theorem keeps_mapLg (s : State) (f : Log → Log) : Keeps s (s.mapLg f) :=
  ⟨rfl, rfl, rfl, rfl, rfl, rfl, rfl, rfl, rfl, rfl, rfl, rfl, rfl, rfl, rfl, rfl⟩
/-- A change of the safety inputs. -/
theorem keeps_mapSaf (s : State) (f : Saf → Saf) : Keeps s (s.mapSaf f) :=
  ⟨rfl, rfl, rfl, rfl, rfl, rfl, rfl, rfl, rfl, rfl, rfl, rfl, rfl, rfl, rfl, rfl⟩
/-- A change of the team. -/
theorem keeps_mapTm (s : State) (f : Team → Team) : Keeps s (s.mapTm f) :=
  ⟨rfl, rfl, rfl, rfl, rfl, rfl, rfl, rfl, rfl, rfl, rfl, rfl, rfl, rfl, rfl, rfl⟩
/-- A change of the trace links. -/
theorem keeps_mapTrc (s : State) (f : Trc → Trc) : Keeps s (s.mapTrc f) :=
  ⟨rfl, rfl, rfl, rfl, rfl, rfl, rfl, rfl, rfl, rfl, rfl, rfl, rfl, rfl, rfl, rfl⟩
/-- A change of a calibration run. -/
theorem keeps_mapCal (s : State) (f : Cal → Cal) : Keeps s (s.mapCal f) :=
  ⟨rfl, rfl, rfl, rfl, rfl, rfl, rfl, rfl, rfl, rfl, rfl, rfl, rfl, rfl, rfl, rfl⟩
/-- A change of the fault latches. -/
theorem keeps_mapFlt (s : State) (f : Flt → Flt) : Keeps s (s.mapFlt f) :=
  ⟨rfl, rfl, rfl, rfl, rfl, rfl, rfl, rfl, rfl, rfl, rfl, rfl, rfl, rfl, rfl, rfl⟩

/-- A choice between two that keep it. -/
theorem keeps_ite {c : Prop} [Decidable c] {s t u : State} (h : Keeps s t) (k : Keeps s u) :
    Keeps s (if c then t else u) := by split <;> assumption

/-- A loop of steps that each keep it. -/
theorem keeps_foldl {α : Type} (f : State → α → State) (h : ∀ s a, Keeps s (f s a)) :
    ∀ (l : List α) (s : State), Keeps s (l.foldl f s)
  | [], s => Keeps.refl s
  | a :: l, s => (h s a).trans (keeps_foldl f h l _)

theorem keeps_mapPort (p : Fin 4) (f : Port → Port) (s : State) : Keeps s (mapPort p f s) := keeps_mapTrc ..
theorem keeps_portEmit (p : Fin 4) (r : Word) (b : Bool) (f : TFrame) (s : State) : Keeps s (portEmit p r b f s) :=
  (keeps_mapTrc s _).trans (keeps_mapPort ..)
theorem keeps_mapRing (n : Nat) (f : Ring → Ring) (s : State) : Keeps s (mapRing n f s) := keeps_mapRng ..
theorem keeps_logAdd (k c : Nat) (t : Dword) (d : List Byte) (s : State) : Keeps s (logAdd k c t d s) := keeps_mapLg ..

/-- Sending a frame. -/
theorem keeps_portSend (p : Fin 4) (f : TFrame) (s : State) : Keeps s (portSend p f s) := by
  unfold portSend
  exact keeps_ite (Keeps.refl s) (keeps_ite (keeps_portEmit ..)
    (keeps_ite ((keeps_portEmit ..).trans (keeps_mapPort ..)) (keeps_mapPort ..)))

theorem keeps_flood (b : Bool) (e : Option (Fin 4)) (f : TFrame) (s : State) : Keeps s (flood b e f s) :=
  keeps_foldl _ (fun s _ => keeps_ite (Keeps.refl s) (keeps_portSend ..)) _ _
theorem keeps_sendDown (f : TFrame) (s : State) : Keeps s (sendDown f s) := keeps_flood ..
theorem keeps_sendUp (f : TFrame) (s : State) : Keeps s (sendUp f s) := by
  unfold sendUp
  split
  · exact keeps_portSend ..
  · exact Keeps.refl s

theorem keeps_busSend (o : BusOut) (s : State) : Keeps s (busSend o s) := keeps_mapBus ..
theorem keeps_msixSend (v : Nat) (s : State) : Keeps s (msixSend v s) := by
  unfold msixSend
  exact keeps_ite (keeps_mapBus ..) (keeps_busSend ..)

/-- A cause of the engine interrupt. -/
theorem keeps_intCause (c : Nat) (s : State) : Keeps s (intCause c s) := by
  have h (x : BitVec 6) : Keeps s (s.mapReg fun r => { r with intStat := x }) :=
    ⟨rfl, rfl, rfl, rfl, rfl, rfl, rfl, rfl, rfl, rfl, rfl, rfl, rfl, rfl, rfl, rfl⟩
  unfold intCause
  exact keeps_ite ((h _).trans (keeps_msixSend ..)) (h _)

theorem keeps_eqModCheck (s : State) : Keeps s (eqModCheck s) := by
  unfold eqModCheck
  exact keeps_ite ((keeps_msixSend ..).trans (keeps_mapRng ..)) (Keeps.refl s)

/-- An entry of the event ring. -/
theorem keeps_eqWrite (e : Event) (s : State) : Keeps s (eqWrite e s) := by
  unfold eqWrite
  refine keeps_ite (Keeps.refl s) (keeps_ite ((keeps_mapRng s _).trans (keeps_intCause ..)) ?_)
  exact ((keeps_busSend ..).trans (keeps_mapRng ..)).trans (keeps_eqModCheck ..)

theorem keeps_forwardEvent (e : Event) (s : State) : Keeps s (forwardEvent e s) := by
  unfold forwardEvent
  exact keeps_ite (Keeps.refl s) (keeps_ite (keeps_mapTm ..) ((keeps_sendUp ..).trans (keeps_mapTm ..)))

/-- An event. -/
theorem keeps_emitAt (t : Dword) (c : Nat) (d : List Byte) (s : State) : Keeps s (emitAt t c d s) :=
  (((keeps_mapRng s _).trans (keeps_logAdd ..)).trans (keeps_eqWrite ..)).trans (keeps_forwardEvent ..)
theorem keeps_emit (c : Nat) (d : List Byte) (s : State) : Keeps s (emit c d s) := keeps_emitAt ..

theorem keeps_cqModCheck (n : Nat) (s : State) : Keeps s (cqModCheck n s) := by
  unfold cqModCheck
  exact keeps_ite ((keeps_msixSend ..).trans (keeps_mapRing ..)) (Keeps.refl s)
theorem keeps_cqWrite (op : Nat) (ioc : Bool) (c : Completion) (s : State) : Keeps s (cqWrite op ioc c s) := by
  have hl : Keeps s (logCompletion op none c s) := keeps_logAdd ..
  unfold cqWrite
  exact keeps_ite hl (keeps_ite
    (((hl.trans (keeps_busSend ..)).trans (keeps_mapRing ..)).trans (keeps_cqModCheck ..))
    ((hl.trans (keeps_busSend ..)).trans (keeps_mapRing ..)))
theorem keeps_heldRelease (op n : Nat) (ioc : Bool) (seq : Word) (s : State) :
    Keeps s (heldRelease op n ioc seq s) := by
  unfold heldRelease
  dsimp only
  split
  · exact Keeps.refl s
  · exact (keeps_foldl _ (fun s _ => keeps_cqWrite ..) _ _).trans (keeps_mapRing ..)

theorem keeps_mutedDone (op : Nat) (sub : Sub) (st : Half) (res t : Dword) (s : State) :
    Keeps s (mutedDone op sub st res t s) := by
  unfold mutedDone
  exact keeps_ite (keeps_mapRing ..) (((keeps_mapRing ..).trans (keeps_mapRing ..)).trans (keeps_heldRelease ..))

/-- The completion of a command of this engine's own ring. -/
theorem keeps_ownDone (op : Nat) (sub : Sub) (st : Half) (res t : Dword) (s : State) :
    Keeps s (ownDone op sub st res t s) := by
  unfold ownDone
  exact keeps_ite (keeps_mutedDone ..)
    (((keeps_mapRing ..).trans (keeps_cqWrite ..)).trans (keeps_heldRelease ..))

theorem keeps_cplSend (op : Nat) (o : BitVec 10) (d r : Bool) (a : List (BitVec 10)) (c : Completion) (s : State) :
    Keeps s (cplSend op o d r a c s) := by
  have h (f : Team → Team) : Keeps s ((logCompletion op (some o) c s).mapTm f) :=
    (keeps_logAdd ..).trans (keeps_mapTm ..)
  unfold cplSend
  exact keeps_ite ((h _).trans (keeps_sendDown ..)) ((h _).trans (keeps_sendUp ..))

theorem keeps_fwdSettle (f : Forward) (s : State) : Keeps s (fwdSettle f s) := by
  unfold fwdSettle
  refine keeps_ite ?_ (keeps_mapTm ..)
  dsimp only
  split
  · exact ((keeps_mapTm s _).trans (keeps_mapTm ..)).trans (keeps_ownDone ..)
  · exact ((keeps_mapTm s _).trans (keeps_mapTm ..)).trans (keeps_cplSend ..)

theorem keeps_fwdMark (f : Option Forward) (e : BitVec 10) (g : TargetState → TargetState) (s : State) :
    Keeps s (fwdMark f e g s) := by
  unfold fwdMark
  split
  · exact Keeps.refl s
  · exact keeps_fwdSettle ..

theorem keeps_otherDone (op : Nat) (sub : Sub) (o : BitVec 10) (st : Half) (res t : Dword) (s : State) :
    Keeps s (otherDone op sub o st res t s) := by
  have h (f : OriginWindow → OriginWindow) : Keeps s (mapOrigin o sub.ring.val f s) := keeps_mapTm ..
  unfold otherDone
  exact keeps_ite (((h _).trans (keeps_logAdd ..)).trans (keeps_fwdMark ..)) ((h _).trans (keeps_cplSend ..))

/-- The completion of any command. -/
theorem keeps_finishAt (op : Nat) (sub : Sub) (st : Half) (res t : Dword) (s : State) :
    Keeps s (finishAt op sub st res t s) := by
  unfold finishAt
  dsimp only
  split
  · exact keeps_otherDone ..
  · split
    · exact keeps_fwdMark ..
    · exact keeps_ownDone ..

theorem keeps_finish (op : Nat) (sub : Sub) (st : Half) (res : Dword) (s : State) : Keeps s (finish op sub st res s) :=
  keeps_finishAt ..

theorem keeps_keepRunning (sub : Sub) (s : State) : Keeps s (keepRunning sub s) := by
  unfold keepRunning
  split
  · exact keeps_mapRing ..
  · exact Keeps.refl s

theorem keeps_clearWrite (s : State) : Keeps s (clearWrite s) :=
  ⟨rfl, rfl, rfl, rfl, rfl, rfl, rfl, rfl, rfl, rfl, rfl, rfl, rfl, rfl, rfl, rfl⟩
theorem keeps_postsFresh (s : State) : Keeps s (postsFresh s) :=
  ⟨rfl, rfl, rfl, rfl, rfl, rfl, rfl, rfl, rfl, rfl, rfl, rfl, rfl, rfl, rfl, rfl⟩

/-- A frame being written that turns into the fallback scene. -/
theorem keeps_fillInstead (m : Bool) (s : State) : Keeps s (fillInstead m s) := by
  unfold fillInstead
  split
  · exact Keeps.refl s
  · refine keeps_ite (((keeps_postsFresh s).trans (keeps_clearWrite _)).trans ?_) (Keeps.refl s)
    exact ⟨rfl, rfl, rfl, rfl, rfl, rfl, rfl, rfl, rfl, rfl, rfl, rfl, rfl, rfl, rfl, rfl⟩

theorem keeps_calAbort (s : State) : Keeps s (calAbort s) := by
  unfold calAbort
  split
  · exact Keeps.refl s
  · exact ((keeps_mapCal s _).trans (keeps_finish ..)).trans (keeps_fillInstead ..)
theorem keeps_calLeave (s : State) : Keeps s (calLeave s) := (keeps_mapCal s _).trans (keeps_calAbort _)

theorem keeps_safetyEmit (f : Word) (st scene : Nat) (m : BitVec 12) (s : State) :
    Keeps s (safetyEmit f st scene m s) := (keeps_emit ..).trans (keeps_mapSaf ..)
theorem keeps_safetyEvent (f : Word) (st scene : Nat) (m : BitVec 12) (s : State) :
    Keeps s (safetyEvent f st scene m s) := by
  unfold safetyEvent
  exact keeps_ite (Keeps.refl s)
    (keeps_ite ((keeps_safetyEmit ..).trans (keeps_intCause ..)) (keeps_safetyEmit ..))
theorem keeps_stateFlood (k : Nat) (d : List Byte) (s : State) : Keeps s (stateFlood k d s) := by
  unfold stateFlood
  exact keeps_ite (keeps_flood ..) (Keeps.refl s)
theorem keeps_safetyNote (b : BitVec 12) (s : State) : Keeps s (safetyNote b s) := by
  unfold safetyNote
  have h (c : BitVec 12) : Keeps s
      (if safeLevel b < 2 ∧ safeLevel c = 2 then intCause 2 (safetyEmit s.frm.frame 2 0xFF c s) else s) :=
    keeps_ite ((keeps_safetyEmit ..).trans (keeps_intCause ..)) (Keeps.refl s)
  exact keeps_ite (((h _).trans (keeps_stateFlood ..)).trans (keeps_mapTm ..)) (h _)

/-- What the rise of a cause brings about. -/
theorem keeps_causeArise (b : BitVec 12) (s : State) : Keeps s (causeArise b s) := by
  unfold causeArise
  exact keeps_ite (Keeps.refl s)
    (((keeps_calAbort s).trans (keeps_ite (Keeps.refl _) (keeps_fillInstead ..))).trans (keeps_safetyNote ..))

theorem keeps_darkAdd (c : DarkCause) (s : State) : Keeps s (darkAdd c s) :=
  ⟨rfl, rfl, rfl, rfl, rfl, rfl, rfl, rfl, rfl, rfl, rfl, rfl, rfl, rfl, rfl, rfl⟩

/-- A raise of a fault source. -/
theorem keeps_raiseMin (src m : Nat) (d : List Byte) (s : State) : Keeps s (raiseMin src m d s) := by
  have hif {c : Prop} [Decidable c] (f : State → State) (h : ∀ s, Keeps s (f s)) (s : State) :
      Keeps s (if c then f s else s) := keeps_ite (h s) (Keeps.refl s)
  unfold raiseMin
  refine keeps_ite (Keeps.refl s) ?_
  have h1 : Keeps s (latchFirst src (s.sevOf src m) s.now (logAdd 5 src s.now d s)) :=
    (keeps_logAdd ..).trans (keeps_mapFlt ..)
  refine Keeps.trans ?_ (keeps_causeArise ..)
  refine Keeps.trans ?_ (hif calLeave keeps_calLeave _)
  refine Keeps.trans ?_ (hif _ (fun s => keeps_emit ..) _)
  refine Keeps.trans ?_ (hif _ (keeps_darkAdd _) _)
  refine Keeps.trans ?_ (keeps_mapFlt ..)
  refine Keeps.trans ?_ (hif (latchSet src (s.sevOf src m)) (fun s => keeps_mapFlt ..) _)
  refine Keeps.trans ?_ (hif _ (keeps_intCause _) _)
  exact h1.trans (hif (fun s => intCause 0 (pinAssert s)) (fun s => (keeps_mapFlt s _).trans (keeps_intCause ..)) _)
theorem keeps_raise (src : Nat) (d : List Byte) (s : State) : Keeps s (raise src d s) := keeps_raiseMin ..

end Sys2Proof.Laws
end

