-- ==== Sys2Proof/Laws/Ring.lean ====
section
/-!
SUPPORT. Ring commands: a command that runs executes its body in the state `begun` (the lemma that the proofs about a
ring command cite), and what the beginning of an entry leaves unchanged.
-/
namespace Sys2Proof.Laws

open Sys2Proof.Machine Sys2Proof.Claims

@[simp] theorem startWindow_pwr (p : Spelled) (s : State) : (startWindow p s).pwr = s.pwr := by
  unfold startWindow; split <;> rfl
@[simp] theorem startWindow_sec (p : Spelled) (s : State) : (startWindow p s).sec = s.sec := by
  unfold startWindow; split <;> rfl
@[simp] theorem startWindow_tm_divergent (p : Spelled) (s : State) :
    (startWindow p s).tm.divergent = s.tm.divergent := by unfold startWindow; split <;> rfl
@[simp] theorem startWindow_tm_excluded (p : Spelled) (s : State) :
    (startWindow p s).tm.excluded = s.tm.excluded := by unfold startWindow; split <;> rfl
@[simp] theorem startWindow_tm_id (p : Spelled) (s : State) : (startWindow p s).tm.id = s.tm.id := by
  unfold startWindow; split <;> rfl

@[simp] theorem startWindow_entryCheck (p q : Spelled) (s : State) :
    (startWindow p s).entryCheck q = s.entryCheck q := by simp [State.entryCheck]
@[simp] theorem startWindow_sessionOk (p : Spelled) (b : Sub) (s : State) :
    (startWindow p s).sessionOk b = s.sessionOk b := by simp [State.sessionOk]
@[simp] theorem startWindow_namesSelf (p : Spelled) (b : Sub) (s : State) :
    (startWindow p s).namesSelf b = s.namesSelf b := by simp [State.namesSelf]

/-- A ring command that runs executes its body. -/
theorem ringCmd_runs {i : Instr} {s : State} (body : State → State) (h : Runs i s) :
    ringCmd i body s = .next (body (begun i s)) := by
  cases hp : spelled i with
  | none => simp [Runs, hp] at h
  | some p =>
    simp only [Runs, hp] at h
    obtain ⟨h1, h2, h3, h4, h5, h6⟩ := h
    have hd : (s.tm.divergent && groupTarget p.sub.target) = false := by
      rcases h4 with h | h <;> simp [h]
    have he : (s.tm.excluded && p.sub.origin.isSome) = false := by
      rcases h5 with h | h <;> simp [h]
    simp only [ringCmd, begun, hp, h1, if_true, ringStart, startWindow_entryCheck, h2, startWindow_namesSelf, h3, runHere,
      startWindow_tm_divergent, startWindow_tm_excluded, hd, he]
    cases hs : p.row.session
    · simp
    · rcases h6 with h | h
      · simp [hs] at h
      · simp [h]

/-- The meaning of every ring command is `ringCmd` of its body. -/
theorem exec_ringCmd (i : Instr) (p : Spelled) (s : State) (h : spelled i = some p) :
    ∃ body, exec i s = ringCmd i body s := by
  cases i <;> first | (simp [spelled] at h; done) | exact ⟨_, rfl⟩

/-- A ring command that cannot start changes nothing. -/
theorem ringCmd_waits {i : Instr} {p : Spelled} {s : State} (body : State → State) (h : spelled i = some p)
    (hs : s.serves p = false) : ringCmd i body s = .next s := by
  simp [ringCmd, h, hs]

/-- A ring command that starts: the first failing check, the command, or its forwarding. -/
theorem ringCmd_starts {i : Instr} {p : Spelled} {s : State} (body : State → State) (h : spelled i = some p)
    (hs : s.serves p = true) : ringCmd i body s = .next (ringStart p (hostAnswer i) body s) := by
  simp [ringCmd, h, hs]

end Sys2Proof.Laws
end

