-- ==== Sys2Proof/Laws/Sets.lean ====
section
/-!
SUPPORT. Set commands (R236): a command whose body is `setCmd` arms as `ArmsFor` says.
-/
namespace Sys2Proof.Laws

open Sys2Proof.Machine Sys2Proof.Claims

/-- The FRAME operand is in order. -/
theorem frameOperandOk_iff (sub : Sub) (f : Word) : frameOperandOk sub f = true ↔ sub.atTick = true ∨ f = 0 := by
  simp [frameOperandOk]

/-- R236: what a set command with operands in order and something to change answers. -/
theorem setCmd_in_order (op : Nat) (sub : Sub) (mask : Half) (frame : Word) (shape : Bool) (check : Option Half)
    (changes : List Change) (own : Nat) (s : State) (h1 : ¬ ((!shape || !frameOperandOk sub frame) = true)) (h2 : mask ≠ 0) :
    setCmd op sub mask frame shape check changes own s
      = match check with
        | none => armSet op sub frame true changes own s
        | some st => if st = stBudget then armSet op sub frame false changes own s else finish op sub st 0 s := by
  rw [setCmd, if_neg h1, if_neg h2]
  cases check with
  | none => rfl
  | some st =>
    by_cases h : st = stBudget
    · simp [h]
    · have : (some st != some stBudget) = true := by simp [h]
      simp only [this, if_neg h]

/-- A command that runs `setCmd` in the state `begun` answers as a set command. -/
theorem armsFor_of_setCmd (i : Instr) (sub : Sub) (op : Nat) (mask : State → Half) (frame : Word)
    (shape : State → Bool) (check : State → Option Half) (changes : State → List Change) (own : State → Nat)
    (h : ∀ s, Runs i s → exec i s = .next (setCmd op sub (mask (begun i s)) frame (shape (begun i s))
      (check (begun i s)) (changes (begun i s)) (own (begun i s)) (begun i s))) :
    ArmsFor i sub op mask frame shape check changes own := by
  intro s hr b ok sel pass at_
  rw [h s hr]
  have hok : ok ↔ ¬ ((!shape b || !frameOperandOk sub frame) = true) := by
    rw [Bool.or_eq_true, not_or, Bool.not_eq_true', Bool.not_eq_true', Bool.not_eq_false, Bool.not_eq_false,
      frameOperandOk_iff]
  have hat : (if sub.atTick then frame else b.nextTick) = at_ := by simp [at_, State.nextTick]
  refine ⟨?_, ?_, ?_, ?_, ?_, ?_, ?_⟩
  · intro h1
    rw [hok, not_not] at h1
    simp only [setCmd, b] at *
    rw [if_pos h1]
  · rintro ⟨h1, h2⟩
    rw [hok] at h1
    simp only [setCmd, b] at *
    rw [if_neg h1, if_pos h2]
  · rintro st ⟨⟨h1, h2⟩, h3, h4⟩
    rw [setCmd_in_order _ _ _ _ _ _ _ _ _ (hok.1 h1) h2, h3]
    simp [h4, b]
  · rintro ⟨⟨⟨h1, h2⟩, h3⟩, h4, h5⟩
    rw [setCmd_in_order _ _ _ _ _ _ _ _ _ (hok.1 h1) h2]
    rcases h3 with h3 | h3 <;> simp [h3, armSet, h4, h5, b] at *
  · rintro ⟨⟨⟨h1, h2⟩, h3⟩, h4, h5⟩
    rw [setCmd_in_order _ _ _ _ _ _ _ _ _ (hok.1 h1) h2]
    have h6 : ¬ ((sub.atTick && b.passed frame) = true) := by simp; intro h; simpa [h] using h4
    rcases h3 with h3 | h3 <;> simp only [h3, armSet, if_neg h6, if_pos h5, if_true, b]
  · rintro ⟨⟨h1, h2⟩, h3, h4, h5⟩
    rw [setCmd_in_order _ _ _ _ _ _ _ _ _ (hok.1 h1) h2, h3]
    have h6 : ¬ ((sub.atTick && b.passed frame) = true) := by simp; intro h; simpa [h] using h4
    simp only [if_true]
    unfold armSet
    rw [if_neg h6, if_neg (Nat.not_le.2 h5)]
    rfl
  · rintro ⟨⟨h1, h2⟩, h3, h4, h5⟩
    rw [setCmd_in_order _ _ _ _ _ _ _ _ _ (hok.1 h1) h2, h3]
    have h6 : ¬ ((sub.atTick && b.passed frame) = true) := by simp; intro h; simpa [h] using h4
    simp only [armSet, if_neg h6, if_neg (Nat.not_le.2 h5), Bool.not_true, State.setFrame, hat, b]
    rfl

end Sys2Proof.Laws
end

