-- ==== Sys2Proof/Tests/Slice0.lean ====
section
/-!
SUPPORT. Small checks: an ill-formed term for each check of `Instr.wf`, single commands with the answer that the manual
gives, and for every statement of `Certificates/Slice0/Obligations.lean` with hypotheses a state and operands that meet
them (`test_meets_…`).
-/
open Sys2Proof Sys2Proof.Machine Sys2Proof.Claims

namespace Sys2Proof.Tests

set_option maxRecDepth 4000
set_option Elab.async false

/-! ### Helpers -/

/-- An engine in ACTIVE with a running host link, rings 0 and 1 enabled with 16 entries each, the array lit. -/
def ready : State :=
  let r := State.reset
  { r with
    pwr := { r.pwr with
      mode := .active, vaon := true, pwrEn := true, supplies := true, rstN := true, step := 10, configReady := true
      ready := true, hasDram := true, otpOk := true, farrier := true, groom := true, ostler := true, trngOk := true
      coreClock := true }
    bus := { r.bus with linkUp := true, memEn := true, master := true, aspmL1 := true }
    reg := { r.reg with
      force := [(0x410, 0x00100010), (0x408, 0x10000), (0x450, 0x00100010), (0x448, 0x20000)], committed := true }
    rng := { r.rng with
      q := { Ring.reset with enabled := true } :: { Ring.reset with enabled := true } :: r.rng.q.drop 2 }
    frm := { r.frm with ticked := true, period := 16666667 }
    fls := { r.fls with run := some false }
    arr := { r.arr with causes := [], relit := 0xFF } }

/-- The flags of an entry of ring `n` with sequence 1, this engine alone. -/
def sub (n : Fin 16) : Sub :=
  { ring := n, seq := 1, tag := 7, ioc := false, fence := false, atTick := false, barrier := false, target := 0x400
    gap := false, origin := none, reply := .due }

/-- The header of the first frame of a session, unreliable and for everyone. -/
def hdr : FrameHdr :=
  { reliable := false, nak := false, retransmit := false, routed := false, fcnt := 1, rseq := 0, rack := 0, sender := 3
    senderPort := 0, dst := 0x7FF }

/-- The state that a command leaves. -/
def after (i : Instr) (s : State) : State :=
  match exec i s with
  | .next t => t
  | _ => s

/-- `STATUS` in the window entry of the last command of ring 0; none while it runs. -/
def status (i : Instr) (s : State) : Option Half :=
  match ((after i s).ring 0).window.getLast? with
  | some e => if e.done then some e.status else none
  | none => none

/-- `RESULT` of the last command of ring 0. -/
def result (i : Instr) (s : State) : Option Dword := (((after i s).ring 0).window.getLast?).map fun e => e.result

/-- `Runs`, as a test. -/
def runsB (i : Instr) (s : State) : Bool :=
  match spelled i with
  | none => false
  | some p =>
    decide (s.serves p = true ∧ s.entryCheck p = none ∧ s.namesSelf p.sub = true
      ∧ (s.tm.divergent = false ∨ groupTarget p.sub.target = false) ∧ (s.tm.excluded = false ∨ p.sub.origin = none)
      ∧ (p.row.session = false ∨ s.sessionOk p.sub = true))

theorem runsB_iff (i : Instr) (s : State) : runsB i s = true ↔ Runs i s := by
  unfold runsB Runs
  cases h : spelled i <;> simp

/-- A session of the engine's own host. -/
def open_ (s : State) : State := s.mapSec fun c => { c with session := some ⟨none, 5, 0⟩ }

/-! ### WellFormed: each check refuses -/

theorem test_wf_layout : (Instr.surfaceDefine (sub 0) 1 ⟨1, 0, 64, 64, 0, 4, 0, 0, 0, 0, 0, 0⟩).wf = false := by decide
theorem test_wf_layerOrder : (Instr.layerSet (sub 0) (.order 1 [0, 1])).wf = false := by decide
theorem test_wf_layerBad : (Instr.layerSet (sub 0) (.bad 2)).wf = false := by decide
theorem test_wf_canRules : (Instr.canListenSet (sub 0) ⟨0, 0, 0, 0, 0, [], 0⟩).wf = false := by decide
theorem test_wf_teamGroups : (Instr.teamConfig (sub 0) ⟨0, 0, 0, [1, 2, 3], 0, 0, 0⟩).wf = false := by decide
theorem test_wf_login : (Instr.authLogin (sub 0) ⟨0, 0, 8, [1]⟩ (.ok [])).wf = false := by decide
theorem test_wf_settings : (Instr.settingsWrite (sub 0) 0 1 [1]).wf = false := by decide
theorem test_wf_registerWrite : (Instr.registerWrite .bar0 0x134 [] 0xF 0xF).wf = false := by decide
theorem test_wf_refusedRead : (Instr.refusedRead .bar0 0x134 0 0xF 0xF).wf = false := by decide
theorem test_wf_clearingRead : (Instr.clearingRead 0x208 0).wf = false := by decide
theorem test_wf_bar4Write : (Instr.bar4Write 0 [] [] []).wf = false := by decide
theorem test_wf_bar4Read : (Instr.bar4Read 0 0 [] []).wf = false := by decide
theorem test_wf_canFrame : (Instr.canFrame ⟨true, false, false, 9, true, 0, List.replicate 9 0⟩).wf = false := by decide
theorem test_wf_calRunEnd : (Instr.calRunEnd ⟨2500, 0, 0, 0, 1000, 0, 0, [100]⟩).wf = false := by decide
theorem test_wf_eyeScan : (Instr.eyeScanDone 0 (.full [1, 2])).wf = false := by decide
theorem test_wf_tick : (Instr.tick (List.replicate 257 0)).wf = false := by decide +kernel
theorem test_wf_event : (Instr.event 0 hdr ⟨0, 0, 1, 2, false, false, [1]⟩).wf = false := by decide
theorem test_wf_bulk : (Instr.bulk 0 hdr ⟨0, 0, List.replicate 1017 0⟩).wf = false := by decide +kernel
theorem test_wf_state : (Instr.state 0 hdr ⟨2, 3, 0, 0, List.replicate 17 0⟩).wf = false := by decide
theorem test_wf_linkUp : (Instr.linkUp 5 8).wf = false := by decide
theorem test_wf_accepts : (Instr.nop (sub 0)).wf = true ∧ (Instr.linkUp 4 8).wf = true := by decide

/-! ### Ring commands on the ready engine -/

/-- One example of each ring command of chapter 11. -/
def picture : List Instr :=
  let b := sub 0
  [ .nop b, .echo b 5, .ident b 0, .heartbeat b, .poolAlloc b 0 0 0, .poolFree b 1, .poolQuery b 0 0,
    .copyIn b 1 0 0x1000 4, .copyOut b 1 0 0x1000 4, .fill b 1 0 4 1 0,
    .surfaceDefine b 1 ⟨1, 0, 64, 64, 0, 0, 0, 0, 0, 0, 0, 0⟩, .surfaceRetire b 1, .layerSet b (.bad 3),
    .layerPost b ⟨0, 1, 0, 0, 0, 0, ⟨0, 0, 0⟩⟩, .shapesPost b 1 0 1 ⟨0, 0, 0⟩, .captureSet b 0 0 0, .sceneCommit b 0,
    .sceneQuery b 1 0, .timingSet b ⟨0, 0, 0, 0, 0, 0, 0, 0⟩, .syncSet b ⟨0, 0, 0, 0, 0, 0, 0, 0, 0, 0, 0, 0⟩,
    .pwmSet b ⟨1, 12, 0, 0, 0, 0⟩, .curbSet b ⟨1, 9000, 0, 0⟩, .derateSet b ⟨1, 1, 0, 0, 0⟩,
    .cutoffSet b ⟨2, 0, 0, 100, 0, 0, 0⟩, .probeSet b 3 0, .pixmapRead b ⟨511, 2, 0, 0⟩, .neighbourFillSet b 64 0 ]

/-- One example of each ring command of chapter 12. -/
def service : List Instr :=
  let b := sub 0
  [ .hallmarkSelect b 0 0 0, .safetyStatus b, .fallbackSet b ⟨2, 0, 0, 100, 0⟩,
    .canListenSet b ⟨0, 0, 0, 0, 0, List.replicate 8 0, 0⟩, .roadMode b 1 1 0, .teamConfig b ⟨0, 0, 0, [0, 0, 0, 0], 0, 0, 0⟩,
    .teamStatus b 0, .teamPair b 9, .timeSet b 0 77, .timeQuery b 0, .powerState b 4, .calRun b 8 0, .calLoadMap b 1 0,
    .calStore b, .calRead b 1 0 0 4, .updateOpen b 256, .updateWrite b 0 0 256 (.ok []), .updateClose b, .updateConfirm b,
    .updateStatus b, .authLogin b ⟨0, 1, 8, List.replicate 32 0⟩ (.ok []), .authLogout b, .protectedWrite b 2 4,
    .passwordSet b 0 8 1 0x1000 (.ok (List.replicate 64 0)), .logRead b 1 0 0 1, .logArchive b 0, .settingsRead b 0 0 0 0,
    .settingsWrite b 0xFFFF 1 (List.replicate 32 0), .cfgCommit b, .linkTest b ⟨1, 0, 0, 0, 0, 0, 0⟩, .eyeScan b 0 0 0 0,
    .faultRead b 0, .faultAck b 0x10, .thermRearm b ]

/-- The hypothesis `Runs` of the statements about ring commands is met by every one of them. -/
theorem test_meets_Runs : ∀ i ∈ picture ++ service, Runs i (open_ ready) := by
  intro i hi
  rw [← runsB_iff]
  have h : (picture ++ service).all (fun i => runsB i (open_ ready)) = true := by decide +kernel
  exact List.all_eq_true.1 h i hi

/-- What each of them completes with on an engine that has no handle, no surface, no calibration and no update: none for
those that go on. -/
theorem test_status_picture1 : ((picture.drop 0).take 9).map (fun i => status i (open_ ready)) =
    [ some stOk, some stOk, some stOk, some stOk, some stBadOperand, some stBadHandle, some stOk, some stBadHandle, some
      stBadHandle ] := by decide +kernel
theorem test_status_picture2 : ((picture.drop 9).take 9).map (fun i => status i (open_ ready)) =
    [ some stBadHandle, some stBadHandle, some stBadHandle, some stBadOperand, some stBadHandle, some
      stBadHandle, some stOk, some stOk, some stOk ] := by decide +kernel
theorem test_status_picture3 : ((picture.drop 18).take 9).map (fun i => status i (open_ ready)) =
    [ some stOk, some stOk, some stOkDeferred, some stOkDeferred, some stOkDeferred, none, some stOkDeferred,
      some stBadOperand, some stOkDeferred ] := by decide +kernel
theorem test_status_service1 : ((service.drop 0).take 9).map (fun i => status i (open_ ready)) =
    [ some stOk, some stOk, some stOk, some stOk, some stOkDeferred, some stOk, some stOk, none, some stOk ] := by decide +kernel
theorem test_status_service2 : ((service.drop 9).take 9).map (fun i => status i (open_ ready)) =
    [ some stOk, some stOk, some stWrongState, some stBadHandle, some stWrongState, some stOk, none, some
      stWrongState, some stWrongState ] := by decide +kernel
theorem test_status_service3 : ((service.drop 18).take 9).map (fun i => status i (open_ ready)) =
    [ some stWrongState, some stOk, some stNotAuthorized, some stOk, none, none, some stOk, none, some
      stOkZero ] := by decide +kernel
theorem test_status_service4 : ((service.drop 27).take 9).map (fun i => status i (open_ ready)) =
    [ some stBadOperand, none, some stOk, some stWrongState, some stOk, some stOk, some stWrongState ] := by decide +kernel
theorem test_echo : result (.echo (sub 0) 0x1122334455667788) ready = some 0x1122334455667788 := by decide +kernel

/-! ### Witnesses: states and operands that meet the hypotheses of each clause -/

/-- A handle of two blocks, value 2049. -/
def owner : Handle := ⟨1, 1, 0, [3, 4], false, none, false⟩
/-- The ready engine with that handle and surface 1 on it. -/
def stocked : State :=
  { open_ ready with
    pool := { ready.pool with handles := [owner] }
    scn := { ready.scn with surfs := [⟨1, ⟨2049, 0, 64, 64, 0, 0, 0, 0, 0, 0, 0, 0⟩, 16384⟩] } }
/-- The flags of an entry of ring 0 for target `t`. -/
def subTo (t : BitVec 11) : Sub := { sub 0 with target := t }
/-- A member of a team that follows engine 9 over port 0. -/
def follower : State :=
  { ready with
    frm := { ready.frm with params := { ready.frm.params with role := .follower } }
    tm := { ready.tm with isMember := true, id := some 3, lead := some 9, parent := some 0, dist := 1 }
    trc := { ready.trc with ports := { Port.reset with state := .up } :: ready.trc.ports.drop 1 } }
/-- The lead of a team without other members. -/
def leader : State :=
  { ready with
    frm := { ready.frm with params := { ready.frm.params with role := .lead } }
    tm := { ready.tm with isMember := true, leading := true, id := some 9, lead := some 9 } }
/-- The engine after the host's first heartbeat: no cause of a safe state holds. -/
def lit : State := ready.mapSaf fun f => { f with start := false }
/-- Start-up before a working step. -/
def starting : State := { State.reset with pwr := { State.reset.pwr with mode := .startup, vaon := true, coreClock := true } }
/-- Halter mode with a running ring 0. -/
def halter : State := { ready with pwr := { ready.pwr with mode := .halter } }

theorem test_meets_IdleStepCounts : State.reset.pending = [] ∧ State.reset.pwr.mode ≠ .off
    ∧ { State.reset with pwr := { State.reset.pwr with mode := .off } }.pwr.mode = .off := by decide +kernel

/-- `serves`, and the first check that fails. -/
def check (i : Instr) (s : State) : Option (Bool × Option Half) :=
  (spelled i).map fun p => (s.serves p, s.entryCheck p)

theorem test_meets_EntryChecksInOrder :
    check (.thermRearm (sub 0)) ready = some (true, none)
    ∧ check (.cfgCommit (sub 1)) ready = some (true, some stNotAuthorized)
    ∧ check (.heartbeat (sub 0)) halter = some (true, some stWrongState)
    ∧ check (.nop (subTo 0x401)) ready = some (true, some stBadTarget)
    ∧ check (.ident (subTo 0x600) 0) ready = some (true, some stBadTarget)
    ∧ check (.teamPair (subTo 0x0) 1) ready = some (true, some stBadTarget)
    ∧ check (.nop { sub 0 with atTick := true }) ready = some (true, some stBadOperand)
    ∧ check (.cfgCommit (sub 0)) ready = some (true, none) ∧ ready.namesSelf (sub 0) = true
    ∧ ready.sessionOk (sub 0) = false := by decide +kernel

theorem test_meets_EntryWaitsOrGoesOn :
    (spelled (.nop (sub 0))).isSome = true ∧ State.reset.pwr.ready = false ∧ State.reset.pwr.farrier = false
    ∧ ({ ready with pwr := { ready.pwr with mode := .sleep } }).pwr.mode = .sleep
    ∧ ((sub 1).ring ≠ 0 ∧ halter.pwr.mode = .halter)
    ∧ ((sub 2).origin = none ∧ (ready.ring 2).enabled = false)
    ∧ bits (ready.cfg (ringReg 0 0x10)) 16 13 = 16
    ∧ ({ sub 0 with fence := true }).fence = true ∧ ({ sub 0 with barrier := true }).barrier = true
    ∧ ({ sub 0 with origin := some 3 }).origin ≠ none ∧ ready.tm.isMember = false
    ∧ check (.nop (subTo 5)) ready = some (true, none) ∧ ready.namesSelf (subTo 5) = false
    ∧ check (.nop (subTo 5)) follower = some (true, none) ∧ follower.namesSelf (subTo 5) = false
    ∧ follower.tm.isMember = true ∧ follower.tm.divergent = false ∧ follower.tm.leading = false
    ∧ follower.tm.parent = some 0 ∧ groupTarget 0x7FF = true ∧ check (.nop (subTo 0x7FF)) follower = some (true, none)
    ∧ check (.nop (subTo 5)) leader = some (true, none) ∧ leader.namesSelf (subTo 5) = false
    ∧ leader.tm.leading = true ∧ leader.targetsOf 0 5 = [] := by decide +kernel

/-- The lead of a team with member 5, whose state byte is `st`. -/
def crewed (st : Byte) : State := leader.mapTm fun t =>
  { t with members := [⟨5, 0, 1, 4, 0, st, 0, 100, false, 0, 0, 1, [], false, true, true⟩] }
/-- A TIMING_SET of P_NOM alone to the team. -/
def teamNom (ns : Word) : Instr := .timingSet (subTo 0x7FF) ⟨1, ns, 0, 0, 0, 0, 0, 0⟩

theorem test_meets_leadForwards :
    check (.nop (subTo 5)) (crewed 0) = some (true, none) ∧ (crewed 0).namesSelf (subTo 5) = false
    ∧ (crewed 0).tm.divergent = false ∧ (crewed 0).targetsOf 0 5 = [5] ∧ (crewed 0).engineId ∉ (crewed 0).targetsOf 0 5
    ∧ (crewed 0x20).tm.members.any (fun m => m.id == 5 && m.state.getLsbD 5) = true
    ∧ ((spelled (.nop (subTo 5))).map fun p => (begun (.nop (subTo 5)) (crewed 0)).serveFull p.entry) = some false
    ∧ check (.nop (subTo 0x7FF)) (crewed 0) = some (true, none) ∧ (crewed 0).namesSelf (subTo 0x7FF) = false
    ∧ (crewed 0).engineId ∈ (crewed 0).targetsOf 0 0x7FF
    ∧ check (teamNom 16666667) (crewed 0) = some (true, none)
    ∧ (crewed 0).leadTooLong 16666667 = []
    ∧ (begun (teamNom 16666667) (crewed 0)).leadTimingBad (subTo 0x7FF) ⟨1, 16666667, 0, 0, 0, 0, 0, 0⟩ = none := by
  decide +kernel
theorem test_leadForwards : (after (.nop (subTo 5)) (crewed 0)).tm.fwds.map Forward.targets = [[(5, .waiting 1)]] := by
  decide +kernel

theorem test_meets_BegunFrame : (spelled (.nop (sub 0))).isSome = true ∧ (sub 0).origin = none := by decide

/-- The state in which NOP of ring 0 has begun: its entry is in the window. -/
def nopBegun : State := begun (.nop (sub 0)) ready

theorem test_meets_OwnCompletions :
    (sub 0).origin = none ∧ (sub 0).reply = .due ∧ nopBegun.fwdBy none 0 1 .due = none ∧ nopBegun.rng.q.length = 16
    ∧ (nopBegun.ring 0).enabled = true ∧ nopBegun.bus.linkUp = true ∧ nopBegun.bus.master = true
    ∧ nopBegun.bus.d3 = false ∧ (nopBegun.ring 0).muted = [] ∧ (nopBegun.ring 0).held = []
    ∧ ((nopBegun.ring 0).window.find? fun e => e.seq == (sub 0).seq).isSome = true := by decide +kernel

theorem test_meets_CompletionForOrigin :
    leader.fwd (some 3) 0 1 = none ∧ leader.tm.leading = true ∧ follower.fwd (some 9) 0 1 = none ∧ follower.tm.leading = false ∧ follower.tm.parent = some 0
    ∧ (follower.port 0).state = .up ∧ (follower.port 0).queue = [] ∧ follower.trc.ports.length = 4
    ∧ (follower.port 0).room (.cpl 0x400 ⟨9, 0, false, false, 3, ⟨1, 0, 0, false, false, 7, 0, 0⟩⟩) = true := by
  decide +kernel

theorem test_meets_GeneralCommandsReport : (sub 0).origin = none ∧ ([1] : List Byte) ≠ [] := by decide

theorem test_meets_PoolAllocCases :
    runsB (.poolAlloc (sub 0) 1 0 0) ready = true ∧ runsB (.poolAlloc (sub 0) 1536 17 3) ready = true
    ∧ (let b := begun (.poolAlloc (sub 0) 1 0 0) ready
       b.held 0 + 1 ≤ b.limit 0 ∧ 1 + b.unusedOthers 0 ≤ b.freeBlocks.length ∧ b.pool.handles = [])
    ∧ (let t := { ready with reg := { ready.reg with force := (0x900, 0) :: ready.reg.force } }
       runsB (.poolAlloc (sub 0) 1536 0 0) t = true ∧ runsB (.poolAlloc (sub 0) 0 0 0) t = true
       ∧ runsB (.poolAlloc (sub 0) 1537 0 0) t = true ∧ runsB (.poolAlloc (sub 0) 1 16 2) t = true
       ∧ runsB (.poolAlloc (sub 0) 1 18 4) t = true) := by decide +kernel

theorem test_meets_ZeroingCompletes :
    (({ stocked with pool := { stocked.pool with handles := [{ owner with waiting := some (sub 0) }] } }).handleAny
      2049).map Handle.waiting = some (some (sub 0)) := by decide +kernel

theorem test_meets_PoolFreeCases :
    runsB (.poolFree (sub 0) 2049) stocked = true ∧ runsB (.poolFree (sub 0) 5) stocked = true
    ∧ (begun (.poolFree (sub 0) 5) stocked).handle 5 = none
    ∧ (let b := begun (.poolFree (sub 0) 2049) stocked
       b.handle 2049 = some owner ∧ b.surfacesOn owner = [1] ∧ b.sceneBound 1 = false ∧ b.postOnHandle owner = false
       ∧ b.moveOn owner = false)
    ∧ (let t := { stocked with scn := { stocked.scn with
        cur := some ⟨0, 1, { stocked.scn.work with capSurf := 1, capMode := .continuous }, [], 0⟩ } }
       t.sceneBound 1 = true ∧ runsB (.poolFree (sub 0) 2049) t = true)
    ∧ (let t := { stocked with pool := { stocked.pool with
        moves := [⟨0, .copyIn, 2049, 0, 0x1000, 64, sub 0⟩] } }
       runsB (.poolFree (sub 0) 2049) t = true ∧ t.handle 2049 = some owner ∧ t.moveOn owner = true) := by decide +kernel

theorem test_meets_PoolQueryReports :
    runsB (.poolQuery (sub 0) 0 0) stocked = true ∧ runsB (.poolQuery (sub 0) 2049 0) stocked = true
    ∧ runsB (.poolQuery (sub 0) 5 0) stocked = true
    ∧ stocked.handleAny 2049 = some owner ∧ stocked.handleAny 5 = none := by decide +kernel

theorem test_meets_DataMoves :
    runsB (.copyIn (sub 0) 2049 0 0x1000 131072) stocked = true ∧ runsB (.copyOut (sub 0) 5 0 0x1000 4) stocked = true
    ∧ runsB (.fill (sub 0) 2049 131068 4 4 0xFFFFFFFF) stocked = true
    ∧ (begun (.fill (sub 0) 2049 131068 4 4 0xFFFFFFFF) stocked).handle 2049 = some owner
    ∧ owner.blocks.length * 65536 = 131072 ∧ owner.blocks.Nodup ∧ owner.freeing = false ∧ stocked.pool.ue = []
    ∧ Memory.wf stocked.pool.mem
    ∧ (let m : Move := ⟨0, .copyIn, 2049, 0, 0x1000, 4, sub 0⟩
       let t := { stocked with pool := { stocked.pool with moves := [m] } }
       t.pool.moves.find? (fun x => x.id == 0) = some m ∧ t.handleAny m.handle = some owner
       ∧ ([1, 2, 3, 4] : List Byte).length = m.length) := by decide +kernel

/-- A layer parameter block that shows surface 1 whole. -/
def plain : LayerOps :=
  { surface := 1, srcX := 0, srcY := 0, srcW := 64, srcH := 64, dstX := 0, dstY := 0, dstW := 64, dstH := 64, predec := 1
    coef := 0, blend := 0, notReady := 0, streaming := 0, alpha := 0x100, s0Y := 0, glareSafe := 0 }
/-- An 8-bit linear surface on the handle of `stocked`. -/
def desc : SurfDesc := ⟨2049, 0, 64, 64, 1, 0, 64, 0, 0, 0, 0, 0⟩

theorem test_meets_SurfaceCommands :
    runsB (.surfaceDefine (sub 0) 4095 desc) stocked = true ∧ runsB (.surfaceDefine (sub 0) 1 desc) stocked = true
    ∧ runsB (.surfaceDefine (sub 0) 4096 desc) stocked = true ∧ stocked.handle 2049 = some owner
    ∧ SurfDesc.ok desc 131072 = true ∧ SurfDesc.ok { desc with format := 0 } 131072 = false
    ∧ SurfDesc.ok desc 4095 = false
    ∧ runsB (.surfaceRetire (sub 0) 1) stocked = true ∧ (∃ x ∈ stocked.scn.surfs, x.id = 1)
    ∧ stocked.surfUsed 1 = false ∧ (∀ x ∈ stocked.scn.surfs, x.id ≠ 4095) := by decide +kernel

theorem test_surfaceDefine : status (.surfaceDefine (sub 0) 4095 desc) stocked = some stOk := by decide +kernel

theorem test_meets_LayerSetForms :
    runsB (.layerSet (sub 0) (.bad 3)) stocked = true ∧ runsB (.layerSet (sub 0) (.params 0 plain)) stocked = true
    ∧ LayerOps.vgOk true plain = true ∧ (blendOf 0).isSome = true ∧ (notReadyOf 0).isSome = true
    ∧ LayerOps.vgOk true { plain with predec := 3 } = false
    ∧ runsB (.layerSet (sub 0) (.coefs 3 2049 64)) stocked = true
    ∧ stocked.poolRead 5 0 1536 = .bad stBadHandle
    ∧ (match stocked.poolRead 2049 0 1536 with
       | .data l => l.length == 1536 && !coefsOk (parseCoefs l)
       | _ => false) = true
    ∧ runsB (.layerSet (sub 0) (.order 1 [6, 5, 4, 3, 2, 1, 0])) stocked = true
    ∧ ([6, 5, 4, 3, 2, 1, 0] : List Byte).length = 7 := by decide +kernel

theorem test_layerOrder : (after (.layerSet (sub 0) (.order 1 [6, 5, 4, 3, 2, 1, 0])) stocked).scn.work.order
    = [6, 5, 4, 3, 2, 1, 0] := by decide +kernel

/-- S0 with an empty shape list, and with one shape at byte 64 of the handle. -/
def s0 (n : Half) : LayerOps :=
  { plain with
    surface := if n = 0 then 0 else 2049, srcX := if n = 0 then 0 else 64, srcW := n, srcH := 0, dstW := 0, dstH := 0
    predec := 0 }

theorem test_meets_LayerSetS0 :
    runsB (.layerSet (sub 0) (.params 6 (s0 1))) stocked = true ∧ runsB (.layerSet (sub 0) (.params 7 plain)) stocked = true
    ∧ LayerOps.s0Ok (s0 0) false = true ∧ LayerOps.s0Ok (s0 64) false = true ∧ LayerOps.s0Ok plain false = false
    ∧ (match stocked.poolRead 2049 64 64 with
       | .data l => l.length == 64 && (parseShapes l 1).isSome
       | _ => false) = true := by decide +kernel

theorem test_meets_PostCommands :
    runsB (.layerPost (sub 0) ⟨5, 1, 0, 0, 0, 0, ⟨1, 15, 9⟩⟩) stocked = true ∧ stocked.postable 1 = true
    ∧ stocked.postable 2 = false ∧ stocked.streamingNext 2 = false ∧ stocked.streamingNext 0 = true
    ∧ runsB (.layerPost (sub 0) ⟨0, 1, 0, 0, 0, 0, ⟨0, 0, 0⟩⟩) stocked = true
    ∧ runsB (.layerPost (sub 0) ⟨2, 1, 0, 0, 0, 0, ⟨0, 0, 0⟩⟩) stocked = true
    ∧ runsB (.shapesPost (sub 0) 2049 64 64 ⟨0, 0, 0⟩) stocked = true ∧ (stocked.handle 2049).isSome = true := by
  decide +kernel

theorem test_meets_CaptureSetCases :
    runsB (.captureSet (sub 0) 1 1 2) stocked = true ∧ (stocked.surf 1).isSome = true ∧ stocked.surf 2 = none
    ∧ SurfDesc.captureOk { desc with width := 2048, height := 512, format := 2 } = true
    ∧ SurfDesc.captureOk desc = false := by
  decide +kernel

theorem test_meets_SceneCommands :
    runsB (.sceneCommit (sub 0) 0) ready = true ∧ runsB (.sceneCommit { sub 0 with atTick := true } 40) ready = true
    ∧ (let b := begun (.sceneCommit (sub 0) 0) ready
       b.sceneCheck13 b.scn.work = none ∧ b.sceneCheck45 b.scn.work = none ∧ b.scn.staged = []
       ∧ budgetOk (b.sceneBytes b.scn.work) b.frm.params.leadFix b.frm.params.tGuard b.frm.params.pNom b.internal = true)
    ∧ runsB (.sceneQuery (sub 0) 1 0) ready = true ∧ (ready.queried 1).isSome = true
    ∧ runsB (.sceneQuery (sub 0) 3 0) ready = true ∧ ready.scn.staged = [] := by decide +kernel

theorem test_sceneCommit :
    status (.sceneCommit { sub 0 with atTick := true } 40) ready = some stOkDeferred
    ∧ ((after (.sceneCommit { sub 0 with atTick := true } 40) ready).scn.staged.map Staged.first) = [40] := by
  decide +kernel

/-! The set commands: the hypotheses of `ArmsFor` on the ready engine, and the change that each arms. -/

theorem test_meets_FrameAndArraySets :
    ([ .timingSet (sub 0) ⟨1, 16666667, 0, 0, 0, 0, 0, 0⟩, .syncSet (sub 0) ⟨1, 1, 0, 0, 0, 0, 0, 0, 0, 0, 0, 0⟩,
       .pwmSet (sub 0) ⟨1, 8, 0, 0, 0, 0⟩, .curbSet (sub 0) ⟨3, 12500, 800, 0⟩, .derateSet (sub 0) ⟨7, 1, 140, 150, 0⟩,
       .probeSet (sub 0) 3 0, .neighbourFillSet (sub 0) 64 0 ].all fun i => runsB i ready) = true
    ∧ ready.passed 40 = false ∧ ready.armedSets < 16 ∧ ready.actsFollower = false := by decide +kernel

theorem test_sets_armed :
    (after (.pwmSet (sub 0) ⟨1, 8, 0, 0, 0, 0⟩) ready).frm.armed.map ArmedCmd.changes = [[.dutyN 8]]
    ∧ (after (.curbSet (sub 0) ⟨3, 12500, 800, 0⟩) ready).frm.armed.map ArmedCmd.changes = [[.iLimit 12500, .hT 800]]
    ∧ status (.curbSet (sub 0) ⟨1, 99, 0, 0⟩) ready = some stBadOperand
    ∧ status (.derateSet (sub 0) ⟨7, 1, 140, 150, 0⟩) ready = some stOkDeferred
    ∧ status (.derateSet (sub 0) ⟨7, 1, 141, 151, 0⟩) ready = some stBadOperand
    ∧ status (.probeSet { sub 0 with atTick := true } 3 0) ready = some stWrongState := by decide +kernel

theorem test_meets_SafetyAndFallbackSets :
    ([ .hallmarkSelect (sub 0) 1 0 0, .canListenSet (sub 0) ⟨0, 0, 0, 0, 0, List.replicate 8 0, 0⟩, .roadMode (sub 0) 1 1 0,
       .teamConfig (sub 0) ⟨0, 0, 0, [0, 0, 0, 0], 0, 0, 0⟩, .fallbackSet (sub 0) ⟨2, 0, 0, 10000, 0⟩,
       .fallbackSet (sub 0) ⟨4, 0, 8, 0, 0⟩ ].all fun i => runsB i ready) = true ∧ ready.armedSets < 16 := by
  decide +kernel

theorem test_fallbackSet :
    (after (.fallbackSet (sub 0) ⟨2, 0, 0, 10000, 0⟩) ready).frm.params.hbTimeout = 10000
    ∧ status (.fallbackSet (sub 0) ⟨2, 0, 0, 49, 0⟩) ready = some stBadOperand
    ∧ status (.fallbackSet (sub 0) ⟨4, 0, 8, 0, 0⟩) ready = some stOkDeferred := by decide +kernel

theorem test_meets_ChangesApplyInOrder :
    (after (.pwmSet (sub 0) ⟨1, 8, 0, 0, 0, 0⟩) ready).frm.armed.length = 1 := by decide +kernel

/-! ### Witnesses: reports, sessions, flash, calibration, lanes -/

theorem test_heartbeat : (after (.heartbeat (sub 0)) ready).causes = 0 ∧ ready.causes = 1 := by decide +kernel

theorem test_meets_ReportAndAckCommands :
    ([ .safetyStatus (sub 0), .teamStatus (sub 0) 0x1000, .timeQuery (sub 0) 0x1000, .updateStatus (sub 0),
       .pixmapRead (sub 0) ⟨511, 1, 0x1000, 0x2000⟩, .pixmapRead (sub 0) ⟨511, 2, 0, 0⟩,
       .pixmapRead (sub 0) ⟨0, 0, 0, 0⟩ ].all fun i => runsB i ready) = true
    ∧ runsB (.faultAck (sub 0) 0xA0) ready = true ∧ runsB (.faultAck (sub 0) 0x9F) ready = true
    ∧ ready.persists 0x9F = false ∧ ready.persists 0x54 = false ∧ runsB (.faultAck (sub 0) 0x54) (open_ ready) = true
    ∧ (open_ ready).sessionOk (sub 0) = true ∧ ready.logFull = false
    ∧ (let t := ready.mapSaf fun f => { f with hbExp := true }
       t.persists fHostHeartbeat = true ∧ runsB (.faultAck (sub 0) (BitVec.ofNat 8 fHostHeartbeat)) t = true) := by
  decide +kernel

theorem test_meets_RearmReadTimeSet :
    runsB (.timeSet (sub 0) 2 0) ready = true ∧ runsB (.timeSet (sub 0) 3 0) ready = true
    ∧ runsB (.timeSet (sub 0) 0 5) follower = true ∧ follower.actsFollower = true ∧ ready.actsFollower = false
    ∧ runsB (.timeSet (sub 0) 1 0) ready = true ∧ ready.bus.ptmEn = false ∧ runsB (.timeSet (sub 0) 0 5) ready = true
    ∧ (let t := { ready with bus := { ready.bus with ptmEn := true } }
       runsB (.timeSet (sub 0) 1 0) t = true ∧ t.actsFollower = false)
    ∧ runsB (.faultRead (sub 0) 0x1000) ready = true
    ∧ runsB (.thermRearm (sub 0)) ready = true ∧ ready.hk.latchOff = false
    ∧ (let t := { ready with hk := { ready.hk with latchOff := true, cool := true } }
       runsB (.thermRearm (sub 0)) t = true ∧ t.hk.latchOff = true ∧ t.hk.cool = true) := by decide +kernel

theorem test_timeSet :
    let t := after (.timeSet (sub 0) 0 0x123456789) ready
    t.clk.team = 0x123456789 ∧ t.lg.onDie.any (fun e => e.kind = 2 ∧ e.code = BitVec.ofNat 16 evTimeStep) = true
    ∧ t.frm.frame = ready.frm.frame ∧ t.frm.tickLoc = ready.frm.tickLoc := by decide +kernel

theorem test_meets_PowerStateCases :
    runsB (.powerState (sub 0) 5) ready = true ∧ runsB (.powerState (sub 0) 4) ready = true
    ∧ ready.pwr.entry = none ∧ ready.movePending = false ∧ ready.entryRefused = true
    ∧ runsB (.powerState (sub 0) 1) lit = true ∧ lit.entryRefused = false ∧ lit.lan.l.length = 8
    ∧ (let t := lit.mapPwr fun p => { p with entry := some ⟨false, sub 0, .active, 0, false, 0⟩ }
       runsB (.powerState (sub 0) 4) t = true ∧ t.pwr.entry ≠ none ∧ t.pwr.pend = none) := by decide +kernel

/-- An engine whose record holds the password whose digest is `d`. -/
def guarded (d : List Byte) : State :=
  ready.mapSec fun c => { c with set := { c.set with prot := { c.set.prot with pwState := 1, digest := d } } }
/-- A login in mode `m` with a password of eight zero bytes. -/
def login (m : Byte) : LoginOps := ⟨m, 5, if m = 0 then 8 else 0, List.replicate 32 0⟩

theorem test_meets_SessionCases :
    runsB (.authLogin (sub 0) (login 0) (.ok [])) ready = true ∧ loginOk (login 0) = true ∧ loginOk (login 1) = true
    ∧ loginOk (login 2) = true ∧ loginOk (login 3) = false ∧ ready.lockedOut = false ∧ ready.sec.set.prot.pwState ≠ 1
    ∧ ready.pwr.trngOk = true ∧ (ready.sec.set.prot.fails = 0 ∧ ready.sec.set.prot.lockS = 0)
    ∧ (ready.mapSec fun c => { c with lockEnd := some 1 }).lockedOut = true
    ∧ runsB (.authLogout (sub 0)) (open_ ready) = true ∧ ready.sec.waits = [] := by decide +kernel

theorem test_meets_rightPassword : ∃ d, Config.pbkdf2 ((login 0).password.take (login 0).pwLen.toNat)
    (guarded d).sec.set.prot.salt = (guarded d).sec.set.prot.digest ∧ (guarded d).sec.set.prot.pwState = 1 :=
  ⟨Config.pbkdf2 ((login 0).password.take (login 0).pwLen.toNat) ready.sec.set.prot.salt, rfl, rfl⟩
theorem test_meets_wrongPassword : ∃ d, Config.pbkdf2 ((login 0).password.take (login 0).pwLen.toNat)
    (guarded d).sec.set.prot.salt ≠ (guarded d).sec.set.prot.digest ∧ (guarded d).sec.set.prot.pwState = 1 :=
  ⟨0 :: Config.pbkdf2 ((login 0).password.take (login 0).pwLen.toNat) ready.sec.set.prot.salt,
    fun h => by have := congrArg List.length h; simp [guarded, State.mapSec] at this, rfl⟩
/-- The response of mode 2: one of the two outcomes of the signature check holds. -/
theorem test_meets_recovery (k m l : List Byte) : Config.ecdsaOk k m l = true ∨ Config.ecdsaOk k m l = false := by
  cases Config.ecdsaOk k m l <;> simp

theorem test_meets_ProtectedCommandsStart :
    ([ .protectedWrite (sub 0) 1 205, .protectedWrite (sub 0) 1 1023, .protectedWrite (sub 0) 4 0, .teamPair (sub 0) 1,
       .cutoffSet (sub 0) ⟨2, 0, 0, 100, 0, 0, 0⟩ ].all fun i => runsB i (open_ ready)) = true
    ∧ runsB (.passwordSet (sub 0) 0 8 1 0x1000 (.ok (List.replicate 64 0))) ready = true
    ∧ ready.sec.set.prot.pwState = 0 ∧ ready.sec.marks.length < 4096 ∧ cutoffShape ⟨2, 0, 0, 100, 0, 0, 0⟩ = true
    ∧ cutoffShape ⟨4, 0, 0, 0, 0, 0, 0⟩ = false ∧ ready.armedSets < 16
    ∧ zeroFrom ((List.replicate 64 0).take 32) 0 = true := by decide +kernel

theorem test_meets_SettingsAndLogCommands :
    runsB (.settingsRead (sub 0) 1 4096 0 0) ready = true ∧ runsB (.settingsRead (sub 0) 2 0 0 0) ready = true
    ∧ runsB (.settingsWrite (sub 0) 6 1 (3 :: List.replicate 31 0)) (open_ ready) = true
    ∧ (fieldPut 6 [3] ready.sec.work).isSome = true ∧ fieldPut 6 [4] ready.sec.work = none
    ∧ zeroFrom (3 :: List.replicate 31 0) 1 = true
    ∧ runsB (.cfgCommit (sub 0)) (open_ ready) = true ∧ ready.sec.marks.length < 4096
    ∧ runsB (.logRead (sub 0) 0 131069 0 4096) ready = true ∧ runsB (.logRead (sub 0) 0 131070 0 1) ready = true
    ∧ runsB (.logArchive (sub 0) 0) (open_ ready) = true ∧ runsB (.logArchive (sub 0) 1) (open_ ready) = true
    ∧ (ready.sec.nextMark - 1).toNat < 1 := by decide +kernel

/-- The engine with an update of 512 bytes open. -/
def updating : State := ready.mapFls fun f => { f with upd := { f.upd with state := 1, length := 512 } }

theorem test_meets_UpdateCommands :
    runsB (.updateOpen (sub 0) 6291456) ready = true ∧ ready.openRefused = false ∧ ready.fls.upd.waiting = none
    ∧ ready.fls.upd.state ≠ 1 ∧ ready.fls.upd.state ≠ 2 ∧ runsB (.updateOpen (sub 0) 256) updating = true
    ∧ runsB (.updateWrite (sub 0) 256 0x1000 256 (.ok (List.replicate 256 7))) updating = true
    ∧ runsB (.updateWrite (sub 0) 512 0x1000 256 (.ok [])) updating = true
    ∧ updating.fls.upd.written = [] ∧ runsB (.updateClose (sub 0)) updating = true
    ∧ runsB (.updateConfirm (sub 0)) ready = true ∧ ready.fls.trial = false
    ∧ (ready.mapFls fun f => { f with upd := { f.upd with state := 2 } }).openRefused = false := by decide +kernel

theorem test_meets_FlashWorkEnds :
    (let j : FlashJob := ⟨some (sub 0), 6, .updClose, false⟩
     let t := ready.mapFls fun f => { f with jobs := [j] }
     t.fls.jobs = j :: [] ∧ j.retried = false)
    ∧ (let t := ready.mapFls fun f => { f with upd := { f.upd with waiting := some (sub 0) } }
       t.fls.upd.waiting = some (sub 0) ∧ ∀ j ∈ t.fls.jobs, j.act ≠ .updCancel) := by decide +kernel

theorem test_meets_WatchdogAndReload :
    ready.coreOn .groom = true ∧ ready.pwr.coreClock = true ∧ (ready.mapPwr fun p => { p with groom := false }).coreOn .groom = false
    ∧ ready.fls.run = some false ∧ ready.pwr.wdogs = [] ∧ ready.sectionOf false 2 = none
    ∧ 3 ≤ ([(.groom, 1), (.groom, 2), (.groom, 3)] : List (CoreId × Nat)).length := by decide +kernel

theorem test_watchdog : (after (.watchdogExpiry .groom) ready).coreOn .groom = false
    ∧ (after (.watchdogExpiry .groom) ready).coreOn .ostler = true := by decide +kernel

theorem test_meets_Calibration :
    (let t := open_ lit
     t.calRefused = false ∧ t.cal.run = none ∧ runsB (.calRun (sub 0) 7 0) t = true ∧ runsB (.calRun (sub 0) 8 0xFFFF) t = true
     ∧ runsB (.calRun (sub 0) 16 0) t = true ∧ runsB (.calRun (sub 0) 0 0) t = true)
    ∧ (open_ ready).calRefused = true ∧ runsB (.calRun (sub 0) 8 0) (open_ ready) = true
    ∧ runsB (.calLoadMap (sub 0) 2049 64) stocked = true ∧ runsB (.calLoadMap (sub 0) 2049 63) stocked = true
    ∧ runsB (.calStore (sub 0)) (open_ ready) = true ∧ ready.calStaged = false ∧ ready.logFull = false
    ∧ (ready.mapCal fun c => { c with map := some [] }).calStaged = true
    ∧ runsB (.calRead (sub 0) 1 1048575 0x1000 1) ready = true ∧ ready.calUe 1 1048575 1 = []
    ∧ (ready.calItem 1 1048575 1).isSome = true := by decide +kernel

/-- The measurements of a run, with every tile at `na` nanoamperes. -/
def meas (na : Nat) : CalMeas := ⟨2450, 8, 0, 0, 1050, 0, 0, List.replicate 256 na⟩
/-- The engine in a run of phases 1 to 3. -/
def running : State := lit.mapCal fun c => { c with run := some ⟨7, sub 0, true, 0⟩ }

theorem test_meets_CalibrationRunEnds :
    running.cal.run = some ⟨7, sub 0, true, 0⟩ ∧ 2450 ≤ (meas 100000).refinMv ∧ (meas 100000).refinSpread ≤ 8
    ∧ (meas 100000).calresMv ≤ 1050
    ∧ (∀ k, k < 256 → 102092800 ≤ (meas 100000).tilesNa.getD k 0 * (1024 + 0) ∧ (meas 100000).tilesNa.getD k 0 * (1024 + 0) ≤ 102400000
        ∧ 102400000 < (meas 100000).tilesNa.getD k 0 * (1024 + 1)) := by decide +kernel
theorem test_calRunEnd : (after (.calRunEnd (meas 100000)) running).cal.run = none := by decide +kernel

theorem test_meets_Lanes :
    ready.lan.l.length = 8 ∧ runsB (.linkTest (sub 0) ⟨0x80, 1, 5, 15, 2, 5, 1⟩) ready = true
    ∧ runsB (.linkTest (sub 0) ⟨0, 1, 5, 15, 2, 5, 1⟩) ready = true ∧ runsB (.linkTest (sub 0) ⟨1, 0, 0, 0, 0, 0, 0⟩) ready = true
    ∧ ready.laneRefused true 7 = none ∧ runsB (.eyeScan (sub 0) 7 0 0 0) ready = true
    ∧ (ready.lane 7).cdrLock = false
    ∧ (let t := mapLane 7 (fun l => { l with cdrLock := true }) stocked
       (t.lane 7).cdrLock = true ∧ (t.lane 7).scan = none ∧ runsB (.eyeScan (sub 0) 7 1 2049 64) t = true
       ∧ 64 + 16256 ≤ owner.size ∧ t.handle 2049 = some owner)
    ∧ (let t := after (.linkTest (sub 0) ⟨0x80, 1, 5, 15, 2, 5, 1⟩) ready
       ((t.lane 7).test.map LaneTest.checker) = some true ∧ (t.lane 7).prbsLock = false
       ∧ ((after (.prbsLock 7) t).lane 7).prbsLock = true) := by decide +kernel

/-! ### Witnesses: registers, rings, the host port -/

theorem test_meets_StrobeCommands :
    ready.memOn = true ∧ ready.pwr.mode ≠ .sleep ∧ (0x100 : BitVec 9) = 1#9 <<< 8 ∧ (1 : BitVec 9) = 1#9 <<< 0
    ∧ (halter.pwr.mode = .halter ∧ (4 : BitVec 9) &&& 0x1FC ≠ 0) ∧ ready.clk.team.toNat = 0
    ∧ (ready.mapReg fun r => { r with atLo := 5 }).reg.atLo = 5
    ∧ (ready.mapClk fun c => { c with team := 9 }).clk.team.toNat = 9 ∧ ready.pwr.configReady = true := by decide +kernel

theorem test_strobe :
    (after (.updStrobeImmediate 0x1FF) (after (.registerWrite .bar0 0x138 [50] 0xF 0) ready)).cfg 0x138 = 50
    ∧ ((after (.updStrobeNextTick 0x101) ready).reg.sets.map ArmedSet.group) = [0, 8]
    ∧ (after (.updStrobeRefused 3) ready).reg.refused = 3 := by decide +kernel

theorem test_meets_RegisterAccess :
    ready.memOn = true ∧ (0x138 : Half).toNat ∈ classCRegs ∧ ready.reg.locked = false
    ∧ (after .cfgLock ready).reg.locked = true ∧ ready.reg.freshS = false
    ∧ (let t := ready.mapReg fun r => { r with freshS := true, freshL := true }
       t.reg.freshS = true ∧ (0 : Word) = t.reg.curS)
    ∧ (ready.flt.pin = true ∧ ready.latched = false) ∧ (ready.mapFlt fun f => { f with degrade := 1 }).latched = true
    ∧ (ready.mapFlt fun f => { f with pin := false }).flt.pin = false
    ∧ (ready.ring 1).enabled = true ∧ (ready.ring 15).enabled = false
    ∧ regHas (0x7FFC % 0x8000) = false ∧ ready.lan.l.length = 8 ∧ (ready.lane 7).prbsLock = false := by decide +kernel

theorem test_registers :
    (after (.registerWrite .bar0 0x138 [50] 0xF 0) ready).shadowVal 0x138 = 50
    ∧ (after (.registerWrite .bar0 0x138 [50] 0xF 0) ready).cfg 0x138 = 100
    ∧ (after (.registerWrite .bar0 0x138 [50] 0xF 0) (after .cfgLock ready)).shadowVal 0x138 = 100
    ∧ (after (.gpioSet 0x5) ready).pwr.gpioLatch = 5 ∧ (after (.seqReset 15) ready).rng.q.length = 16
    ∧ (after .ttNowLoRead (ready.mapClk fun c => { c with team := 0x500000007 })).clk.nowHi = 5
    ∧ (after (.clearingRead 0x208 1) (ready.mapReg fun r => { r with intStat := 63 })).reg.intStat = 0
    ∧ (after (.clearingRead 0x8208 1) (ready.mapReg fun r => { r with intStat := 63 })).reg.intStat = 63 := by
  decide +kernel

theorem test_meets_ConfigurationCrc :
    ready.pwr.farrier = true ∧ State.reset.pwr.farrier = false ∧ ready.reg.committed = true ∧ ready.reg.staleS = false
    ∧ ready.reg.touchS = false
    ∧ (let t := ready.mapReg fun r => { r with staleS := true, staleL := true, force := (0x134, 1) :: r.force }
       t.reg.staleS = true ∧ (t.cfg 0x134).getLsbD 0 = true ∧ t.reg.staleL = true ∧ t.reg.lateS = false
       ∧ t.reg.lateL = false ∧ t.reg.committed = true ∧ t.passesRun = true)
    ∧ (ready.mapPwr fun p => { p with mode := .reset }).passesRun = false := by decide +kernel

theorem test_meets_Doorbells :
    ready.memOn = true ∧ ready.pwr.mode ≠ .sleep ∧ ready.pwr.entry = none ∧ (ready.ring 0).enabled = true
    ∧ bits (ready.cfg (ringReg 0 0x10)) 0 13 = 16 := by decide +kernel
theorem test_doorbells :
    ((after (.sqTailDoorbell 0 15) ready).ring 0).sqTail = 15 ∧ ((after (.sqTailDoorbell 0 16) ready).ring 0).sqTail = 0
    ∧ (after (.sqTailDoorbell 0 16) ready).flt.valid = true ∧ (after (.sqTailDoorbell 15 1) ready).flt.valid = true := by
  decide +kernel

/-- The entry of a NOP with sequence 9 on the ready engine, one entry waiting in ring 0. -/
def queued : State := mapRing 0 (fun r => { r with sqTail := 1 }) ready
/-- The words of that entry: opcode 0x00, target 0x400, sequence 9. -/
def nopWord : BitVec 512 := BitVec.ofNat 512 (0x400 * 2 ^ 16 + 9 * 2 ^ 32)
/-- FILL with a non-zero HOST at byte 24, and one without. -/
def fillWord (host : Nat) : BitVec 512 := BitVec.ofNat 512 (0x15 + 0x400 * 2 ^ 16 + 9 * 2 ^ 32 + host * 2 ^ 192)

theorem test_meets_fillHost :
    (fillHost (entrySub 0 false none (fillWord 1)) (.ok []) (fillWord 1)).isSome = true
    ∧ ((fillHost (entrySub 0 false none (fillWord 1)) (.ok []) (fillWord 1)).all fun p =>
        ready.serves p && (ready.entryCheck p).isNone) = true
    ∧ ready.namesSelf (entrySub 0 false none (fillWord 1)) = true
    ∧ (fillHost (entrySub 0 false none (fillWord 0)) (.ok []) (fillWord 0)).isNone = true
    ∧ (fillHost (entrySub 0 false none nopWord) (.ok []) nopWord).isNone = true
    ∧ (settleHeads ready).pickRing = none := by decide +kernel
/-- R243: FILL with a HOST names its handle's fault before its operand's. -/
theorem test_fillHost : (let t := mapRing 0 (fun r => { r with fetched := [fillWord 1] }) ready
    ((after (.entryStart (.ok [])) t).ring 0).window.getLast?.map fun w => w.status) = some stBadHandle := by decide +kernel

theorem test_meets_EntryFetchAndStart :
    ready.canFetch 0 = false ∧ queued.canFetch 0 = true ∧ queued.rng.q.length = 16 ∧ (queued.ring 0).fetched = []
    ∧ (queued.ring 0).seqValid = false ∧ queued.cqRoom 0 = true
    ∧ (let t := mapRing 0 (fun r => { r with seqValid := true, lastSeq := 9, window := [⟨9, true, 0, 0, 0, digestOf nopWord⟩] })
         queued
       t.canFetch 0 = true ∧ ¬ (1 ≤ (9 - (t.ring 0).lastSeq).toNat) ∧ t.cqRoom 0 = true
       ∧ ((t.ring 0).window.find? fun w => w.seq == 9).isSome = true)
    ∧ (let t := mapRing 0 (fun r => { r with fetched := [nopWord] }) ready
       t.rng.q.length = 16 ∧ (t.ring 0).fetched = [nopWord] ∧ t.eligible 0 = true
       ∧ ∀ k, k < 16 → k ≠ 0 → (t.ring k).fetched = []) := by decide +kernel
theorem test_entryStart : ((after (.entryStart (.ok [])) (after (.entryFetch 0 (.ok nopWord)) queued)).ring 0).lastSeq = 9 := by
  decide +kernel
theorem test_entryRead : entryRead (entrySub 0 false none nopWord) (.ok []) nopWord
    = .inl (.nop { sub 0 with seq := 9, tag := 0 }) := by decide +kernel

theorem test_meets_ApertureAndScrub :
    stocked.memOn = true ∧ stocked.apertureOk 0 4 = false ∧ stocked.apertureOk (3 * 65536) 64 = true
    ∧ stocked.apertureOk (5 * 65536 - 64) 64 = true ∧ stocked.apertureOk (5 * 65536) 64 = false ∧ Memory.wf stocked.pool.mem
    ∧ (∀ u ∈ unitsOf (3 * 65536) 64, u ∉ stocked.pool.ue ∧ u ∉ stocked.pool.ce) ∧ ready.scrubOn = true
    ∧ State.reset.scrubOn = false ∧ ready.pool.scrub = 0 ∧ (0 : Nat) ∉ ready.pool.ue ∧ (0 : Nat) ∉ ready.pool.ce
    ∧ (0 : Nat) ∈ (ready.mapPool fun p => { p with ue := [0] }).pool.ue
    ∧ (let t := ready.mapPool fun p => { p with ce := [0] }
       (0 : Nat) ∉ t.pool.ue ∧ (0 : Nat) ∈ t.pool.ce) := by
  decide +kernel
theorem test_bar4 : cellGet 0 (after (.bar4Write 196608 ((List.range 64).map fun k => some (BitVec.ofNat 8 k)) [] []) stocked).pool.mem
    (196608 + 63) = 63 := by decide +kernel

theorem test_meets_HostPortCommands :
    ready.bus.linkUp = true ∧ ready.pwr.configReady = true ∧ starting.pwr.configReady = false ∧ starting.started = true
    ∧ starting.linkOk 4 4 = true ∧ ready.bus.aspmL1 = true ∧ ready.bus.l1 = false
    ∧ (let t := { ready with bus := { ready.bus with ptmEn := true }, clk := { ready.clk with disc := .ptm, ptmT1 := some 5, ptmCtx := false } }
       t.ptmRuns = true ∧ t.clk.ptmT1 = some 5 ∧ t.clk.ptmCtx = false)
    ∧ (let t := { ready with bus := { ready.bus with ptmEn := true }
                             clk := { ready.clk with disc := .ptm, ptmT1 := some 5, ptmCtx := true, ptmStep := false } }
       t.ptmRuns = true ∧ t.clk.ptmCtx = true ∧ t.clk.ptmStep = false)
    ∧ (let t := { ready with bus := { ready.bus with ptmEn := true }
                             clk := { ready.clk with disc := .ptm, ptmT1 := some 5, ptmCtx := true, ptmStep := true } }
       t.ptmRuns = true ∧ t.clk.ptmCtx = true ∧ t.clk.ptmStep = true)
    ∧ (let t := mapRing 0 (fun r => { r with modCount := 1 })
         { ready with reg := { ready.reg with force := (0x418, 0xA00) :: ready.reg.force } }
       bits (t.cfg (ringReg 0 0x18)) 8 16 ≠ 0 ∧ 0 < (t.ring 0).modCount) := by decide +kernel

theorem test_meets_MsixAndLinkLoss :
    ready.memOn = true ∧ ready.bus.msix.length = 32 ∧ ready.bus.master = true ∧ ready.bus.d3 = false
    ∧ ready.bus.funcMask = false ∧ (ready.mapBus fun b => { b with pba := 1#32 <<< 31, msixEn := true }).bus.pba = 1#32 <<< 31
    ∧ ready.bus.linkUp = true ∧ ready.rng.q.length = 16 ∧ (open_ ready).sec.session = some ⟨none, 5, 0⟩ := by decide +kernel
theorem test_linkDown : (after .linkDown (open_ ready)).sec.session = none
    ∧ ((after .linkDown ready).ring 0).enabled = false := by decide +kernel

/-! ### Witnesses: frame, array, housekeeping, safety, faults -/

/-- The decision of a frame that shows the scene in force. -/
def decision : Decision := ⟨false, 0xFE, 0, 0, 0, false, false, [], 0, 0, 0, false, none, 0⟩
/-- The frame shown. -/
def shown : Shown := ⟨0, false, 0xFE, 0, 0, 0, false, none, 12500, (0, 0), 0, []⟩
/-- The middle of a period: the cut-off has passed and the composition runs. -/
def composing : State := lit.mapFrm fun f =>
  { f with cutDone := true, compOn := true, dec := some decision, comp := some lit.compSet, shown := some shown }
/-- The end of a period: every row is written and the guard has begun. -/
def complete : State := composing.mapFrm fun f => { f with rows := 512, compDone := true }
def guarding : State := complete.mapFrm fun f => { f with blank := true }

theorem test_meets_TickShowsOrSkips :
    guarding.ticking = true ∧ guarding.frm.blank = true ∧ guarding.frameGood = true ∧ guarding.frm.under = false
    ∧ guarding.frm.sleepTicks = false ∧ guarding.frm.comp.isSome = true ∧ guarding.frm.dec = some decision
    ∧ (guarding.mapFrm fun f => { f with rows := 511, compDone := false }).frameGood = false := by decide +kernel

theorem test_meets_FrameBuilding :
    State.reset.ticking = false ∧ lit.ticking = true ∧ lit.frm.cutDone = false ∧ lit.frm.blank = false
    ∧ lit.frm.sleepTicks = false ∧ ready.fallbackNext = true ∧ ready.ticking = true ∧ ready.frm.cutDone = false
    ∧ complete.frm.comp = some lit.compSet ∧ complete.frm.dec = some decision ∧ complete.frm.compOn = true
    ∧ complete.frm.sleepTicks = false ∧ complete.frm.fail = none
    ∧ (composing.frm.dec = some decision ∧ composing.frm.comp = some lit.compSet ∧ composing.frm.blank = false)
    ∧ (let t := composing.mapFrm fun f => { f with dec := some { decision with skipRep := true } }
       t.ticking = true ∧ t.frm.blank = false ∧ ∃ d, t.frm.dec = some d ∧ d.skipRep = true)
    ∧ (let t := composing.mapFrm fun f => { f with compOn := false, comp := none }
       t.frm.cutDone = true ∧ t.frm.compOn = false ∧ t.frm.blank = false ∧ t.frm.dec = some decision)
    ∧ (composing.ticking = true ∧ composing.frm.compOn = true ∧ composing.frm.rows < 512 ∧ decision.skipRep = false)
    ∧ (let t := complete.mapFrm fun f => { f with compDone := false }
       t.ticking = true ∧ t.frm.compOn = true ∧ t.frm.compDone = false ∧ t.frm.blank = false ∧ t.frm.comp ≠ none
       ∧ 512 ≤ t.frm.rows)
    ∧ (composing.frm.blank = false ∧ composing.frm.rows < 512) ∧ (complete.frm.blank = false ∧ complete.frameGood = true)
    ∧ composing.frm.shown = some shown := by
  refine ⟨?_, ?_, ?_, ?_, ?_, ?_, ?_, ?_, ?_, ?_, ?_, ?_, ?_, ?_, ⟨?_, ?_, _, rfl, rfl⟩, ?_⟩ <;> decide +kernel

theorem test_meets_TickSources :
    State.reset.ticking = false ∧ lit.frm.src ≠ .fsync
    ∧ (let t := lit.mapFrm fun f => { f with src := .fsync, sync := { f.sync with state := .locked } }
       t.ticking = true ∧ t.frm.src = .fsync ∧ t.frm.sync.state = .locked ∧ true ≠ t.frm.params.falling
       ∧ t.frm.params.ns ≤ t.frm.sync.selCount + 1)
    ∧ (lit.mapFrm fun f => { f with fsyncOut := true, params := { f.params with foEnable := true } }).frm.params.foEnable = true
    ∧ (let t := lit.mapFrm fun f => { f with fsyncOut := false, params := { f.params with foEnable := true } }
       t.frm.params.foEnable = true ∧ t.frm.fsyncOut = false ∧ t.frm.frame.toNat % t.frm.params.foDiv = 0
       ∧ t.frm.foDone = false)
    ∧ (lit.mapFrm fun f => { f with foDone := true }).frm.foDone = true
    ∧ lit.pwr.hasDram = true ∧ lit.pwr.selfRefresh = false ∧ lit.lg.next < 131070 ∧ lit.syncReady = false := by
  decide +kernel

/-- A current of 451 mA held for 200 ns in tile `t`. -/
def tooMuch (t : BitVec 8) : TileTrip := ⟨t, 0, 451, 200⟩
/-- An engine with a current limit of 0, where every charge trips the array. -/
def unlimited : State := lit.mapFrm fun f => { f with params := { f.params with iLimit := 0 } }

theorem test_meets_ArrayEvents :
    lit.ticking = true ∧ lit.measuring = false ∧ composing.sampleValid ⟨0, 0, .stuck, false⟩ = true
    ∧ composing.sampleValid ⟨0, 0, .short, false⟩ = false
    ∧ lit.frm.probed = none ∧ lit.tileClosed 255 = true ∧ State.reset.tileClosed 0 = false ∧ lit.closedTiles ≠ 0
    ∧ State.reset.closedTiles = 0 ∧ lit.arr.relight = none ∧ unlimited.closedTiles ≠ 0
    ∧ (255 : Nat) ∈ (after (.tileOvercurrentTrip (tooMuch 255)) lit).arr.tripOpen
    ∧ (let t := (lit.mapFrm fun f => { f with tickLoc := 100000000 }).mapPho fun p => { p with cap := true }
       t.pho.cap = true ∧ ∀ k, t.arr.arrTripAt = some k → k + 100000000 ≤ t.frm.tickLoc)
    ∧ (lit.mapFrm fun f => { f with probed := some ⟨0, 0, false, true, true⟩ }).frm.probed ≠ none
    ∧ (lit.mapArr fun a => { a with relight := some 7 }).arr.relight = some 7
    ∧ lit.saf.darkPin = false ∧ lit.pwr.vaon = true ∧ (after .darkNAssert lit).saf.darkPin = true := by decide +kernel
theorem test_meets_arrayTrip : unlimited.arrayTrips (Config.arrayCharge unlimited.free + 1) = true := by
  have h : unlimited.arrayPred = 0 := by decide +kernel
  have h2 : 0 < unlimited.tPwm.2 := by decide +kernel
  simp only [State.arrayTrips, h, decide_eq_true_eq]
  have := Nat.mul_pos (Nat.mul_pos (by decide : 0 < 10) (Nat.succ_pos (Config.arrayCharge unlimited.free))) h2
  simpa using this
theorem test_trip : (after (.tileOvercurrentTrip (tooMuch 255)) lit).tileClosed 255 = false
    ∧ (after (.tileOvercurrentTrip (tooMuch 255)) lit).tileClosed 254 = true
    ∧ after (.tileOvercurrentTrip ⟨255, 0, 450, 200⟩) lit = lit := by decide +kernel
theorem test_dark : (after .darkNAssert lit).tileClosed 0 = false ∧ (after .darkNAssert lit).causes = 0x100 := by
  decide +kernel

theorem test_meets_HousekeepingEvents :
    lit.hk.ch.length = 32 ∧ lit.hkRuns = true ∧ lit.hk.next < 32 ∧ lit.pwr.groom = true ∧ lit.measuring = false
    ∧ (lit.mapHk fun h => { h with loop := true }).hk.loop = true
    ∧ (lit.mapPwr fun p => { p with groom := false }).hkRuns = true ∧ lit.pwr.vaon = true ∧ lit.hk.tripped = 0
    ∧ lit.pwr.mode ≠ .standby ∧ lit.pwr.mode ≠ .off ∧ lit.hk.cool = true
    ∧ (after (.tempTrip 17) lit).hk.cool = false ∧ (after (.tempTrip 17) lit).hk.latchOff = false := by decide +kernel

theorem test_meets_SafetyInputs :
    lit.saf.sin.length = 4 ∧ (lit.mapSaf fun f => { f with tpoOn := true }).saf.tpoOn = true ∧ lit.saf.win.getLsbD 1 = false
    ∧ lit.pwr.vaon = true ∧ lit.saf.win = 0
    ∧ (lit.mapSaf fun f => { f with hbArmed := true }).saf.hbArmed = true ∧ lit.saf.hbExp = false ∧ lit.saf.hbArmed = false
    ∧ lit.ticking = true ∧ lit.canAccepts ⟨true, false, false, 8, true, 0, List.replicate 8 0⟩ = false ∧ lit.saf.canOut = false := by
  decide +kernel

theorem test_meets_FaultCollector :
    ready.persists 0x9F = false ∧ (0x9F : Byte).toNat ≤ 0x9F
    ∧ (let t := { ready with flt := { ready.flt with relPending := true }, clk := { ready.clk with loc := 10000000 } }
       t.flt.pin = true ∧ t.flt.relPending = true ∧ t.flt.degrade = 0 ∧ t.flt.safe = 0 ∧ t.flt.dark = 0
       ∧ t.flt.pinSince + 1000000 * max 1 (bits (t.cfg 0x1014) 0 8) ≤ t.clk.loc)
    ∧ (after .faultNRelease { ready with
        flt := { ready.flt with relPending := true }, clk := { ready.clk with loc := 10000000 } }).flt.pin = false := by
  decide +kernel

/-! ### Witnesses: teams, power, start-up -/

/-- The header of the next reliable frame of a session. -/
def rel : FrameHdr := { hdr with reliable := true, routed := true, dst := 3 }
/-- The lead with port 1 up. -/
def leading : State := mapPort 1 (fun q => { q with state := .up }) leader

theorem test_meets_PortLife :
    follower.trc.ports.length = 4 ∧ (follower.port 0).state = .up ∧ (follower.port 1).state = .down
    ∧ (follower.port 0).replay = [] ∧ Arrives 0 hdr follower
    ∧ (let t := mapPort 1 (fun q => { q with state := .starting }) ready
       (t.port 1).state = .starting ∧ t.teamCore = true ∧ (t.port 1).fresh 0 = true ∧ (t.port 1).answered = false)
    ∧ (let t := mapPort 1 (fun q => { q with state := .starting, answered := true }) ready
       (t.port 1).state = .starting ∧ (t.port 1).answered = true ∧ (t.port 1).fresh hdr.fcnt = true
       ∧ (t.port 1).replay = [] ∧ hdr.nak = false)
    ∧ (let t := mapPort 0 (fun q => { q with replay := [(0, .acknak false)], retries := 3 }) follower
       (t.port 0).state = .up ∧ (t.port 0).replay ≠ [] ∧ 3 ≤ (t.port 0).retries)
    ∧ ready.lockSet = false ∧ ready.pwr.trngOk = true ∧ ready.laneTested (ready.portLane 1) = false
    ∧ ready.pwr.mode = .active ∧ (ready.port 1).state = .down := by
  unfold Arrives; decide +kernel

theorem test_meets_portOn : ∃ s : State, s.portOn 0 = true ∧ s.pwr.mode = .active :=
  ⟨leader.mapFrm fun f => { f with params := { f.params with ports := 1 } }, by decide +kernel⟩

theorem test_meets_TeamTimeFrames :
    Arrives 0 hdr follower ∧ (follower.port 0).standby = false ∧ follower.tm.leading = false ∧ follower.actsFollower = true
    ∧ follower.tm.parent = some 0 ∧ follower.teamCore = true
    ∧ ((mapPort 0 (fun q => { q with delayT1 := some (1, 5) }) follower).port 0).delayT1 = some (1, 5)
    ∧ leader.tm.leading = true ∧ leader.tm.isMember = true ∧ leader.teamCore = true := by
  unfold Arrives; decide +kernel

theorem test_timeSync :
    (after (.timeSync 0 hdr ⟨500, 0, 0, 9, 0, 0⟩) follower).clk.slew = 500
    ∧ (after (.timeSync 0 hdr ⟨1001, 0, 0, 9, 0, 0⟩) follower).clk.team = 1001 := by decide +kernel

theorem test_meets_TeamFrames :
    Arrives 0 hdr follower ∧ follower.tm.excluded = false ∧ follower.tm.lead = some 9 ∧ follower.tm.term = 0
    ∧ follower.tm.noLead = false ∧ ArrivesNext 0 rel follower ∧ (3, 2, 0) ∉ follower.tm.seen
    ∧ (7 : Half).toNat ≠ follower.engineId.toNat ∧ follower.tm.dist < 256
    ∧ Arrives 1 hdr leading ∧ (leading.port 1).standby = false ∧ leading.tm.leading = true := by
  unfold ArrivesNext Arrives; decide +kernel

theorem test_meets_digest : ∃ (s : State) (m : Member), s.tm.leading = true ∧ s.teamCore = true ∧ Arrives 1 hdr s
    ∧ s.tm.members.find? (fun x => x.id.toNat == 3) = some m :=
  ⟨{ leading with tm := { leading.tm with members := [⟨3, 0, 1, 4, 0, 0, 0, 0, false, 8, 0, 1, [], false, true, true⟩] } },
    ⟨3, 0, 1, 4, 0, 0, 0, 0, false, 8, 0, 1, [], false, true, true⟩, by unfold Arrives; decide +kernel⟩

/-- The words of an AUTH_LOGIN of mode 2, which reads 64 bytes of host memory. -/
def loginWord : BitVec 512 := BitVec.ofNat 512 (0x88 + 3 * 2 ^ 16 + 9 * 2 ^ 32 + 2 * 2 ^ 128)

theorem test_meets_ForwardedFrames :
    ArrivesNext 0 rel follower ∧ (follower.port 0).standby = false ∧ follower.dstHere 0x400 = false
    ∧ follower.dstHere (follower.engineId.zeroExtend 11) = true ∧ follower.teamCore = true ∧ follower.pwr.ready = true
    ∧ follower.pwr.farrier = true ∧ follower.barrierWaits 9 0 nopWord = false ∧ follower.tm.isMember = true
    ∧ ((follower.originWin 9 0).getD ⟨9, 0, false, 0, [], 0⟩).executes 9 = true
    ∧ follower.fwd (follower.originKey 9) 0 1 = none ∧ leading.tm.leading = true ∧ follower.tm.parent ≠ some 1
    ∧ entryReads nopWord = 0 ∧ (entryReads loginWord ≠ 0 ∧ entryOp loginWord ≠ 0x13)
    ∧ follower.readOf (entrySub 0 false (some 9) loginWord) 64 = none
    ∧ ({ follower with tm := { follower.tm with reads := [(entrySub 0 false (some 9) loginWord, loginWord)] } }.readers.find?
        fun (b : Sub) => b.seq == 9).isSome = true
    ∧ (follower.readers.find? fun (b : Sub) => b.seq == 9) = none ∧ follower.dstHere 5 = false ∧ follower.cmdHere 5 = false := by
  unfold ArrivesNext Arrives; decide +kernel

/-- The follower's record of a command that it sent to the lead. -/
def sent : Forward := ⟨subTo 9, nopWord, false, [(9, .waiting 8)]⟩

theorem test_meets_TeamDecisions :
    (let t := { follower with tm := { follower.tm with fwds := [sent] } }
     t.tm.fwds = [sent] ∧ sent.sub.ring = 0 ∧ sent.targets = [(9, .waiting 8)])
    ∧ follower.actsFollower = true ∧ follower.tm.isMember = true ∧ follower.tm.divergent = false ∧ follower.tm.mism < 4
    ∧ follower.tm.lead ≠ none ∧ follower.tm.noLead = false
    ∧ (let t := { follower with tm := { follower.tm with mism := 4, missed := 3, handback := some (3, 5), tickNo := 5 } }
       4 ≤ t.tm.mism ∧ 3 ≤ t.tm.missed ∧ t.tm.handback = some (3, 5) ∧ (5 : Dword).toNat ≤ t.tm.tickNo.toNat
       ∧ t.tm.id = some 3 ∧ t.tm.leading = false) := by decide +kernel
theorem test_handback :
    (after .handback { follower with tm := { follower.tm with handback := some (3, 5), tickNo := 5 } }).tm.leading = true := by
  decide +kernel

/-- The entry into a low-power state. -/
def entering (standby : Bool) : State :=
  lit.mapPwr fun p => { p with entry := some ⟨standby, sub 0, .active, 0, true, 5⟩ }

/-- The entry after `n` of its abort points. -/
def dark (n : Nat) (standby : Bool) : State := (List.range n).foldl (fun s _ => after .powerEntryDark s) (entering standby)

theorem test_meets_SleepAndWake :
    (entering false).pwr.entry = some ⟨false, sub 0, .active, 0, true, 5⟩ ∧ (entering false).drained = true
    ∧ (entering true).pwr.entry.isSome = true ∧ (entering false).clk.loc ≠ 5 ∧ (entering false).pwr.mode ≠ .standby
    ∧ (entering false).pwr.pend = none
    ∧ (dark 1 false).pwr.entry = some ⟨false, sub 0, .active, 1, true, 5⟩
    ∧ (dark 2 false).pwr.entry = some ⟨false, sub 0, .active, 2, true, 5⟩
    ∧ (dark 3 true).pwr.entry = some ⟨true, sub 0, .active, 3, true, 5⟩
    ∧ (let t := dark 4 false
       t.pwr.mode = .sleep ∧ t.pwr.entry = some ⟨false, sub 0, .active, 4, true, 5⟩ ∧ t.pwr.wake = none
       ∧ (after .wakePin t).pwr.wake = some ⟨1, 0, 0, 0⟩ ∧ (after .wakePin t).pwr.pend = none)
    ∧ (let t := dark 4 true
       t.pwr.mode = .standby ∧ t.pwr.wake = none ∧ (after .wakePin t).pwr.wake.isSome = true) := by decide +kernel
theorem test_wake : (after .wakeComplete (after .wakePin (dark 4 false))).pwr.mode = .active
    ∧ (after .wakePin (dark 2 false)).pwr.selfRefresh = false := by decide +kernel

theorem test_meets_PowerAndReset :
    (after .vaonLoss ready).pwr.mode = .off ∧ State.reset.pwr.mode = .reset ∧ ready.pwr.mode ≠ .off ∧ ready.started = true
    ∧ State.reset.started = false ∧ ready.pwr.coreClock = true ∧ ready.lan.l.length = 8
    ∧ (let t := State.reset.mapPwr fun p => { p with supplies := false }
       t.pwr.mode = .reset ∧ t.pwr.vaon = true ∧ t.pwr.pwrEn = true ∧ t.pwr.supplies = false ∧ t.pwr.rstN = false)
    ∧ ready.fls.jobs = [] ∧ ready.fls.upd.waiting = none ∧ ready.inactive = true
    ∧ (ready.mapFls fun f => { f with run := some true }).inactive = false
    ∧ State.reset.pwr.supplies = true ∧ (State.reset.mapPwr fun p => { p with rstN := true }).pwr.rstN = true := by
  decide +kernel
theorem test_reset : (after .rstNAssert ready).pwr.mode = .reset ∧ (after .rstNAssert ready).cfg 0x138 = 100 := by decide +kernel

theorem test_meets_StartUp :
    starting.pwr.mode = .startup ∧ starting.pwr.otpOk = false ∧ starting.pwr.otpFailed = false
    ∧ (starting.mapPwr fun p => { p with failedRead := 4 }).pwr.failedRead.toNat = 4 ∧ starting.pwr.otpTries < 2
    ∧ (halter.mapPwr fun p => { p with hasDram := false }).pwr.hasDram = false
    ∧ (let t := (starting.mapPwr fun p => { p with hasDram := true }).mapFls fun f => { f with run := some false }
       t.frm.ticked = false ∧ t.fls.run ≠ none)
    ∧ (starting.mapPwr fun p => { p with step := 9 }).pwr.step = 9
    ∧ (starting.mapFrm fun f => { f with ticked := true }).frm.ticked = true ∧ starting.pwr.ready = false
    ∧ (halter.mapPwr fun p => { p with ready := false }).pwr.mode = .halter ∧ ready.pwr.ready = true := by decide +kernel
theorem test_halter : (after (.otpLoadDone true) (starting.mapPwr fun p => { p with failedRead := 4 })).pwr.mode = .halter := by
  decide +kernel

theorem test_meets_wholeMachine :
    (spelled (.cfgCommit (sub 0))).isSome = true ∧ (Instr.cfgCommit (sub 0)).wf = true
    ∧ toldByHost (.cfgCommit (sub 0)) = none ∧ toldByHost (.updateWrite (sub 0) 0 0 0 (.ok [1])) = some (.ok [1])
    ∧ MemoriesWf ready := by unfold MemoriesWf; decide +kernel

/-- `exec` answers a next state. -/
def goesOn (i : Instr) (s : State) : Bool :=
  match exec i s with
  | .next _ => true
  | _ => false

theorem test_meets_wholeMachine_runs :
    goesOn (.nop (sub 0)) ready = true ∧ goesOn (.cfgCommit (sub 0)) (open_ ready) = true
    ∧ (match step { ready with pending := [.nop (sub 0)] } with | .next _ => true | _ => false) = true := by decide +kernel

/-! ### Witnesses: flash writes, start-up images, the configuration CRC, ticks with changes -/

/-- The ready engine whose flash write ends with `act` for a command of ring 0. -/
def writing (act : AfterFlash) : State := ready.mapFls fun f => { f with jobs := [⟨some (sub 0), 4, act, false⟩] }
/-- A calibration record without a map. -/
def calRec0 : CalRec := ⟨1, List.replicate 256 0, [], 0, 0, 0, Assay.blank, []⟩
/-- One write of each kind that FlashWritesEnd speaks of. -/
def acts : List AfterFlash :=
  let m : MarkWrite := ⟨5, 1, 2, 3⟩
  [ .protWrite 1 205, .cutoff [] 40 none none, .password [] [] 5, .recovery 5, .teamKey 7, .cfgCommit, .calStore calRec0,
    .marked m (.protWrite 1 205), .marked m (.cutoff [] 40 none none), .marked m (.password [] [] 5),
    .marked m (.teamKey 7), .marked m .cfgCommit, .marked m (.recovery 5), .marked m (.calStore calRec0),
    .login true 5, .login false 5, .pwFail, .archive 0, .ackStuck 0x54, .updWrite 0 (List.replicate 256 7),
    .updPartial 0 (List.replicate 256 7), .updClose, .updConfirm, .updCancel ]

theorem test_meets_FlashWritesEnd :
    acts.all (fun a => decide ((writing a).fls.jobs = [⟨some (sub 0), 4, a, false⟩] ∧ (writing a).operator = 0)) = true
    ∧ ((pagesOf 0 (List.replicate 256 7)).any updating.pageConflict) = false
    ∧ ((pagesOf 0 (List.replicate 256 7)).any
        (updating.mapFls fun f => { f with slotB := [(0, 1)], upd := { f.upd with written := [0] } }).pageConflict) = true
    ∧ (let t := ready.mapFls fun f => { f with blow := some (sub 0), imgSec := 1 }
       t.fls.blow = some (sub 0) ∧ t.pending = [] ∧ t.pwr.mode ≠ .off ∧ popcount t.idn.fuses < min 64 t.fls.imgSec)
    ∧ (let t := ready.mapFls fun f => { f with blow := some (sub 0) }
       min 64 t.fls.imgSec ≤ popcount t.idn.fuses)
    ∧ (let t := running.mapCal fun c => { c with trims := some (calRec0.trims, calRec0.q), map := some calRec0.map }
       t.cal.trims = some (calRec0.trims, calRec0.q) ∧ t.cal.map = some calRec0.map) := by decide +kernel
theorem test_updClose : ((after (.flashWriteDone true) (writing .updClose)).fls.upd.state) = 2 := by decide +kernel

/-- A boot record, as both copies of it. -/
def booting (state trial : Nat) : State := starting.mapFls fun f =>
  { f with boot := [BootRec.bytes ⟨1, false, state, trial⟩, List.replicate 64 0xFF] }
/-- Entry `k` of the section table of a small image. -/
def imageEntry (k len hash : Nat) : List Byte :=
  leBytes (k + 2) 4 ++ leBytes (1024 + 256 * k) 4 ++ leBytes len 4 ++ leBytes 0 4 ++ (leBytes hash 32).reverse
/-- The first value is SHA-256 of the byte 0, the second of the bytes 1 and 0. -/
def hashOne : Nat := 0x6e340b9cffb37a989ca544e6bb780a2c78901d3fb33738768511a30617afa01d
def hashTwo : Nat := 0x47dc540c94ceb704a23875c11273e16bb0b8a87aed84de911f2133568115f254
/-- The head of a small image, its section table and its sections: one byte 0 of types 2, 3 and 4, and a hallmark store of
two bytes. -/
def imageHead : List Host.Cell :=
  freshCells 0xFF 0 (leBytes 0x49564C46 4 ++ leBytes 1 2 ++ leBytes 7 2 ++ [0, Config.romVersion, 0, 0] ++ leBytes 2048 4
    ++ List.replicate 48 0)
  ++ [(1024, 0), (1280, 0), (1536, 0), (1792, 1), (1793, 0)]
  ++ freshCells 0xFF 128 (imageEntry 0 1 hashOne ++ imageEntry 1 1 hashOne ++ imageEntry 2 1 hashOne ++ imageEntry 3 2 hashTwo
    ++ List.replicate 192 0)
/-- The cells of that image, as a slot of flash holds them: the bytes after the signature are zeros. -/
def imageCells : List Host.Cell := imageHead ++ freshCells 0xFF 576 (List.replicate 448 0)
/-- A state with that image in slot A. -/
def imaged (s : State) : State := s.mapFls fun f => { f with slotA := imageCells }
/-- Start-up with the OTP read and that image. -/
def loaded : State := imaged (starting.mapPwr fun p => { p with otpOk := true })


theorem imageHead_ends : ∀ c ∈ imageHead, c.1 < 576 ∨ 1024 ≤ c.1 := by decide +kernel
/-- The reserved bytes of that image are 0. -/
theorem loaded_reserved : (loaded.slotBytes false 576 448).all (· == 0) = true := by
  simp only [State.slotBytes, cellsGet, List.all_map, List.all_eq_true, List.mem_range]
  intro k hk
  show (cellGet 0xFF imageCells (576 + k) == 0) = true
  rw [imageCells, Laws.cellGet_append, if_neg, Laws.cellGet_fresh _ _ _ _ (by simpa using hk)]
  · simp only [List.getD_eq_getElem?_getD, List.getElem?_replicate, hk, if_true]; rfl
  · rintro ⟨c, hc, h⟩
    have := imageHead_ends c hc
    omega
/-- The image passes check 1 of R452. -/
theorem loaded_header : loaded.headerOk false = true := by
  have a : (let f := loaded.slotField false
    f 0 4 == 0x49564C46 && f 4 2 == 1 && f 9 1 == Config.romVersion.toNat && f 10 2 == 0
    && f 12 4 % 256 == 0 && decide (1024 ≤ f 12 4 ∧ f 12 4 ≤ slotSize)
    && (loaded.slotBytes false 16 48).all (· == 0)) = true := by decide +kernel
  have b : (loaded.sections false).all Section.resOk = true := by decide +kernel
  simp only [State.headerOk, a, b, loaded_reserved, Bool.and_self]

theorem test_meets_StartUp_records :
    (booting 0 0).bootRec = some ⟨1, false, 0, 0⟩ ∧ (booting 1 0).bootRec = some ⟨1, false, 1, 0⟩
    ∧ (booting 2 3).bootRec = some ⟨1, false, 2, 3⟩ ∧ (booting 0 0).pwr.failedRead.toNat < 4
    ∧ (booting 0 0).pwr.mode = .startup ∧ (booting 0 0).pwr.otpOk = false ∧ (booting 0 0).pwr.otpFailed = false
    ∧ (let t := (booting 1 0).mapFls fun f => { f with jobs := [⟨none, 6, .bootTrial false 1, false⟩] }
       t.fls.jobs = ⟨none, 6, .bootTrial false 1, false⟩ :: [] ∧ t.manifest false ≠ .ok)
    ∧ (let t := (booting 0 0).mapFls fun f => { f with jobs := [⟨none, 6, .bootOther true, false⟩] }
       t.fls.jobs = ⟨none, 6, .bootOther true, false⟩ :: [])
    ∧ (let t := starting.mapFls fun f => { f with run := some false }
       t.pwr.mode = .startup ∧ t.fls.run = some false ∧ t.pwr.hasDram = false ∧ t.storesOk false = false)
    ∧ loaded.keyOk false = true
    ∧ loaded.tableOk false = true ∧ loaded.slotSec false = loaded.rollback
    ∧ loaded.storesOk false = true := by decide +kernel

/-- The section table of that image. -/
theorem loaded_sections : loaded.sectionAt false 0 = ⟨2, 1024, 1, (leBytes hashOne 32).reverse, true⟩
    ∧ loaded.sectionAt false 1 = ⟨3, 1280, 1, (leBytes hashOne 32).reverse, true⟩
    ∧ loaded.sectionAt false 2 = ⟨4, 1536, 1, (leBytes hashOne 32).reverse, true⟩
    ∧ loaded.sectionAt false 3 = ⟨5, 1792, 2, (leBytes hashTwo 32).reverse, true⟩
    ∧ (loaded.sectionAt false 4).kind = 0 ∧ (loaded.sectionAt false 5).kind = 0 ∧ (loaded.sectionAt false 6).kind = 0
    ∧ (loaded.sectionAt false 7).kind = 0 := by decide +kernel
/-- The bytes of its sections. -/
theorem loaded_bytes : loaded.slotBytes false 1024 1 = [0] ∧ loaded.slotBytes false 1280 1 = [0]
    ∧ loaded.slotBytes false 1536 1 = [0] ∧ loaded.slotBytes false 1792 2 = [1, 0] := by decide +kernel

/-- The image passes step 3 where its signature does (the check is a constant without a value), and steps 4 and 8 where the
digests of its sections are those of SHA-256. -/
theorem test_meets_StartUp_image (hs : loaded.sigOk false = true)
    (h0 : Config.sha256 [0] = (leBytes hashOne 32).reverse) (h1 : Config.sha256 [1, 0] = (leBytes hashTwo 32).reverse) :
    loaded.manifest false = .ok ∧ loaded.hashesOk false [1, 2, 3] = true
    ∧ loaded.hashesOk false [4, 5] = true := by
  have a := loaded_header
  obtain ⟨-, -, -, -, -, -, -, -, -, -, b, c, d, -⟩ := test_meets_StartUp_records
  obtain ⟨s0, s1, s2, s3, s4, s5, s6, s7⟩ := loaded_sections
  obtain ⟨x0, x1, x2, x3⟩ := loaded_bytes
  have r : List.range 8 = [0, 1, 2, 3, 4, 5, 6, 7] := rfl
  refine ⟨by simp only [State.manifest, a, b, c, d, hs]; simp, ?_, ?_⟩ <;>
    simp only [State.hashesOk, State.sections, r, List.map, List.all, s0, s1, s2, s3, s4, s5, s6, s7, State.sectionOk,
      State.sectionBytes, x0, x1, x2, x3, h0, h1] <;> simp

theorem test_meets_ConfigurationCrc_differs :
    ready.passesRun = true ∧ ready.reg.staleL = false ∧ ready.reg.touchL = false
    ∧ crc32 ready.frm.params.sharedRecords ^^^ 0 ≠ ready.reg.refS ∧ ready.sevOf fCfgCrc 0 ≠ 0
    ∧ crc32 ready.frm.params.sharedRecords ^^^ crc32 ready.frm.params.sharedRecords = ready.reg.refS
    ∧ (let t := ready.mapReg fun r => { r with touchS := true, staleS := true }
       t.reg.staleS = true ∧ (t.reg.freshS || !t.reg.touchS) = false)
    ∧ (let t := ready.mapReg fun r => { r with staleL := true, touchL := false, force := (0x134, 3) :: r.force }
       t.reg.staleL = true ∧ (t.reg.freshL || !t.reg.touchL) = true ∧ (t.cfg 0x134).getLsbD 1 = true) := by decide +kernel
theorem test_meets_ConfigurationCrc_local : ∃ b : Word, crc32 (itemRecords ready.localItems) ^^^ b ≠ ready.reg.refL := by
  refine ⟨crc32 (itemRecords ready.localItems) ^^^ 1#32 ^^^ ready.reg.refL, fun h => ?_⟩
  have : (1#32 : Word) ^^^ ready.reg.refL = ready.reg.refL := by
    rw [← BitVec.xor_assoc, ← BitVec.xor_assoc, BitVec.xor_self, BitVec.zero_xor] at h; exact h
  revert this; decide +kernel
theorem test_cfgCrc : (let t := ready.mapReg fun r => { r with committed := false }
    (after (.cfgCrcPass 0 0) t).reg.passes = t.reg.passes + 1) := by decide +kernel
theorem test_meets_cfgStale (p : Partition) : ∃ t : State, t.reg.committed = true ∧ t.passesRun = true
    ∧ t.staleNew p = true := by
  refine ⟨ready.mapReg fun r => { r with staleS := true, staleL := true }, ?_, ?_, ?_⟩ <;> cases p <;> decide +kernel

/-- The lit engine with a change for its next frame and one for a later frame armed, and a register set due at the tick. -/
def changing : State :=
  { lit with
    frm := { lit.frm with armed := [⟨lit.nextFrame, [.dutyN 8], 0, false, false⟩, ⟨lit.nextFrame + 9, [.iLimit 100], 1, false, false⟩] }
    reg := { lit.reg with sets := [⟨1, [(0x414, 0x300)], .tick, 0, 0⟩] } }

theorem test_meets_ChangesApplyInOrder_tick :
    changing.ticking = true ∧ changing.tm.entries = [] ∧ changing.tm.teamP = []
    ∧ (changing.frm.armed.filter fun c => decide ((changing.nextFrame - c.frame).toNat < 2 ^ 31)).length = 1
    ∧ (changing.reg.sets.filter fun a => a.whenTo == .tick
        && decide ((changing.nextFrame - a.target.truncate 32).toNat < 2 ^ 31)).length = 1
    ∧ (lit.ticking = true ∧ lit.tm.entries = [] ∧ lit.frm.armed = [])
    ∧ ((lit.mapTm fun t => { t with teamP := [(lit.tm.tickNo + 1, 20000000)] }).tm.teamP = [] ++ [(lit.tm.tickNo + 1, 20000000)]) := by
  decide +kernel
theorem test_tickApplies : (after (.tick []) changing).frm.params.dutyN = 8 ∧ bits ((after (.tick []) changing).cfg 0x414) 8 5 = 3
    ∧ (after (.tick []) changing).frm.armed.length = 1 := by decide +kernel

/-! ### Witnesses: memory, moves, forwarded frames, entries -/

theorem test_meets_failedCopyIn :
    (let m : Move := ⟨0, .copyIn, 2049, 0, 0x1000, 4, sub 0⟩
     let t := { stocked with pool := { stocked.pool with moves := [m] } }
     t.pool.moves.find? (fun x => x.id == 0) = some m ∧ m.kind = .copyIn ∧ ([1, 2] : List Byte).length ≤ m.length)
    ∧ (let t := stocked.mapPool fun p => { p with ue := [196608] }
       t.memOn = true ∧ t.apertureOk 196608 4 = true ∧ unitsOf 196608 4 = [196608] ∧ 196608 ∈ t.pool.ue ∧ 196608 ∉ t.pool.ce)
    ∧ (runsB (.poolAlloc (sub 0) 2 17 2) ready = true ∧ runsB (.poolAlloc (sub 0) 2 3 2) ready = true)
    ∧ (let t := ready.mapFrm fun f => { f with rows := 0 }
       runsB (.updateWrite (sub 0) 0 0x1000 256 (.fail (List.replicate 256 7))) updating = true ∧ t.fls.upd.written = [])
    ∧ runsB (.pixmapRead (sub 0) ⟨0, 1, 0, 0⟩) (ready.mapPool fun p => { p with ue := [unitsOf pixmapBase 1 |>.headD 0] }) = true := by
  decide +kernel
theorem test_poisoned : (match exec (.bar4Read 196608 4 [] []) (stocked.mapPool fun p => { p with ue := [196608] }) with
    | .next t => t.flt.sticky.getLsbD fMemUe
    | _ => false) = true := by decide +kernel

/-- The lead of a team with member 5 and port 1 up. -/
def leadWith : State := mapPort 1 (fun q => { q with state := .up }) (crewed 0)
/-- The header of a reliable frame to the lead, and a NOP for engine 5 from engine 3 with sequence 1 and a target `t`. -/
def relLead : FrameHdr := { rel with dst := 9 }
def nopFor (t : Nat) : BitVec 512 := BitVec.ofNat 512 (t * 2 ^ 16 + 1 * 2 ^ 32)
/-- A record of a NOP for engines `l`. -/
def waitingFor (l : List (BitVec 10 × TargetState)) (key : Option (BitVec 10)) : Forward :=
  ⟨{ subTo 0x7FF with origin := key }, nopFor 0x7FF, true, l⟩

theorem test_meets_forwardedOnLead :
    ArrivesNext 1 relLead leadWith ∧ (leadWith.port 1).standby = false ∧ leadWith.trc.ports.length = 4
    ∧ leadWith.dstHere relLead.dst = true ∧ leadWith.teamCore = true ∧ leadWith.tm.isMember = true
    ∧ leadWith.pwr.ready = true ∧ leadWith.pwr.farrier = true ∧ leadWith.tm.leading = true
    ∧ leadWith.barrierWaits 3 0 (nopFor 5) = false
    ∧ ((leadWith.originWin 3 0).getD ⟨3, 0, false, 0, [], 0⟩).executes (e32 (nopFor 5) 4) = true
    ∧ (entrySub 0 false (some 3) (nopFor 5)).target = 5 ∧ groupTarget 5 = false
    ∧ leadWith.targetsOf leadWith.free 5 = [5] ∧ leadWith.targetsOf leadWith.free 6 = [] ∧ leadWith.engineId ∉ ([5] : List (BitVec 10)) := by
  unfold ArrivesNext Arrives; decide +kernel

theorem test_meets_cplCombines :
    (let t := leadWith.mapTm fun m => { m with fwds := [waitingFor [(5, .accepted), (6, .accepted)] none] }
     t.tm.fwds = [waitingFor [(5, .accepted), (6, .accepted)] none] ∧ t.originKey 9 = none)
    ∧ leadWith.originKey 3 = some 3 ∧ (waitingFor [(5, .accepted)] (some 3)).sub.origin = some 3
    ∧ (waitingFor [(5, .answered ⟨1, stOk, 0, false, false, 7, 0, 0⟩)] none).targets.all (fun x => x.2.isFinal) = true
    ∧ (let g := waitingFor [(5, .answered ⟨1, stOk, 0, false, false, 7, 0, 0⟩), (6, .unreachable)] none
       g.group = true ∧ isSuccess (TargetState.outcome .unreachable).1 = false ∧ (g.targets.filter fun y => !isSuccess y.2.outcome.1).length = 1) := by
  decide +kernel

/-- The lead of a team whose member 5 needs 20 ms of lead. -/
def slowCrew : State := (crewed 0).mapTm fun t =>
  { t with members := t.members.map fun m => { m with leadUs := 20000 } }
theorem test_meets_leadTooLong :
    slowCrew.leadTooLong 16666667 ≠ [] ∧ slowCrew.targetsOf slowCrew.free 0x7FF ≠ []
    ∧ (begun (teamNom 16666667) slowCrew).leadTimingBad (subTo 0x7FF) ⟨1, 16666667, 0, 0, 0, 0, 0, 0⟩ = none
    ∧ check (teamNom 16666667) slowCrew = some (true, none) := by decide +kernel

theorem test_meets_wakeInSameCycle :
    (let t := lit.mapPwr fun p => { p with entry := some ⟨false, sub 0, .active, 0, true, lit.clk.loc⟩ }
     t.pwr.entry = some ⟨false, sub 0, .active, 0, true, t.clk.loc⟩ ∧ t.pwr.mode ≠ .standby ∧ t.pwr.pend = none)
    ∧ (runsB (.powerState (sub 0) 1) (after .wakePin lit) = true ∧ (after .wakePin lit).pwr.wakeSeen = some (after .wakePin lit).clk.loc
       ∧ (after .wakePin lit).pwr.entry = none ∧ (after .wakePin lit).entryRefused = false)
    ∧ (let t := after .canRxWake (dark 4 false)
       ∀ w, t.pwr.wake = some w → w.at_ = t.clk.loc) := by decide +kernel

/-- An engine whose tile 0 was lit when the array tripped. -/
def relighting : State := lit.mapArr fun a => { a with relight := some 0, tripDark := 1 }
theorem test_meets_relightCharge : relighting.arr.tripDark.getLsbD 0 = true ∧ relighting.arr.relight = some 0
    ∧ alGet (after .relightStep relighting).arr.chargeAt 0 = some relighting.clk.loc := by decide +kernel

theorem test_meets_eyeQuick :
    (let t := mapLane 7 (fun l => { l with scan := some ⟨1, sub 0, false, 0, 0⟩ }) ready
     (t.lane 7).scan = some ⟨1, sub 0, false, 0, 0⟩ ∧ (List.replicate 64 (0 : Half)).length = 64
       ∧ (List.replicate 127 (0 : Half)).length = 127)
    ∧ (let t := mapLane 7 (fun l => { l with scan := some ⟨1, sub 0, true, 2049, 64⟩ }) stocked
       (t.lane 7).scan = some ⟨1, sub 0, true, 2049, 64⟩ ∧ t.handleAny 2049 = some owner ∧ t.writeBehind 1 (sub 0) 2049 64 16256 = false
       ∧ (t.mapPool fun p => { p with moves := [⟨0, .fill 4 0, 2049, 0, 0, 131072, sub 0⟩] }).writeBehind 1 (sub 0) 2049 64 16256 = true) := by
  decide +kernel
theorem test_eyeQuick : let t := mapLane 7 (fun l => { l with scan := some ⟨1, sub 0, false, 0, 0⟩ }) ready
    let u := after (.eyeScanDone 7 (.quick (List.replicate 64 0) (List.replicate 127 0))) t
    (u.lane 7).eyeW = 64 ∧ (u.lane 7).eyeH = 127 ∧ (u.lane 7).eyeValid = true := by decide +kernel
end Sys2Proof.Tests
end

section
/-!
SUPPORT. The surface store read by identifier, the operands of SURFACE_DEFINE and CAPTURE_SET (R244, R251), and the word
that POOL_QUERY reports a handle by (R242).
-/
namespace Sys2Proof.Laws

open Sys2Proof.Machine

/-- A surface is undefined when the store does not list its identifier. -/
theorem surf_eq_none_iff (s : State) (n : Nat) : s.surf n = none ↔ ∀ x ∈ s.scn.surfs, x.id ≠ n := by
  simp [State.surf, List.find?_eq_none]

/-- A surface is defined when the store lists its identifier. -/
theorem surf_isSome_iff (s : State) (n : Nat) : (s.surf n).isSome = true ↔ ∃ x ∈ s.scn.surfs, x.id = n := by
  simp [State.surf, List.find?_isSome]

/-- R244: LAYOUT or SURFACE_ID out of range. -/
theorem surfaceRange_iff (layout : Byte) (id : Half) :
    (4 ≤ layout.toNat ∨ id = 0 ∨ 4095 < id.toNat) ↔ ¬ (layout.toNat < 4 ∧ 1 ≤ id.toNat ∧ id.toNat ≤ 4095) := by
  have h : id = 0 ↔ id.toNat = 0 := BitVec.toNat_inj.symm
  rw [h]
  omega

/-- Table 11.6: a mode out of range. -/
theorem captureModeOf_bad {mode : Byte} (h : 2 < mode.toNat) : captureModeOf mode = none := by
  obtain ⟨n, hn⟩ : ∃ n, mode.toNat = n + 3 := ⟨mode.toNat - 3, by omega⟩
  simp [captureModeOf, hn]

/-- Table 11.6: the modes that are not OFF. -/
theorem captureMode_cases {mode : Byte} (h : mode ≠ 0) : mode = 1 ∨ mode = 2 ∨ 2 < mode.toNat := by
  bv_omega

/-- R251: OFF takes no surface. -/
theorem captureSetBody_off (sub : Sub) (id : Half) (tap : Byte) (s : State) :
    captureSetBody sub id tap 0 s =
      if id = 0 ∧ tap.toNat ≤ 1 then
        finish 0x25 sub stOk 0 (mapWork (fun w => { w with capSurf := id.toNat, capTap := tap.toNat, capMode := .off }) s)
      else finish 0x25 sub stBadOperand 0 s := rfl

/-- R228: every other mode, one out of range too, looks its surface up first. -/
theorem captureSetBody_unknown (sub : Sub) (id : Half) (tap : Byte) {mode : Byte} (s : State) (h : mode ≠ 0)
    (hs : s.surf id.toNat = none) : captureSetBody sub id tap mode s = finish 0x25 sub stBadHandle 0 s := by
  obtain rfl | rfl | hm := captureMode_cases h
  · simp [captureSetBody, captureModeOf, hs]
  · simp [captureSetBody, captureModeOf, hs]
  · simp [captureSetBody, captureModeOf_bad hm, hs]

/-- R251: on a defined surface the mode, the tap and what the surface can take are judged. -/
theorem captureSetBody_known (sub : Sub) (id : Half) (tap : Byte) {mode : Byte} (s : State) (d : Surface)
    (h : mode ≠ 0) (hs : s.surf id.toNat = some d) :
    captureSetBody sub id tap mode s =
      if (mode.toNat ≤ 2 ∧ tap.toNat ≤ 1) ∧ SurfDesc.captureOk d.desc = true then
        finish 0x25 sub stOk 0 (mapWork (fun w =>
          { w with capSurf := id.toNat, capTap := tap.toNat, capMode := if mode = 1 then .continuous else .single }) s)
      else finish 0x25 sub stBadOperand 0 s := by
  obtain rfl | rfl | hm := captureMode_cases h
  · simp [captureSetBody, captureModeOf, hs, and_comm]
  · simp [captureSetBody, captureModeOf, hs, and_comm]
  · simp [captureSetBody, captureModeOf_bad hm, hs, Nat.not_le.2 hm]

/-- A flag in a report word. -/
theorem at_flag (b : Bool) (lo : Nat) : at_ (flag b) lo 1 = (if b then 1 else 0) * 2 ^ lo := by
  cases b <;> simp [at_, flag]

/-- R242: the word that a handle is reported by, freeing or not. -/
theorem report_result (h : Handle) :
    h.report.1 = BitVec.ofNat 64 (h.blocks.length % 65536 + h.channel % 32 * 65536
      + (if h.freeing then 1 else 0) * 2 ^ 21 + h.blocks.getD 0 0 % 65536 * 2 ^ 32) := by
  simp only [Handle.report, at_flag]
  simp [at_]

end Sys2Proof.Laws
end

section
/-!
SUPPORT. What a `MASK` selects (R236), the lead's own part of a TIMING_SET (R320), and the operand checks of CURB_SET
and DERATE_SET (Table 11.12) field by field.
-/
namespace Sys2Proof.Laws

open Sys2Proof.Machine

/-- R236: nothing to select from. -/
@[simp] theorem selected_nil (mask : Half) : selected mask [] = [] := rfl

/-- R236: the changes of a `MASK` bit come before those of the bits listed after it. -/
@[simp] theorem selected_cons (mask : Half) (k : Nat) (c : List Change) (l : List (Nat × List Change)) :
    selected mask ((k, c) :: l) = (if mask.getLsbD k then c else []) ++ selected mask l := by
  cases h : mask.getLsbD k <;> simp [selected, h]

/-- R320: the lead's own part of a TIMING_SET is for the same frame. -/
@[simp] theorem timingPart_frame (s : State) (sub : Sub) (o : TimingOps) : (s.timingPart sub o).frame = o.frame := by
  unfold State.timingPart
  split <;> rfl

/-- R320: SCAN and EVENTS are judged alike in the lead's own part; MASK and P_NOM are those of the part. -/
theorem timingPart_shapeOk (s : State) (sub : Sub) (o : TimingOps) :
    TimingOps.shapeOk (s.timingPart sub o)
      = (maskOk (s.timingPart sub o).mask 6 (TimingOps.fields (s.timingPart sub o)) && decide (o.scan.toNat ≤ 1)
        && decide (o.events.toNat ≤ 31)) := by
  unfold State.timingPart
  split <;> rfl

/-- An operand is zero when its number is. -/
theorem toNat_beq_zero {w : Nat} (x : BitVec w) : (x.toNat == 0) = (x == 0) := by
  rw [Bool.eq_iff_iff, beq_iff_eq, beq_iff_eq, ← BitVec.toNat_inj]
  simp

/-- R236: a field lies in its range when selected, and is zero when not. -/
theorem field_in_range (sel zero range : Bool) :
    ((sel || zero) && (!sel || range)) = if sel then range else zero := by
  cases sel <;> simp

/-- Table 11.12: the operands of CURB_SET. -/
theorem curbShape_eq (o : CurbOps) :
    (maskOk o.mask 2 [(0, o.iLimit.toNat), (1, o.hT.toNat)]
      && (!o.mask.getLsbD 0 || decide (100 ≤ o.iLimit.toNat ∧ o.iLimit.toNat ≤ 12500))
      && (!o.mask.getLsbD 1 || (decide (500 ≤ o.hT.toNat ∧ o.hT.toNat ≤ 800) && o.hT.toNat % 25 == 0)))
    = (decide (o.mask.toNat ≤ 3)
      && (if o.mask.getLsbD 0 then decide (100 ≤ o.iLimit.toNat ∧ o.iLimit.toNat ≤ 12500) else o.iLimit == 0)
      && (if o.mask.getLsbD 1 then decide (500 ≤ o.hT.toNat ∧ o.hT.toNat ≤ 800 ∧ o.hT.toNat % 25 = 0)
          else o.hT == 0)) := by
  have hm : o.mask.toNat < 2 ^ 2 ↔ o.mask.toNat ≤ 3 := by omega
  rw [← field_in_range, ← field_in_range, Bool.eq_iff_iff]
  simp only [maskOk, List.all_cons, List.all_nil, toNat_beq_zero, Bool.and_eq_true, Bool.or_eq_true, decide_eq_true_eq,
    beq_iff_eq, hm]
  tauto

/-- Table 11.12: the operands of DERATE_SET, the knee and T_zero that would be in force among them. -/
theorem derateShape_eq (o : DerateOps) (p : Params) :
    (maskOk o.mask 3 [(0, o.mode.toNat), (1, o.knee.toNat), (2, o.tZero.toNat)] && decide (o.mode.toNat ≤ 1)
      && p.derateOk)
    = (decide (o.mask.toNat ≤ 7) && decide (o.mode.toNat ≤ 1) && (o.mask.getLsbD 0 || o.mode == 0)
       && (o.mask.getLsbD 1 || o.knee == 0) && (o.mask.getLsbD 2 || o.tZero == 0)
       && decide (80 ≤ p.knee ∧ p.knee ≤ 140 ∧ p.knee + 10 ≤ p.tZero ∧ p.tZero ≤ 150)) := by
  have hm : o.mask.toNat < 2 ^ 3 ↔ o.mask.toNat ≤ 7 := by omega
  rw [Bool.eq_iff_iff]
  simp only [maskOk, List.all_cons, List.all_nil, toNat_beq_zero, Params.derateOk, Bool.and_eq_true, decide_eq_true_eq, hm]
  tauto

end Sys2Proof.Laws
end

section
/-!
The statements about POOL_QUERY, CAPTURE_SET and the surface commands: O13, O18, O15.
-/
namespace Sys2Proof.Laws

open Sys2Proof.Machine Sys2Proof.Claims

/-- Settles O13: the body of POOL_QUERY, read for the pool, for an unknown handle and for a handle that is held. -/
theorem poolQueryReports : Obligations.PoolQueryReports := by
  intro sub v d s hr b
  have hx : exec (.poolQuery sub v d) s = .next (poolQueryBody sub v d b) := ringCmd_runs _ hr
  rw [hx, poolQueryBody]
  refine ⟨fun h0 => ?_, fun h0 hn => ?_, fun h h0 hh => ?_⟩
  · rw [if_pos h0]
    rfl
  · rw [if_neg h0, hn]
  · rw [if_neg h0, hh, ← report_result]
    rfl

/-- Settles O18: OFF takes no surface; every other mode, one out of range too, looks its surface up first. -/
theorem captureSetCases : Obligations.CaptureSetCases := by
  intro sub id tap mode s i hr b put good
  have hx : exec i s = .next (captureSetBody sub id tap mode b) := ringCmd_runs _ hr
  simp only [put, good, hx]
  refine ⟨?_, ?_, ?_, ?_, ?_⟩
  · rintro rfl hbad
    rw [captureSetBody_off, if_neg (fun h => hbad.elim (· h.1) (by omega))]
  · rintro ⟨-, htap⟩ rfl hid
    rw [captureSetBody_off, if_pos ⟨hid, htap⟩]
    rfl
  · intro h0 hs
    rw [captureSetBody_unknown _ _ _ _ h0 hs]
  · intro d h0 hs hbad
    rw [captureSetBody_known _ _ _ _ d h0 hs, if_neg]
    rwa [not_and_or, Bool.not_eq_true]
  · intro d hgood h0 hs hc
    rw [captureSetBody_known _ _ _ _ d h0 hs, if_pos ⟨hgood, hc⟩]
    rfl

/-- Settles O15: each command checks its operands, then the store, then the handle or the use of the surface. -/
theorem surfaceCommands : Obligations.SurfaceCommands := by
  intro sub id d s
  constructor
  · intro hr b ends inRange
    have hx : exec (.surfaceDefine sub id d) s = .next (surfaceDefineBody sub id d b) := ringCmd_runs _ hr
    simp only [ends, hx, surfaceDefineBody, surfaceRange_iff]
    refine ⟨fun hbad => ?_, fun hok huse => ?_, fun hok hnew hh => ?_, fun h hok hnew hh => ?_⟩
    · rw [if_pos hbad]
    · rw [if_neg (not_not.2 hok), if_pos ((surf_isSome_iff ..).2 huse)]
    · rw [if_neg (not_not.2 hok), (surf_eq_none_iff ..).2 hnew, hh]
      rfl
    · rw [if_neg (not_not.2 hok), (surf_eq_none_iff ..).2 hnew, hh]
      exact ⟨fun hd => by simp [Handle.size, hd], fun hd => by simp [Handle.size, hd]⟩
  · intro hr b
    have hx : exec (.surfaceRetire sub id) s = .next (surfaceRetireBody sub id b) := ringCmd_runs _ hr
    simp only [hx, surfaceRetireBody, ← surf_isSome_iff, ← surf_eq_none_iff, Option.isSome_iff_exists]
    refine ⟨fun hn => ?_, ?_, ?_⟩
    · rw [hn]
      rfl
    · rintro ⟨x, hdef⟩ hu
      rw [hdef, hu]
      rfl
    · rintro ⟨x, hdef⟩ hu
      rw [hdef, hu]
      rfl

end Sys2Proof.Laws
end

section
/-!
The statement about the set commands of the frame and the array: O20.
-/
namespace Sys2Proof.Laws

open Sys2Proof.Machine Sys2Proof.Claims

/-- Settles O20: the body of each command is `setCmd`, with the operand checks, relations and changes of Tables 02.2,
11.11 and 11.12. -/
theorem frameAndArraySets : Obligations.FrameAndArraySets := by
  refine ⟨⟨?timing, ?sync, ?pwm⟩, ?curb, ?derate, ?probe, ?fill⟩
  case timing =>
    intro sub o part
    have hpart : part = fun b => b.timingPart sub o := by
      funext b
      simp [State.timingPart, part]
    rw [hpart]
    refine armsFor_of_setCmd _ _ _ _ _ _ _ _ _ fun s hr => (ringCmd_runs (timingBody sub o) hr).trans ?_
    simp only [timingBody, timingPart_frame, timingPart_shapeOk, Bool.and_eq_true]
  case sync =>
    intro sub o
    refine armsFor_of_setCmd _ _ _ _ _ _ _ _ _ fun s hr => (ringCmd_runs (syncBody sub o) hr).trans ?_
    simp only [syncBody, Bool.and_eq_true, bne_iff_ne]
  case pwm =>
    intro sub o
    exact armsFor_of_setCmd _ _ _ _ _ _ _ _ _ fun s hr => ringCmd_runs (pwmBody sub o) hr
  case curb =>
    intro sub o l
    refine armsFor_of_setCmd _ _ _ _ _ _ _ _ _ fun s hr => (ringCmd_runs (curbBody sub o) hr).trans ?_
    simp only [curbBody, curbShape_eq, selected_cons, selected_nil, List.append_nil, l]
  case derate =>
    intro sub o l
    refine armsFor_of_setCmd _ _ _ _ _ _ _ _ _ fun s hr => (ringCmd_runs (derateBody sub o) hr).trans ?_
    simp only [derateBody, derateShape_eq, selected_cons, selected_nil, List.append_nil, List.append_assoc, l]
  case probe =>
    intro sub e frame
    exact armsFor_of_setCmd _ _ _ _ _ _ _ _ _ fun s hr => ringCmd_runs _ hr
  case fill =>
    intro sub f frame
    exact armsFor_of_setCmd _ _ _ _ _ _ _ _ _ fun s hr => ringCmd_runs _ hr

end Sys2Proof.Laws
end

section
/-!
SUPPORT. What events, completions and raises do to the flight log: each operation leaves the log as it is or adds entries
behind those on-die (R179), so that an entry once logged stays; and the frame of an event.
-/
namespace Sys2Proof.Laws

open Sys2Proof.Machine

/-! ### What sending and events can change -/

/-- A frame on a port changes the trace links only. -/
theorem portSend_frame (p : Fin 4) (f : TFrame) (s : State) : portSend p f s = { s with trc := (portSend p f s).trc } := by
  unfold portSend
  dsimp only
  split
  · rfl
  · split
    · rfl
    · split <;> rfl

theorem flood_frame (b : Bool) (e : Option (Fin 4)) (f : TFrame) (s : State) :
    flood b e f s = { s with trc := (flood b e f s).trc } := by
  unfold flood
  generalize allPorts = l
  induction l generalizing s with
  | nil => rfl
  | cons p l ih =>
    rw [List.foldl_cons]
    split
    · exact ih s
    · rw [ih, portSend_frame]

theorem sendUp_frame (f : TFrame) (s : State) : sendUp f s = { s with trc := (sendUp f s).trc } := by
  unfold sendUp
  split
  · exact portSend_frame ..
  · rfl

/-- A cause of the engine interrupt changes its register and the link. -/
theorem intCause_frame (c : Nat) (s : State) :
    intCause c s = { s with reg := (intCause c s).reg, bus := (intCause c s).bus } := by
  unfold intCause
  dsimp only
  split
  · rw [msixSend_frame]
    rfl
  · rfl

theorem eqModCheck_frame (s : State) :
    eqModCheck s = { s with bus := (eqModCheck s).bus, rng := (eqModCheck s).rng } := by
  unfold eqModCheck
  dsimp only
  split
  · rw [msixSend_frame]
    rfl
  · rfl

/-- An entry of the event ring changes that ring, the link and the interrupt. -/
theorem eqWrite_frame (e : Event) (s : State) :
    eqWrite e s = { s with bus := (eqWrite e s).bus, rng := (eqWrite e s).rng, reg := (eqWrite e s).reg } := by
  unfold eqWrite
  dsimp only
  split
  · rfl
  · split
    · rw [intCause_frame]
      rfl
    · rw [eqModCheck_frame]
      rfl

theorem forwardEvent_frame (e : Event) (s : State) :
    forwardEvent e s = { s with tm := (forwardEvent e s).tm, trc := (forwardEvent e s).trc } := by
  unfold forwardEvent
  split
  · rfl
  · split
    · rfl
    · rw [sendUp_frame]
      rfl

/-- R220, R231: an event changes the log by its own entry, and beside it the event ring, the link, the interrupt and
what goes to the lead. -/
theorem emit_frame (c : Nat) (d : List Byte) (s : State) :
    emit c d s =
      { s with
        lg := (logAdd 2 c s.now d s).lg, bus := (emit c d s).bus, rng := (emit c d s).rng, reg := (emit c d s).reg
        tm := (emit c d s).tm, trc := (emit c d s).trc } := by
  unfold emit emitAt
  dsimp only
  rw [forwardEvent_frame, eqWrite_frame]
  rfl

/-! ### Operations that leave the log alone -/

theorem msixSend_lg (v : Nat) (s : State) : (msixSend v s).lg = s.lg := by rw [msixSend_frame]
theorem intCause_lg (c : Nat) (s : State) : (intCause c s).lg = s.lg := by rw [intCause_frame]
theorem cqModCheck_lg (n : Nat) (s : State) : (cqModCheck n s).lg = s.lg := by rw [cqModCheck_frame]
theorem eqModCheck_lg (s : State) : (eqModCheck s).lg = s.lg := by rw [eqModCheck_frame]
theorem sendUp_lg (f : TFrame) (s : State) : (sendUp f s).lg = s.lg := by rw [sendUp_frame]
theorem sendDown_lg (f : TFrame) (s : State) : (sendDown f s).lg = s.lg := by rw [sendDown, flood_frame]

theorem stateFlood_lg (k : Nat) (d : List Byte) (s : State) : (stateFlood k d s).lg = s.lg := by
  unfold stateFlood
  split
  · rw [flood_frame]
  · rfl

theorem fillInstead_lg (m : Bool) (s : State) : (fillInstead m s).lg = s.lg := by
  unfold fillInstead
  split
  · rfl
  · dsimp only
    split
    · rfl
    · rfl

/-! ### Reporting adds to it -/

/-- The entries that `s` holds on-die stand first in the log of `t`. -/
def LogGrows (s t : State) : Prop := s.lg.onDie <+: t.lg.onDie

theorem LogGrows.trans {s t u : State} (h : LogGrows s t) (k : LogGrows t u) : LogGrows s u := List.IsPrefix.trans h k

/-- The log is the same. -/
theorem LogGrows.of_lg {s t : State} (h : t.lg = s.lg) : LogGrows s t := by
  unfold LogGrows
  rw [h]

theorem LogGrows.refl (s : State) : LogGrows s s := .of_lg rfl

theorem LogGrows.ite {c : Prop} [Decidable c] {s t u : State} (h : LogGrows s t) (k : LogGrows s u) :
    LogGrows s (if c then t else u) := by split <;> assumption

theorem LogGrows.foldl {α : Type} (f : State → α → State) (h : ∀ s a, LogGrows s (f s a)) :
    ∀ (l : List α) (s : State), LogGrows s (l.foldl f s)
  | [], s => .refl s
  | a :: l, s => (h s a).trans (LogGrows.foldl f h l _)

theorem logGrows_logAdd (k c : Nat) (t : Dword) (d : List Byte) (s : State) : LogGrows s (logAdd k c t d s) :=
  ⟨[_], rfl⟩

theorem logGrows_mapRing (n : Nat) (f : Ring → Ring) (s : State) : LogGrows s (mapRing n f s) := .of_lg rfl
theorem logGrows_mapTm (f : Team → Team) (s : State) : LogGrows s (s.mapTm f) := .of_lg rfl
theorem logGrows_mapFlt (f : Flt → Flt) (s : State) : LogGrows s (s.mapFlt f) := .of_lg rfl
theorem logGrows_mapCal (f : Cal → Cal) (s : State) : LogGrows s (s.mapCal f) := .of_lg rfl

theorem logGrows_emit (c : Nat) (d : List Byte) (s : State) : LogGrows s (emit c d s) := by
  rw [emit_frame]
  exact logGrows_logAdd 2 c s.now d s

/-- R179, R231: an event is logged. -/
theorem emit_logged (c : Nat) (d : List Byte) (s : State) :
    ∃ e ∈ (emit c d s).lg.onDie, e.kind = 2 ∧ e.code = BitVec.ofNat 16 c := by
  rw [emit_frame]
  exact ⟨_, List.mem_append_right _ (List.mem_singleton_self _), rfl, rfl⟩

theorem logGrows_cqWrite (op : Nat) (ioc : Bool) (c : Completion) (s : State) : LogGrows s (cqWrite op ioc c s) := by
  have hl : (cqWrite op ioc c s).lg = (logCompletion op none c s).lg := by rw [cqWrite_frame]
  exact (logGrows_logAdd ..).trans (.of_lg hl)

theorem logGrows_heldRelease (op n : Nat) (ioc : Bool) (seq : Word) (s : State) :
    LogGrows s (heldRelease op n ioc seq s) := by
  unfold heldRelease
  dsimp only
  split
  · exact .refl s
  · exact (LogGrows.foldl _ (fun s _ => logGrows_cqWrite ..) _ _).trans (logGrows_mapRing ..)

theorem logGrows_mutedDone (op : Nat) (sub : Sub) (st : Half) (res t : Dword) (s : State) :
    LogGrows s (mutedDone op sub st res t s) := by
  unfold mutedDone
  exact .ite (logGrows_mapRing ..)
    (((logGrows_mapRing ..).trans (logGrows_mapRing ..)).trans (logGrows_heldRelease ..))

theorem logGrows_ownDone (op : Nat) (sub : Sub) (st : Half) (res t : Dword) (s : State) :
    LogGrows s (ownDone op sub st res t s) := by
  unfold ownDone
  exact .ite (logGrows_mutedDone ..)
    (((logGrows_mapRing ..).trans (logGrows_cqWrite ..)).trans (logGrows_heldRelease ..))

theorem logGrows_cplSend (op : Nat) (o : BitVec 10) (d r : Bool) (a : List (BitVec 10)) (c : Completion) (s : State) :
    LogGrows s (cplSend op o d r a c s) := by
  have h (f : Team → Team) : LogGrows s ((logCompletion op (some o) c s).mapTm f) :=
    (logGrows_logAdd ..).trans (logGrows_mapTm ..)
  unfold cplSend
  exact .ite ((h _).trans (.of_lg (sendDown_lg ..))) ((h _).trans (.of_lg (sendUp_lg ..)))

theorem logGrows_fwdSettle (f : Forward) (s : State) : LogGrows s (fwdSettle f s) := by
  unfold fwdSettle
  refine .ite ?_ (logGrows_mapTm ..)
  dsimp only
  split
  · exact ((logGrows_mapTm _ s).trans (logGrows_mapTm ..)).trans (logGrows_ownDone ..)
  · exact ((logGrows_mapTm _ s).trans (logGrows_mapTm ..)).trans (logGrows_cplSend ..)

theorem logGrows_fwdMark (f : Option Forward) (e : BitVec 10) (g : TargetState → TargetState) (s : State) :
    LogGrows s (fwdMark f e g s) := by
  unfold fwdMark
  split
  · exact .refl s
  · exact logGrows_fwdSettle ..

theorem logGrows_otherDone (op : Nat) (sub : Sub) (o : BitVec 10) (st : Half) (res t : Dword) (s : State) :
    LogGrows s (otherDone op sub o st res t s) := by
  have h (f : OriginWindow → OriginWindow) : LogGrows s (mapOrigin o sub.ring.val f s) := logGrows_mapTm ..
  unfold otherDone
  exact .ite (((h _).trans (logGrows_logAdd ..)).trans (logGrows_fwdMark ..)) ((h _).trans (logGrows_cplSend ..))

/-- The completion of any command. -/
theorem logGrows_finish (op : Nat) (sub : Sub) (st : Half) (res : Dword) (s : State) :
    LogGrows s (finish op sub st res s) := by
  unfold finish finishAt
  dsimp only
  split
  · exact logGrows_otherDone ..
  · split
    · exact logGrows_fwdMark ..
    · exact logGrows_ownDone ..

theorem logGrows_calAbort (s : State) : LogGrows s (calAbort s) := by
  unfold calAbort
  split
  · exact .refl s
  · exact ((logGrows_mapCal _ s).trans (logGrows_finish ..)).trans (.of_lg (fillInstead_lg ..))

theorem logGrows_calLeave (s : State) : LogGrows s (calLeave s) := (logGrows_mapCal _ s).trans (logGrows_calAbort _)

theorem logGrows_safetyNote (b : BitVec 12) (s : State) : LogGrows s (safetyNote b s) := by
  have h (c : BitVec 12) : LogGrows s
      (if safeLevel b < 2 ∧ safeLevel c = 2 then intCause 2 (safetyEmit s.frm.frame 2 0xFF c s) else s) :=
    .ite ((logGrows_emit ..).trans (.of_lg (intCause_lg ..))) (.refl s)
  unfold safetyNote
  exact .ite (((h _).trans (.of_lg (stateFlood_lg ..))).trans (logGrows_mapTm ..)) (h _)

/-- What the rise of a cause brings about. -/
theorem logGrows_causeArise (b : BitVec 12) (s : State) : LogGrows s (causeArise b s) := by
  unfold causeArise
  exact .ite (.refl s)
    (((logGrows_calAbort s).trans (.ite (.refl _) (.of_lg (fillInstead_lg ..)))).trans (logGrows_safetyNote ..))

/-- A raise of a fault source. -/
theorem logGrows_raiseMin (src m : Nat) (d : List Byte) (s : State) : LogGrows s (raiseMin src m d s) := by
  have hif {c : Prop} [Decidable c] (f : State → State) (h : ∀ s, LogGrows s (f s)) (s : State) :
      LogGrows s (if c then f s else s) := .ite (h s) (.refl s)
  unfold raiseMin
  refine .ite (.refl s) ?_
  have h1 : LogGrows s (latchFirst src (s.sevOf src m) s.now (logAdd 5 src s.now d s)) :=
    (logGrows_logAdd ..).trans (logGrows_mapFlt ..)
  refine LogGrows.trans ?_ (logGrows_causeArise ..)
  refine LogGrows.trans ?_ (hif calLeave logGrows_calLeave _)
  refine LogGrows.trans ?_ (hif _ (fun s => logGrows_emit ..) _)
  refine LogGrows.trans ?_ (hif (darkAdd .fault) (fun s => .of_lg rfl) _)
  refine LogGrows.trans ?_ (logGrows_mapFlt ..)
  refine LogGrows.trans ?_ (hif (latchSet src (s.sevOf src m)) (fun s => logGrows_mapFlt ..) _)
  refine LogGrows.trans ?_ (hif (intCause 4) (fun s => .of_lg (intCause_lg ..)) _)
  exact h1.trans (hif (fun s => intCause 0 (pinAssert s))
    (fun s => (logGrows_mapFlt _ s).trans (.of_lg (intCause_lg ..))) _)

end Sys2Proof.Laws
end

section
/-!
SUPPORT. Register sets that a step of team time applies (R408): whatever their groups, the clocks, the number and instant
of the running frame and the parameters stay, and the log keeps its entries.
-/
namespace Sys2Proof.Laws

open Sys2Proof.Machine

/-- `t` agrees with `s` on the clocks, the running frame's number and instant and the parameters, and its log holds
that of `s`. -/
structure KeepsTime (s t : State) : Prop where
  clk : t.clk = s.clk
  frame : t.frm.frame = s.frm.frame
  tickLoc : t.frm.tickLoc = s.frm.tickLoc
  params : t.frm.params = s.frm.params
  log : LogGrows s t

theorem KeepsTime.trans {s t u : State} (h : KeepsTime s t) (k : KeepsTime t u) : KeepsTime s u :=
  ⟨k.clk.trans h.clk, k.frame.trans h.frame, k.tickLoc.trans h.tickLoc, k.params.trans h.params, h.log.trans k.log⟩

/-- Reporting keeps all of this. -/
theorem Keeps.keepsTime {s t : State} (h : Keeps s t) (hl : LogGrows s t) : KeepsTime s t :=
  ⟨h.clk, h.frame, h.tickLoc, h.params, hl⟩

/-- A change of neither clocks, frame nor log. -/
theorem KeepsTime.of_eq {s t : State} (hc : t.clk = s.clk) (hf : t.frm = s.frm) (hl : t.lg = s.lg) : KeepsTime s t :=
  ⟨hc, by rw [hf], by rw [hf], by rw [hf], .of_lg hl⟩

theorem KeepsTime.refl (s : State) : KeepsTime s s := .of_eq rfl rfl rfl

theorem KeepsTime.ite {c : Prop} [Decidable c] {s t u : State} (h : KeepsTime s t) (k : KeepsTime s u) :
    KeepsTime s (if c then t else u) := by split <;> assumption

theorem KeepsTime.foldl {α : Type} (f : State → α → State) (h : ∀ s a, KeepsTime s (f s a)) :
    ∀ (l : List α) (s : State), KeepsTime s (l.foldl f s)
  | [], s => .refl s
  | a :: l, s => (h s a).trans (KeepsTime.foldl f h l _)

theorem keepsTime_mapReg (f : Reg → Reg) (s : State) : KeepsTime s (s.mapReg f) := .of_eq rfl rfl rfl

/-- R407: a refused group. -/
theorem keepsTime_groupRefuse (g : Nat) (s : State) : KeepsTime s (groupRefuse g s) :=
  (keepsTime_mapReg _ s).trans ((keeps_raise ..).keepsTime (logGrows_raiseMin ..))

/-- R212: the rings follow their sizes. -/
theorem keepsTime_ringsSync (s : State) : KeepsTime s (ringsSync s) := by
  have henable (n : Nat) (s : State) : KeepsTime s (ringEnable n s) := .of_eq rfl rfl rfl
  have hdisable (n : Nat) (s : State) : KeepsTime s (ringDisable n s) := .of_eq rfl rfl rfl
  have hrng (f : Rngs → Rngs) (s : State) : KeepsTime s (s.mapRng f) := .of_eq rfl rfl rfl
  unfold ringsSync
  exact (KeepsTime.foldl _ (fun s n => .ite (henable n s) (.ite (hdisable n s) (.refl s))) _ _).trans (hrng ..)

/-- R407: a set of one group. -/
theorem keepsTime_applySet (g : Nat) (v : List (Nat × Word)) (s : State) : KeepsTime s (applySet g v s) := by
  have hu : KeepsTime s (cfgTouch false (!v.isEmpty) (mergeAll s g v)) :=
    (keepsTime_mapReg ..).trans (keepsTime_mapReg ..)
  have hmsix (n : Nat) (s : State) : KeepsTime s (msixSend n s) :=
    (keeps_msixSend ..).keepsTime (.of_lg (msixSend_lg ..))
  have hcq (s : State) (n : Nat) : KeepsTime s (cqModCheck n s) :=
    (keeps_cqModCheck ..).keepsTime (.of_lg (cqModCheck_lg ..))
  have heq (s : State) : KeepsTime s (eqModCheck s) := (keeps_eqModCheck ..).keepsTime (.of_lg (eqModCheck_lg ..))
  have hint (b s : State) : KeepsTime s (intRecheck b s) := .ite (hmsix ..) (.refl s)
  have hopen (m : BitVec 256) (f : Arr → Arr) (s : State) : KeepsTime s ((tilesOpen m s).mapArr f) := .of_eq rfl rfl rfl
  unfold applySet
  refine .ite (keepsTime_groupRefuse ..) (.ite (hu.trans (keepsTime_ringsSync _)) (.ite ?_ (.ite ?_ hu)))
  · exact ((hu.trans (hint ..)).trans (.foldl _ hcq _ _)).trans (heq _)
  · exact hu.trans (hopen ..)

/-- R408: the sets whose instant team time has reached. -/
theorem keepsTime_dueAtTime (s : State) : KeepsTime s (dueAtTime s) := by
  unfold dueAtTime
  exact (keepsTime_mapReg _ s).trans (.foldl _ (fun s a => keepsTime_applySet ..) _ _)

/-- R331: a step that ends at `v` sets team time to it and ends a slew. -/
theorem timeStepBy_to_clk (v : Dword) (cause : Nat) (s : State) :
    (timeStepBy (v - s.now).toInt cause s).clk = { s.clk with team := v, slew := 0 } := by
  have hto : s.clk.team + BitVec.ofInt 64 (v - s.now).toInt = v := by
    rw [BitVec.ofInt_toInt, State.now, BitVec.add_comm, BitVec.sub_add_cancel]
  rw [timeStepBy, emit_frame]
  simp only [State.mapClk_clk, hto]

/-- R331: a step of team time leaves frames and ticks alone. -/
theorem timeStepBy_frm (d : Int) (cause : Nat) (s : State) : (timeStepBy d cause s).frm = s.frm := by
  rw [timeStepBy, emit_frame]
  rfl

/-- R278, R408: mode 0 of TIME_SET, whatever sets the step passes. -/
theorem timeMode_setValue (v : Dword) (s : State) :
    let t := timeMode 0 v s
    t.clk = { s.clk.undisciplined with team := v, disc := .setValue } ∧ t.frm.frame = s.frm.frame
      ∧ t.frm.tickLoc = s.frm.tickLoc ∧ t.frm.params = s.frm.params
      ∧ ∃ e ∈ t.lg.onDie, e.kind = 2 ∧ e.code = BitVec.ofNat 16 evTimeStep := by
  let u := s.mapClk fun c => { c.undisciplined with disc := .setValue }
  let stepped := timeStepBy (v - u.now).toInt 0 u
  have hfrm : stepped.frm = s.frm := timeStepBy_frm _ _ u
  have hdue : KeepsTime stepped (timeMode 0 v s) := keepsTime_dueAtTime stepped
  obtain ⟨e, he, hlogged⟩ : ∃ e ∈ stepped.lg.onDie, e.kind = 2 ∧ e.code = BitVec.ofNat 16 evTimeStep := emit_logged ..
  exact ⟨hdue.clk.trans (timeStepBy_to_clk v 0 u), hfrm ▸ hdue.frame, hfrm ▸ hdue.tickLoc, hfrm ▸ hdue.params,
    e, hdue.log.subset he, hlogged⟩

/-- R278: the operands of TIME_SET are in order. -/
theorem timeSetBad_iff (mode : Byte) (value : Dword) :
    (2 < mode.toNat ∨ (mode ≠ 0 ∧ value ≠ 0)) ↔ ¬ (mode.toNat ≤ 2 ∧ (mode = 0 ∨ value = 0)) := by
  rw [not_and_or, not_or, Nat.not_le]

end Sys2Proof.Laws
end

section
/-!
SUPPORT. The release of a fault latch (R360, R361): the latches of the source are clear and its cause of fast-dark is
gone; what the beginning of an entry leaves unchanged; and what FAULT_READ reports (R290).
-/
namespace Sys2Proof.Laws

open Sys2Proof.Machine Sys2Proof.Claims

/-- A bit that is cleared. -/
theorem bitPut_false_same {w : Nat} (m : BitVec w) (i : Nat) : (bitPut m i false).getLsbD i = false := by
  by_cases h : i < w
  · simp only [bitPut, Bool.false_eq_true, if_false, BitVec.getLsbD_and, BitVec.getLsbD_not, BitVec.getLsbD_ofNat,
      Nat.testBit_two_pow_self, h, decide_true, Bool.and_self, Bool.not_true, Bool.and_false]
  · exact BitVec.getLsbD_of_ge _ _ (Nat.not_lt.1 h)

/-- R67: ending a cause of fast-dark changes the array only. -/
theorem darkRemove_frame (c : DarkCause) (s : State) : darkRemove c s = { s with arr := (darkRemove c s).arr } := by
  unfold darkRemove relightStart
  split
  · split <;> rfl
  · rfl

/-- R67: the cause is gone, whether or not a relight starts. -/
theorem not_mem_darkRemove (c : DarkCause) (s : State) : c ∉ (darkRemove c s).arr.causes := by
  have hrelight (t : State) : (relightStart t).arr.causes = t.arr.causes := by
    unfold relightStart
    split <;> rfl
  unfold darkRemove
  split
  · rw [hrelight]
    simp
  · rename_i h
    simpa using h

/-- R368: the event of a release reaches neither the latches nor housekeeping. -/
theorem releaseEvent_keeps (src sev : Nat) (s : State) :
    (releaseEvent src sev s).flt = s.flt ∧ (releaseEvent src sev s).hk = s.hk := by
  rw [releaseEvent, emit_frame]
  exact ⟨rfl, rfl⟩

/-- R360: the release of a source clears its three latches, and housekeeping stays. -/
theorem latchRelease_latches (src : Nat) (s : State) :
    (latchRelease src s).flt =
      { s.flt with
        degrade := bitPut s.flt.degrade src false, safe := bitPut s.flt.safe src false
        dark := bitPut s.flt.dark src false }
    ∧ (latchRelease src s).hk = s.hk := by
  have hevent (c : Bool) (sev : Nat) (s : State) : (if c then releaseEvent src sev s else s).flt = s.flt
      ∧ (if c then releaseEvent src sev s else s).hk = s.hk := by
    cases c
    · exact ⟨rfl, rfl⟩
    · exact releaseEvent_keeps ..
  have hdark (c : Bool) (s : State) : (if c then darkRemove .fault s else s).flt = s.flt
      ∧ (if c then darkRemove .fault s else s).hk = s.hk := by
    cases c
    · exact ⟨rfl, rfl⟩
    · rw [darkRemove_frame]
      exact ⟨rfl, rfl⟩
  unfold latchRelease
  dsimp only
  constructor
  · rw [(hdark ..).1, (hevent ..).1, (hevent ..).1]
    rfl
  · rw [(hdark ..).2, (hevent ..).2, (hevent ..).2]
    rfl

/-- R361: the release of the hardware shutdown. -/
theorem thermalRelease_effect (s : State) :
    let t := thermalRelease s
    t.hk = s.hk ∧ t.flt.dark.getLsbD 0x70 = false ∧ t.flt.safe.getLsbD 0x70 = false ∧ DarkCause.thermal ∉ t.arr.causes := by
  intro t
  obtain ⟨hflt, hhk⟩ := latchRelease_latches fTempShutdown s
  have ht : t = { latchRelease fTempShutdown s with arr := t.arr } := darkRemove_frame ..
  refine ⟨?_, ?_, ?_, not_mem_darkRemove .thermal _⟩
  · rw [ht]
    exact hhk
  · rw [ht, hflt]
    exact bitPut_false_same ..
  · rw [ht, hflt]
    exact bitPut_false_same ..

/-- The beginning of an entry changes the windows and the session only (R226, R262). -/
theorem begun_changes (i : Instr) (s : State) :
    begun i s = { s with rng := (begun i s).rng, tm := (begun i s).tm, sec := (begun i s).sec } := by
  unfold begun
  split
  · rfl
  · unfold startWindow
    split <;> split <;> rfl

@[simp] theorem begun_hk (i : Instr) (s : State) : (begun i s).hk = s.hk := by rw [begun_changes]
@[simp] theorem begun_flt (i : Instr) (s : State) : (begun i s).flt = s.flt := by rw [begun_changes]
@[simp] theorem begun_bus (i : Instr) (s : State) : (begun i s).bus = s.bus := by rw [begun_changes]
@[simp] theorem begun_frm (i : Instr) (s : State) : (begun i s).frm = s.frm := by rw [begun_changes]

/-- R290: the result word of FAULT_READ. -/
theorem faultResult_eq (s : State) :
    s.faultResult = BitVec.ofNat 64 (s.flt.src.toNat + (if s.flt.valid then 256 else 0) + (if s.flt.ovf then 512 else 0)
      + s.highestSev % 16 * 1024) := by
  rw [State.faultResult, at_flag, at_flag, at_]
  simp

/-- R290: the record of FAULT_READ. -/
theorem faultRecord_eq (s : State) :
    s.faultRecord = padTo 64 (leBytes s.flt.ts.toNat 8 ++ leBytes s.flt.src.toNat 1
      ++ leBytes ((if s.flt.valid then 1 else 0) + (if s.flt.ovf then 2 else 0)) 1 ++ leBytes 0 2
      ++ leBytes s.flt.sticky.toNat 20) := by
  have hovf : 2 * flag s.flt.ovf = if s.flt.ovf then 2 else 0 := by cases s.flt.ovf <;> rfl
  rw [State.faultRecord, hovf]
  rfl

end Sys2Proof.Laws
end

section
/-!
The statement about THERM_REARM, FAULT_READ and TIME_SET: O24.
-/
namespace Sys2Proof.Laws

open Sys2Proof.Machine Sys2Proof.Claims

/-- Settles O24: THERM_REARM releases the shutdown's latch and its cause of fast-dark; FAULT_READ reads the state in which
it begins; mode 0 of TIME_SET steps team time to its value, and neither the event of the step nor a register set that the
step applies changes that time, the frame or the parameters. -/
theorem rearmReadTimeSet : Obligations.RearmReadTimeSet := by
  refine ⟨?rearm, ?read, ?set⟩
  case rearm =>
    intro sub s i hr b
    have hx : exec i s = .next (thermRearmBody sub b) := ringCmd_runs _ hr
    have hhk : b.hk = s.hk := begun_hk i s
    rw [hx, thermRearmBody, hhk]
    refine ⟨fun hno => ?_, fun hl hc => ?_⟩
    · rw [if_neg (by simpa using hno)]
    · rw [if_pos (by simp [hl, hc])]
      obtain ⟨hhk', hdark, hsafe, hcause⟩ := thermalRelease_effect
        (b.mapHk fun h => { h with latchOff := false, trips := [] })
      exact ⟨_, rfl, hhk'.trans (by rw [State.mapHk_hk, hhk]), hdark, hsafe, hcause⟩
  case read =>
    intro sub d s hr b
    have hx : exec (.faultRead sub d) s = .next (reply 0xA0 sub stOk b.faultResult [(0, d, b.faultRecord)] b) :=
      ringCmd_runs _ hr
    have hflt : b.flt = s.flt := begun_flt ..
    rw [hx, faultResult_eq, faultRecord_eq, hflt]
  case set =>
    intro sub m v s i hr b good
    have hx : exec i s = .next (timeSetBody sub m v b) := ringCmd_runs _ hr
    have hbus : b.bus = s.bus := begun_bus i s
    have hfrm : b.frm = s.frm := begun_frm i s
    rw [hx, timeSetBody, hbus]
    simp only [timeSetBad_iff, ite_not]
    refine ⟨fun hbad => ?_, fun hgood hf => ?_, fun hgood hf hm hp => ?_, fun hgood hf hm => ?_, fun hgood hf hm hp => ?_,
      fun hgood hf hm => ?_⟩
    · rw [if_neg hbad]
    · rw [if_pos hgood, if_pos hf]
    · rw [if_pos hgood, hf, hp, hm]
      rfl
    · subst hm
      rw [if_pos hgood, hf]
      obtain ⟨hclk, hframe, htick, hparams, hlogged⟩ := timeMode_setValue v b
      exact ⟨timeMode 0 v b, rfl, by rw [hclk], by rw [hclk], by rw [hclk]; rfl, hfrm ▸ hframe, hfrm ▸ htick, hparams,
        hlogged⟩
    · subst hm
      rw [if_pos hgood, hf, hp]
      rfl
    · subst hm
      rw [if_pos hgood, hf]
      rfl

end Sys2Proof.Laws
end

section
/-!
The statements about steps and reset: O1, O2, O3, O59.
-/
namespace Sys2Proof.Laws

open Sys2Proof.Machine Sys2Proof.Claims

/-- Settles O1: a step takes the front of the queue. -/
theorem stepRunsFront : Obligations.StepRunsFront := fun _ _ _ => rfl

/-- R310, R313: a correction is slewed in by at most one nanosecond at a time, and by no more than is left of it. -/
theorem slewNow_slew (s : State) (h : s.clk.holdAt = none) :
    s.slewNow.natAbs ≤ 1 ∧ s.slewNow.natAbs ≤ s.clk.slew.natAbs := by
  simp only [State.slewNow, h]
  split
  · simp
  · have := Int.natAbs_sign s.clk.slew
    rcases lt_trichotomy s.clk.slew 0 with h | h | h
    · simp [Int.sign_eq_neg_one_of_neg h]; omega
    · simp [h]
    · simp [Int.sign_eq_one_of_pos h]; omega

/-- Rounding down what grows by at most the divisor moves by at most one. -/
theorem ediv_step (r m : Int) (n : Nat) (hm : 0 < m) (h : r.natAbs ≤ m.natAbs) :
    (r * ((n + 1 : Nat) : Int) / m - r * (n : Int) / m).natAbs ≤ 1 := by
  have h1 := Int.mul_ediv_add_emod (r * ((n + 1 : Nat) : Int)) m
  have h2 := Int.mul_ediv_add_emod (r * (n : Int)) m
  have b1 := Int.emod_nonneg (r * ((n + 1 : Nat) : Int)) hm.ne'
  have b2 := Int.emod_nonneg (r * (n : Int)) hm.ne'
  have b3 := Int.emod_lt_of_pos (r * ((n + 1 : Nat) : Int)) hm
  have b4 := Int.emod_lt_of_pos (r * (n : Int)) hm
  have hr : r * ((n + 1 : Nat) : Int) = r * (n : Int) + r := by push_cast; ring
  have hd : m * (r * ((n + 1 : Nat) : Int) / m - r * (n : Int) / m)
      = r + r * (n : Int) % m - r * ((n + 1 : Nat) : Int) % m := by rw [mul_sub]; omega
  generalize r * ((n + 1 : Nat) : Int) / m - r * (n : Int) / m = d at hd ⊢
  have hr : r ≤ m ∧ -m ≤ r := by omega
  have hlo : -2 < d := by nlinarith
  have hhi : d < 2 := by nlinarith
  omega

/-- R310: the rate of holdover is at most one nanosecond in ten thousand. -/
theorem heldNs_step (s : State) (n : Nat) : (s.heldNs (n + 1) - s.heldNs n).natAbs ≤ 1 := by
  have hcap : s.clk.rateOver / s.slewEvery ≤ s.clk.rateOver := Nat.div_le_self ..
  have hm (k : Nat) : ((max 1 k : Nat) : Int) = max 1 (k : Int) := by omega
  refine ediv_step _ _ n (by omega) ?_
  generalize s.clk.rateOver / s.slewEvery = c at hcap ⊢
  omega

/-- In holdover the rate stands in for the slew; without a rate nothing does. -/
theorem slewNow_held (s : State) (a : Nat) (h : s.clk.holdAt = some a) :
    s.slewNow.natAbs ≤ 1 ∧ (s.clk.rate = 0 → s.slewNow = 0) := by
  simp only [State.slewNow, h]
  constructor
  · rcases Nat.lt_or_ge s.clk.loc a with hlt | hge
    · rw [show s.clk.loc + 1 - a = s.clk.loc - a by omega]
      simp
    · rw [show s.clk.loc + 1 - a = s.clk.loc - a + 1 by omega]
      exact heldNs_step s _
  · intro hr
    have hz (n : Nat) : s.heldNs n = 0 := by
      have hcap : (0 : Int) ≤ ((s.clk.rateOver / s.slewEvery : Nat) : Int) := Int.natCast_nonneg _
      simp only [State.heldNs, hr, min_eq_right hcap, max_eq_right (Int.neg_nonpos_of_nonneg hcap), zero_mul, Int.zero_ediv]
    rw [hz, hz]
    rfl

/-- An idle step, one nanosecond on, with no fuse to blow. -/
theorem idleStep_eq (s : State) (hm : s.pwr.mode ≠ .off) (hb : s.fls.blow = none) :
    idleStep s = s.mapClk fun c =>
      { c with
        loc := c.loc + 1
        team := if s.teamRuns then c.team + BitVec.ofInt 64 (1 + s.slewNow) else c.team
        slew := if s.teamRuns && c.holdAt.isNone then c.slew - s.slewNow else c.slew } := by
  simp only [idleStep, if_neg hm, fuseStep, State.mapClk_fls, hb]

/-- Settles O2: the slew of the nanosecond, corrected or in holdover. -/
theorem idleStepCounts : Obligations.IdleStepCounts := by
  intro s hp
  have hstep : step s = .next (idleStep s) := by simp only [step, hp]
  rw [hstep]
  refine ⟨fun hm => by rw [idleStep, if_pos hm], fun hm hb => ⟨s.slewNow, ?_⟩⟩
  rw [idleStep_eq s hm hb]
  cases hh : s.clk.holdAt with
  | none =>
    obtain ⟨hone, hleft⟩ := slewNow_slew s hh
    exact ⟨hone, fun _ => hleft, rfl, fun _ h0 => by rw [h0] at hleft; omega, fun h => absurd rfl h⟩
  | some a =>
    obtain ⟨hone, hzero⟩ := slewNow_held s a hh
    exact ⟨hone, fun h => by simp at h, rfl, fun h => by simp at h, fun _ => hzero⟩

/-- Settles O59: reset lists nothing in either memory. -/
theorem resetHoldsMemories : Obligations.ResetHoldsMemories :=
  ⟨reset_mem_wf, List.Pairwise.nil, fun _ h => absurd h List.not_mem_nil⟩

/-- Every ring pair of reset is one at reset. -/
theorem reset_ring (n : Nat) : State.reset.ring n = Ring.reset := by
  show (List.replicate 16 Ring.reset).getD n Ring.reset = Ring.reset
  rw [List.getD_eq_getElem?_getD, List.getElem?_replicate]
  split <;> rfl

/-- Settles O3: field by field of the groups at reset. -/
theorem resetLeaves : Obligations.ResetLeaves := by
  unfold Obligations.ResetLeaves
  have hring (n : Nat) (_ : n < 16) : (State.reset.ring n).enabled = false ∧ (State.reset.ring n).sqTail = 0
      ∧ (State.reset.ring n).sqHead = 0 ∧ (State.reset.ring n).cqTail = 0 ∧ (State.reset.ring n).cqHead = 0
      ∧ (State.reset.ring n).cqPhase = true ∧ (State.reset.ring n).seqValid = false
      ∧ (State.reset.ring n).window = [] := by
    rw [reset_ring]
    exact ⟨rfl, rfl, rfl, rfl, rfl, rfl, rfl, rfl⟩
  have hmasked : ∀ e ∈ State.reset.bus.msix, e.masked = true := fun e he => by
    rw [List.eq_of_mem_replicate he]
  have hdark : DarkCause.reset ∈ State.reset.arr.causes := List.mem_cons_self
  have hopen (t : Nat) : State.reset.tileClosed t = false := rfl
  exact ⟨rfl, hring, rfl, rfl, rfl, rfl, rfl, hmasked, rfl, rfl, rfl, rfl, rfl, rfl, rfl, fun _ => rfl, rfl, rfl, rfl,
    rfl, rfl, rfl, rfl, rfl, rfl, rfl, hdark, hopen, rfl, rfl, rfl, rfl, rfl, rfl, rfl, rfl, rfl, rfl⟩

end Sys2Proof.Laws
end

section
/-!
What every operation of the model leaves of the shown codes, the housekeeping channels, the identity and the two byte
memories: `_held` when it leaves all of it, `_mems` when it leaves the memories, `_wf` when it keeps their canonical form,
`_shown` when it leaves all but the pool's bytes; one lemma per operation, in the order of the model's files. From them
follow the statements about the memories and about ring commands: O58, O60.
-/
namespace Sys2Proof.Laws

open Sys2Proof.Machine

/-- What the statements about ring commands and about the memories speak of: the shown codes with their row CRCs, the number and
the instant of the running frame, the housekeeping channels, the identity, and the two byte memories with the units of the
pixel map that were met. -/
structure Held where
  a : List (Nat × List Half)
  crcA : List (Nat × Word)
  frame : Word
  tickLoc : Nat
  ch : List HkChan
  idn : Idn
  ueRows : List Nat
  map : List Host.Cell
  mem : List Host.Cell

/-- What a state holds of them. -/
def held (s : State) : Held :=
  ⟨s.arr.a, s.arr.crcA, s.frm.frame, s.frm.tickLoc, s.hk.ch, s.idn, s.hlt.ueRows, s.hlt.map, s.pool.mem⟩

/-- The two memories. -/
def Held.mems (h : Held) : List Host.Cell × List Host.Cell := (h.map, h.mem)

/-! ### Updates of the state -/

@[simp] theorem held_mapClk (f : Clk → Clk) (s : State) : held (s.mapClk f) = held s := rfl
@[simp] theorem held_mapPwr (f : Pwr → Pwr) (s : State) : held (s.mapPwr f) = held s := rfl
@[simp] theorem held_mapBus (f : Bus → Bus) (s : State) : held (s.mapBus f) = held s := rfl
@[simp] theorem held_mapReg (f : Reg → Reg) (s : State) : held (s.mapReg f) = held s := rfl
@[simp] theorem held_mapRng (f : Rngs → Rngs) (s : State) : held (s.mapRng f) = held s := rfl
@[simp] theorem held_mapLg (f : Machine.Log → Machine.Log) (s : State) : held (s.mapLg f) = held s := rfl
@[simp] theorem held_mapFlt (f : Flt → Flt) (s : State) : held (s.mapFlt f) = held s := rfl
@[simp] theorem held_mapScn (f : Scn → Scn) (s : State) : held (s.mapScn f) = held s := rfl
@[simp] theorem held_mapPho (f : Pho → Pho) (s : State) : held (s.mapPho f) = held s := rfl
@[simp] theorem held_mapSaf (f : Saf → Saf) (s : State) : held (s.mapSaf f) = held s := rfl
@[simp] theorem held_mapCal (f : Cal → Cal) (s : State) : held (s.mapCal f) = held s := rfl
@[simp] theorem held_mapSec (f : Sec → Sec) (s : State) : held (s.mapSec f) = held s := rfl
@[simp] theorem held_mapFls (f : Fls → Fls) (s : State) : held (s.mapFls f) = held s := rfl
@[simp] theorem held_mapLan (f : Lan → Lan) (s : State) : held (s.mapLan f) = held s := rfl
@[simp] theorem held_mapTm (f : Machine.Team → Machine.Team) (s : State) : held (s.mapTm f) = held s := rfl
@[simp] theorem held_mapTrc (f : Trc → Trc) (s : State) : held (s.mapTrc f) = held s := rfl

/-- A group of which a field is held keeps it when its update does. -/
@[simp] theorem held_mapFrm (f : Machine.Frm → Machine.Frm) (s : State) (hf : ∀ x, (f x).frame = x.frame)
    (ht : ∀ x, (f x).tickLoc = x.tickLoc) : held (s.mapFrm f) = held s := by simp [held, hf, ht]
@[simp] theorem held_mapArr (f : Arr → Arr) (s : State) (ha : ∀ x, (f x).a = x.a) (hc : ∀ x, (f x).crcA = x.crcA) :
    held (s.mapArr f) = held s := by simp [held, ha, hc]
@[simp] theorem held_mapHk (f : Hk → Hk) (s : State) (hc : ∀ x, (f x).ch = x.ch) : held (s.mapHk f) = held s := by
  simp [held, hc]
@[simp] theorem held_mapHlt (f : Hlt → Hlt) (s : State) (hm : ∀ x, (f x).map = x.map) (hu : ∀ x, (f x).ueRows = x.ueRows) :
    held (s.mapHlt f) = held s := by simp [held, hm, hu]
@[simp] theorem held_mapPool (f : Pool → Pool) (s : State) (hm : ∀ x, (f x).mem = x.mem) : held (s.mapPool f) = held s := by
  simp [held, hm]

/-- The memories are in two groups. -/
@[simp] theorem mems_mapFrm (f : Machine.Frm → Machine.Frm) (s : State) : (held (s.mapFrm f)).mems = (held s).mems := rfl
@[simp] theorem mems_mapArr (f : Arr → Arr) (s : State) : (held (s.mapArr f)).mems = (held s).mems := rfl
@[simp] theorem mems_mapHk (f : Hk → Hk) (s : State) : (held (s.mapHk f)).mems = (held s).mems := rfl
@[simp] theorem mems_mapIdn (f : Idn → Idn) (s : State) : (held (s.mapIdn f)).mems = (held s).mems := rfl
@[simp] theorem mems_mapHlt (f : Hlt → Hlt) (s : State) (hm : ∀ x, (f x).map = x.map) :
    (held (s.mapHlt f)).mems = (held s).mems := by simp [held, Held.mems, hm]

/-- Reporting keeps all of it. -/
theorem held_of_keeps {s t : State} (h : Keeps s t) : held t = held s := by
  simp only [held, h.arrA, h.crcA, h.frame, h.tickLoc, h.hk, h.idn, h.pool]
  rw [h.hlt]

@[simp] theorem held_ite {c : Prop} [Decidable c] (s t : State) : held (if c then s else t) = if c then held s else held t :=
  apply_ite ..
@[simp] theorem held_snd_ite {α : Type} {c : Prop} [Decidable c] (s t : α × State) :
    held (if c then s else t).2 = if c then held s.2 else held t.2 := by split <;> rfl
@[simp] theorem mems_ite {c : Prop} [Decidable c] (h k : Held) : (if c then h else k).mems = if c then h.mems else k.mems :=
  apply_ite ..

/-- A loop of steps that each keep it. -/
@[simp] theorem held_foldl {α : Type} (f : State → α → State) (l : List α) (s : State) (h : ∀ t a, held (f t a) = held t) :
    held (l.foldl f s) = held s := by
  induction l generalizing s with
  | nil => rfl
  | cons a l ih => rw [List.foldl_cons, ih, h]
@[simp] theorem mems_foldl {α : Type} (f : State → α → State) (l : List α) (s : State)
    (h : ∀ t a, (held (f t a)).mems = (held t).mems) : (held (l.foldl f s)).mems = (held s).mems := by
  induction l generalizing s with
  | nil => rfl
  | cons a l ih => rw [List.foldl_cons, ih, h]
@[simp] theorem held_foldl_snd {α β : Type} (f : β × State → α → β × State) (l : List α) (q : β × State)
    (h : ∀ t a, held (f t a).2 = held t.2) : held (l.foldl f q).2 = held q.2 := by
  induction l generalizing q with
  | nil => rfl
  | cons a l ih => rw [List.foldl_cons, ih, h]

/-- What an answer holds, when it is a next state. -/
def heldNext (s : State) : Answer → Held
  | .next t => held t
  | _ => held s
@[simp] theorem heldNext_next (s t : State) : heldNext s (.next t) = held t := rfl

/-- Both memories are in their canonical form (assumption 11). -/
def MemsWf (m : List Host.Cell × List Host.Cell) : Prop := Memory.wf m.2 ∧ cellsWf 0 m.1

theorem memoriesWf_iff (s : State) : MemoriesWf s ↔ MemsWf (held s).mems := Iff.rfl

@[simp] theorem wf_ite {c : Prop} [Decidable c] (h k : List Host.Cell × List Host.Cell) :
    MemsWf (if c then h else k) = if c then MemsWf h else MemsWf k := apply_ite ..

/-- A loop of steps that each keep the form. -/
@[simp] theorem wf_foldl {α : Type} (f : State → α → State) (l : List α) (s : State)
    (h : ∀ t a, MemsWf (held t).mems → MemsWf (held (f t a)).mems) (hs : MemsWf (held s).mems) :
    MemsWf (held (l.foldl f s)).mems := by
  induction l generalizing s with
  | nil => exact hs
  | cons a l ih => exact ih _ (h _ _ hs)

/-- What is held beside the pool's bytes. -/
def Held.shown (h : Held) : Held := { h with mem := [] }
@[simp] theorem shown_ite {c : Prop} [Decidable c] (h k : Held) : (if c then h else k).shown = if c then h.shown else k.shown :=
  apply_ite ..
@[simp] theorem shown_foldl {α : Type} (f : State → α → State) (l : List α) (s : State)
    (h : ∀ t a, (held (f t a)).shown = (held t).shown) : (held (l.foldl f s)).shown = (held s).shown := by
  induction l generalizing s with
  | nil => rfl
  | cons a l ih => rw [List.foldl_cons, ih, h]

@[simp] theorem memWrite_shown (a : Nat) (bs : List Byte) (s : State) :
    (held (memWrite a bs s)).shown = (held s).shown := rfl
@[simp] theorem zeroBlocks_shown (bs : List Nat) (s : State) : (held (zeroBlocks bs s)).shown = (held s).shown := rfl
@[simp] theorem memWrite_wf' (a : Nat) (bs : List Byte) (s : State) (hw : MemsWf (held s).mems) :
    MemsWf (held (memWrite a bs s)).mems := ⟨memWrite_wf a bs s hw.1, hw.2⟩
@[simp] theorem zeroBlocks_wf' (bs : List Nat) (s : State) (hw : MemsWf (held s).mems) :
    MemsWf (held (zeroBlocks bs s)).mems := ⟨zeroBlocks_wf bs s hw.1, hw.2⟩
@[simp] theorem poolWrite_wf' (h : Handle) (n off : Nat) (bs : List Byte) (s : State) (hw : MemsWf (held s).mems) :
    MemsWf (held (poolWrite h n off bs s)).mems := by
  have hmap : (poolWrite h n off bs s).hlt = s.hlt := by
    induction n generalizing off bs s with
    | zero => rfl
    | succ n ih =>
      simp only [poolWrite]
      split
      · rfl
      · exact ih _ _ (memWrite ..) ⟨memWrite_wf _ _ s hw.1, hw.2⟩
  refine ⟨poolWrite_wf h n off bs s hw.1, ?_⟩
  show cellsWf 0 (poolWrite h n off bs s).hlt.map
  rw [hmap]
  exact hw.2

@[simp] theorem curbLoad_held (t s : State) : held (curbLoad t s) = held t := rfl
@[simp] theorem pickBlocks_held (n : Nat) (free : List Nat) (s : State) : held (pickBlocks n free s).2 = held s := by
  induction n generalizing free s with
  | zero => rfl
  | succ n ih =>
    simp only [pickBlocks]
    split
    · rfl
    · exact ih ..

/-- An update of the pixel-fault map. -/
theorem wf_mapHlt (f : Hlt → Hlt) (s : State) (hf : cellsWf 0 s.hlt.map → cellsWf 0 (f s.hlt).map)
    (hw : MemsWf (held s).mems) : MemsWf (held (s.mapHlt f)).mems := ⟨hw.1, hf hw.2⟩

/-! ### Machine/Ops -/

@[simp] theorem draw_held (s : State) :
    held (State.draw s).2 = held s := by rfl
@[simp] theorem random_held (s : State) (n : Nat) :
    held (State.random s n).2 = held s := by rfl
@[simp] theorem logAdd_held (kind code : Nat) (time : Dword) (data : List Byte) (s : State) :
    held (logAdd kind code time data s) = held s :=
  held_of_keeps (keeps_logAdd ..)
@[simp] theorem unitsFresh_held (fresh : Nat → Bool) (s : State) :
    held (unitsFresh fresh s) = held s := by
  simp [unitsFresh]
@[simp] theorem logFlushOp_held (s : State) :
    held (logFlushOp s) = held s := by
  simp [logFlushOp]
@[simp] theorem busSend_held (o : BusOut) (s : State) :
    held (busSend o s) = held s :=
  held_of_keeps (keeps_busSend ..)
@[simp] theorem busReply_held (o : BusOut) (s : State) :
    held (busReply o s) = held s := by
  simp [busReply]
@[simp] theorem hostWrite_held (addr : Dword) (bytes : List Byte) (s : State) :
    held (hostWrite addr bytes s) = held s := by
  simp [hostWrite]
@[simp] theorem readSend_held (addr : Dword) (n : Nat) (s : State) :
    held (readSend addr n s) = held s := by
  simp [readSend]
@[simp] theorem hostRead_held (b : Sub) (addr : Dword) (n : Nat) (s : State) :
    held (hostRead b addr n s) = held s := by
  simp [hostRead]
@[simp] theorem busAwake_held (s : State) :
    held (busAwake s) = held s := by
  simp [busAwake]
@[simp] theorem msixSend_held (v : Nat) (s : State) :
    held (msixSend v s) = held s :=
  held_of_keeps (keeps_msixSend ..)
@[simp] theorem intCause_held (c : Nat) (s : State) :
    held (intCause c s) = held s :=
  held_of_keeps (keeps_intCause ..)
@[simp] theorem mapRing_held (n : Nat) (f : Ring → Ring) (s : State) :
    held (mapRing n f s) = held s :=
  held_of_keeps (keeps_mapRing ..)
@[simp] theorem cqModCheck_held (n : Nat) (s : State) :
    held (cqModCheck n s) = held s :=
  held_of_keeps (keeps_cqModCheck ..)
@[simp] theorem eqModCheck_held (s : State) :
    held (eqModCheck s) = held s :=
  held_of_keeps (keeps_eqModCheck ..)
@[simp] theorem eqWrite_held (e : Event) (s : State) :
    held (eqWrite e s) = held s :=
  held_of_keeps (keeps_eqWrite ..)
@[simp] theorem mapPort_held (p : Fin 4) (f : Port → Port) (s : State) :
    held (mapPort p f s) = held s :=
  held_of_keeps (keeps_mapPort ..)
@[simp] theorem portEmit_held (p : Fin 4) (rseq : Word) (retx : Bool) (f : TFrame) (s : State) :
    held (portEmit p rseq retx f s) = held s :=
  held_of_keeps (keeps_portEmit ..)
@[simp] theorem portSend_held (p : Fin 4) (f : TFrame) (s : State) :
    held (portSend p f s) = held s :=
  held_of_keeps (keeps_portSend ..)
@[simp] theorem flood_held (std : Bool) (except : Option (Fin 4)) (f : TFrame) (s : State) :
    held (flood std except f s) = held s :=
  held_of_keeps (keeps_flood ..)
@[simp] theorem sendUp_held (f : TFrame) (s : State) :
    held (sendUp f s) = held s :=
  held_of_keeps (keeps_sendUp ..)
@[simp] theorem sendDown_held (f : TFrame) (s : State) :
    held (sendDown f s) = held s :=
  held_of_keeps (keeps_sendDown ..)
@[simp] theorem emitAt_held (time : Dword) (code : Nat) (data : List Byte) (s : State) :
    held (emitAt time code data s) = held s :=
  held_of_keeps (keeps_emitAt ..)
@[simp] theorem emit_held (code : Nat) (data : List Byte) (s : State) :
    held (emit code data s) = held s :=
  held_of_keeps (keeps_emit ..)
@[simp] theorem aerLog_held (bit : Nat) (s : State) :
    held (aerLog bit s) = held s := by
  simp [aerLog]
@[simp] theorem errNonfatal_held (s : State) :
    held (errNonfatal s) = held s := by
  simp [errNonfatal]

/-! ### Machine/Done -/

@[simp] theorem cqWrite_held (op : Nat) (ioc : Bool) (c : Completion) (s : State) :
    held (cqWrite op ioc c s) = held s :=
  held_of_keeps (keeps_cqWrite ..)
@[simp] theorem windowOpen_held (n : Nat) (seq digest : Word) (s : State) :
    held (windowOpen n seq digest s) = held s := by
  simp [windowOpen]
@[simp] theorem mapOrigin_held (o : BitVec 10) (n : Nat) (f : OriginWindow → OriginWindow) (s : State) :
    held (mapOrigin o n f s) = held s := by
  simp [mapOrigin]
@[simp] theorem cplSend_held (op : Nat) (o : BitVec 10) (dup retry : Bool) (acks : List (BitVec 10)) (c : Completion) (s : State) :
    held (cplSend op o dup retry acks c s) = held s :=
  held_of_keeps (keeps_cplSend ..)
@[simp] theorem cmdDown_held (f : Forward) (retry : Bool) (dst : BitVec 11) (s : State) :
    held (cmdDown f retry dst s) = held s := by
  simp [cmdDown]
@[simp] theorem fwdSettle_held (f : Forward) (s : State) :
    held (fwdSettle f s) = held s :=
  held_of_keeps (keeps_fwdSettle ..)
@[simp] theorem fwdMark_held (f : Option Forward) (eng : BitVec 10) (g : TargetState → TargetState) (s : State) :
    held (fwdMark f eng g s) = held s :=
  held_of_keeps (keeps_fwdMark ..)
@[simp] theorem fwdTarget_held (o : Option (BitVec 10)) (ring : Nat) (seq : Word) (eng : BitVec 10) (g : TargetState → TargetState) (s : State) :
    held (fwdTarget o ring seq eng g s) = held s := by
  simp [fwdTarget]
@[simp] theorem finishAt_held (op : Nat) (sub : Sub) (st : Half) (result tDone : Dword) (s : State) :
    held (finishAt op sub st result tDone s) = held s :=
  held_of_keeps (keeps_finishAt ..)
@[simp] theorem finish_held (op : Nat) (sub : Sub) (st : Half) (result : Dword) (s : State) :
    held (finish op sub st result s) = held s :=
  held_of_keeps (keeps_finish ..)
@[simp] theorem keepRunning_held (sub : Sub) (s : State) :
    held (keepRunning sub s) = held s :=
  held_of_keeps (keeps_keepRunning ..)
@[simp] theorem mapSubs_held (f : Sub → Sub) (s : State) :
    held (State.mapSubs f s) = held s := by rfl

/-! ### Machine/Flags -/

@[simp] theorem spanCut_held (s : State) :
    held (spanCut s) = held s := by
  simp [spanCut]
@[simp] theorem tilesOpen_held (m : BitVec 256) (s : State) :
    held (tilesOpen m s) = held s := by
  simp [tilesOpen]
@[simp] theorem darkAdd_held (c : DarkCause) (s : State) :
    held (darkAdd c s) = held s :=
  held_of_keeps (keeps_darkAdd ..)
@[simp] theorem relightStart_held (s : State) :
    held (relightStart s) = held s := by
  simp [relightStart]
@[simp] theorem darkRemove_held (c : DarkCause) (s : State) :
    held (darkRemove c s) = held s := by
  simp [darkRemove]
@[simp] theorem safetyEvent_held (frame : Word) (st scene : Nat) (mask : BitVec 12) (s : State) :
    held (safetyEvent frame st scene mask s) = held s :=
  held_of_keeps (keeps_safetyEvent ..)
@[simp] theorem stateFlood_held (kind : Nat) (data : List Byte) (s : State) :
    held (stateFlood kind data s) = held s :=
  held_of_keeps (keeps_stateFlood ..)
@[simp] theorem marksEvent_held (s : State) :
    held (marksEvent s) = held s := by
  simp [marksEvent]
@[simp] theorem clearWrite_held (s : State) :
    held (clearWrite s) = held s :=
  held_of_keeps (keeps_clearWrite ..)
@[simp] theorem postsFresh_held (s : State) :
    held (postsFresh s) = held s :=
  held_of_keeps (keeps_postsFresh ..)
@[simp] theorem calLeave_held (s : State) :
    held (calLeave s) = held s :=
  held_of_keeps (keeps_calLeave ..)
@[simp] theorem causeArise_held (before : BitVec 12) (s : State) :
    held (causeArise before s) = held s :=
  held_of_keeps (keeps_causeArise ..)
@[simp] theorem raiseMin_held (src minSev : Nat) (data : List Byte) (s : State) :
    held (raiseMin src minSev data s) = held s :=
  held_of_keeps (keeps_raiseMin ..)
@[simp] theorem raise_held (src : Nat) (data : List Byte) (s : State) :
    held (raise src data s) = held s :=
  held_of_keeps (keeps_raise ..)
@[simp] theorem raiseAll_held (l : List Raise) (s : State) :
    held (raiseAll l s) = held s := by
  simp [raiseAll]
@[simp] theorem waitRaise_held (src : Nat) (data : List Byte) (q : List Raise × State) :
    held (waitRaise src data q).2 = held q.2 := by
  simp [waitRaise]
@[simp] theorem raised_held (q : List Raise × State) :
    held (raised q) = held q.2 := by
  simp [raised]
@[simp] theorem heldSet_held (src : Nat) (b : Bool) (s : State) :
    held (heldSet src b s) = held s := by
  simp [heldSet]
@[simp] theorem raiseOnce_held (src : Nat) (data : List Byte) (s : State) :
    held (raiseOnce src data s) = held s := by
  simp [raiseOnce]
@[simp] theorem releaseEvent_held (src sev : Nat) (s : State) :
    held (releaseEvent src sev s) = held s := by
  simp [releaseEvent]
@[simp] theorem latchRelease_held (src : Nat) (s : State) :
    held (latchRelease src s) = held s := by
  simp [latchRelease]
@[simp] theorem pinRelease_held (s : State) :
    held (pinRelease s) = held s := by
  simp [pinRelease]
@[simp] theorem frameMem_held (src unit kind layer : Nat) (frame : Word) (q : List Raise × State) :
    held (frameMem src unit kind layer frame q).2 = held q.2 := by
  simp [frameMem]
@[simp] theorem noteUe_held (ue : List Nat) (s : State) :
    held (noteUe ue s) = held s := by
  simp [noteUe]
@[simp] theorem noteCe_held (ce : List Nat) (s : State) :
    held (noteCe ce s) = held s := by
  simp [noteCe]
@[simp] theorem frameCe_held (kind layer : Nat) (frame : Word) (units : List Nat) (q : List Raise × State) :
    held (frameCe kind layer frame units q).2 = held q.2 := by
  simp [frameCe]
@[simp] theorem unitRaises_held (kind : Nat) (units bad : List Nat) (q : List Raise × State) :
    held (unitRaises kind units bad q).2 = held q.2 := by
  simp [unitRaises]
@[simp] theorem meetUnits_held (kind : Nat) (units bad : List Nat) (s : State) :
    held (meetUnits kind units bad s) = held s := by
  simp [meetUnits]
@[simp] theorem meetCe_held (kind : Nat) (units : List Nat) (s : State) :
    held (meetCe kind units s) = held s := by
  simp [meetCe]
@[simp] theorem raiseUe_held (kind : Nat) (units : List Nat) (s : State) :
    held (raiseUe kind units s) = held s := by
  simp [raiseUe]
@[simp] theorem aerUncorrectable_held (s : State) :
    held (aerUncorrectable s) = held s := by
  simp [aerUncorrectable]
@[simp] theorem aerRaise_held (s : State) :
    held (aerRaise s) = held s := by
  simp [aerRaise]
@[simp] theorem readFailed_held (b : Sub) (d : HostRead) (s : State) :
    held (readFailed b d s) = held s := by
  unfold readFailed
  split <;> simp
@[simp] theorem regAccess_held (off kind bar be : Nat) (s : State) :
    held (regAccess off kind bar be s) = held s := by
  simp [regAccess]
@[simp] theorem ringProtocol_held (reason queue bell value : Nat) (s : State) :
    held (ringProtocol reason queue bell value s) = held s := by
  simp [ringProtocol]
@[simp] theorem bootImage_held (kind reason copy : Nat) (s : State) :
    held (bootImage kind reason copy s) = held s := by
  simp [bootImage]

/-! ### Machine/Alloc -/

@[simp] theorem takeBlocks_held (s : State) (n : Nat) (contiguous : Bool) :
    held (State.takeBlocks s n contiguous).2 = held s := by
  simp [State.takeBlocks]
@[simp] theorem newHandle_held (c n : Nat) (contiguous : Bool) (waiting : Option Sub) (s : State) :
    held (newHandle c n contiguous waiting s).2 = held s := by
  simp [newHandle]
@[simp] theorem usesTick_held (s : State) :
    held (usesTick s) = held s := by
  simp [usesTick]
@[simp] theorem usesAdd_held (surfs : List Nat) (handles : List Half) (s : State) :
    held (usesAdd surfs handles s) = held s := by
  simp [usesAdd]
@[simp] theorem returnBlocks_held (h : Handle) (s : State) :
    held (returnBlocks h s) = held s := by
  simp [returnBlocks]
@[simp] theorem freeNow_held (h : Handle) (s : State) :
    held (freeNow h s) = held s := by
  simp [freeNow]
@[simp] theorem mapHandle_held (slot : Nat) (f : Handle → Handle) (s : State) :
    held (mapHandle slot f s) = held s := by
  simp [mapHandle]
@[simp] theorem freeingTick_held (s : State) :
    held (freeingTick s) = held s := by
  simp [freeingTick]
@[simp] theorem freeingMove_held (v : Half) (s : State) :
    held (freeingMove v s) = held s := by
  unfold freeingMove
  split <;> simp

/-! ### Machine/Timing -/

@[simp] theorem armAt_held (frame : Word) (changes : List Change) (counted given : Bool) (s : State) :
    held (armAt frame changes counted given s) = held s := by
  simp [armAt]
@[simp] theorem armSet_held (op : Nat) (b : Sub) (frame : Word) (budget : Bool) (changes : List Change) (own : Nat) (s : State) :
    held (armSet op b frame budget changes own s) = held s := by
  simp [armSet]
@[simp] theorem setCmd_held (op : Nat) (b : Sub) (mask : Half) (frame : Word) (shape : Bool) (check : Option Half) (changes : List Change) (own : Nat) (s : State) :
    held (setCmd op b mask frame shape check changes own s) = held s := by
  unfold setCmd
  dsimp only
  (repeat' split) <;> simp

/-! ### Machine/Operands -/

@[simp] theorem startWindow_held (p : Spelled) (s : State) :
    held (startWindow p s) = held s := by
  unfold startWindow
  split <;> simp
@[simp] theorem sessionTouch_held (s : State) :
    held (sessionTouch s) = held s := by
  simp [sessionTouch]
/-- What is shown at the end is what was shown at first, or what the command's body left of a state that held the same and whose pool
listed the same errors. -/
def Path (body : State → State) (s t : State) : Prop :=
  (held t).shown = (held s).shown
  ∨ ∃ u, held u = held s ∧ u.pool.ue = s.pool.ue ∧ (held t).shown = (held (body u)).shown

theorem Path.stay {body : State → State} {s t : State} (h : (held t).shown = (held s).shown) : Path body s t := .inl h
theorem Path.run (body : State → State) (s : State) : Path body s (body s) := .inr ⟨s, rfl, rfl, rfl⟩
theorem Path.before {body : State → State} {s u t : State} (h : held u = held s) (hue : u.pool.ue = s.pool.ue)
    (k : Path body u t) : Path body s t := by
  obtain k | ⟨v, hv, hvue, k⟩ := k
  · exact .inl (by rw [k, h])
  · exact .inr ⟨v, hv.trans h, hvue.trans hue, k⟩
theorem Path.after {body : State → State} {s t u : State} (k : Path body s t) (h : (held u).shown = (held t).shown) :
    Path body s u := by
  obtain k | ⟨v, hv, hvue, k⟩ := k
  · exact .inl (h.trans k)
  · exact .inr ⟨v, hv, hvue, h.trans k⟩
/-- Where the body runs only for some targets. -/
theorem Path.choose {c : Prop} [Decidable c] {body : State → State} {s u : State} (h : held u = held s)
    (hue : u.pool.ue = s.pool.ue) : Path body s (if c then body u else u) := by
  split
  · exact (Path.run body u).before h hue
  · exact .stay (by rw [h])
/-- A body that is itself a command's path. -/
theorem Path.inner {body run : State → State} {s t : State} (k : Path run s t) (h : ∀ u, Path body u (run u)) :
    Path body s t := by
  obtain k | ⟨v, hv, hvue, k⟩ := k
  · exact .inl k
  · exact ((h v).before hv hvue).after k

theorem runHere_path (p : Spelled) (body : State → State) (s : State) : Path body s (runHere p body s) := by
  unfold runHere
  split_ifs
  · exact .stay (by simp)
  · exact .stay (by simp)
  · exact .run body s
  · exact (Path.run body _).before (by simp) rfl
  · exact .stay (by simp)
theorem runHere_wf (p : Spelled) (body : State → State) (s : State)
    (hb : ∀ t, MemsWf (held t).mems → MemsWf (held (body t)).mems) (hw : MemsWf (held s).mems) :
    MemsWf (held (runHere p body s)).mems := by
  simp [runHere, held_ite, mems_ite, wf_ite, hb, hw]
theorem cmdDown_ue (f : Forward) (b : Bool) (t : BitVec 11) (s : State) : (cmdDown f b t s).pool.ue = s.pool.ue :=
  congrArg Pool.ue (keeps_flood ..).pool
theorem keepRunning_ue (b : Sub) (s : State) : (keepRunning b s).pool.ue = s.pool.ue :=
  congrArg Pool.ue (keeps_keepRunning ..).pool
theorem leadStart_path (k : Nat) (b : Sub) (e : BitVec 512) (body : State → State) (s : State) :
    Path body s (leadStart k b e body s) := by
  unfold leadStart
  dsimp only
  split
  · exact .stay (by simp)
  · refine Path.choose (by simp) ?_
    split
    · rw [keepRunning_ue, State.mapTm_pool]
    · rw [cmdDown_ue, keepRunning_ue, State.mapTm_pool]
theorem leadStart_wf (k : Nat) (b : Sub) (e : BitVec 512) (body : State → State) (s : State)
    (hb : ∀ t, MemsWf (held t).mems → MemsWf (held (body t)).mems) (hw : MemsWf (held s).mems) :
    MemsWf (held (leadStart k b e body s)).mems := by
  unfold leadStart
  dsimp only
  split <;> simp [held_ite, mems_ite, wf_ite, hb, hw]
@[simp] theorem leadRefuse_held (b : Sub) (entry : BitVec 512) (targets bad : List (BitVec 10)) (st : Half) (s : State) :
    held (leadRefuse b entry targets bad st s) = held s := by
  simp [leadRefuse]
theorem leadTiming_path (k : Nat) (b : Sub) (e : BitVec 512) (body : State → State) (s : State) :
    Path body s (leadTiming k b e body s) := by
  unfold leadTiming
  dsimp only
  split
  · exact .stay (by simp)
  · split
    · exact .stay (by simp)
    · split
      · exact .stay (by simp)
      · split
        · exact .stay (by simp)
        · exact (leadStart_path ..).before (by simp) (by simp)
theorem leadTiming_wf (k : Nat) (b : Sub) (e : BitVec 512) (body : State → State) (s : State)
    (hb : ∀ t, MemsWf (held t).mems → MemsWf (held (body t)).mems) (hw : MemsWf (held s).mems) :
    MemsWf (held (leadTiming k b e body s)).mems := by
  unfold leadTiming
  dsimp only
  split
  · simpa
  · split
    · simpa
    · split
      · simpa
      · split
        · simpa
        · exact leadStart_wf _ _ _ _ _ hb (by simpa)
theorem leadForward_path (k : Nat) (b : Sub) (e : BitVec 512) (body : State → State) (s : State) :
    Path body s (leadForward k b e body s) := by
  unfold leadForward
  dsimp only
  have hdraw : held (if groupTarget b.target then s.draw.2 else s) = held s := by simp
  have hue : (if groupTarget b.target then s.draw.2 else s).pool.ue = s.pool.ue := by split <;> rfl
  split
  · exact (leadTiming_path ..).before hdraw hue
  · exact (leadStart_path ..).before hdraw hue
theorem leadForward_wf (k : Nat) (b : Sub) (e : BitVec 512) (body : State → State) (s : State)
    (hb : ∀ t, MemsWf (held t).mems → MemsWf (held (body t)).mems) (hw : MemsWf (held s).mems) :
    MemsWf (held (leadForward k b e body s)).mems := by
  simp [leadForward, held_ite, mems_ite, wf_ite, leadStart_wf _ _ _ _ _ hb, leadTiming_wf _ _ _ _ _ hb, hw]
@[simp] theorem routeSend_held (f : TFrame) (s : State) :
    held (routeSend f s) = held s := by
  simp [routeSend]
@[simp] theorem streamSend_held (t : Stream) (s : State) :
    held (streamSend t s) = held s := by
  simp [streamSend]
@[simp] theorem streamStage_shown (t : Machine.Stream) (s : State) : (held (streamStage t s)).shown = (held s).shown :=
  shown_foldl _ _ _ fun _ _ => rfl
@[simp] theorem streamStage_wf (t : Machine.Stream) (s : State) (hw : MemsWf (held s).mems) :
    MemsWf (held (streamStage t s)).mems :=
  wf_foldl _ _ _ (fun t a h => memWrite_wf' _ _ t h) (zeroBlocks_wf' _ s hw)
@[simp] theorem streamOpen_shown (number : Word) (peer : BitVec 11) (pieces : List (Word × List Byte)) (blocks : Nat) (fin : Option (Nat × Sub × Half × Dword)) (s : State) :
    (held (streamOpen number peer pieces blocks fin s)).shown = (held s).shown := by
  simp [streamOpen]
@[simp] theorem streamOpen_wf (number : Word) (peer : BitVec 11) (pieces : List (Word × List Byte)) (blocks : Nat) (fin : Option (Nat × Sub × Half × Dword)) (s : State) (hw : MemsWf (held s).mems) :
    MemsWf (held (streamOpen number peer pieces blocks fin s)).mems := by
  simp [streamOpen, hw]
@[simp] theorem serveOpen_shown (b : Sub) (n : Nat) (d : HostRead) (s : State) :
    (held (serveOpen b n d s)).shown = (held s).shown := by
  simp [serveOpen]
@[simp] theorem serveOpen_wf (b : Sub) (n : Nat) (d : HostRead) (s : State) (hw : MemsWf (held s).mems) :
    MemsWf (held (serveOpen b n d s)).mems := by
  simp [serveOpen, hw]
@[simp] theorem originServe_shown (b : Sub) (e : BitVec 512) (d : HostRead) (s : State) :
    (held (originServe b e d s)).shown = (held s).shown := by
  simp [originServe]
@[simp] theorem originServe_wf (b : Sub) (e : BitVec 512) (d : HostRead) (s : State) (hw : MemsWf (held s).mems) :
    MemsWf (held (originServe b e d s)).mems := by
  simp [originServe, hw]
theorem forwardOut_path (p : Spelled) (d : HostRead) (body : State → State) (s : State) :
    Path body s (forwardOut p d body s) := by
  have hlead := (leadForward_path s.free p.sub p.entry (runHere p body) s).inner (runHere_path p body)
  unfold forwardOut
  dsimp only
  split_ifs
  · exact .stay (by simp)
  · exact .stay (by simp)
  · exact .stay (by simp)
  · exact hlead
  · exact hlead.after (by simp)
  · split
    · exact .stay (by simp)
    · exact .stay (by simp)
theorem forwardOut_wf (p : Spelled) (d : HostRead) (body : State → State) (s : State)
    (hb : ∀ t, MemsWf (held t).mems → MemsWf (held (body t)).mems) (hw : MemsWf (held s).mems) :
    MemsWf (held (forwardOut p d body s)).mems := by
  have hrun := runHere_wf p body (hb := hb)
  unfold forwardOut
  dsimp only
  split_ifs <;> (try split) <;> simp [leadForward_wf _ _ _ _ _ hrun, hw]
theorem startWindow_ue (p : Spelled) (s : State) : (startWindow p s).pool.ue = s.pool.ue := by
  unfold startWindow
  split <;> rfl
theorem ringStart_path (p : Spelled) (d : HostRead) (body : State → State) (s : State) :
    Path body s (ringStart p d body s) := by
  unfold ringStart
  dsimp only
  split
  · exact .stay (by simp)
  · split
    · exact (runHere_path ..).before (by simp) (startWindow_ue ..)
    · exact (forwardOut_path ..).before (by simp) (startWindow_ue ..)
theorem ringStart_wf (p : Spelled) (d : HostRead) (body : State → State) (s : State)
    (hb : ∀ t, MemsWf (held t).mems → MemsWf (held (body t)).mems) (hw : MemsWf (held s).mems) :
    MemsWf (held (ringStart p d body s)).mems := by
  unfold ringStart
  dsimp only
  split <;> simp [held_ite, mems_ite, wf_ite, runHere_wf p body _ hb, forwardOut_wf p d body _ hb, hw]
theorem ringCmd_path (i : Instr) (body : State → State) (s t : State) (h : ringCmd i body s = .next t) :
    Path body s t := by
  unfold ringCmd at h
  split at h
  · cases h
    exact .stay rfl
  · cases h
    split
    · exact ringStart_path ..
    · exact .stay rfl
@[simp] theorem ringCmd_wf (i : Instr) (body : State → State) (s : State)
    (hb : ∀ t, MemsWf (held t).mems → MemsWf (held (body t)).mems) (hw : MemsWf (held s).mems) :
    MemsWf (heldNext s (ringCmd i body s)).mems := by
  unfold ringCmd
  split <;> simp [held_ite, mems_ite, wf_ite, ringStart_wf _ _ body _ hb, hw]
@[simp] theorem reply_shown (op : Nat) (b : Sub) (st : Half) (res : Dword) (w : List (Nat × Dword × List Byte)) (s : State) :
    (held (reply op b st res w s)).shown = (held s).shown := by
  unfold reply
  split <;> simp
@[simp] theorem reply_wf (op : Nat) (b : Sub) (st : Half) (res : Dword) (w : List (Nat × Dword × List Byte)) (s : State) (hw : MemsWf (held s).mems) :
    MemsWf (held (reply op b st res w s)).mems := by
  unfold reply
  split <;> simp [hw]

/-! ### Machine/PoolCmds -/

@[simp] theorem poolAllocBody_held (sub : Sub) (count : Half) (channel flags : Byte) (s : State) :
    held (poolAllocBody sub count channel flags s) = held s := by
  unfold poolAllocBody
  (repeat' split) <;> simp
@[simp] theorem execZeroingDone_wf (handle : Half) (s : State) (hw : MemsWf (held s).mems) :
    MemsWf (heldNext s (execZeroingDone handle s)).mems := by
  unfold execZeroingDone
  (repeat' split) <;> simp [hw]
@[simp] theorem poolFreeBody_held (sub : Sub) (handle : Half) (s : State) :
    held (poolFreeBody sub handle s) = held s := by
  unfold poolFreeBody
  split <;> simp
@[simp] theorem poolQueryBody_shown (sub : Sub) (handle : Half) (dest : Dword) (s : State) :
    (held (poolQueryBody sub handle dest s)).shown = (held s).shown := by
  unfold poolQueryBody
  (repeat' split) <;> simp
@[simp] theorem poolQueryBody_wf (sub : Sub) (handle : Half) (dest : Dword) (s : State) (hw : MemsWf (held s).mems) :
    MemsWf (held (poolQueryBody sub handle dest s)).mems := by
  unfold poolQueryBody
  (repeat' split) <;> simp [hw]
@[simp] theorem moveBody_held (op : Nat) (kind : MoveKind) (sub : Sub) (handle : Half) (offset : Word) (host : Dword) (length : Word) (ok : Bool) (s : State) :
    held (moveBody op kind sub handle offset host length ok s) = held s := by
  unfold moveBody
  split <;> simp
@[simp] theorem moveWrite_wf (h : Handle) (off : Nat) (bs : List Byte) (s : State) (hw : MemsWf (held s).mems) :
    MemsWf (held (moveWrite h off bs s).2).mems := by
  unfold moveWrite
  split <;> simp [hw]
@[simp] theorem moveRun_wf (m : Move) (h : Handle) (host : HostRead) (s : State) (hw : MemsWf (held s).mems) :
    MemsWf (held (moveRun m h host s).2).mems := by
  unfold moveRun
  dsimp only
  (repeat' split) <;> simp [hw]
@[simp] theorem readDrop_held (b : Sub) (s : State) :
    held (readDrop b s) = held s := by
  simp [readDrop]
@[simp] theorem serveRefuse_held (f : Forward) (s : State) :
    held (serveRefuse f s) = held s := by
  simp [serveRefuse]
@[simp] theorem execDataMoveDone_wf (id : Nat) (host : HostRead) (ue ce : List Nat) (s : State)
    (hw : MemsWf (held s).mems) : MemsWf (heldNext s (execDataMoveDone id host ue ce s)).mems := by
  unfold execDataMoveDone
  rw [heldNext_next]
  split
  · exact hw
  · rename_i m _
    split
    · exact hw
    · split
      · exact hw
      · dsimp only
        generalize hs : noteCe ce (noteUe ue ((if m.kind = .copyIn then readDrop m.sub s else s).mapPool fun p =>
          { p with moves := p.moves.filter fun x => x.id != id })) = t
        have ht : MemsWf (held t).mems := by
          rw [← hs]
          simpa [held_ite] using hw
        split
        · split
          · simpa
          · split
            · simpa
            · exact serveOpen_wf _ _ _ _ (by simpa)
        · split
          · simpa
          · exact reply_wf _ _ _ _ _ _ (by simpa using moveRun_wf _ _ _ _ ht)
@[simp] theorem apertureRefused_held (s : State) :
    held (apertureRefused s) = held s := by
  simp [apertureRefused]
@[simp] theorem undecoded_held (posted : Bool) (s : State) :
    held (undecoded posted s) = held s := by
  simp [undecoded]
@[simp] theorem execBar4Read_held (offset : BitVec 27) (length : Nat) (ue ce : List Nat) (s : State) :
    heldNext s (execBar4Read offset length ue ce s) = held s := by
  simp [execBar4Read]
@[simp] theorem unitWrite_wf (a : Nat) (bytes : List (Option Byte)) (u : Nat) (s : State) (hw : MemsWf (held s).mems) :
    MemsWf (held (unitWrite a bytes u s)).mems := by
  simp [unitWrite, hw]
@[simp] theorem execBar4Write_wf (offset : BitVec 27) (bytes : List (Option Byte)) (ue ce : List Nat) (s : State)
    (hw : MemsWf (held s).mems) : MemsWf (heldNext s (execBar4Write offset bytes ue ce s)).mems := by
  unfold execBar4Write
  rw [heldNext_next]
  split
  · simpa
  · split
    · simpa
    · have hfold := wf_foldl (fun s u => unitWrite offset.toNat bytes u s) (unitsOf offset.toNat bytes.length)
      dsimp only
      split <;> simp [hfold _ (fun t u h => unitWrite_wf _ _ _ t h), hw]
@[simp] theorem execScrubRead_held (r : ScrubResult) (s : State) :
    heldNext s (execScrubRead r s) = held s := by
  unfold execScrubRead
  dsimp only
  (repeat' split) <;> simp

/-! ### Machine/SetCmds -/

@[simp] theorem cfgTouch_held (sh lo : Bool) (s : State) :
    held (cfgTouch sh lo s) = held s := by
  simp [cfgTouch]
@[simp] theorem touchChanges_held (l : List Change) (s : State) :
    held (touchChanges l s) = held s := by
  simp [touchChanges]
@[simp] theorem timingBody_held (sub : Sub) (o : TimingOps) (s : State) :
    held (timingBody sub o s) = held s := by
  simp [timingBody]
@[simp] theorem syncBody_held (sub : Sub) (o : SyncOps) (s : State) :
    held (syncBody sub o s) = held s := by
  simp [syncBody]
@[simp] theorem pwmBody_held (sub : Sub) (o : PwmOps) (s : State) :
    held (pwmBody sub o s) = held s := by
  simp [pwmBody]
@[simp] theorem curbBody_held (sub : Sub) (o : CurbOps) (s : State) :
    held (curbBody sub o s) = held s := by
  simp [curbBody]
@[simp] theorem derateBody_held (sub : Sub) (o : DerateOps) (s : State) :
    held (derateBody sub o s) = held s := by
  simp [derateBody]
@[simp] theorem hallmarkSelectBody_held (sub : Sub) (mask add : Half) (frame : Word) (s : State) :
    held (hallmarkSelectBody sub mask add frame s) = held s := by
  simp [hallmarkSelectBody]
@[simp] theorem hbTimeoutApply_held (ms : Nat) (s : State) :
    held (hbTimeoutApply ms s) = held s := by
  simp [hbTimeoutApply]
@[simp] theorem fallbackSetBody_held (sub : Sub) (o : FallbackOps) (s : State) :
    held (fallbackSetBody sub o s) = held s := by
  simp [fallbackSetBody]

/-! ### Machine/TeamOps -/

@[simp] theorem memberEvent_held (id : BitVec 10) (change dist : Nat) (state quality : Byte) (path : Dword) (s : State) :
    held (memberEvent id change dist state quality path s) = held s := by
  simp [memberEvent]
@[simp] theorem selfEvent_held (change : Nat) (s : State) :
    held (selfEvent change s) = held s := by
  simp [selfEvent]
@[simp] theorem leadEvent_held (new prev : Option (BitVec 10)) (term frame : Word) (reason : Nat) (s : State) :
    held (leadEvent new prev term frame reason s) = held s := by
  simp [leadEvent]
@[simp] theorem timeStepBy_held (d : Int) (cause : Nat) (s : State) :
    held (timeStepBy d cause s) = held s := by
  simp [timeStepBy]
@[simp] theorem memberUpdate_held (s : State) :
    held (memberUpdate s) = held s := by
  simp [memberUpdate]
@[simp] theorem mapLane_held (n : Nat) (f : Lane → Lane) (s : State) :
    held (mapLane n f s) = held s := by
  simp [mapLane]
@[simp] theorem laneQuiet_held (n : Nat) (s : State) :
    held (laneQuiet n s) = held s := by
  simp [laneQuiet]
@[simp] theorem traceFault_held (p : Fin 4) (reason : Nat) (s : State) :
    held (traceFault p reason s) = held s := by
  simp [traceFault]
@[simp] theorem portBegin_held (p : Fin 4) (s : State) :
    held (portBegin p s) = held s := by
  simp [portBegin]
@[simp] theorem portStart_held (p : Fin 4) (s : State) :
    held (portStart p s) = held s := by
  simp [portStart]
@[simp] theorem helloOut_held (p : Fin 4) (s : State) :
    held (helloOut p s) = held s := by
  simp [helloOut]
@[simp] theorem helloAll_held (s : State) :
    held (helloAll s) = held s := by
  simp [helloAll]
@[simp] theorem treeSet_held (parent : Option (Fin 4)) (dist : Nat) (s : State) :
    held (treeSet parent dist s) = held s := by
  simp [treeSet]
@[simp] theorem treeLose_held (s : State) :
    held (treeLose s) = held s := by
  simp [treeLose]
@[simp] theorem treeUpdate_held (s : State) :
    held (treeUpdate s) = held s := by
  unfold treeUpdate
  (repeat' split) <;> simp
@[simp] theorem unblock_held (s : State) :
    held (unblock s) = held s := by
  simp [unblock]
@[simp] theorem portDownOp_held (p : Fin 4) (reason : Nat) (s : State) :
    held (portDownOp p reason s) = held s := by
  simp [portDownOp]
@[simp] theorem portsSync_held (s : State) :
    held (portsSync s) = held s := by
  simp [portsSync]
@[simp] theorem followLead_held (id : BitVec 10) (term : Word) (frame : Option Word) (reason : Nat) (s : State) :
    held (followLead id term frame reason s) = held s := by
  unfold followLead
  split <;> simp
@[simp] theorem leadHeard_held (id : BitVec 10) (term : Word) (frame : Option Word) (s : State) :
    held (leadHeard id term frame s) = held s := by
  simp [leadHeard]
@[simp] theorem roleChange_held (r : Role) (s : State) :
    held (roleChange r s) = held s := by
  unfold roleChange
  split <;> simp
@[simp] theorem missTick_held (s : State) :
    held (missTick s) = held s := by
  simp [missTick]
@[simp] theorem takeOver_held (s : State) :
    held (takeOver s) = held s := by
  simp [takeOver]
@[simp] theorem announceHandback_held (s : State) :
    held (announceHandback s) = held s := by
  unfold announceHandback
  (repeat' split) <;> simp
@[simp] theorem settleSend_held (s : State) :
    held (settleSend s) = held s := by
  simp [settleSend]
@[simp] theorem stateTick_held (s : State) :
    held (stateTick s) = held s := by
  simp [stateTick]
@[simp] theorem stateEnd_held (s : State) :
    held (stateEnd s) = held s := by
  simp [stateEnd]

/-! ### Machine/Apply -/

@[simp] theorem mergeAll_held (s : State) (g : Nat) (values : List (Nat × Word)) :
    held (mergeAll s g values) = held s := by
  simp [mergeAll]
@[simp] theorem ringEnable_held (n : Nat) (s : State) :
    held (ringEnable n s) = held s := by
  simp [ringEnable]
@[simp] theorem ringDisable_held (n : Nat) (s : State) :
    held (ringDisable n s) = held s := by
  simp [ringDisable]
@[simp] theorem ringsSync_held (s : State) :
    held (ringsSync s) = held s := by
  simp [ringsSync]
@[simp] theorem intRecheck_held (before : State) (s : State) :
    held (intRecheck before s) = held s := by
  simp [intRecheck]
@[simp] theorem groupRefuse_held (g : Nat) (s : State) :
    held (groupRefuse g s) = held s := by
  simp [groupRefuse]
@[simp] theorem applySet_held (g : Nat) (values : List (Nat × Word)) (s : State) :
    held (applySet g values s) = held s := by
  simp [applySet]
@[simp] theorem dueAtTime_held (s : State) :
    held (dueAtTime s) = held s := by
  simp [dueAtTime]
@[simp] theorem timeJump_held (d : Int) (cause : Nat) (s : State) :
    held (timeJump d cause s) = held s := by
  simp [timeJump]
@[simp] theorem powerEvent_held (new prev abort abandoned : Nat) (s : State) :
    held (powerEvent new prev abort abandoned s) = held s := by
  simp [powerEvent]
@[simp] theorem modeMove_held (idle : Bool) (s : State) :
    held (modeMove idle s) = held s := by
  unfold modeMove
  split <;> simp
@[simp] theorem canRestart_held (before : State) (s : State) :
    held (canRestart before s) = held s := by
  simp [canRestart]
@[simp] theorem changeEffect_held (before : State) (c : Change) (s : State) :
    held (changeEffect before c s) = held s := by
  unfold changeEffect
  split <;> simp
@[simp] theorem applyChange_held (c : Change) (s : State) :
    held (applyChange c s) = held s := by
  simp [applyChange]
@[simp] theorem applyChanges_held (l : List Change) (s : State) :
    held (applyChanges l s) = held s := by
  simp [applyChanges]
@[simp] theorem applyTick_held (f : Word) (swap : Bool) (s : State) : held (applyTick f swap s) = held s := by
  unfold applyTick
  rw [held_foldl]
  · simp
  · rintro t (a | c) <;> simp

/-! ### Machine/LaneOps -/

@[simp] theorem lanesSettle_held (s : State) :
    held (lanesSettle s) = held s := by
  simp [lanesSettle]
@[simp] theorem tapsPut_held (n : Nat) (t : Nat × Nat × Nat) (s : State) :
    held (tapsPut n t s) = held s := by
  simp [tapsPut]
@[simp] theorem eqRequest_held (n : Nat) (t : Nat × Nat × Nat) (s : State) :
    held (eqRequest n t s) = held s := by
  simp [eqRequest]
@[simp] theorem laneTrain_held (speed n : Nat) (s : State) :
    held (laneTrain speed n s) = held s := by
  simp [laneTrain]
@[simp] theorem laneCount_held (n : Nat) (s : State) :
    held (laneCount n s) = held s := by
  unfold laneCount
  dsimp only
  split <;> simp
@[simp] theorem laneRx_held (n : Nat) (s : State) :
    held (laneRx n s) = held s := by
  unfold laneRx
  split <;> simp
@[simp] theorem laneTestStop_held (n : Nat) (s : State) :
    held (laneTestStop n s) = held s := by
  unfold laneTestStop
  dsimp only
  (repeat' split) <;> simp
@[simp] theorem laneTestsStop_held (s : State) :
    held (laneTestsStop s) = held s := by
  simp [laneTestsStop]

/-! ### Machine/PowerOps -/

@[simp] theorem pendPut_held (st : Byte) (sub : Sub) (s : State) :
    held (pendPut st sub s) = held s := by
  unfold pendPut
  split <;> simp
@[simp] theorem entryBegin_held (standby : Bool) (sub : Sub) (s : State) :
    held (entryBegin standby sub s) = held s := by
  simp [entryBegin]
@[simp] theorem powerRequest_held (sub : Sub) (st : Byte) (s : State) :
    held (powerRequest sub st s) = held s := by
  simp [powerRequest]
@[simp] theorem powerBody_held (sub : Sub) (st : Byte) (s : State) :
    held (powerBody sub st s) = held s := by
  simp [powerBody]
@[simp] theorem pendStart_held (s : State) :
    held (pendStart s) = held s := by
  unfold pendStart
  split <;> simp
@[simp] theorem wakeEvent_held (time : Dword) (cause lane : Nat) (abandoned : Bool) (ms : Nat) (s : State) :
    held (wakeEvent time cause lane abandoned ms s) = held s := by
  simp [wakeEvent]
@[simp] theorem wakeRecord_held (cause lane : Nat) (standby : Bool) (s : State) :
    held (wakeRecord cause lane standby s) = held s := by
  simp [wakeRecord]
@[simp] theorem entryUndo_held (a : Nat) (prev : Mode) (s : State) :
    held (entryUndo a prev s) = held s := by
  simp [entryUndo]
@[simp] theorem entryAbandon_held (cause lane : Nat) (e : PowerEntry) (s : State) :
    held (entryAbandon cause lane e s) = held s := by
  unfold entryAbandon
  dsimp only
  split <;> simp
@[simp] theorem wakeQualify_held (cause lane : Nat) (s : State) :
    held (wakeQualify cause lane s) = held s := by
  unfold wakeQualify
  (repeat' split) <;> simp

/-! ### Machine/Bell -/

@[simp] theorem msixRelease_held (s : State) :
    held (msixRelease s) = held s := by
  simp [msixRelease]
@[simp] theorem msixWrite_held (o : Nat) (v : Word) (s : State) :
    held (msixWrite o v s) = held s := by
  simp [msixWrite]
@[simp] theorem sqAccept_held (n : Nat) (i : BitVec 13) (s : State) :
    held (sqAccept n i s) = held s := by
  simp [sqAccept]
@[simp] theorem cqAccept_held (n : Nat) (i : BitVec 13) (s : State) :
    held (cqAccept n i s) = held s := by
  simp [cqAccept]
@[simp] theorem eqAccept_held (i : BitVec 13) (s : State) :
    held (eqAccept i s) = held s := by
  simp [eqAccept]
@[simp] theorem sqBell_held (n : Nat) (v : Word) (s : State) :
    held (sqBell n v s) = held s := by
  simp [sqBell]
@[simp] theorem cqBell_held (n : Nat) (v : Word) (s : State) :
    held (cqBell n v s) = held s := by
  simp [cqBell]
@[simp] theorem eqBell_held (v : Word) (s : State) :
    held (eqBell v s) = held s := by
  simp [eqBell]
@[simp] theorem bellsLate_held (s : State) : held (bellsLate s) = held s := by
  unfold bellsLate
  dsimp only
  split
  · simp only [eqAccept_held, held_mapRng]
    refine held_foldl _ _ _ fun t n => ?_
    split <;> split <;> simp
  · refine held_foldl _ _ _ fun t n => ?_
    split <;> split <;> simp
@[simp] theorem bar2Write_held (o : Nat) (v : Word) (s : State) :
    held (bar2Write o v s) = held s := by
  simp [bar2Write]
@[simp] theorem bar2Op_held (f : State → State) (s : State) (hf : ∀ t, held (f t) = held t) :
    heldNext s (bar2Op f s) = held s := by
  simp [bar2Op, held_ite, hf]
@[simp] theorem execSqTailDoorbell_held (ring : Fin 16) (value : Word) (s : State) :
    heldNext s (execSqTailDoorbell ring value s) = held s := by
  simp [execSqTailDoorbell]
@[simp] theorem execCqHeadDoorbell_held (ring : Fin 16) (value : Word) (s : State) :
    heldNext s (execCqHeadDoorbell ring value s) = held s := by
  simp [execCqHeadDoorbell]
@[simp] theorem execEqHeadDoorbell_held (value : Word) (s : State) :
    heldNext s (execEqHeadDoorbell value s) = held s := by
  simp [execEqHeadDoorbell]
@[simp] theorem execMsixTableWrite_held (offset : Half) (value : Word) (s : State) :
    heldNext s (execMsixTableWrite offset value s) = held s := by
  simp [execMsixTableWrite]

/-! ### Machine/Drive -/

/-! ### Machine/Scenes -/

@[simp] theorem surfaceDefineBody_held (sub : Sub) (id : Half) (d : SurfDesc) (s : State) :
    held (surfaceDefineBody sub id d s) = held s := by
  unfold surfaceDefineBody
  (repeat' split) <;> simp
@[simp] theorem surfaceRetireBody_held (sub : Sub) (id : Half) (s : State) :
    held (surfaceRetireBody sub id s) = held s := by
  simp [surfaceRetireBody]
@[simp] theorem copied_held (handle : Half) (off n : Nat) (s : State) :
    held (copied handle off n s) = held s := by
  unfold copied
  split <;> simp
@[simp] theorem mapWork_held (f : Scene → Scene) (s : State) :
    held (mapWork f s) = held s := by
  simp [mapWork]
@[simp] theorem setLayer_held (layer : Nat) (c : LayerCfg) (shapes : Option (List Shape)) (s : State) :
    held (setLayer layer c shapes s) = held s := by
  simp [setLayer]
@[simp] theorem layerParams_held (sub : Sub) (layer : Nat) (o : LayerOps) (s : State) :
    held (layerParams sub layer o s) = held s := by
  unfold layerParams
  (repeat' split) <;> simp
@[simp] theorem layerCoefs_held (sub : Sub) (set : Byte) (handle : Half) (offset : Word) (s : State) :
    held (layerCoefs sub set handle offset s) = held s := by
  unfold layerCoefs
  (repeat' split) <;> simp
@[simp] theorem layerOrder_held (sub : Sub) (mode : Byte) (idx : List Byte) (s : State) :
    held (layerOrder sub mode idx s) = held s := by
  simp [layerOrder]
@[simp] theorem layerSetBody_held (sub : Sub) (f : LayerForm) (s : State) :
    held (layerSetBody sub f s) = held s := by
  unfold layerSetBody
  split <;> simp
@[simp] theorem postBody_held (op : Nat) (sub : Sub) (layer : Nat) (named ok : Bool) (fence : FenceOps) (mk : Option Fence → Post) (s : State) :
    held (postBody op sub layer named ok fence mk s) = held s := by
  unfold postBody
  (repeat' split) <;> simp
@[simp] theorem captureSetBody_held (sub : Sub) (surface : Half) (tap mode : Byte) (s : State) :
    held (captureSetBody sub surface tap mode s) = held s := by
  unfold captureSetBody
  (repeat' split) <;> simp
@[simp] theorem sceneCommitBody_held (sub : Sub) (frame : Word) (s : State) :
    held (sceneCommitBody sub frame s) = held s := by
  unfold sceneCommitBody
  dsimp only
  (repeat' split) <;> simp
@[simp] theorem sceneQueryBody_shown (sub : Sub) (which : Byte) (dest : Dword) (s : State) :
    (held (sceneQueryBody sub which dest s)).shown = (held s).shown := by
  unfold sceneQueryBody
  dsimp only
  (repeat' split) <;> simp
@[simp] theorem sceneQueryBody_wf (sub : Sub) (which : Byte) (dest : Dword) (s : State) (hw : MemsWf (held s).mems) :
    MemsWf (held (sceneQueryBody sub which dest s)).mems := by
  unfold sceneQueryBody
  dsimp only
  (repeat' split) <;> simp [hw]

/-! ### Machine/Frame -/

@[simp] theorem frameEvent_held (bit code : Nat) (data : List Byte) (s : State) :
    held (frameEvent bit code data s) = held s := by
  simp [frameEvent]
@[simp] theorem firmMeet_held (q : List Raise × State) :
    held (firmMeet q).2 = held q.2 := by
  simp [firmMeet]
@[simp] theorem mapFresh_held (s : State) :
    held (mapFresh s) = held s := by
  simp [mapFresh]
@[simp] theorem commitDue_held (s : State) :
    held (commitDue s) = held s := by
  simp [commitDue]
@[simp] theorem lateEvent_held (frame seq : Word) (i n : Nat) (v : LayerVerdict) (q : List Raise × State) :
    held (lateEvent frame seq i n v q).2 = held q.2 := by
  simp [lateEvent]
@[simp] theorem decideFallback_held (s : State) :
    held (decideFallback s) = held s := by
  simp [decideFallback]
@[simp] theorem decideComposed_held (s : State) : held (decideComposed s).2 = held s := by
  unfold decideComposed
  dsimp only
  rw [held_foldl_snd]
  · simp
  · simp
@[simp] theorem cutoffEvent_held (lead : Nat) (s : State) :
    held (cutoffEvent lead s) = held s := by
  simp [cutoffEvent]
@[simp] theorem execCutoff_held (ue : List Nat) (s : State) :
    heldNext s (execCutoff ue s) = held s := by
  simp [execCutoff]
@[simp] theorem execCompositionStart_held (s : State) :
    heldNext s (execCompositionStart s) = held s := by
  simp [execCompositionStart]
@[simp] theorem lineFetch_held (i : Nat) (l : LayerCfg) (u : LayerUse) (y : Nat) (s : State) :
    held (lineFetch i l u y s) = held s := by
  unfold lineFetch
  split <;> simp
@[simp] theorem rowStore_held (c : CompSet) (y : Nat) (px : List PixOut) (s : State) :
    held (rowStore c y px s) = held s := by
  simp [rowStore]
@[simp] theorem bar_held (w : BarWhy) (s : State) :
    held (bar w s) = held s := by
  simp [bar]
@[simp] theorem layerError_held (frame : Word) (i : Nat) (us : List Nat) (q : List Raise × State) :
    held (layerError frame i us q).2 = held q.2 := by
  unfold layerError
  dsimp only
  rw [held_foldl_snd _ _ _ fun t a => frameMem_held ..]
  dsimp only
  split <;> simp [held_ite]
@[simp] theorem ctfNote_held (i : Nat) (bad : List (Nat × Nat)) (s : State) :
    held (ctfNote i bad s) = held s := by
  simp [ctfNote]
@[simp] theorem layerFetch_held (frame : Word) (d : Decision) (y : Nat) (i : Nat) (l : LayerCfg) (q : List Raise × State) :
    held (layerFetch frame d y i l q).2 = held q.2 := by
  simp [layerFetch]
@[simp] theorem rowFetch_held (frame : Word) (d : Decision) (y : Nat) (q : List Raise × State) :
    held (rowFetch frame d y q).2 = held q.2 := by
  unfold rowFetch
  split
  · rfl
  · refine held_foldl_snd _ _ _ fun t a => ?_
    split <;> simp
@[simp] theorem mapErrors_held (frame : Word) (y : Nat) (q : List Raise × State) :
    held (mapErrors frame y q).2 = held q.2 := by
  simp [mapErrors]
@[simp] theorem fallbackRow_held (d : Decision) (y : Nat) (b : Bool) (s : State) :
    held (fallbackRow d y b s).2.2 = held s := by
  unfold fallbackRow
  dsimp only
  split
  · rfl
  · split <;> simp
@[simp] theorem captureRow_wf (d : Decision) (y : Nat) (blend codes : List Nat) (s : State) (hw : MemsWf (held s).mems) :
    MemsWf (held (captureRow d y blend codes s)).mems := by
  unfold captureRow
  dsimp only
  (repeat' split) <;> simp [hw]
@[simp] theorem cutoffNote_held (c : CompSet) (d : Decision) (y : Nat) (codes : List Nat) (o : RowObs) (kinds : List Nat) (s : State) :
    held (cutoffNote c d y codes o kinds s) = held s := by
  simp [cutoffNote]
@[simp] theorem rowChecks_held (c : CompSet) (d : Decision) (y r : Nat) (codes out : List Nat) (o : RowObs) (s : State) :
    held (rowChecks c d y r codes out o s).2 = held s := by
  simp [rowChecks]
@[simp] theorem rowStep_wf (c : CompSet) (d : Decision) (o : RowObs) (s : State) (hw : MemsWf (held s).mems) :
    MemsWf (held (rowStep c d o s)).mems := by
  unfold rowStep
  (repeat' split) <;> simp [hw]
@[simp] theorem execRowWrite_wf (o : RowObs) (s : State) (hw : MemsWf (held s).mems) :
    MemsWf (heldNext s (execRowWrite o s)).mems := by
  unfold execRowWrite
  split <;> simp [hw]
@[simp] theorem vledEarly_held (c : CompSet) (s : State) :
    held (vledEarly c s) = held s := by
  simp [vledEarly]
@[simp] theorem composeDoneOp_held (c : CompSet) (s : State) :
    held (composeDoneOp c s) = held s := by
  simp [composeDoneOp]
@[simp] theorem execComposeDone_held (s : State) :
    heldNext s (execComposeDone s) = held s := by
  unfold execComposeDone
  split <;> simp
@[simp] theorem fixFrame_held (c : CompSet) (s : State) :
    held (fixFrame c s) = held s := by
  simp [fixFrame]
@[simp] theorem underrun_held (s : State) :
    held (underrun s) = held s := by
  simp [underrun]
@[simp] theorem divisionResidue_held (c : CompSet) (s : State) :
    held (divisionResidue c s) = held s := by
  simp [divisionResidue]
@[simp] theorem doneFirst_held (s : State) :
    held (doneFirst s) = held s := by
  unfold doneFirst
  split <;> simp
@[simp] theorem guardOp_held (divisionBad : Bool) (s : State) :
    held (guardOp divisionBad s) = held s := by
  unfold guardOp
  dsimp only
  (repeat' split) <;> simp
@[simp] theorem execGuardStart_held (divisionResidueBad : Bool) (s : State) :
    heldNext s (execGuardStart divisionResidueBad s) = held s := by
  simp [execGuardStart]
@[simp] theorem execAScanRow_held (row : Fin 512) (readBack : Option Word) (s : State) :
    heldNext s (execAScanRow row readBack s) = held s := by
  unfold execAScanRow
  split <;> simp

/-! ### Machine/SecOps -/

@[simp] theorem settingsPut_held (f : Settings → Settings) (s : State) :
    held (settingsPut f s) = held s := by
  simp [settingsPut]
@[simp] theorem touchmarkBy_held (operator : Half) (item : Nat) (oldCrc newCrc : Word) (s : State) :
    held (touchmarkBy operator item oldCrc newCrc s) = held s := by
  simp [touchmarkBy]
@[simp] theorem touchmark_held (item : Nat) (oldCrc newCrc : Word) (s : State) :
    held (touchmark item oldCrc newCrc s) = held s := by
  simp [touchmark]
@[simp] theorem flashStart_held (sub : Sub) (kind : Nat) (act : AfterFlash) (s : State) :
    held (flashStart sub kind act s) = held s := by
  simp [flashStart]
@[simp] theorem flashOwn_held (kind : Nat) (act : AfterFlash) (s : State) :
    held (flashOwn kind act s) = held s := by
  simp [flashOwn]
@[simp] theorem markStart_held (j : FlashJob) (m : MarkWrite) (s : State) :
    held (markStart j m s) = held s := by
  simp [markStart]
@[simp] theorem flashFinish_held (j : FlashJob) (status : Half) (result : Dword) (s : State) :
    held (flashFinish j status result s) = held s := by
  unfold flashFinish
  split <;> simp
@[simp] theorem sessionOpen_held (sub : Sub) (operator : Half) (s : State) :
    held (sessionOpen sub operator s) = held s := by
  simp [sessionOpen]
@[simp] theorem sessionEnd_held (s : State) :
    held (sessionEnd s) = held s := by
  simp [sessionEnd]
@[simp] theorem authFailure_held (s : State) :
    held (authFailure s) = held s := by
  simp [authFailure]

/-! ### Machine/SecCmds -/

@[simp] theorem loginOpen_held (sub : Sub) (operator : Half) (s : State) :
    held (loginOpen sub operator s) = held s := by
  simp [loginOpen]
@[simp] theorem loginCompare_held (sub : Sub) (operator : Half) (pw : List Byte) (s : State) :
    held (loginCompare sub operator pw s) = held s := by
  simp [loginCompare]
@[simp] theorem loginPassword_held (sub : Sub) (o : LoginOps) (s : State) :
    held (loginPassword sub o s) = held s := by
  simp [loginPassword]
@[simp] theorem challengeOut_shown (sub : Sub) (host : Dword) (s : State) :
    (held (challengeOut sub host s)).shown = (held s).shown := by
  simp [challengeOut]
@[simp] theorem challengeOut_wf (sub : Sub) (host : Dword) (s : State) (hw : MemsWf (held s).mems) :
    MemsWf (held (challengeOut sub host s)).mems := by
  simp [challengeOut, hw]
@[simp] theorem loginChallenge_shown (sub : Sub) (host : Dword) (s : State) :
    (held (loginChallenge sub host s)).shown = (held s).shown := by
  simp [loginChallenge]
@[simp] theorem loginChallenge_wf (sub : Sub) (host : Dword) (s : State) (hw : MemsWf (held s).mems) :
    MemsWf (held (loginChallenge sub host s)).mems := by
  simp [loginChallenge, hw]
@[simp] theorem loginResponse_held (sub : Sub) (operator : Half) (challenge : Option (List Byte)) (host : Dword) (data : HostRead) (s : State) :
    held (loginResponse sub operator challenge host data s) = held s := by
  unfold loginResponse
  split <;> simp
@[simp] theorem loginBody_shown (sub : Sub) (o : LoginOps) (d : HostRead) (s : State) :
    (held (loginBody sub o d s)).shown = (held s).shown := by
  unfold loginBody
  dsimp only
  split_ifs <;> simp
@[simp] theorem loginBody_wf (sub : Sub) (o : LoginOps) (d : HostRead) (s : State) (hw : MemsWf (held s).mems) :
    MemsWf (held (loginBody sub o d s)).mems := by
  unfold loginBody
  dsimp only
  split
  · simpa
  · split
    · simpa
    · split
      · exact loginChallenge_wf _ _ _ (by simpa)
      · simpa
@[simp] theorem execSessionTimeout_held (s : State) :
    heldNext s (execSessionTimeout s) = held s := by
  simp [execSessionTimeout]
@[simp] theorem execLockoutExpiry_held (s : State) :
    heldNext s (execLockoutExpiry s) = held s := by
  simp [execLockoutExpiry]
@[simp] theorem passwordSalt_held (sub : Sub) (operator : Half) (pw : List Byte) (s : State) :
    held (passwordSalt sub operator pw s) = held s := by
  simp [passwordSalt]
@[simp] theorem passwordNew_held (sub : Sub) (operator : Half) (pw : List Byte) (s : State) :
    held (passwordNew sub operator pw s) = held s := by
  simp [passwordNew]
@[simp] theorem passwordCheck_held (sub : Sub) (oldLen newLen : Byte) (operator : Half) (block : List Byte) (s : State) :
    held (passwordCheck sub oldLen newLen operator block s) = held s := by
  simp [passwordCheck]
@[simp] theorem passwordBody_held (sub : Sub) (oldLen newLen : Byte) (operator : Half) (host : Dword) (data : HostRead) (s : State) :
    held (passwordBody sub oldLen newLen operator host data s) = held s := by
  unfold passwordBody
  (repeat' split) <;> simp
@[simp] theorem protectedBody_held (sub : Sub) (item : Half) (value : Word) (s : State) :
    held (protectedBody sub item value s) = held s := by
  simp [protectedBody]
@[simp] theorem protectedDone_held (j : FlashJob) (new : Word) (item : Half) (value : Word) (s : State) :
    held (protectedDone j new item value s) = held s := by
  simp [protectedDone]
@[simp] theorem cutoffStart_held (sub : Sub) (o : CutoffOps) (vs : List (Nat × Nat)) (s : State) :
    held (cutoffStart sub o vs s) = held s := by
  simp [cutoffStart]
@[simp] theorem cutoffBody_held (sub : Sub) (o : CutoffOps) (s : State) :
    held (cutoffBody sub o s) = held s := by
  unfold cutoffBody
  (repeat' split) <;> simp
@[simp] theorem cutoffDone_held (j : FlashJob) (new : Word) (changes : List Change) (frame : Word) (s : State) :
    held (cutoffDone j new changes frame s) = held s := by
  simp [cutoffDone]
@[simp] theorem teamPairBody_held (sub : Sub) (key : BitVec 128) (s : State) :
    held (teamPairBody sub key s) = held s := by
  simp [teamPairBody]
@[simp] theorem settingsReadBody_shown (sub : Sub) (which : Byte) (offset : Word) (dest : Dword) (length : Word) (s : State) :
    (held (settingsReadBody sub which offset dest length s)).shown = (held s).shown := by
  simp [settingsReadBody]
@[simp] theorem settingsReadBody_wf (sub : Sub) (which : Byte) (offset : Word) (dest : Dword) (length : Word) (s : State) (hw : MemsWf (held s).mems) :
    MemsWf (held (settingsReadBody sub which offset dest length s)).mems := by
  simp [settingsReadBody, hw]
@[simp] theorem settingsWriteBody_held (sub : Sub) (field : Half) (length : Byte) (value : List Byte) (s : State) :
    held (settingsWriteBody sub field length value s) = held s := by
  unfold settingsWriteBody
  dsimp only
  (repeat' split) <;> simp
@[simp] theorem cfgCommitBody_held (sub : Sub) (s : State) :
    held (cfgCommitBody sub s) = held s := by
  simp [cfgCommitBody]
@[simp] theorem cfgCommitDone_held (j : FlashJob) (new : Word) (s : State) :
    held (cfgCommitDone j new s) = held s := by
  simp [cfgCommitDone]
@[simp] theorem recordPut_held (act : AfterFlash) (s : State) :
    held (recordPut act s) = held s := by
  simp [recordPut]
@[simp] theorem recordWritten_held (j : FlashJob) (s : State) :
    held (recordWritten j s) = held s := by
  simp [recordWritten]
@[simp] theorem jobSession_held (j : FlashJob) (operator : Half) (s : State) :
    held (jobSession j operator s) = held s := by
  unfold jobSession
  split <;> simp
@[simp] theorem loginDone_held (j : FlashJob) (ok : Bool) (operator : Half) (s : State) :
    held (loginDone j ok operator s) = held s := by
  simp [loginDone]
@[simp] theorem recoveryDone_held (j : FlashJob) (operator : Half) (s : State) :
    held (recoveryDone j operator s) = held s := by
  simp [recoveryDone]
@[simp] theorem pwFailDone_held (j : FlashJob) (s : State) :
    held (pwFailDone j s) = held s := by
  simp [pwFailDone]
@[simp] theorem logReadBody_shown (sub : Sub) (log : Byte) (first : Word) (dest : Dword) (count : Word) (s : State) :
    (held (logReadBody sub log first dest count s)).shown = (held s).shown := by
  simp [logReadBody]
@[simp] theorem logReadBody_wf (sub : Sub) (log : Byte) (first : Word) (dest : Dword) (count : Word) (s : State) (hw : MemsWf (held s).mems) :
    MemsWf (held (logReadBody sub log first dest count s)).mems := by
  simp [logReadBody, hw]
@[simp] theorem logArchiveBody_held (sub : Sub) (upTo : Word) (s : State) :
    held (logArchiveBody sub upTo s) = held s := by
  simp [logArchiveBody]
@[simp] theorem archiveDone_held (j : FlashJob) (upTo : Word) (s : State) :
    held (archiveDone j upTo s) = held s := by
  simp [archiveDone]
@[simp] theorem execTrngHealthFailure_held (s : State) :
    heldNext s (execTrngHealthFailure s) = held s := by
  simp [execTrngHealthFailure]
@[simp] theorem trngServe_wf (w : TrngWait) (s : State) (hw : MemsWf (held s).mems) :
    MemsWf (held (trngServe w s)).mems := by
  unfold trngServe
  split <;> simp [hw]
@[simp] theorem execTrngHealthRestored_wf (s : State) (hw : MemsWf (held s).mems) :
    MemsWf (heldNext s (execTrngHealthRestored s)).mems :=
  wf_foldl _ _ _ (fun t w ht => trngServe_wf w t ht) (by simpa)

/-! ### Machine/Cal -/

@[simp] theorem assayPut_held (f : Assay → Assay) (s : State) :
    held (assayPut f s) = held s := by
  simp [assayPut]
@[simp] theorem calRunBody_held (sub : Sub) (phases : Byte) (level : Half) (s : State) :
    held (calRunBody sub phases level s) = held s := by
  simp [calRunBody]
@[simp] theorem calEnd_held (r : CalRun) (st : Half) (res : Nat) (s : State) :
    held (calEnd r st res s) = held s := by
  simp [calEnd]
@[simp] theorem calFail_held (r : CalRun) (phase : Nat) (tile : Half) (st : Half) (s : State) :
    held (calFail r phase tile st s) = held s := by
  simp [calFail]
@[simp] theorem calPhases_held (r : CalRun) (m : CalMeas) (s : State) : held (calPhases r m s) = held s := by
  have h1 (t u : State) (h : (if r.phases.getLsbD 0 then phase1 m t else some t) = some u) : held u = held t := by
    split at h
    · unfold phase1 at h
      split at h <;> simp at h
      simp [← h]
    · simp at h
      rw [h]
  have h2 (t u : State) (h : (if r.phases.getLsbD 1 then phase2 m t else some t) = some u) : held u = held t := by
    split at h
    · unfold phase2 at h
      split at h <;> simp at h
      simp [← h]
    · simp at h
      rw [h]
  have h3 (t u : State) (h : (if r.phases.getLsbD 2 then phase3 m t else .inl t) = .inl u) : held u = held t := by
    split at h
    · unfold phase3 at h
      dsimp only at h
      split at h <;> simp at h
      simp [← h]
    · simp at h
      rw [h]
  unfold calPhases
  dsimp only
  split
  · simp
  · rename_i e1
    split
    · simp [h1 _ _ e1]
    · rename_i e2
      split
      · simp [h1 _ _ e1, h2 _ _ e2]
      · rename_i e3
        simp [h1 _ _ e1, h2 _ _ e2, h3 _ _ e3]
@[simp] theorem execCalRunEnd_held (m : CalMeas) (s : State) :
    heldNext s (execCalRunEnd m s) = held s := by
  unfold execCalRunEnd
  split <;> simp
@[simp] theorem calLoadMapBody_held (sub : Sub) (handle : Half) (offset : Word) (s : State) :
    held (calLoadMapBody sub handle offset s) = held s := by
  unfold calLoadMapBody
  (repeat' split) <;> simp
@[simp] theorem calStoreBody_held (sub : Sub) (s : State) :
    held (calStoreBody sub s) = held s := by
  simp [calStoreBody]
@[simp] theorem calWritten_held (j : FlashJob) (r : CalRec) (s : State) :
    held (calWritten j r s) = held s := by
  simp [calWritten]
@[simp] theorem calStoreDone_held (j : FlashJob) (r : CalRec) (s : State) :
    held (calStoreDone j r s) = held s := by
  simp [calStoreDone]
@[simp] theorem calReadBody_shown (sub : Sub) (what : Byte) (offset : Word) (dest : Dword) (length : Word) (s : State) :
    (held (calReadBody sub what offset dest length s)).shown = (held s).shown := by
  unfold calReadBody
  dsimp only
  (repeat' split) <;> simp
@[simp] theorem calReadBody_wf (sub : Sub) (what : Byte) (offset : Word) (dest : Dword) (length : Word) (s : State) (hw : MemsWf (held s).mems) :
    MemsWf (held (calReadBody sub what offset dest length s)).mems := by
  unfold calReadBody
  dsimp only
  (repeat' split) <;> simp [hw]

/-! ### Machine/Ports -/

@[simp] theorem nakSend_held (p : Fin 4) (s : State) :
    held (nakSend p s) = held s := by
  simp [nakSend]
@[simp] theorem discardOp_held (p : Fin 4) (reliable : Bool) (s : State) :
    held (discardOp p reliable s) = held s := by
  simp [discardOp]
@[simp] theorem queuePump_held (p : Fin 4) (s : State) :
    held (queuePump p s) = held s := by
  simp [queuePump]
@[simp] theorem rackTake_held (p : Fin 4) (rack : Word) (s : State) :
    held (rackTake p rack s) = held s := by
  simp [rackTake]
@[simp] theorem retransmit_held (p : Fin 4) (s : State) :
    held (retransmit p s) = held s := by
  simp [retransmit]
@[simp] theorem excludeCheck_held (s : State) :
    held (excludeCheck s) = held s := by
  simp [excludeCheck]
@[simp] theorem helloNote_held (p : Fin 4) (pl : HelloPl) (s : State) :
    held (helloNote p pl s) = held s := by
  simp [helloNote]
@[simp] theorem portVerified_held (p : Fin 4) (s : State) :
    held (portVerified p s) = held s := by
  unfold portVerified
  dsimp only
  (repeat' split) <;> simp
@[simp] theorem portRx_held (p : Fin 4) (h : FrameHdr) (r : Bool) (body : State → State) (s : State)
    (hb : ∀ t, held (body t) = held t) : held (portRx p h r body s) = held s := by
  unfold portRx
  dsimp only
  split_ifs <;> simp [held_ite, hb]
@[simp] theorem portRx_wf (p : Fin 4) (h : FrameHdr) (r : Bool) (body : State → State) (s : State)
    (hb : ∀ t, MemsWf (held t).mems → MemsWf (held (body t)).mems) (hw : MemsWf (held s).mems) :
    MemsWf (held (portRx p h r body s)).mems := by
  unfold portRx
  dsimp only
  split_ifs <;> simp [held_ite, hb, hw]
@[simp] theorem keyedRx_held (p : Fin 4) (h : FrameHdr) (r : Bool) (body : State → State) (s : State)
    (hb : ∀ t, held (body t) = held t) : held (keyedRx p h r body s) = held s := by
  simp [keyedRx, hb, held_ite]
@[simp] theorem keyedRx_wf (p : Fin 4) (h : FrameHdr) (r : Bool) (body : State → State) (s : State)
    (hb : ∀ t, MemsWf (held t).mems → MemsWf (held (body t)).mems) (hw : MemsWf (held s).mems) :
    MemsWf (held (keyedRx p h r body s)).mems := by
  unfold keyedRx
  exact portRx_wf _ _ _ body _ hb (by simpa [held_ite])
@[simp] theorem treeRx_held (p : Fin 4) (h : FrameHdr) (r : Bool) (body : State → State) (s : State)
    (hb : ∀ t, held (body t) = held t) : held (treeRx p h r body s) = held s :=
  keyedRx_held p h r _ s fun t => by simp [held_ite, hb]
@[simp] theorem treeRx_wf (p : Fin 4) (h : FrameHdr) (r : Bool) (body : State → State) (s : State)
    (hb : ∀ t, MemsWf (held t).mems → MemsWf (held (body t)).mems) (hw : MemsWf (held s).mems) :
    MemsWf (held (treeRx p h r body s)).mems :=
  keyedRx_wf p h r _ s (fun t ht => by simp [held_ite, mems_ite, wf_ite, hb, ht]) hw
@[simp] theorem execPortSignalDetect_held (p : Fin 4) (s : State) :
    heldNext s (execPortSignalDetect p s) = held s := by
  simp [execPortSignalDetect]
@[simp] theorem execHelloSend_held (p : Fin 4) (s : State) :
    heldNext s (execHelloSend p s) = held s := by
  simp [execHelloSend]
@[simp] theorem sessionStart_held (p : Fin 4) (pl : HelloPl) (s : State) :
    held (sessionStart p pl s) = held s := by
  simp [sessionStart]
@[simp] theorem execHello_held (p : Fin 4) (h : FrameHdr) (pl : HelloPl) (s : State) :
    heldNext s (execHello p h pl s) = held s := by
  unfold execHello
  (repeat' split) <;> simp
@[simp] theorem execAcknak_held (p : Fin 4) (h : FrameHdr) (s : State) :
    heldNext s (execAcknak p h s) = held s := by
  simp [execAcknak]
@[simp] theorem execAcknakTimer_held (p : Fin 4) (s : State) :
    heldNext s (execAcknakTimer p s) = held s := by
  simp [execAcknakTimer]
@[simp] theorem execRetransmitTimeout_held (p : Fin 4) (s : State) :
    heldNext s (execRetransmitTimeout p s) = held s := by
  simp [execRetransmitTimeout]
@[simp] theorem laneLost_held (p : Fin 4) (s : State) :
    held (laneLost p s) = held s := by
  simp [laneLost]
@[simp] theorem execPortDown_held (p : Fin 4) (reason : Byte) (s : State) :
    heldNext s (execPortDown p reason s) = held s := by
  unfold execPortDown
  split <;> simp
@[simp] theorem tagFail_held (p : Fin 4) (s : State) :
    held (tagFail p s) = held s := by
  simp [tagFail]
@[simp] theorem execTraceFrameDiscarded_held (p : Fin 4) (why : DiscardWhy) (reliable : Bool) (s : State) :
    heldNext s (execTraceFrameDiscarded p why reliable s) = held s := by
  simp [execTraceFrameDiscarded]

/-! ### Machine/Health -/

@[simp] theorem stuckIsolate_held (x y : Nat) (s : State) :
    held (stuckIsolate x y s) = held s := by
  simp [stuckIsolate]
@[simp] theorem findAdd_held (p : PixelFind) (slot : Bool) (s : State) :
    held (findAdd p slot s) = held s := by
  unfold findAdd
  split <;> simp
@[simp] theorem execPixelSample_held (p : PixelFind) (s : State) :
    heldNext s (execPixelSample p s) = held s := by
  simp [execPixelSample]
@[simp] theorem execProbeSlot_held (found : List PixelFind) (s : State) :
    heldNext s (execProbeSlot found s) = held s := by
  simp [execProbeSlot]
@[simp] theorem pixMeet_wf (frame : Word) (inside : Nat → Bool) (q : List Raise × State) (hw : MemsWf (held q.2).mems) :
    MemsWf (held (pixMeet frame inside q).2).mems := by
  unfold pixMeet
  dsimp only
  rw [held_foldl_snd _ _ _ fun t u => frameMem_held ..]
  exact wf_mapHlt _ _ (filter_wf _) (by simpa)
@[simp] theorem mapUeTick_wf (frame : Word) (s : State) (hw : MemsWf (held s).mems) :
    MemsWf (held (mapUeTick frame s).2).mems := by
  simp [mapUeTick, hw]
/-- Bits that leave the map leave it in order. -/
theorem clear_wf (f : Byte → Byte) (m : List Host.Cell) (h : cellsWf 0 m) :
    cellsWf 0 (m.filterMap fun c => let b := f c.2; if b = 0 then none else some (c.1, b)) := by
  constructor
  · refine List.Pairwise.filterMap _ (fun x y hxy => ?_) h.1
    dsimp only
    intro a ha b hb
    split at ha <;> simp at ha
    split at hb <;> simp at hb
    rw [← ha, ← hb]
    exact hxy
  · intro c hc
    obtain ⟨x, _, hx⟩ := List.mem_filterMap.1 hc
    dsimp only at hx
    split at hx
    · simp at hx
    · rename_i hne
      simp at hx
      rw [← hx]
      exact hne
theorem markPixels_wf (l : List PixelFind) (m : List Host.Cell) (h : cellsWf 0 m) :
    cellsWf 0 (l.foldl (fun m p => markPixel p m) m) := by
  induction l generalizing m with
  | nil => exact h
  | cons p l ih => exact ih _ (cellsPut_wf _ _ h)
@[simp] theorem mapUpdate_wf (s : State) (hw : MemsWf (held s).mems) : MemsWf (held (mapUpdate s).2).mems := by
  unfold mapUpdate
  exact wf_mapHlt _ _
    (fun h => markPixels_wf _ _ (clear_wf (fun b => b &&& ~~~s.hlt.clear.zeroExtend 8) _ h)) hw
@[simp] theorem stuckTick_held (s : State) :
    held (stuckTick s) = held s := by
  simp [stuckTick]
@[simp] theorem pixRaise_held (frame : Word) (new : PixelFault → List Nat) (s : State) :
    held (pixRaise frame new s).2 = held s := by
  simp [pixRaise]
@[simp] theorem markTick_held (i : Nat) (q : List Raise × State) :
    held (markTick i q).2 = held q.2 := by
  simp [markTick]
@[simp] theorem marksTick_held (q : List Raise × State) :
    held (marksTick q).2 = held q.2 := by
  simp [marksTick]
@[simp] theorem healthTick_wf (frame : Word) (s : State) (hw : MemsWf (held s).mems) :
    MemsWf (held (healthTick frame s).2.2).mems := by
  unfold healthTick
  split
  · simpa
  · exact mapUpdate_wf _ (mapUeTick_wf frame _ (by simpa))
@[simp] theorem healthAfter_held (frame : Word) (new : PixelFault → List Nat) (s : State) :
    held (healthAfter frame new s).2 = held s := by
  simp [healthAfter]
@[simp] theorem pixmapBody_wf (sub : Sub) (o : PixmapOps) (s : State) (hw : MemsWf (held s).mems) :
    MemsWf (held (pixmapBody sub o s)).mems := by
  simp [pixmapBody, hw]
@[simp] theorem probeDrop_held (t : Nat) (s : State) :
    held (probeDrop t s) = held s := by
  simp [probeDrop]
@[simp] theorem execTileOvercurrentTrip_held (tile : TileTrip) (s : State) :
    heldNext s (execTileOvercurrentTrip tile s) = held s := by
  unfold execTileOvercurrentTrip
  dsimp only
  (repeat' split) <;> simp
@[simp] theorem execTileReclose_held (tile : BitVec 8) (s : State) :
    heldNext s (execTileReclose tile s) = held s := by
  simp [execTileReclose]
@[simp] theorem execArrayOvercurrentTrip_held (s : State) : heldNext s (execArrayOvercurrentTrip s) = held s := by
  have hdraw (n : Nat) : held { s with free := n } = held s := rfl
  unfold execArrayOvercurrentTrip
  simp [held_ite, hdraw]
@[simp] theorem execRelightCapLift_held (s : State) :
    heldNext s (execRelightCapLift s) = held s := by
  simp [execRelightCapLift]
@[simp] theorem execRelightStep_held (s : State) :
    heldNext s (execRelightStep s) = held s := by
  unfold execRelightStep
  split <;> simp

/-! ### Machine/Tick -/

@[simp] theorem fsyncUsed_held (s : State) :
    held (fsyncUsed s) = held s := by
  simp [fsyncUsed]
@[simp] theorem nomFollow_held (s : State) :
    held (nomFollow s) = held s := by
  unfold nomFollow
  (repeat' split) <;> simp
@[simp] theorem nomLead_held (s : State) :
    held (nomLead s) = held s := by
  unfold nomLead
  dsimp only
  (repeat' split) <;> simp
@[simp] theorem ticksShift_held (d : Dword) (s : State) :
    held (ticksShift d s) = held s := by
  simp [ticksShift]
@[simp] theorem syncEntry_held (s : State) :
    held (syncEntry s) = held s := by
  unfold syncEntry
  (repeat' split) <;> simp
@[simp] theorem calTake_held (c : CompSet) (s : State) :
    held (calTake c s) = held s := by
  unfold calTake
  split <;> simp
@[simp] theorem governorTick_held (s : State) :
    held (governorTick s).2 = held s := by
  simp [governorTick]
@[simp] theorem swapOp_mems (c : CompSet) (d : Decision) (s : State) :
    (held (swapOp c d s)).mems = (held s).mems := by
  simp [swapOp]
@[simp] theorem skipOp_held (s : State) :
    held (skipOp s) = held s := by
  simp [skipOp]
@[simp] theorem isolRelease_held (s : State) :
    held (isolRelease s) = held s := by
  simp [isolRelease]
@[simp] theorem captureTick_held (frame : Word) (swap : Bool) (s0 s : State) :
    held (captureTick frame swap s0 s) = held s := by
  unfold captureTick
  split <;> simp
@[simp] theorem periodReset_held (s : State) :
    held (periodReset s) = held s := by
  simp [periodReset]
@[simp] theorem srcTick_held (s : State) :
    held (srcTick s) = held s := by
  simp [srcTick]
@[simp] theorem lenTick_held (old s : State) :
    held (lenTick old s) = held s := by
  simp [lenTick]
@[simp] theorem pwmTick_held (src : TickSource) (s : State) : held (pwmTick src s) = held s := by
  unfold pwmTick
  dsimp only
  rw [held_mapFrm]
  · simp
  · intro f
    split <;> rfl
  · intro f
    split <;> rfl
@[simp] theorem rampTick_held (bad : List (BitVec 8)) (frame : Word) (s : State) :
    held (rampTick bad frame s).2 = held s := by
  simp [rampTick]
@[simp] theorem marksAtTick_held (old : Option Shown) (s : State) :
    held (marksAtTick old s) = held s := by
  simp [marksAtTick]
@[simp] theorem safetyAtTick_held (s : State) :
    held (safetyAtTick s) = held s := by
  unfold safetyAtTick
  (repeat' split) <;> simp
@[simp] theorem calStartTick_held (c : Option CompSet) (swap : Bool) (s : State) :
    held (calStartTick c swap s) = held s := by
  unfold calStartTick
  split <;> simp
@[simp] theorem teamTick_held (s : State) :
    held (teamTick s) = held s := by
  simp [teamTick]
@[simp] theorem tickEvent_held (swap armed : Bool) (s : State) :
    held (tickEvent swap armed s) = held s := by
  simp [tickEvent]
@[simp] theorem numberTick_mems (f : Word) (s : State) :
    (held (numberTick f s)).mems = (held s).mems := by
  simp [numberTick]
@[simp] theorem tickOp_wf (rampBad : List (BitVec 8)) (s0 : State) (hw : MemsWf (held s0).mems) :
    MemsWf (held (tickOp rampBad s0)).mems := by
  unfold tickOp
  dsimp only
  (repeat' split) <;> simp [hw]
@[simp] theorem execTick_wf (rampBad : List (BitVec 8)) (s : State) (hw : MemsWf (held s).mems) :
    MemsWf (heldNext s (execTick rampBad s)).mems := by
  simp [execTick, hw]
@[simp] theorem execTickSyncEntry_held (s : State) :
    heldNext s (execTickSyncEntry s) = held s := by
  simp [execTickSyncEntry]
@[simp] theorem execLogFlush_held (s : State) :
    heldNext s (execLogFlush s) = held s := by
  simp [execLogFlush]
@[simp] theorem fsyncLoss_held (s : State) :
    held (fsyncLoss s) = held s := by
  simp [fsyncLoss]
@[simp] theorem fsyncInterval_held (t iv : Nat) (s : State) :
    held (fsyncInterval t iv s) = held s := by
  unfold fsyncInterval
  dsimp only
  split <;> simp
@[simp] theorem fsyncReference_held (s : State) :
    held (fsyncReference s) = held s := by
  unfold fsyncReference
  dsimp only
  split <;> simp
@[simp] theorem execFsyncInEdge_held (rising : Bool) (s : State) :
    heldNext s (execFsyncInEdge rising s) = held s := by
  unfold execFsyncInEdge
  dsimp only
  (repeat' split) <;> simp
@[simp] theorem execFsyncLost_held (s : State) :
    heldNext s (execFsyncLost s) = held s := by
  simp [execFsyncLost]
@[simp] theorem execFsyncOutPulse_held (s : State) :
    heldNext s (execFsyncOutPulse s) = held s := by
  simp [execFsyncOutPulse]

/-! ### Machine/TeamTime -/

@[simp] theorem relayDown_held (p : Fin 4) (f : TFrame) (s : State) :
    held (relayDown p f s) = held s := by
  simp [relayDown]
@[simp] theorem execPdelayTimer_held (p : Fin 4) (s : State) :
    heldNext s (execPdelayTimer p s) = held s := by
  simp [execPdelayTimer]
@[simp] theorem execPdelayReq_held (p : Fin 4) (h : FrameHdr) (n : Word) (s : State) :
    heldNext s (execPdelayReq p h n s) = held s := by
  simp [execPdelayReq]
@[simp] theorem execPdelayResp_held (p : Fin 4) (h : FrameHdr) (n : Word) (t2 t3 : Dword) (s : State) :
    heldNext s (execPdelayResp p h n t2 t3 s) = held s := by
  refine keyedRx_held p h false _ s fun t => ?_
  split
  · split <;> simp
  · rfl
@[simp] theorem execTimeSyncSend_held (s : State) :
    heldNext s (execTimeSyncSend s) = held s := by
  simp [execTimeSyncSend]
@[simp] theorem leaveSync_held (s : State) :
    held (leaveSync s) = held s := by
  simp [leaveSync]
@[simp] theorem timeServo_held (d : Int) (s : State) :
    held (timeServo d s) = held s := by
  simp [timeServo]
@[simp] theorem relayTime_held (p : Fin 4) (pl : TimeSyncPl) (s : State) :
    held (relayTime p pl s) = held s := by
  simp [relayTime]
@[simp] theorem execTimeSync_held (p : Fin 4) (h : FrameHdr) (pl : TimeSyncPl) (s : State) :
    heldNext s (execTimeSync p h pl s) = held s := by
  simp [execTimeSync]
@[simp] theorem execTimeSyncTimeout_held (s : State) :
    heldNext s (execTimeSyncTimeout s) = held s := by
  simp [execTimeSyncTimeout]
@[simp] theorem leadNews_held (pl : SchedulePl) (s : State) :
    held (leadNews pl s) = held s := by
  unfold leadNews
  split <;> simp
@[simp] theorem scheduleNote_held (pl : SchedulePl) (s : State) :
    held (scheduleNote pl s) = held s := by
  simp [scheduleNote]
@[simp] theorem scheduleTake_held (p : Fin 4) (pl : SchedulePl) (s : State) :
    held (scheduleTake p pl s) = held s := by
  simp [scheduleTake]
@[simp] theorem execSchedule_held (p : Fin 4) (h : FrameHdr) (pl : SchedulePl) (s : State) :
    heldNext s (execSchedule p h pl s) = held s := by
  simp [execSchedule]
@[simp] theorem memberNote_held (m : Member) (change : Nat) (s : State) :
    held (memberNote m change s) = held s := by
  simp [memberNote]
@[simp] theorem digestTake_held (d : DigestPl) (s : State) :
    held (digestTake d s) = held s := by
  unfold digestTake
  split <;> simp
@[simp] theorem execDigest_held (p : Fin 4) (h : FrameHdr) (d : DigestPl) (s : State) :
    heldNext s (execDigest p h d s) = held s := by
  simp [execDigest]
@[simp] theorem memberGone_held (m : Member) (s : State) :
    held (memberGone m s) = held s := by
  simp [memberGone]
@[simp] theorem execMemberLeft_held (engine : BitVec 10) (s : State) :
    heldNext s (execMemberLeft engine s) = held s := by
  unfold execMemberLeft
  (repeat' split) <;> simp
@[simp] theorem execDivergentEnter_held (s : State) :
    heldNext s (execDivergentEnter s) = held s := by
  simp [execDivergentEnter]
@[simp] theorem execDivergentLeave_held (s : State) :
    heldNext s (execDivergentLeave s) = held s := by
  simp [execDivergentLeave]
@[simp] theorem stateNote_held (pl : StatePl) (s : State) :
    held (stateNote pl s) = held s := by
  unfold stateNote
  dsimp only
  split <;> simp
@[simp] theorem execState_held (p : Fin 4) (h : FrameHdr) (pl : StatePl) (s : State) :
    heldNext s (execState p h pl s) = held s := by
  simp [execState]
@[simp] theorem execLeadLost_held (s : State) :
    heldNext s (execLeadLost s) = held s := by
  simp [execLeadLost]
@[simp] theorem handbackTo_held (l : BitVec 10) (s : State) :
    held (handbackTo l s) = held s := by
  simp [handbackTo]
@[simp] theorem execHandback_held (s : State) :
    heldNext s (execHandback s) = held s := by
  unfold execHandback
  split <;> simp

/-! ### Machine/Enum -/

@[simp] theorem enumDown_held (path : Dword) (d : Nat) (ingress : Option (Fin 4)) (s : State) :
    held (enumDown path d ingress s) = held s := by
  simp [enumDown]
@[simp] theorem execEnumeration_held (s : State) :
    heldNext s (execEnumeration s) = held s := by
  simp [execEnumeration]
@[simp] theorem enumReply_held (m : Member) (s : State) :
    held (enumReply m s) = held s := by
  simp [enumReply]
@[simp] theorem enumSettle_held (l : List Member) (why : Member → Nat) (s : State) :
    held (enumSettle l why s) = held s := by
  simp [enumSettle]
@[simp] theorem memberJoins_held (m : Member) (s : State) :
    held (memberJoins m s) = held s := by
  simp [memberJoins]
@[simp] theorem enumFree_held (r : EnumRec) (change : Nat) (s : State) :
    held (enumFree r change s) = held s := by
  simp [enumFree]
@[simp] theorem enumAdd_held (r : EnumRec) (id : BitVec 10) (s : State) :
    held (enumAdd r id s) = held s := by
  simp [enumAdd]
@[simp] theorem memberPut_held (m n : Member) (s : State) :
    held (memberPut m n s) = held s := by
  simp [memberPut]
@[simp] theorem enumAgain_held (r : EnumRec) (m : Member) (s : State) :
    held (enumAgain r m s) = held s := by
  simp [enumAgain]
@[simp] theorem enumMove_held (r : EnumRec) (m : Member) (s : State) :
    held (enumMove r m s) = held s := by
  simp [enumMove]
@[simp] theorem leadMoves_held (s : State) :
    held (leadMoves s) = held s := by
  simp [leadMoves]
@[simp] theorem enumConfigured_held (r : EnumRec) (s : State) :
    held (enumConfigured r s) = held s := by
  unfold enumConfigured
  dsimp only
  (repeat' split) <;> simp
@[simp] theorem enumStray_held (r : EnumRec) (s : State) :
    held (enumStray r s) = held s := by
  unfold enumStray
  dsimp only
  (repeat' split) <;> simp
@[simp] theorem enumTake_held (r : EnumRec) (s : State) :
    held (enumTake r s) = held s := by
  unfold enumTake
  split <;> simp
@[simp] theorem enumOwn_held (id : BitVec 10) (s : State) :
    held (enumOwn id s) = held s := by
  simp [enumOwn]
@[simp] theorem enumBody_held (p : Fin 4) (e : EnumPl) (s : State) :
    held (enumBody p e s) = held s := by
  unfold enumBody
  split <;> simp
@[simp] theorem execEnum_held (p : Fin 4) (h : FrameHdr) (e : EnumPl) (s : State) :
    heldNext s (execEnum p h e s) = held s := by
  simp [execEnum]

/-! ### Machine/Safe -/

@[simp] theorem mapSin_held (n : Nat) (f : SinState → SinState) (s : State) :
    held (mapSin n f s) = held s := by
  simp [mapSin]
@[simp] theorem sinDemand_held (n : Nat) (s : State) :
    held (sinDemand n s) = held s := by
  simp [sinDemand]
@[simp] theorem sinClear_held (n : Nat) (s : State) :
    held (sinClear n s) = held s := by
  simp [sinClear]
@[simp] theorem sinStuck_held (n : Nat) (s : State) :
    held (sinStuck n s) = held s := by
  simp [sinStuck]
@[simp] theorem sinCross_held (n : Nat) (s : State) :
    held (sinCross n s) = held s := by
  simp [sinCross]
@[simp] theorem ownClose_held (n : Nat) (s : State) :
    held (ownClose n s) = held s := by
  simp [ownClose]
@[simp] theorem otherClose_held (n : Nat) (s : State) :
    held (otherClose n s) = held s := by
  simp [otherClose]
@[simp] theorem execTpoPulse_held (x : Fin 2) (s : State) : heldNext s (execTpoPulse x s) = held s := by
  unfold execTpoPulse
  rw [heldNext_next]
  split
  · rfl
  · dsimp only
    rw [held_foldl]
    · simp
    · intro t n
      split
      · rfl
      · simp [held_ite]
@[simp] theorem execTpoWindowClose_held (x : Fin 2) (s : State) : heldNext s (execTpoWindowClose x s) = held s := by
  unfold execTpoWindowClose
  rw [heldNext_next]
  split
  · rfl
  · dsimp only
    rw [held_foldl]
    · simp
    · intro t n
      split
      · rfl
      · simp [held_ite]
@[simp] theorem sinLow_held (n : Nat) (s : State) :
    held (sinLow n s) = held s := by
  unfold sinLow
  split <;> simp
@[simp] theorem execSinEdge_held (n : Fin 4) (high : Bool) (s : State) :
    heldNext s (execSinEdge n high s) = held s := by
  simp [execSinEdge]
@[simp] theorem sinAssigned_held (s : State) :
    held (sinAssigned s) = held s := by
  simp [sinAssigned]
@[simp] theorem execHeartbeatTimeout_held (s : State) :
    heldNext s (execHeartbeatTimeout s) = held s := by
  simp [execHeartbeatTimeout]
@[simp] theorem execCanFrame_held (f : CanFrame) (s : State) :
    heldNext s (execCanFrame f s) = held s := by
  simp [execCanFrame]
@[simp] theorem execCanTimeout_held (s : State) :
    heldNext s (execCanTimeout s) = held s := by
  simp [execCanTimeout]
@[simp] theorem execDarkNAssert_held (s : State) :
    heldNext s (execDarkNAssert s) = held s := by
  simp [execDarkNAssert]
@[simp] theorem execDarkNRelease_held (s : State) :
    heldNext s (execDarkNRelease s) = held s := by
  simp [execDarkNRelease]

/-! ### Machine/Thermal -/

@[simp] theorem mapCh_mems (c : Nat) (f : HkChan → HkChan) (s : State) :
    (held (mapCh c f s)).mems = (held s).mems := by
  simp [mapCh]
@[simp] theorem sensorFail_mems (c : Nat) (last : Int) (s : State) :
    (held (sensorFail c last s)).mems = (held s).mems := by
  simp [sensorFail]
@[simp] theorem dramSample_mems (v : Int) (s : State) :
    (held (dramSample v s)).mems = (held s).mems := by
  simp [dramSample]
@[simp] theorem coolSample_held (c : Nat) (raw : HkRaw) (s : State) :
    held (coolSample c raw s) = held s := by
  unfold coolSample
  split <;> simp
@[simp] theorem tempSample_mems (c : Nat) (raw : HkRaw) (s : State) :
    (held (tempSample c raw s)).mems = (held s).mems := by
  simp [tempSample]
@[simp] theorem vsetRaise_held (s : State) :
    held (vsetRaise s) = held s := by
  simp [vsetRaise]
@[simp] theorem supplySample_mems (c : Nat) (v : Int) (s : State) :
    (held (supplySample c v s)).mems = (held s).mems := by
  unfold supplySample
  dsimp only
  split <;> simp
@[simp] theorem execHkSample_mems (raw : HkRaw) (s : State) :
    (heldNext s (execHkSample raw s)).mems = (held s).mems := by
  unfold execHkSample
  dsimp only
  (repeat' split) <;> simp
@[simp] theorem plausRound_mems (s : State) :
    (held (plausRound s)).mems = (held s).mems := by
  simp [plausRound]
@[simp] theorem execLearnedOffsetUpdate_mems (s : State) :
    (heldNext s (execLearnedOffsetUpdate s)).mems = (held s).mems := by
  simp [execLearnedOffsetUpdate]
@[simp] theorem execRelaxationHoldEnd_held (s : State) :
    heldNext s (execRelaxationHoldEnd s) = held s := by
  simp [execRelaxationHoldEnd]
@[simp] theorem derateEvent_held (ch : BitVec 6) (s : State) :
    held (derateEvent ch s) = held s := by
  simp [derateEvent]
@[simp] theorem derateRound_held (s : State) :
    held (derateRound s) = held s := by
  simp [derateRound]
@[simp] theorem vsetRound_held (h : Nat) (s : State) :
    held (vsetRound h s) = held s := by
  simp [vsetRound]
@[simp] theorem headroomRound_held (reports : List (BitVec 8 × Nat)) (s : State) :
    held (headroomRound reports s) = held s := by
  unfold headroomRound
  dsimp only
  split <;> simp
@[simp] theorem hkLog_held (s : State) :
    held (hkLog s) = held s := by
  simp [hkLog]
@[simp] theorem execHkRoundEnd_mems (reports : List (BitVec 8 × Nat)) (s : State) :
    (heldNext s (execHkRoundEnd reports s)).mems = (held s).mems := by
  unfold execHkRoundEnd
  dsimp only
  (repeat' split) <;> simp
@[simp] theorem execVledAdjStep_held (vMeas : Nat) (s : State) :
    heldNext s (execVledAdjStep vMeas s) = held s := by
  simp [execVledAdjStep]
@[simp] theorem execHeadroomHwStep_held (headroom : Nat) (s : State) :
    heldNext s (execHeadroomHwStep headroom s) = held s := by
  simp [execHeadroomHwStep]
@[simp] theorem execTempTrip_held (c : Fin 18) (s : State) :
    heldNext s (execTempTrip c s) = held s := by
  simp [execTempTrip]
@[simp] theorem thermalRelease_held (s : State) :
    held (thermalRelease s) = held s := by
  simp [thermalRelease]
@[simp] theorem execThermalRestart_held (s : State) :
    heldNext s (execThermalRestart s) = held s := by
  unfold execThermalRestart
  dsimp only
  (repeat' split) <;> simp
@[simp] theorem thermRearmBody_held (sub : Sub) (s : State) :
    held (thermRearmBody sub s) = held s := by
  simp [thermRearmBody]

/-! ### Machine/Regs -/

@[simp] theorem gpioIn_held (s : State) :
    held (gpioIn s).2 = held s := by
  simp [gpioIn]
@[simp] theorem regSample_held (o : Nat) (s : State) :
    held (regSample o s).2 = held s := by
  simp [regSample]
@[simp] theorem firstClear_held (s : State) :
    held (firstClear s) = held s := by
  simp [firstClear]
@[simp] theorem laneClear_held (n : Nat) (s : State) :
    held (laneClear n s) = held s := by
  simp [laneClear]
@[simp] theorem regClear_held (o : Nat) (s : State) :
    held (regClear o s) = held s := by
  unfold regClear
  (repeat' split) <;> simp
@[simp] theorem readValues_held (bar : Nat) (l : List Nat) (s : State) :
    held (readValues bar l s).2 = held s := by
  simp [readValues]
@[simp] theorem hostReadOp_held (bar o n : Nat) (beFirst beLast : BitVec 4) (s : State) :
    held (hostReadOp bar o n beFirst beLast s) = held s := by
  unfold hostReadOp
  dsimp only
  split <;> simp
@[simp] theorem whenRead_held (f : State → State) (s : State) (hf : ∀ t, held (f t) = held t) :
    heldNext s (whenRead f s) = held s := by
  simp [whenRead, held_ite, hf]
@[simp] theorem whenMem_held (f : State → State) (s : State) (hf : ∀ t, held (f t) = held t) :
    heldNext s (whenMem f s) = held s := by
  simp [whenMem, held_ite, hf]
@[simp] theorem execRefusedRead_held (bar : BarId) (offset : Half) (count : Nat) (beFirst beLast : BitVec 4) (s : State) :
    heldNext s (execRefusedRead bar offset count beFirst beLast s) = held s := by
  simp [execRefusedRead]
@[simp] theorem execClearingRead_held (offset : Half) (count : Nat) (s : State) :
    heldNext s (execClearingRead offset count s) = held s := by
  simp [execClearingRead]
@[simp] theorem execLtnErrcntRead_held (lane : Fin 8) (s : State) :
    heldNext s (execLtnErrcntRead lane s) = held s := by
  simp [execLtnErrcntRead]
@[simp] theorem execFltFirstSrcRead_held (s : State) :
    heldNext s (execFltFirstSrcRead s) = held s := by
  simp [execFltFirstSrcRead]
@[simp] theorem execTtNowLoRead_held (s : State) :
    heldNext s (execTtNowLoRead s) = held s := by
  simp [execTtNowLoRead]
@[simp] theorem strobeRefuse_held (groups : BitVec 9) (s : State) :
    held (strobeRefuse groups s) = held s := by
  simp [strobeRefuse]
@[simp] theorem setArm_held (g : Nat) (when : ArmedWhen) (target : Dword) (s : State) :
    held (setArm g when target s) = held s := by
  simp [setArm]
@[simp] theorem setFire_held (g : Nat) (s : State) :
    held (setFire g s) = held s := by
  unfold setFire
  split <;> simp
@[simp] theorem strobeArm_held (when : Nat) (groups : BitVec 9) (s : State) :
    held (strobeArm when groups s) = held s := by
  simp [strobeArm]
@[simp] theorem strobe_held (when : Nat) (groups : BitVec 9) (s : State) :
    held (strobe when groups s) = held s := by
  simp [strobe]
@[simp] theorem commitNow_held (part : Partition) (s : State) :
    held (commitNow part s) = held s := by
  simp [commitNow]
@[simp] theorem commitWrite_held (part : Partition) (v : Word) (s : State) :
    held (commitWrite part v s) = held s := by
  simp [commitWrite]
@[simp] theorem shadowWrite_held (o : Nat) (v : Word) (s : State) :
    held (shadowWrite o v s) = held s := by
  simp [shadowWrite]
@[simp] theorem seqResetOp_held (n : Nat) (s : State) :
    held (seqResetOp n s) = held s := by
  simp [seqResetOp]
@[simp] theorem pinRelOp_held (s : State) :
    held (pinRelOp s) = held s := by
  simp [pinRelOp]
@[simp] theorem gpioSetOp_held (b : Byte) (s : State) :
    held (gpioSetOp b s) = held s := by
  simp [gpioSetOp]
@[simp] theorem gpioClrOp_held (b : Byte) (s : State) :
    held (gpioClrOp b s) = held s := by
  simp [gpioClrOp]
@[simp] theorem regWrite_held (o : Nat) (v : Word) (s : State) :
    held (regWrite o v s) = held s := by
  unfold regWrite
  (repeat' split) <;> simp
@[simp] theorem hostWriteOp_held (bar o : Nat) (vs : List Word) (beFirst beLast : BitVec 4) (s : State) :
    held (hostWriteOp bar o vs beFirst beLast s) = held s := by
  unfold hostWriteOp
  dsimp only
  (repeat' split) <;> simp
@[simp] theorem execRegisterWrite_held (bar : BarId) (offset : Half) (values : List Word) (beFirst beLast : BitVec 4) (s : State) :
    heldNext s (execRegisterWrite bar offset values beFirst beLast s) = held s := by
  simp [execRegisterWrite]
@[simp] theorem execUpdStrobeImmediate_held (groups : BitVec 9) (s : State) :
    heldNext s (execUpdStrobeImmediate groups s) = held s := by
  simp [execUpdStrobeImmediate]
@[simp] theorem execUpdStrobeNextTick_held (groups : BitVec 9) (s : State) :
    heldNext s (execUpdStrobeNextTick groups s) = held s := by
  simp [execUpdStrobeNextTick]
@[simp] theorem execUpdStrobeAtTime_held (groups : BitVec 9) (s : State) :
    heldNext s (execUpdStrobeAtTime groups s) = held s := by
  simp [execUpdStrobeAtTime]
@[simp] theorem execUpdStrobeRefused_held (groups : BitVec 9) (s : State) :
    heldNext s (execUpdStrobeRefused groups s) = held s := by
  simp [execUpdStrobeRefused]
@[simp] theorem execArmedSetAtTime_held (s : State) :
    heldNext s (execArmedSetAtTime s) = held s := by
  simp [execArmedSetAtTime]
@[simp] theorem execCfgCrcCommit_held (part : Partition) (value : Word) (s : State) :
    heldNext s (execCfgCrcCommit part value s) = held s := by
  simp [execCfgCrcCommit]
@[simp] theorem execCfgLock_held (s : State) : heldNext s (execCfgLock s) = held s :=
  whenMem_held _ s fun _ => rfl
@[simp] theorem execFltPinRel_held (s : State) :
    heldNext s (execFltPinRel s) = held s := by
  simp [execFltPinRel]
@[simp] theorem execSeqReset_held (ring : Fin 16) (s : State) :
    heldNext s (execSeqReset ring s) = held s := by
  simp [execSeqReset]
@[simp] theorem execGpioSet_held (bits : Byte) (s : State) :
    heldNext s (execGpioSet bits s) = held s := by
  simp [execGpioSet]
@[simp] theorem execGpioClr_held (bits : Byte) (s : State) :
    heldNext s (execGpioClr bits s) = held s := by
  simp [execGpioClr]
@[simp] theorem crcCompare_held (part : Nat) (cur ref : Word) (s : State) :
    held (crcCompare part cur ref s) = held s := by
  simp [crcCompare]
@[simp] theorem passShared_held (cur : Word) (s : State) :
    held (passShared cur s) = held s := by
  unfold passShared
  dsimp only
  (repeat' split) <;> simp
@[simp] theorem passLocal_held (cur : Word) (s : State) :
    held (passLocal cur s) = held s := by
  unfold passLocal
  dsimp only
  (repeat' split) <;> simp
@[simp] theorem execCfgCrcPass_held (flipShared flipLocal : Word) (s : State) :
    heldNext s (execCfgCrcPass flipShared flipLocal s) = held s := by
  simp [execCfgCrcPass]
@[simp] theorem staleLate_held (part : Partition) (s : State) :
    held (staleLate part s) = held s := by
  simp [staleLate]
@[simp] theorem execCfgStaleTimeout_held (part : Partition) (s : State) :
    heldNext s (execCfgStaleTimeout part s) = held s := by
  simp [execCfgStaleTimeout]

/-! ### Machine/Faults -/

@[simp] theorem pixelAck_held (src : Nat) (s : State) :
    held (pixelAck src s) = held s := by
  simp [pixelAck]
@[simp] theorem ackRelease_held (src : Nat) (s : State) :
    held (ackRelease src s) = held s := by
  simp [ackRelease]
@[simp] theorem ackStuckDone_held (j : FlashJob) (src : Byte) (s : State) :
    held (ackStuckDone j src s) = held s := by
  simp [ackStuckDone]
@[simp] theorem faultAckBody_held (sub : Sub) (source : Byte) (s : State) :
    held (faultAckBody sub source s) = held s := by
  simp [faultAckBody]
@[simp] theorem execDegradeRelease_held (source : Byte) (s : State) :
    heldNext s (execDegradeRelease source s) = held s := by
  simp [execDegradeRelease]
@[simp] theorem execFaultNRelease_held (s : State) :
    heldNext s (execFaultNRelease s) = held s := by
  simp [execFaultNRelease]

/-! ### Machine/HostPort -/

@[simp] theorem heldSend_held (s : State) : held (heldSend s) = held s := by
  unfold heldSend
  dsimp only
  split
  · rw [held_foldl]
    · simp
    · intro t o
      cases o <;> simp
  · rfl
@[simp] theorem ptmHold_held (s : State) :
    held (ptmHold s) = held s := by
  simp [ptmHold]
@[simp] theorem cfgPut_held (o : Nat) (w : Word) (s : State) :
    held (cfgPut o w s) = held s := by
  simp [cfgPut]
@[simp] theorem execConfigurationRequest_held (offset : BitVec 12) (write : Option (Word × BitVec 4)) (s : State) :
    heldNext s (execConfigurationRequest offset write s) = held s := by
  unfold execConfigurationRequest
  (repeat' split) <;> simp
@[simp] theorem execConfigSpaceReady_held (s : State) :
    heldNext s (execConfigSpaceReady s) = held s := by
  simp [execConfigSpaceReady]
@[simp] theorem ringsDown_held (s : State) :
    held (ringsDown s) = held s := by
  simp [ringsDown]
@[simp] theorem hostSessionEnd_held (s : State) :
    held (hostSessionEnd s) = held s := by
  unfold hostSessionEnd
  split <;> simp
@[simp] theorem lanesDown_held (s : State) :
    held (lanesDown s) = held s := by
  simp [lanesDown]
@[simp] theorem execLinkDown_held (s : State) :
    heldNext s (execLinkDown s) = held s := by
  simp [execLinkDown]
@[simp] theorem execLinkUp_held (speed width : Nat) (s : State) :
    heldNext s (execLinkUp speed width s) = held s := by
  simp [execLinkUp]
@[simp] theorem execL1Entry_held (s : State) :
    heldNext s (execL1Entry s) = held s := by
  simp [execL1Entry]
@[simp] theorem execAerErrorLogged_held (correctable : Bool) (s : State) :
    heldNext s (execAerErrorLogged correctable s) = held s := by
  simp [execAerErrorLogged]
@[simp] theorem execPtmDialog_held (s : State) :
    heldNext s (execPtmDialog s) = held s := by
  simp [execPtmDialog]
@[simp] theorem ptmCorrect_held (theta : Int) (s : State) :
    held (ptmCorrect theta s) = held s := by
  simp [ptmCorrect]
@[simp] theorem execPtmResponse_held (masterTime propDelay : Dword) (s : State) :
    heldNext s (execPtmResponse masterTime propDelay s) = held s := by
  unfold execPtmResponse
  split <;> simp
@[simp] theorem execCqModTimeout_held (q : QueueId) (s : State) :
    heldNext s (execCqModTimeout q s) = held s := by
  unfold execCqModTimeout
  split <;> simp

/-! ### Machine/Image -/

@[simp] theorem mapSlot_held (b : Bool) (f : List Host.Cell → List Host.Cell) (s : State) :
    held (mapSlot b f s) = held s := by
  simp [mapSlot]
@[simp] theorem imageFault_held (b : Bool) (v : ImageVerdict) (s : State) :
    held (imageFault b v s) = held s := by
  unfold imageFault
  split <;> simp
@[simp] theorem bootPut_held (slotB : Bool) (state trial : Nat) (s : State) :
    held (bootPut slotB state trial s) = held s := by
  simp [bootPut]
@[simp] theorem blowFuses_mems (n : Nat) (s : State) :
    (held (blowFuses n s)).mems = (held s).mems := by
  simp [blowFuses]
@[simp] theorem updateEvent_held (state : Nat) (slot : Bool) (trial revert : Nat) (s : State) :
    held (updateEvent state slot trial revert s) = held s := by
  simp [updateEvent]

/-! ### Machine/UpdateCmds -/

@[simp] theorem mapUpd_held (f : Update → Update) (s : State) :
    held (mapUpd f s) = held s := by
  simp [mapUpd]
@[simp] theorem eraseStart_held (sub : Sub) (s : State) :
    held (eraseStart sub s) = held s := by
  simp [eraseStart]
@[simp] theorem updateOpenBody_held (sub : Sub) (imageLength : Word) (s : State) :
    held (updateOpenBody sub imageLength s) = held s := by
  simp [updateOpenBody]
@[simp] theorem updCancelDone_held (j : FlashJob) (s : State) :
    held (updCancelDone j s) = held s := by
  unfold updCancelDone
  split <;> simp
@[simp] theorem eraseFailed_held (b : Bool) (s : State) :
    held (eraseFailed b s) = held s := by
  simp [eraseFailed]
@[simp] theorem execUpdateEraseDone_held (ok : Bool) (s : State) :
    heldNext s (execUpdateEraseDone ok s) = held s := by
  unfold execUpdateEraseDone
  split <;> simp
@[simp] theorem programPages_held (l : List (Nat × List Byte)) (s : State) :
    held (programPages l s) = held s := by
  simp [programPages]
@[simp] theorem updWriteDone_held (j : FlashJob) (offset : Nat) (bs : List Byte) (s : State) :
    held (updWriteDone j offset bs s) = held s := by
  simp [updWriteDone]
@[simp] theorem updPartialDone_held (j : FlashJob) (offset : Nat) (bs : List Byte) (s : State) :
    held (updPartialDone j offset bs s) = held s := by
  simp [updPartialDone]
@[simp] theorem updateProgram_held (sub : Sub) (offset : Nat) (bs : List Byte) (s : State) :
    held (updateProgram sub offset bs s) = held s := by
  simp [updateProgram]
@[simp] theorem updatePartial_held (sub : Sub) (offset : Nat) (bs : List Byte) (s : State) :
    held (updatePartial sub offset bs s) = held s := by
  simp [updatePartial]
@[simp] theorem updateWriteBody_held (sub : Sub) (offset : Word) (host : Dword) (length : Word) (data : HostRead) (s : State) :
    held (updateWriteBody sub offset host length data s) = held s := by
  unfold updateWriteBody
  (repeat' split) <;> simp
@[simp] theorem pagesCut_held (n : Nat) (l : List (Nat × List Byte)) (s : State) :
    held (pagesCut n l s) = held s := by
  simp [pagesCut]
@[simp] theorem jobCut_held (j : FlashJob) (s : State) :
    held (jobCut j s) = held s := by
  unfold jobCut
  dsimp only
  split <;> simp
@[simp] theorem writesCut_held (s : State) :
    held (writesCut s) = held s := by
  unfold writesCut
  dsimp only
  split <;> simp
@[simp] theorem closeCheck_held (sub : Sub) (s : State) : held (closeCheck sub s) = held s := by
  unfold closeCheck
  dsimp only
  generalize s.manifest s.inactive = v
  cases v <;> simp
@[simp] theorem updateCloseBody_held (sub : Sub) (s : State) :
    held (updateCloseBody sub s) = held s := by
  simp [updateCloseBody]
@[simp] theorem updCloseDone_held (j : FlashJob) (s : State) :
    held (updCloseDone j s) = held s := by
  simp [updCloseDone]
@[simp] theorem updateConfirmBody_held (sub : Sub) (s : State) :
    held (updateConfirmBody sub s) = held s := by
  simp [updateConfirmBody]
@[simp] theorem updConfirmDone_held (j : FlashJob) (s : State) :
    held (updConfirmDone j s) = held s := by
  simp [updConfirmDone]
@[simp] theorem fuseStep_mems (s : State) :
    (held (fuseStep s)).mems = (held s).mems := by
  unfold fuseStep
  split <;> simp
@[simp] theorem coreSet_held (c : CoreId) (b : Bool) (s : State) :
    held (coreSet c b s) = held s := by
  simp [coreSet]
@[simp] theorem ostlerStop_held (s : State) :
    held (ostlerStop s) = held s := by
  simp [ostlerStop]
@[simp] theorem execWatchdogExpiry_held (core : CoreId) (s : State) :
    heldNext s (execWatchdogExpiry core s) = held s := by
  simp [execWatchdogExpiry]
@[simp] theorem coreReload_held (core : CoreId) (kind : Nat) (s : State) :
    held (coreReload core kind s) = held s := by
  unfold coreReload
  (repeat' split) <;> simp
@[simp] theorem execCoreReloadDone_held (core : CoreId) (s : State) :
    heldNext s (execCoreReloadDone core s) = held s := by
  unfold execCoreReloadDone
  split <;> simp

/-! ### Machine/Power -/

@[simp] theorem coreReset_wf (warm : Bool) (s : State) (hw : MemsWf (held s).mems) :
    MemsWf (held (coreReset warm s)).mems := by
  refine ⟨?_, List.Pairwise.nil, fun _ h => absurd h List.not_mem_nil⟩
  cases warm
  · exact reset_mem_wf
  · exact hw.1
@[simp] theorem dramLost_held (s : State) :
    held (dramLost s) = held s := by
  simp [dramLost]
@[simp] theorem execPowerEntryDrained_held (s : State) :
    heldNext s (execPowerEntryDrained s) = held s := by
  unfold execPowerEntryDrained
  split <;> simp
@[simp] theorem entryA1_held (s : State) :
    held (entryA1 s) = held s := by
  simp [entryA1]
@[simp] theorem entryA2_held (s : State) :
    held (entryA2 s) = held s := by
  simp [entryA2]
@[simp] theorem portsDown_held (s : State) :
    held (portsDown s) = held s := by
  simp [portsDown]
@[simp] theorem entryA3_held (s : State) :
    held (entryA3 s) = held s := by
  simp [entryA3]
@[simp] theorem linkL1_held (s : State) :
    held (linkL1 s) = held s := by
  simp [linkL1]
@[simp] theorem sleepReached_held (e : PowerEntry) (s : State) :
    held (sleepReached e s) = held s := by
  simp [sleepReached]
@[simp] theorem standbyReached_wf (e : PowerEntry) (s : State) (hw : MemsWf (held s).mems) :
    MemsWf (held (standbyReached e s)).mems := by
  simp [standbyReached, hw]
@[simp] theorem entryStage_wf (e : PowerEntry) (s : State) (hw : MemsWf (held s).mems) :
    MemsWf (held (entryStage e s)).mems := by
  unfold entryStage
  split <;> simp [hw]
@[simp] theorem execPowerEntryDark_wf (s : State) (hw : MemsWf (held s).mems) :
    MemsWf (heldNext s (execPowerEntryDark s)).mems := by
  unfold execPowerEntryDark
  split <;> simp [hw]
@[simp] theorem execWakePin_held (s : State) :
    heldNext s (execWakePin s) = held s := by
  simp [execWakePin]
@[simp] theorem execCanRxWake_held (s : State) :
    heldNext s (execCanRxWake s) = held s := by
  simp [execCanRxWake]
@[simp] theorem execTraceSignalWake_held (lane : Fin 8) (s : State) :
    heldNext s (execTraceSignalWake lane s) = held s := by
  unfold execTraceSignalWake
  split <;> simp
@[simp] theorem execTeamTimeAlarm_held (s : State) :
    heldNext s (execTeamTimeAlarm s) = held s := by
  simp [execTeamTimeAlarm]
@[simp] theorem wakeRun_mems (e : PowerEntry) (s : State) :
    (held (wakeRun e s)).mems = (held s).mems := by
  simp [wakeRun]
@[simp] theorem execWakeComplete_mems (s : State) :
    (heldNext s (execWakeComplete s)).mems = (held s).mems := by
  unfold execWakeComplete
  split <;> simp
@[simp] theorem startReference_held (s : State) :
    held (startReference s) = held s := by
  simp [startReference]
@[simp] theorem warmReset_wf (cause : Nat) (s : State) (hw : MemsWf (held s).mems) :
    MemsWf (held (warmReset cause s)).mems := by
  simp [warmReset, hw]
@[simp] theorem execRstNAssert_wf (s : State) (hw : MemsWf (held s).mems) :
    MemsWf (heldNext s (execRstNAssert s)).mems := by
  unfold execRstNAssert
  rw [heldNext_next]
  dsimp only
  split
  · exact warmReset_wf _ _ (by simpa)
  · simpa
@[simp] theorem execRstNRelease_held (s : State) :
    heldNext s (execRstNRelease s) = held s := by
  simp [execRstNRelease]
@[simp] theorem laneReset_held (n : Nat) (s : State) :
    held (laneReset n s) = held s := by
  unfold laneReset
  dsimp only
  split <;> simp
@[simp] theorem execClockFail_wf (c : ClockId) (s : State) (hw : MemsWf (held s).mems) :
    MemsWf (heldNext s (execClockFail c s)).mems := by
  unfold execClockFail
  (repeat' split) <;> simp [hw]
@[simp] theorem strapsTake_mems (b : Byte) (s : State) :
    (held (strapsTake b s)).mems = (held s).mems := by rfl
@[simp] theorem execVaonPowerOn_held (s : State) :
    heldNext s (execVaonPowerOn s) = held s := by
  simp [execVaonPowerOn]
@[simp] theorem execVaonLoss_wf (s : State) (hw : MemsWf (held s).mems) :
    MemsWf (heldNext s (execVaonLoss s)).mems := by
  simp [execVaonLoss, hw]
@[simp] theorem execPwrEnAssert_held (s : State) :
    heldNext s (execPwrEnAssert s) = held s := by
  simp [execPwrEnAssert]
@[simp] theorem execPwrEnReassert_held (s : State) :
    heldNext s (execPwrEnReassert s) = held s := by
  simp [execPwrEnReassert]
@[simp] theorem strapsSample_mems (s : State) :
    (held (strapsSample s)).mems = (held s).mems := by
  simp [strapsSample]
@[simp] theorem execSuppliesValid_mems (s : State) :
    (heldNext s (execSuppliesValid s)).mems = (held s).mems := by
  simp [execSuppliesValid]
@[simp] theorem execSupplyTimeout_held (s : State) :
    heldNext s (execSupplyTimeout s) = held s := by
  simp [execSupplyTimeout]

/-! ### Machine/Startup -/

@[simp] theorem stepAt_held (n : Nat) (s : State) :
    held (stepAt n s) = held s := by
  simp [stepAt]
@[simp] theorem presetPut_held (n k : Nat) (s : State) :
    held (presetPut n k s) = held s := by
  simp [presetPut]
@[simp] theorem haltLanes_held (s : State) :
    held (haltLanes s) = held s := by
  simp [haltLanes]
@[simp] theorem haltEnter_held (s : State) :
    held (haltEnter s) = held s := by
  simp [haltEnter]
@[simp] theorem slotCheck_held (b : Bool) (s : State) : held (slotCheck b s).2 = held s := by
  unfold slotCheck
  dsimp only
  generalize (stepAt 3 s).manifest b = v
  cases v
  · simp only
    split <;> simp
  · simp
  · simp
@[simp] theorem scenesReport_held (b : Bool) (s : State) :
    held (scenesReport b s) = held s := by
  simp [scenesReport]
@[simp] theorem storeCheck_held (b : Bool) (s : State) :
    held (storeCheck b s).2 = held s := by
  simp [storeCheck]
@[simp] theorem wholeCheck_held (b : Bool) (s : State) : held (wholeCheck b s).2 = held s := by
  have hslot := slotCheck_held b s
  unfold wholeCheck
  generalize slotCheck b s = q at hslot
  obtain ⟨v, t⟩ := q
  cases v <;> simpa using hslot
@[simp] theorem imageRun_held (b trial swap : Bool) (s : State) :
    held (imageRun b trial swap s) = held s := by
  simp [imageRun]
@[simp] theorem imageGo_held (b trial swap : Bool) (s : State) :
    held (imageGo b trial swap s) = held s := by
  simp [imageGo]
@[simp] theorem bootConfirmed_held (b : Bool) (s : State) : held (bootConfirmed b s) = held s := by
  have hslot := slotCheck_held b s
  unfold bootConfirmed
  generalize slotCheck b s = q at hslot
  obtain ⟨v, t⟩ := q
  have hother := slotCheck_held (!b) t
  have hgo : held (match slotCheck (!b) t with
      | (.ok, s) => imageGo (!b) false true s
      | (_, s) => haltEnter s) = held t := by
    generalize slotCheck (!b) t = r at hother
    obtain ⟨w, u⟩ := r
    cases w <;> simpa using hother
  cases v
  · simpa using hslot
  · exact hgo.trans hslot
  · exact hgo.trans hslot
@[simp] theorem bootRevert_held (b : Bool) (cause : Nat) (s : State) :
    held (bootRevert b cause s) = held s := by
  simp [bootRevert]
@[simp] theorem bootTried_held (b : Bool) (s : State) : held (bootTried b s) = held s := by
  have hslot := slotCheck_held b s
  unfold bootTried
  generalize slotCheck b s = q at hslot
  obtain ⟨v, t⟩ := q
  cases v <;> simp_all
@[simp] theorem bootSelect_held (s : State) :
    held (bootSelect s) = held s := by
  unfold bootSelect
  dsimp only
  split <;> simp
@[simp] theorem logVerify_held (s : State) :
    held (logVerify s) = held s := by
  simp [logVerify]
@[simp] theorem execOtpLoadDone_held (ok : Bool) (s : State) :
    heldNext s (execOtpLoadDone ok s) = held s := by
  simp [execOtpLoadDone]
@[simp] theorem logStart_held (s : State) :
    held (logStart s) = held s := by
  simp [logStart]
@[simp] theorem mapsWritten_held (s : State) :
    held (mapsWritten s) = held s := by
  simp [mapsWritten]
@[simp] theorem calLoad_held (s : State) :
    held (calLoad s) = held s := by
  unfold calLoad
  dsimp only
  (repeat' split) <;> simp
@[simp] theorem storesLoad_held (s : State) :
    held (storesLoad s) = held s := by
  unfold storesLoad
  split <;> simp
@[simp] theorem settingsRenew_held (reason : Nat) (s : State) :
    held (settingsRenew reason s) = held s := by
  simp [settingsRenew]
@[simp] theorem renewDone_held (j : FlashJob) (old : Word) (s : State) :
    held (renewDone j old s) = held s := by
  simp [renewDone]
@[simp] theorem portPlace_held (p : Fin 4) (s : State) :
    held (portPlace p s) = held s := by
  simp [portPlace]
@[simp] theorem settingsApply_held (s : State) :
    held (settingsApply s) = held s := by
  simp [settingsApply]
@[simp] theorem settingsLoad_held (s : State) :
    held (settingsLoad s) = held s := by
  unfold settingsLoad
  dsimp only
  split <;> simp
@[simp] theorem storesGo_held (s : State) :
    held (storesGo s) = held s := by
  simp [storesGo]
@[simp] theorem otherCheck_held (b : Bool) (s : State) : held (otherCheck b s) = held s := by
  have hwhole := wholeCheck_held b s
  unfold otherCheck
  generalize wholeCheck b s = q at hwhole
  obtain ⟨v, t⟩ := q
  cases v <;> simp_all
@[simp] theorem lateConfirmed_held (b : Bool) (s : State) : held (lateConfirmed b s) = held s := by
  have hwhole := wholeCheck_held b s
  unfold lateConfirmed
  generalize wholeCheck b s = q at hwhole
  obtain ⟨v, t⟩ := q
  cases v <;> simp_all
@[simp] theorem bootStores_held (s : State) : held (bootStores s) = held s := by
  unfold bootStores
  split
  · rfl
  · rename_i b _
    have hstore := storeCheck_held b s
    generalize storeCheck b s = q at hstore
    obtain ⟨v, t⟩ := q
    cases v <;> simp only <;> split_ifs <;> simp_all
@[simp] theorem execDramTrained_held (s : State) :
    heldNext s (execDramTrained s) = held s := by
  simp [execDramTrained]
@[simp] theorem bootWritten_held (act : AfterFlash) (s : State) :
    held (bootWritten act s) = held s := by
  unfold bootWritten
  (repeat' split) <;> simp
@[simp] theorem bootRecord_held (act : AfterFlash) (s : State) :
    held (bootRecord act s) = held s := by
  unfold bootRecord
  split <;> simp
@[simp] theorem firstFrame_wf (s : State) (hw : MemsWf (held s).mems) : MemsWf (held (firstFrame s)).mems := by
  unfold firstFrame
  dsimp only
  split
  · exact wf_foldl _ _ _ (fun t _ ht => rowStep_wf _ _ _ t ht) (by simpa)
  · simpa
@[simp] theorem execStartupFirstTick_wf (s : State) (hw : MemsWf (held s).mems) :
    MemsWf (heldNext s (execStartupFirstTick s)).mems := by
  simp [execStartupFirstTick, hw]
@[simp] theorem commitStart_held (s : State) :
    held (commitStart s) = held s := by
  simp [commitStart]
@[simp] theorem fuseComplete_mems (s : State) :
    (held (fuseComplete s)).mems = (held s).mems := by
  simp [fuseComplete]
@[simp] theorem lockResume_held (s : State) :
    held (lockResume s) = held s := by
  simp [lockResume]
@[simp] theorem updateReport_held (s : State) :
    held (updateReport s) = held s := by
  unfold updateReport
  split <;> simp
@[simp] theorem startReports_held (s : State) :
    held (startReports s) = held s := by
  unfold startReports
  dsimp only
  split <;> simp
@[simp] theorem execStartupReady_mems (s : State) :
    (heldNext s (execStartupReady s)).mems = (held s).mems := by
  simp [execStartupReady]

/-! ### Machine/Flash -/

@[simp] theorem markedDone_held (j : FlashJob) (m : MarkWrite) (s : State) :
    held (markedDone j m s) = held s := by
  unfold markedDone
  split <;> simp
@[simp] theorem flashDone_held (j : FlashJob) (s : State) :
    held (flashDone j s) = held s := by
  unfold flashDone
  split <;> simp
@[simp] theorem flashGiveUp_held (j : FlashJob) (s : State) :
    held (flashGiveUp j s) = held s := by
  simp [flashGiveUp]
@[simp] theorem flashFail_held (j : FlashJob) (s : State) :
    held (flashFail j s) = held s := by
  unfold flashFail
  split <;> simp
@[simp] theorem execFlashWriteDone_held (ok : Bool) (s : State) :
    heldNext s (execFlashWriteDone ok s) = held s := by
  unfold execFlashWriteDone
  split <;> simp

/-! ### Machine/General -/

@[simp] theorem hbRestart_held (s : State) :
    held (hbRestart s) = held s := by
  simp [hbRestart]

/-! ### Machine/Lanes -/

@[simp] theorem laneTestStart_held (t : LaneTest) (n : Nat) (s : State) :
    held (laneTestStart t n s) = held s := by
  unfold laneTestStart
  dsimp only
  split <;> simp
@[simp] theorem linkTestBody_held (sub : Sub) (o : LinkTestOps) (s : State) :
    held (linkTestBody sub o s) = held s := by
  unfold linkTestBody
  dsimp only
  (repeat' split) <;> simp
@[simp] theorem execLinkTestEnd_held (lane : Fin 8) (s : State) :
    heldNext s (execLinkTestEnd lane s) = held s := by
  unfold execLinkTestEnd
  split <;> simp
@[simp] theorem execPrbsLock_held (lane : Fin 8) (s : State) :
    heldNext s (execPrbsLock lane s) = held s := by
  unfold execPrbsLock
  split <;> simp
@[simp] theorem execPrbsLockLoss_held (lane : Fin 8) (s : State) :
    heldNext s (execPrbsLockLoss lane s) = held s := by
  simp [execPrbsLockLoss]
@[simp] theorem eyeStart_held (sub : Sub) (lane : Nat) (full : Bool) (handle : Half) (offset : Nat) (s : State) :
    held (eyeStart sub lane full handle offset s) = held s := by
  simp [eyeStart]
@[simp] theorem eyeScanBody_held (sub : Sub) (lane form : Byte) (handle : Half) (offset : Word) (s : State) :
    held (eyeScanBody sub lane form handle offset s) = held s := by
  unfold eyeScanBody
  (repeat' split) <;> simp
@[simp] theorem eyeQuick_held (lane : Nat) (e : EyeScan) (across upright : List Half) (s : State) :
    held (eyeQuick lane e across upright s) = held s := by
  simp [eyeQuick]
@[simp] theorem eyeFull_wf (e : EyeScan) (counts : List Half) (s : State) (hw : MemsWf (held s).mems) :
    MemsWf (held (eyeFull e counts s)).mems := by
  unfold eyeFull
  split <;> simp [hw]
@[simp] theorem execEyeScanDone_wf (lane : Fin 8) (r : EyeResult) (s : State) (hw : MemsWf (held s).mems) :
    MemsWf (heldNext s (execEyeScanDone lane r s)).mems := by
  unfold execEyeScanDone
  (repeat' split) <;> simp [hw]

/-! ### Machine/TeamCmds -/

@[simp] theorem timeMode_held (mode : Byte) (value : Dword) (s : State) :
    held (timeMode mode value s) = held s := by
  unfold timeMode
  split <;> simp
@[simp] theorem timeSetBody_held (sub : Sub) (mode : Byte) (value : Dword) (s : State) :
    held (timeSetBody sub mode value s) = held s := by
  simp [timeSetBody]

/-! ### Machine/RingExec -/

/-- Every ring command is `ringCmd` of a body that keeps the memories in form and, unless it is PIXMAP_READ, what is shown. -/
theorem exec_ringBody (i : Instr) (p : Spelled) (h : spelled i = some p) :
    ∃ body, (∀ s, exec i s = ringCmd i body s)
      ∧ (∀ t, MemsWf (held t).mems → MemsWf (held (body t)).mems)
      ∧ ((∀ o, i ≠ .pixmapRead p.sub o) → ∀ t, (held (body t)).shown = (held t).shown) := by
  cases i
  case pixmapRead sub o =>
    cases h
    exact ⟨pixmapBody sub o, fun _ => rfl, fun t ht => by simp [ht], fun hne => absurd rfl (hne o)⟩
  all_goals first
    | (simp [spelled] at h; done)
    | exact ⟨_, fun _ => rfl, fun t ht => by simp [held_ite, ht], fun _ t => by simp [held_ite]⟩
theorem ringAnswer_eq (i : Instr) (p : Spelled) (s : State) (h : spelled i = some p) : ringAnswer i s = exec i s := by
  cases i <;> first | (simp [spelled] at h; done) | rfl
theorem ringAnswer_none (i : Instr) (s : State) (h : spelled i = none) : ringAnswer i s = .next s := by
  cases i
  case layerSet sub f => cases f <;> simp [spelled] at h
  all_goals first | (simp [spelled] at h; done) | rfl
theorem exec_ring_wf (i : Instr) (p : Spelled) (s : State) (h : spelled i = some p) (hw : MemsWf (held s).mems) :
    MemsWf (heldNext s (exec i s)).mems := by
  obtain ⟨body, hx, hb, -⟩ := exec_ringBody i p h
  rw [hx]
  exact ringCmd_wf i body s hb hw
@[simp] theorem ringExec_wf (i : Instr) (s : State) (hw : MemsWf (held s).mems) :
    MemsWf (held (ringExec i s)).mems := by
  have hx : MemsWf (heldNext s (ringAnswer i s)).mems := by
    cases h : spelled i with
    | none => rwa [ringAnswer_none i s h]
    | some p =>
      rw [ringAnswer_eq i p s h]
      exact exec_ring_wf i p s h hw
  unfold ringExec
  split
  · rename_i t e
    rwa [e] at hx
  · exact hw
@[simp] theorem entryStartOp_wf (b : Sub) (d : HostRead) (e : BitVec 512) (s : State) (hw : MemsWf (held s).mems) :
    MemsWf (held (entryStartOp b d e s)).mems := by
  unfold entryStartOp
  split
  · split
    · exact ringStart_wf _ _ _ _ (fun t ht => by simp [ht]) hw
    · exact hw
  · split
    · exact ringExec_wf _ _ hw
    · dsimp only
      split <;> simpa

/-! ### Machine/Rings -/

@[simp] theorem refusal_held (n : Nat) (e : BitVec 512) (st : Half) (s : State) :
    held (refusal n e st s) = held s := by
  simp [refusal]
@[simp] theorem headAnswer_held (n : Nat) (e : BitVec 512) (s : State) :
    held (headAnswer n e s) = held s := by
  unfold headAnswer
  dsimp only
  split <;> simp
@[simp] theorem headSettle_held (n k : Nat) (s : State) : held (headSettle n k s) = held s := by
  induction k generalizing s with
  | zero => rfl
  | succ k ih =>
    unfold headSettle
    split
    · rfl
    · split
      · rfl
      · simp [ih]
@[simp] theorem settleHeads_held (s : State) :
    held (settleHeads s) = held s := by
  simp [settleHeads]
@[simp] theorem fetchFailed_held (n : Fin 16) (s : State) :
    held (fetchFailed n s) = held s := by
  simp [fetchFailed]
@[simp] theorem fetchRead_held (n : Nat) (s : State) :
    held (fetchRead n s) = held s := by
  simp [fetchRead]
@[simp] theorem execEntryFetch_held (n : Fin 16) (r : FetchResult) (s : State) :
    heldNext s (execEntryFetch n r s) = held s := by
  unfold execEntryFetch
  (repeat' split) <;> simp
@[simp] theorem startHead_wf (n : Fin 16) (d : HostRead) (s : State) (hw : MemsWf (held s).mems) :
    MemsWf (held (startHead n d s)).mems := by
  unfold startHead
  split <;> simp [hw]
@[simp] theorem execEntryStart_wf (d : HostRead) (s : State) (hw : MemsWf (held s).mems) :
    MemsWf (heldNext s (execEntryStart d s)).mems := by
  unfold execEntryStart
  rw [heldNext_next]
  split
  · simpa
  · rename_i n g _
    have hg (t : State) : held { t with rng := g } = held t := rfl
    rw [settleHeads_held]
    exact startHead_wf (Fin.ofNat 16 n) d _ (by rwa [hg, settleHeads_held])

/-! ### Machine/Forward -/

@[simp] theorem routeOn_held (p : Fin 4) (dst : BitVec 11) (f : TFrame) (s : State) :
    held (routeOn p dst f s) = held s := by
  simp [routeOn]
@[simp] theorem routedRx_held (p : Fin 4) (h : FrameHdr) (f : TFrame) (body : State → State) (s : State)
    (hb : ∀ t, held (body t) = held t) : held (routedRx p h f body s) = held s :=
  treeRx_held p h true _ s fun t => by simp [held_ite, hb]
@[simp] theorem routedRx_wf (p : Fin 4) (h : FrameHdr) (f : TFrame) (body : State → State) (s : State)
    (hb : ∀ t, MemsWf (held t).mems → MemsWf (held (body t)).mems) (hw : MemsWf (held s).mems) :
    MemsWf (held (routedRx p h f body s)).mems :=
  treeRx_wf p h true _ s (fun t ht => by simp [held_ite, mems_ite, wf_ite, hb, ht]) hw
@[simp] theorem cmdAck_held (pl : CmdPl) (s : State) :
    held (cmdAck pl s) = held s := by
  simp [cmdAck]
@[simp] theorem cmdAnswer_held (pl : CmdPl) (o : BitVec 10) (w : OriginWindow) (s : State) :
    held (cmdAnswer pl o w s) = held s := by
  unfold cmdAnswer
  dsimp only
  split <;> simp
@[simp] theorem cmdStart_wf (b : Sub) (e : BitVec 512) (s : State) (hw : MemsWf (held s).mems) :
    MemsWf (held (cmdStart b e s)).mems := by
  unfold cmdStart
  split
  · exact leadForward_wf _ _ _ _ _ (fun t ht => entryStartOp_wf _ _ _ t ht) hw
  · split
    · simp [hw]
    · split
      · simp [hw]
      · simpa
@[simp] theorem cmdTake_wf (pl : CmdPl) (s : State) (hw : MemsWf (held s).mems) :
    MemsWf (held (cmdTake pl s)).mems := by
  simp [cmdTake, hw]
@[simp] theorem execCmd_wf (p : Fin 4) (h : FrameHdr) (hd : CmdHead) (data : BitVec 512) (s : State)
    (hw : MemsWf (held s).mems) : MemsWf (heldNext s (execCmd p h hd data s)).mems := by
  refine treeRx_wf p h true _ s (fun t ht => ?_) hw
  have hroute : MemsWf (held (if t.dstHere h.dst then t else routeOn p h.dst (.cmd h.dst (hd.pl data)) t)).mems := by
    simpa [held_ite]
  dsimp only
  generalize (if t.dstHere h.dst then t else routeOn p h.dst (.cmd h.dst (hd.pl data)) t) = u at hroute ⊢
  split
  · exact cmdTake_wf _ _ hroute
  · exact hroute
@[simp] theorem execCmdRetryTimer_held (ring : Fin 16) (seq : Word) (target : BitVec 10) (s : State) :
    heldNext s (execCmdRetryTimer ring seq target s) = held s := by
  unfold execCmdRetryTimer
  split <;> simp
@[simp] theorem groupsLearn_held (f : Forward) (engine : BitVec 10) (st : Half) (s : State) :
    held (groupsLearn f engine st s) = held s := by
  simp [groupsLearn]
@[simp] theorem cplAck_held (pl : CplPl) (eng : Half) (s : State) :
    held (cplAck pl eng s) = held s := by
  simp [cplAck]
@[simp] theorem targetLearn_held (key : Option (BitVec 10)) (n : Nat) (seq : Word) (eng : BitVec 10) (s : State) :
    held (targetLearn key n seq eng s) = held s := by
  simp [targetLearn]
@[simp] theorem cplTake_held (pl : CplPl) (s : State) :
    held (cplTake pl s) = held s := by
  unfold cplTake
  dsimp only
  split <;> simp
@[simp] theorem execCpl_held (p : Fin 4) (h : FrameHdr) (pl : CplPl) (s : State) :
    heldNext s (execCpl p h pl s) = held s := by
  simp [execCpl]
@[simp] theorem execCplRetryTimer_held (origin : BitVec 10) (ring : Fin 16) (seq : Word) (s : State) :
    heldNext s (execCplRetryTimer origin ring seq s) = held s := by
  unfold execCplRetryTimer
  split <;> simp
@[simp] theorem bulkTake_held (f : Forward) (pl : BulkPl) (s : State) :
    held (bulkTake f pl s) = held s := by
  simp [bulkTake]
@[simp] theorem readTake_wf (b : Sub) (pl : BulkPl) (s : State) (hw : MemsWf (held s).mems) :
    MemsWf (held (readTake b pl s)).mems := by
  unfold readTake
  dsimp only
  (repeat' split) <;> simp [hw]
@[simp] theorem execBulk_wf (p : Fin 4) (h : FrameHdr) (pl : BulkPl) (s : State) (hw : MemsWf (held s).mems) :
    MemsWf (heldNext s (execBulk p h pl s)).mems := by
  refine routedRx_wf p h _ _ s (fun t ht => ?_) hw
  split
  · exact readTake_wf _ _ _ ht
  · split <;> simpa
@[simp] theorem streamAck_held (t : Stream) (s : State) :
    held (streamAck t s) = held s := by
  unfold streamAck
  split <;> simp
@[simp] theorem execBulkRetryTimer_held (stream offset : Word) (s : State) :
    heldNext s (execBulkRetryTimer stream offset s) = held s := by
  unfold execBulkRetryTimer
  split <;> simp
@[simp] theorem e2eTake_held (pl : E2ePl) (s : State) :
    held (e2eTake pl s) = held s := by
  unfold e2eTake
  (repeat' split) <;> simp
@[simp] theorem execE2eAck_held (p : Fin 4) (h : FrameHdr) (pl : E2ePl) (s : State) :
    heldNext s (execE2eAck p h pl s) = held s := by
  simp [execE2eAck]
@[simp] theorem execEvent_held (p : Fin 4) (h : FrameHdr) (e : Event) (s : State) :
    heldNext s (execEvent p h e s) = held s := by
  simp [execEvent]

/-! ### Machine/Idle -/

@[simp] theorem idleStep_mems (s : State) :
    (held (idleStep s)).mems = (held s).mems := by
  simp [idleStep]
/-! ### Every command, and every step -/

/-- Every command keeps both memories in form. -/
theorem exec_wf (i : Instr) (s : State) (hw : MemsWf (held s).mems) : MemsWf (heldNext s (exec i s)).mems := by
  cases h : spelled i with
  | some p => exact exec_ring_wf i p s h hw
  | none =>
    cases i
    case layerSet sub f => cases f <;> simp [spelled] at h
    all_goals first | (simp [spelled] at h; done) | simp [exec, hw]

/-- Settles O58: every command, and the passing of time, keeps both memories in form. -/
theorem memoriesKept : Obligations.MemoriesKept := by
  intro s t hw hs
  rw [memoriesWf_iff] at hw ⊢
  unfold step at hs
  split at hs
  · rename_i c rest _
    have := exec_wf c { s with pending := rest } hw
    rwa [hs] at this
  · cases hs
    rwa [idleStep_mems]

/-- A correctable error met in a frame leaves the list of the uncorrectable ones. -/
theorem frameCe_ue (kind layer : Nat) (frame : Word) (us : List Nat) (q : List Raise × State) :
    (frameCe kind layer frame us q).2.pool.ue = q.2.pool.ue := by
  have hraise (l : List Nat) (q : List Raise × State) :
      (l.foldl (fun q u => frameMem fMemCe (unitOf u) kind layer frame q) q).2.pool = q.2.pool := by
    induction l generalizing q with
    | nil => rfl
    | cons u l ih =>
      rw [List.foldl_cons, ih]
      rfl
  unfold frameCe
  dsimp only
  rw [hraise]
  rfl

/-- What is held once units of the map that are met uncorrectable are taken out of it. -/
def Held.without (h : Held) (bad : List Nat) : Held :=
  { h with ueRows := h.ueRows ++ bad, map := h.map.filter fun c => !bad.contains (pixUnit c.1) }

theorem Held.without_nil (h : Held) : h.without [] = h := by
  simp [Held.without]

/-- R144: a meeting of the map takes out the bytes of the units that it finds uncorrectable. -/
theorem pixMeet_without (frame : Word) (inside : Nat → Bool) (q : List Raise × State) :
    ∃ bad, held (pixMeet frame inside q).2 = (held q.2).without bad ∧ ∀ u ∈ bad, u ∈ q.2.pool.ue := by
  have hce := frameCe_held 3 0 frame (q.2.pool.ce.filter inside) q
  have hue := frameCe_ue 3 0 frame (q.2.pool.ce.filter inside) q
  unfold pixMeet
  dsimp only
  generalize frameCe 3 0 frame (q.2.pool.ce.filter inside) q = r at hce hue
  rw [held_foldl_snd _ _ _ fun t u => frameMem_held ..]
  refine ⟨r.2.pool.ue.filter fun u => inside u && !r.2.hlt.ueRows.contains u, ?_, fun u hu => ?_⟩
  · rw [← hce]
    rfl
  · rw [← hue]
    exact (List.mem_filter.1 hu).1

/-- PIXMAP_READ beside: what is shown stays. -/
theorem pixmapBody_without (sub : Sub) (o : PixmapOps) (s : State) :
    ∃ bad, (held (pixmapBody sub o s)).shown = ((held s).without bad).shown ∧ ∀ u ∈ bad, u ∈ s.pool.ue := by
  unfold pixmapBody
  split
  · exact ⟨[], by simp [Held.without_nil], by simp⟩
  · obtain ⟨bad, hheld, hbad⟩ := pixMeet_without s.frm.frame
      (fun u => decide (pixmapBase + 2048 * o.firstRow.toNat ≤ u
        ∧ u < pixmapBase + 2048 * o.firstRow.toNat + 2048 * o.rows.toNat)) ([], s)
    refine ⟨bad, ?_, hbad⟩
    dsimp only
    rw [reply_shown, raised_held, hheld]

/-- Every ring command, on whatever path it takes. -/
theorem exec_ring_without (i : Instr) (p : Spelled) (s t : State) (h : spelled i = some p) (hx : exec i s = .next t) :
    ∃ bad, (held t).shown = ((held s).without bad).shown ∧ (∀ u ∈ bad, u ∈ s.pool.ue)
      ∧ ((∀ o, i ≠ .pixmapRead p.sub o) → bad = []) := by
  by_cases hpix : ∃ o, i = .pixmapRead p.sub o
  · obtain ⟨o, rfl⟩ := hpix
    obtain hstay | ⟨u, hheld, hue, hrun⟩ := ringCmd_path (.pixmapRead p.sub o) (pixmapBody p.sub o) s t hx
    · exact ⟨[], by rw [Held.without_nil, hstay], by simp, fun _ => rfl⟩
    · obtain ⟨bad, hread, hbad⟩ := pixmapBody_without p.sub o u
      exact ⟨bad, by rw [hrun, hread, hheld], fun x hx => hue ▸ hbad x hx, fun hne => absurd rfl (hne o)⟩
  · have hne : ∀ o, i ≠ .pixmapRead p.sub o := fun o e => hpix ⟨o, e⟩
    obtain ⟨body, hring, -, hshown⟩ := exec_ringBody i p h
    obtain hstay | ⟨u, hheld, -, hrun⟩ := ringCmd_path i body s t (hring s ▸ hx)
    · exact ⟨[], by rw [Held.without_nil, hstay], by simp, fun _ => rfl⟩
    · exact ⟨[], by rw [Held.without_nil, hrun, hshown hne, hheld], by simp, fun _ => rfl⟩

/-- Settles O60: only PIXMAP_READ meets the fault map; no other body of a ring command, and nothing before or behind one, touches what
is shown. -/
theorem ringCommandsKeepTheArray : Obligations.RingCommandsKeepTheArray := by
  intro i p s t h hx
  obtain ⟨bad, hshown, hbad, hnil⟩ := exec_ring_without i p s t h hx
  injection hshown with ha hcrc hframe htick hch hidn hrows hmap
  exact ⟨ha, hcrc, hframe, htick, hch, hidn, bad, hrows, hbad, hmap, hnil⟩

end Sys2Proof.Laws
end

section
/-!
Ring commands, what is common to all: the checks of an entry in their order, entries that wait or go on, the beginning of an
own entry, completions, and the four general commands: O4, O6, O7, O8, O9.
-/
namespace Sys2Proof.Laws

open Sys2Proof.Machine Sys2Proof.Claims

/-- A ring command that starts: the checks, then the command or its forwarding. -/
theorem exec_starts (i : Instr) (p : Spelled) (s : State) (h : spelled i = some p) (hs : s.serves p = true) :
    ∃ body, (∀ t, exec i t = ringCmd i body t) ∧ exec i s = .next (ringStart p (hostAnswer i) body s) := by
  obtain ⟨body, hring, -, -⟩ := exec_ringBody i p h
  exact ⟨body, hring, by rw [hring, ringCmd_starts body h hs]⟩

/-- A ring command that does not start changes nothing. -/
theorem exec_waits (i : Instr) (p : Spelled) (s : State) (h : spelled i = some p) (hs : s.serves p = false) :
    exec i s = .next s := by
  obtain ⟨body, hring, -, -⟩ := exec_ringBody i p h
  rw [hring, ringCmd_waits body h hs]

/-- An entry that fails a check of R228 ends with its status. -/
theorem ringStart_refused (p : Spelled) (d : HostRead) (body : State → State) (s : State) (st : Half)
    (h : s.entryCheck p = some st) : ringStart p d body s = finish p.row.op p.sub st 0 (startWindow p s) := by
  simp only [ringStart, startWindow_entryCheck, h]

/-- Table 10.6: the targets that a kind of command accepts. -/
theorem targetOk_iff (k : TargetKind) (t : BitVec 11) :
    targetOk k t = true ↔ match k with
      | .any => t.toNat ≤ 0x400 ∨ (0x600 ≤ t.toNat ∧ t.toNat ≤ 0x6FF) ∨ t = 0x7FF
      | .single => t.toNat ≤ 0x400
      | .localOnly => t = 0x400 := by
  cases k <;> simp [targetOk, groupTarget]

/-- Settles O4: each clause is the next check of `State.entryCheck`, or the session behind them. -/
theorem entryChecksInOrder : Obligations.EntryChecksInOrder := by
  intro i p s h hs t ends wrongRing wrongState group single accepted
  obtain ⟨body, -, hx⟩ := exec_starts i p s h hs
  have hends (st : Half) (hc : s.entryCheck p = some st) : ends st := by
    simp only [ends, hx, ringStart_refused _ _ _ _ _ hc, t]
  have hring : wrongRing ↔ (p.row.admin && p.sub.ring.val != 0) = true := by
    simp only [wrongRing, Bool.and_eq_true, bne_iff_ne, ne_eq, Fin.val_eq_zero_iff]
  have hstate : wrongState ↔ (s.pwr.mode == .halter && !p.row.halter) = true := by simp [wrongState]
  have htarget : accepted ↔ targetOk p.row.target p.sub.target = true :=
    (targetOk_iff _ _).symm
  refine ⟨fun h1 => ?_, fun h1 h2 => ?_, fun h1 h2 h3 => ?_, fun h1 h2 h3 h4 h5 => ?_, fun h1 h2 h3 h4 h5 h6 h7 h8 h9 => ?_⟩
  · exact hends _ (by rw [State.entryCheck, if_pos (hring.1 h1)])
  · exact hends _ (by rw [State.entryCheck, if_neg (hring.not.1 h1), if_pos (hstate.1 h2)])
  · exact hends _ (by
      rw [State.entryCheck, if_neg (hring.not.1 h1), if_neg (hstate.not.1 h2), if_pos (by simpa using htarget.not.1 h3)])
  · exact hends _ (by
      rw [State.entryCheck, if_neg (hring.not.1 h1), if_neg (hstate.not.1 h2), if_neg (by simpa using htarget.1 h3),
        if_pos (by simp [h4, h5])])
  · have hc : s.entryCheck p = none := by
      rw [State.entryCheck, if_neg (hring.not.1 h1), if_neg (hstate.not.1 h2), if_neg (by simpa using htarget.1 h3),
        if_neg (by rcases h4 with h4 | h4 <;> simp [h4])]
    simp [ends, hx, ringStart, hc, h5, runHere, h6, h7, h8, h9, t]

/-- Settles O6: `startWindow` of an own entry, and `sessionTouch` where the row needs a session. -/
theorem begunFrame : Obligations.BegunFrame := by
  intro i p s h ho n
  have hs : startWindow p s = windowOpen n p.sub.seq (digestOf p.entry) s := by simp [startWindow, ho, n]
  rw [begun, h]
  dsimp only
  rw [hs]
  cases p.row.session
  · rfl
  · rfl

/-! ### Completions of the own rings -/

theorem mapRing_kept {α : Type} (p : Ring → α) (n k : Nat) (f : Ring → Ring) (s : State) (h : ∀ r, p (f r) = p r) :
    p ((mapRing n f s).ring k) = p (s.ring k) := by
  simp only [State.ring, mapRing_frame, List.getD_eq_getElem?_getD, List.getElem?_modify]
  by_cases hk : n = k
  · subst hk
    cases s.rng.q[n]? with
    | none => rfl
    | some r => simp [h]
  · simp [hk]

/-- The writing of completions: it keeps what `p` reads of each ring, the event ring, and what the flight log holds in
DRAM. -/
structure CqKept {α : Type} (p : Ring → α) (s t : State) : Prop where
  length : t.rng.q.length = s.rng.q.length
  ring : ∀ k, p (t.ring k) = p (s.ring k)
  eq : t.rng.eq = s.rng.eq
  urgent : t.rng.urgentRun = s.rng.urgentRun
  dram : t.lg.dram = s.lg.dram
  next : t.lg.next = s.lg.next

/-- What a repeat keeps of its ring. -/
def ringEntries (r : Ring) : List WinEntry × List Sub × List Sub := (r.window, r.running, r.muted)

/-- What a completion keeps of its ring. -/
def ringEntriesHeld (r : Ring) : List (Word × Dword) × List WinEntry × List Sub × List Sub := (r.held, ringEntries r)

section
variable {α : Type} {p : Ring → α}

theorem CqKept.refl (s : State) : CqKept p s s := ⟨rfl, fun _ => rfl, rfl, rfl, rfl, rfl⟩

theorem CqKept.trans {s t u : State} (h : CqKept p s t) (k : CqKept p t u) : CqKept p s u :=
  ⟨k.length.trans h.length, fun i => (k.ring i).trans (h.ring i), k.eq.trans h.eq, k.urgent.trans h.urgent,
    k.dram.trans h.dram, k.next.trans h.next⟩

theorem CqKept.of_rng {s t : State} (h : t.rng = s.rng) (hd : t.lg.dram = s.lg.dram) (hn : t.lg.next = s.lg.next) :
    CqKept p s t := by
  have hk (k : Nat) : t.ring k = s.ring k := by simp only [State.ring, h]
  exact ⟨by rw [h], fun k => by rw [hk], by rw [h], by rw [h], hd, hn⟩

theorem CqKept.comp {β : Type} (g : α → β) {s t : State} (h : CqKept p s t) : CqKept (fun r => g (p r)) s t :=
  ⟨h.length, fun k => congrArg g (h.ring k), h.eq, h.urgent, h.dram, h.next⟩

theorem cqKept_mapRing (n : Nat) (f : Ring → Ring) (s : State) (h : ∀ r, p (f r) = p r) : CqKept p s (mapRing n f s) :=
  ⟨mapRing_length .., fun k => mapRing_kept p n k f s h, rfl, rfl, rfl, rfl⟩

theorem cqKept_busSend (o : BusOut) (s : State) : CqKept p s (busSend o s) := .of_rng rfl rfl rfl

theorem cqKept_logCompletion (op : Nat) (o : Option (BitVec 10)) (c : Completion) (s : State) :
    CqKept p s (logCompletion op o c s) := .of_rng rfl rfl rfl

end

theorem cqKept_cqModCheck (n : Nat) (s : State) : CqKept ringEntriesHeld s (cqModCheck n s) := by
  rcases cqModCheck_cases n s with h | ⟨v, h⟩
  · rw [h]; exact .refl s
  · rw [h, msixSend_frame]
    refine CqKept.trans ?_ (cqKept_mapRing _ _ _ ?_)
    · exact .of_rng rfl rfl rfl
    · exact fun _ => rfl

theorem cqKept_cqWrite (op : Nat) (ioc : Bool) (c : Completion) (s : State) :
    CqKept ringEntriesHeld s (cqWrite op ioc c s) := by
  have hlog : CqKept ringEntriesHeld s (logCompletion op none c s) := cqKept_logCompletion ..
  unfold cqWrite
  dsimp only
  split
  · exact hlog
  · split
    · refine CqKept.trans ?_ (cqKept_cqModCheck ..)
      refine CqKept.trans ?_ (cqKept_mapRing _ _ _ ?_)
      · exact hlog.trans (cqKept_busSend ..)
      · exact fun _ => rfl
    · refine CqKept.trans ?_ (cqKept_mapRing _ _ _ ?_)
      · exact hlog.trans (cqKept_busSend ..)
      · exact fun _ => rfl

theorem cqKept_heldRelease (op n : Nat) (ioc : Bool) (seq : Word) (s : State) :
    CqKept ringEntries s (heldRelease op n ioc seq s) := by
  have hfold (e : WinEntry) (l : List (Word × Dword)) (t : State) :
      CqKept ringEntries t (l.foldl (fun s h => cqWrite op ioc (dupCompletion n e h.2) s) t) := by
    induction l generalizing t with
    | nil => exact .refl t
    | cons a l ih => exact ((cqKept_cqWrite ..).comp Prod.snd).trans (ih _)
  unfold heldRelease
  dsimp only
  split
  · exact .refl s
  · exact (hfold _ _ _).trans (cqKept_mapRing _ _ _ fun _ => rfl)

/-- What a completion puts on the link: its 32 bytes at the CQ tail, and at most one message behind it, with IOC only. -/
theorem cqWrite_out (op : Nat) (ioc : Bool) (c : Completion) (s : State) (he : (s.ring c.ring.toNat).enabled = true)
    (hl : s.bus.linkUp = true) (hm : s.bus.master = true) (hd : s.bus.d3 = false) :
    ∃ m, (cqWrite op ioc c s).bus.out = s.bus.out
        ++ BusOut.memWrite (BitVec.ofNat 64 (s.cfg64 (ringReg c.ring.toNat 0x08) + 32 * (s.ring c.ring.toNat).cqTail))
            (cplBytes c (s.ring c.ring.toNat).cqPhase) :: m
      ∧ m.length ≤ 1 ∧ (ioc = false → m = []) := by
  have hlog : ∀ t, t = logCompletion op none c s → t.bus = s.bus := by rintro t rfl; rfl
  unfold cqWrite
  dsimp only
  rw [if_neg (by simp [he, hlog _ rfl, hl]), busSend_out _ (logCompletion op none c s) hm hd]
  cases ioc with
  | false => exact ⟨[], rfl, by simp, fun _ => rfl⟩
  | true =>
    rw [if_pos rfl]
    generalize hu : mapRing c.ring.toNat _ _ = u
    have hb : u.bus.out = s.bus.out
        ++ [BusOut.memWrite (BitVec.ofNat 64 (s.cfg64 (ringReg c.ring.toNat 0x08) + 32 * (s.ring c.ring.toNat).cqTail))
            (cplBytes c (s.ring c.ring.toNat).cqPhase)] := by rw [← hu]; rfl
    rcases cqModCheck_cases c.ring.toNat u with h | ⟨v, h⟩
    · exact ⟨[], by rw [h, hb], by simp, by simp⟩
    · obtain ⟨⟨m, h1, h2⟩, -⟩ := msixSend_bus v u
      refine ⟨m, ?_, h2, by simp⟩
      rw [h]
      show (msixSend v u).bus.out = _
      rw [h1, hb, List.append_assoc, List.singleton_append]

/-- The entry completed last stands at the end of the window. -/
theorem mem_windowTrim_done (l : List WinEntry) (w : WinEntry) (h : w.done = true) : w ∈ windowTrim (l ++ [w]) := by
  have hf : (l ++ [w]).filter WinEntry.done = l.filter WinEntry.done ++ [w] := by simp [List.filter_append, h]
  unfold windowTrim
  dsimp only
  rw [hf, List.drop_append_of_le_length (by simp)]
  simp

theorem windowTrim_subset (l : List WinEntry) : ∀ e ∈ windowTrim l, e ∈ l := by
  intro e he
  rcases List.mem_append.1 he with h | h
  · exact List.mem_of_mem_filter h
  · exact List.mem_of_mem_filter (List.mem_of_mem_drop h)

theorem windowTrim_count (l : List WinEntry) : ((windowTrim l).filter WinEntry.done).length ≤ 64 := by
  unfold windowTrim
  dsimp only
  rw [List.filter_append, List.filter_filter]
  have : (l.filter fun e => e.done && !e.done) = [] := by simp
  rw [this, List.nil_append]
  refine (List.length_filter_le _ _).trans ?_
  rw [List.length_drop]
  omega

/-- R225: a completed entry in the window. -/
theorem windowDone_of_find (l : List WinEntry) (seq : Word) (st : Half) (res t : Dword) (w : WinEntry)
    (h : l.find? (fun e => e.seq == seq) = some w) :
    { w with done := true, status := st, result := res, tDone := t } ∈ windowDone l seq st res t
    ∧ (∀ e ∈ windowDone l seq st res t, e.seq = seq → e.done = true)
    ∧ ((windowDone l seq st res t).filter WinEntry.done).length ≤ 64 := by
  simp only [windowDone, h]
  refine ⟨mem_windowTrim_done _ _ rfl, fun e he hs => ?_, windowTrim_count _⟩
  rcases List.mem_append.1 (windowTrim_subset _ e he) with h1 | h1
  · simp [hs] at h1
  · rw [List.mem_singleton.1 h1]

/-- The state after which the completion of an own entry is written. -/
def cqReady (sub : Sub) (st : Half) (res tDone : Dword) (s : State) : State :=
  mapRing sub.ring.val (fun r =>
    { r with
      window := windowDone r.window sub.seq st res tDone
      running := r.running.filter fun b => b.seq != sub.seq }) s

/-- The completion of an own entry. -/
def ownCompletion (sub : Sub) (st : Half) (res tDone : Dword) : Completion :=
  { seq := sub.seq, status := st, ring := BitVec.ofNat 8 sub.ring.val, dup := false, gap := sub.gap, tag := sub.tag
    tDone := tDone, result := res }

theorem ownCompletion_ring (sub : Sub) (st : Half) (res tDone : Dword) :
    (ownCompletion sub st res tDone).ring.toNat = sub.ring.val := by
  have := sub.ring.isLt
  simp only [ownCompletion, BitVec.toNat_ofNat]
  omega

theorem ownDone_due (op : Nat) (sub : Sub) (st : Half) (res t : Dword) (s : State) (h : sub.reply = .due) :
    ownDone op sub st res t s = heldRelease op sub.ring.val sub.ioc sub.seq
      (cqWrite op sub.ioc (ownCompletion sub st res t) (cqReady sub st res t s)) := by
  simp only [ownDone, h, ne_eq, not_true_eq_false, if_false]
  rfl

theorem ownCompletion_bytes (sub : Sub) (st : Half) (res t : Dword) (phase : Bool) :
    cplBytes (ownCompletion sub st res t) phase =
      leBytes sub.seq.toNat 4 ++ leBytes st.toNat 2 ++ leBytes sub.ring.val 1
        ++ leBytes ((if phase then 1 else 0) + (if sub.gap then 4 else 0)) 1
        ++ leBytes sub.tag.toNat 8 ++ leBytes t.toNat 8 ++ leBytes res.toNat 8 := by
  have hg : flag phase + 2 * flag false + 4 * flag sub.gap = (if phase then 1 else 0) + (if sub.gap then 4 else 0) := by
    cases phase <;> cases sub.gap <;> rfl
  have hb := ownCompletion_ring sub st res t
  simp only [ownCompletion] at hb
  simp only [cplBytes, ownCompletion, b8, b4, b2, b1, hb, hg]

theorem cqReady_ring (sub : Sub) (st : Half) (res t : Dword) (s : State) (h : s.rng.q.length = 16) (k : Nat) :
    (cqReady sub st res t s).ring k = if k = sub.ring.val then
      { s.ring sub.ring.val with
        window := windowDone (s.ring sub.ring.val).window sub.seq st res t
        running := (s.ring sub.ring.val).running.filter fun b => b.seq != sub.seq } else s.ring k :=
  mapRing_ring _ _ _ _ (by have := sub.ring.isLt; omega)

/-- With no repeat held behind it, the completion of an own entry is one write. -/
theorem ownDone_write (op : Nat) (sub : Sub) (st : Half) (res t : Dword) (s : State) (hr : sub.reply = .due)
    (hh : ∀ h ∈ (s.ring sub.ring.val).held, h.1 ≠ sub.seq) :
    ownDone op sub st res t s = cqWrite op sub.ioc (ownCompletion sub st res t) (cqReady sub st res t s) := by
  have hw : ((cqWrite op sub.ioc (ownCompletion sub st res t) (cqReady sub st res t s)).ring sub.ring.val).held
      = (s.ring sub.ring.val).held :=
    (congrArg Prod.fst ((cqKept_cqWrite ..).ring _)).trans (mapRing_kept Ring.held _ _ _ _ fun _ => rfl)
  rw [ownDone_due _ _ _ _ _ _ hr, heldRelease_none _ _ _ _ _ (by rwa [hw])]

/-- The ring of an own entry behind its completion. -/
theorem ownDone_due_ring (op : Nat) (sub : Sub) (st : Half) (res t : Dword) (s : State) (hr : sub.reply = .due)
    (h : s.rng.q.length = 16) :
    ringEntries ((ownDone op sub st res t s).ring sub.ring.val) =
      (windowDone (s.ring sub.ring.val).window sub.seq st res t,
        (s.ring sub.ring.val).running.filter (fun b => b.seq != sub.seq), (s.ring sub.ring.val).muted) := by
  rw [ownDone_due _ _ _ _ _ _ hr, (cqKept_heldRelease ..).ring]
  refine (congrArg Prod.snd ((cqKept_cqWrite ..).ring _)).trans ?_
  rw [cqReady_ring _ _ _ _ _ h, if_pos rfl]
  rfl

/-- A completion keeps the event ring, the turn of the rings, and the flight log's part in DRAM. -/
theorem cqKept_ownDone (op : Nat) (sub : Sub) (st : Half) (res t : Dword) (s : State) :
    CqKept (fun _ => ()) s (ownDone op sub st res t s) := by
  by_cases hr : sub.reply = .due
  · rw [ownDone_due _ _ _ _ _ _ hr]
    refine CqKept.trans ?_ ((cqKept_heldRelease ..).comp fun _ => ())
    refine CqKept.trans ?_ ((cqKept_cqWrite ..).comp fun _ => ())
    exact cqKept_mapRing _ _ _ fun _ => rfl
  · simp only [ownDone, ne_eq, hr, not_false_eq_true, if_true, mutedDone]
    split
    · exact cqKept_mapRing _ _ _ fun _ => rfl
    · refine CqKept.trans ?_ ((cqKept_heldRelease ..).comp fun _ => ())
      refine CqKept.trans ?_ (cqKept_mapRing _ _ _ fun _ => rfl)
      exact cqKept_mapRing _ _ _ fun _ => rfl

theorem mapRing_mapRing (n : Nat) (f g : Ring → Ring) (s : State) :
    mapRing n f (mapRing n g s) = mapRing n (f ∘ g) s := by
  simp only [mapRing, State.mapRng, List.modify_modify_eq]

/-- R212: a command that was running when its ring was disabled ends without a completion. -/
theorem ownDone_muted (op : Nat) (sub : Sub) (st : Half) (res t : Dword) (s : State) (hr : sub.reply ≠ .due)
    (hh : ∀ h ∈ (s.ring sub.ring.val).held, h.1 ≠ sub.seq) :
    ownDone op sub st res t s = mapRing sub.ring.val (fun r =>
      { r with
        muted := r.muted.erase sub
        window := if sub.reply = .lost then r.window else windowDone r.window sub.seq st res t }) s := by
  simp only [ownDone, ne_eq, hr, not_false_eq_true, if_true, mutedDone]
  by_cases hl : sub.reply = .lost
  · simp only [hl, if_true]
  · simp only [hl, if_false]
    rw [mapRing_mapRing, heldRelease_none]
    · rfl
    · intro x hx
      refine hh x ((congrArg (x ∈ ·) (mapRing_kept Ring.held _ _ _ _ ?_)).mp hx)
      exact fun _ => rfl

theorem ownDone_own_ring (op : Nat) (sub : Sub) (st : Half) (res t : Dword) (s : State) (hr : sub.reply = .due)
    (hh : ∀ h ∈ (s.ring sub.ring.val).held, h.1 ≠ sub.seq) (hq : s.rng.q.length = 16)
    (he : (s.ring sub.ring.val).enabled = true) (hl : s.bus.linkUp = true) :
    let n := sub.ring.val
    let r := s.ring n
    let u := ownDone op sub st res t s
    (u.ring n).cqTail = (if r.cqTail + 1 < s.cqSize n then r.cqTail + 1 else 0)
     ∧ (u.ring n).cqPhase = (if r.cqTail + 1 < s.cqSize n then r.cqPhase else !r.cqPhase)
     ∧ (u.ring n).lastSeq = r.lastSeq ∧ (u.ring n).sqTail = r.sqTail ∧ (u.ring n).sqHead = r.sqHead
     ∧ ∀ k, k ≠ n → u.ring k = s.ring k := by
  intro n r u
  have hn := ownCompletion_ring sub st res t
  have hr' := cqReady_ring sub st res t s hq
  have hlen : (cqReady sub st res t s).rng.q.length = 16 := by rw [cqReady, mapRing_length, hq]
  have hlt := sub.ring.isLt
  obtain ⟨⟨mc, ms, h1⟩, h2, -⟩ := cqWrite_ring op sub.ioc (ownCompletion sub st res t) (cqReady sub st res t s)
    (by rw [hn, hlen]; exact hlt) (by rw [hn, hr', if_pos rfl]; exact he) hl
  rw [hn, hr', if_pos rfl] at h1
  have hu : u = cqWrite op sub.ioc (ownCompletion sub st res t) (cqReady sub st res t s) := ownDone_write _ _ _ _ _ _ hr hh
  rw [hu]
  refine ⟨by rw [h1]; rfl, by rw [h1]; rfl, by rw [h1], by rw [h1], by rw [h1], fun k hk => ?_⟩
  rw [h2 k (by rw [hn]; exact hk), hr', if_neg hk]

/-- R218: the `RESULT` of a completion: zero outside 0x00xx. -/
def resultWord (st : Half) (res : Dword) : Dword := if st.toNat < 256 then res else 0

theorem finish_ownDone (op : Nat) (sub : Sub) (st : Half) (res : Dword) (s : State) (ho : sub.origin = none)
    (hf : s.fwdBy none sub.ring.val sub.seq sub.reply = none) :
    finish op sub st res s = ownDone op sub st (resultWord st res) s.now s := by
  rw [finish_own op sub st res s ho hf]
  simp [resultWord, isSuccess]

@[simp] theorem leBytes_length (n k : Nat) : (leBytes n k).length = k := by
  induction k generalizing n with
  | zero => rfl
  | succ k ih => rw [leBytes, List.length_cons, ih]

theorem pad16_of_length (l : List Byte) (h : l.length = 16) : pad16 l = l := by
  rw [pad16, List.take_append_of_le_length (by omega), List.take_of_length_le (by omega)]

/-- Settles O7: `ownDone` is one write at the CQ tail behind the change of the ring's window, and touches nothing else. -/
theorem ownCompletions : Obligations.OwnCompletions := by
  refine ⟨?_, ?_, ?_⟩
  · intro op sub st res s n r size t ho hr hf hq he hl hm hd hh
    have ht : t = ownDone op sub st (resultWord st res) s.now s :=
      finish_ownDone _ _ _ _ _ ho (by rw [hr]; exact hf)
    have hn := ownCompletion_ring sub st (resultWord st res) s.now
    have hring := cqReady_ring sub st (resultWord st res) s.now s hq
    obtain ⟨c1, c2, c3, c4, c5, c6⟩ := ownDone_own_ring op sub st (resultWord st res) s.now s hr hh hq he hl
    rw [ht]
    refine ⟨?_, c1, c2, c3, c4, c5, fun k _ hk => c6 k hk⟩
    have hout := cqWrite_out op sub.ioc (ownCompletion sub st (resultWord st res) s.now)
      (cqReady sub st (resultWord st res) s.now s) (by rw [hn, hring, if_pos rfl]; exact he) hl hm hd
    rw [ownCompletion_bytes, hn, hring, if_pos rfl] at hout
    rw [ownDone_write _ _ _ _ _ _ hr hh]
    exact hout
  · intro op sub st res s n t ho hr hf hq w hw
    have ht : t = ownDone op sub st (resultWord st res) s.now s :=
      finish_ownDone _ _ _ _ _ ho (by rw [hr]; exact hf)
    have hring := ownDone_due_ring op sub st (resultWord st res) s.now s hr hq
    simp only [ringEntries, Prod.mk.injEq] at hring
    obtain ⟨hwin, hrun, -⟩ := hring
    obtain ⟨h1, h2, h3⟩ := windowDone_of_find _ sub.seq st (resultWord st res) s.now w hw
    rw [ht]
    rw [← hwin] at h1
    refine ⟨⟨_, h1, by simpa using List.find?_some hw, rfl, rfl, rfl, rfl, rfl⟩, by rw [hwin]; exact h2,
      by rw [hwin]; exact h3, fun b hb => ?_⟩
    rw [hrun] at hb
    simpa using (List.mem_filter.1 hb).2
  · intro op sub st res s ho hf t
    have ht : t = ownDone op sub st (resultWord st res) s.now s := finish_ownDone _ _ _ _ _ ho hf
    have hk := cqKept_ownDone op sub st (resultWord st res) s.now s
    rw [← ht] at hk
    refine ⟨?_, hk.eq, hk.urgent, hk.dram, hk.next, fun hr hh hq => ?_, fun hr hh => ?_⟩
    · rw [ht]; exact ownDone_frame ..
    · rw [ht, ownDone_muted _ _ _ _ _ _ hr hh, mapRing_ring _ _ _ _ (by have := sub.ring.isLt; omega), if_pos rfl]
      exact ⟨rfl, rfl, rfl, rfl, rfl⟩
    · rw [ht, ownDone_write _ _ _ _ _ _ hr hh, cqWrite_frame]
      refine ⟨_, rfl, rfl, ?_, rfl, ?_⟩
      · simp [ownCompletion]
      · have hb := ownCompletion_ring sub st (resultWord st res) s.now
        have hg : 2 * flag false + 4 * flag sub.gap + 8 * flag (none : Option (BitVec 10)).isSome = if sub.gap then 4 else 0 := by
          cases sub.gap <;> rfl
        dsimp only
        rw [pad16_of_length _ (by simp [b4, b2, b1]), hb]
        exact congrArg (fun x => leBytes sub.seq.toNat 4 ++ leBytes sub.ring.val 1 ++ leBytes op 1
               ++ leBytes x 1 ++ leBytes 0 1 ++ leBytes 0x3FF 2 ++ leBytes (resultWord st res).toNat 6) hg

/-- What a port sends depends on the team record through the engine's number only, and on no log. -/
theorem portSend_outside (p : Fin 4) (f : TFrame) (s : State) (m : Machine.Team) (l : Machine.Log) (h : m.id = s.tm.id) :
    portSend p f { s with tm := m, lg := l } = { portSend p f s with tm := m, lg := l } := by
  have hw (q : Port) (rseq : Word) (x : Bool) :
      State.wire { s with tm := m, lg := l } p q rseq x f = s.wire p q rseq x f := by
    simp only [State.wire, State.engineId, h]; rfl
  have he (rseq : Word) : portEmit p rseq false f { s with tm := m, lg := l } =
      { portEmit p rseq false f s with tm := m, lg := l } := by
    simp only [portEmit, State.port, hw]; rfl
  unfold portSend
  simp only [he]
  have hp : State.port { s with tm := m, lg := l } p = s.port p := rfl
  simp only [hp]
  split
  · rfl
  split
  · rfl
  split <;> rfl

theorem flood_outside (b : Bool) (e : Option (Fin 4)) (f : TFrame) (s : State) (m : Machine.Team) (l : Machine.Log)
    (h : m.id = s.tm.id) :
    flood b e f { s with tm := m, lg := l } = { flood b e f s with tm := m, lg := l } := by
  unfold flood
  generalize allPorts = ps
  induction ps generalizing s with
  | nil => rfl
  | cons p ps ih =>
    have hp : State.port { s with tm := m, lg := l } p = s.port p := rfl
    simp only [List.foldl_cons, hp]
    split
    · exact ih s h
    · rw [portSend_outside _ _ _ _ _ h]
      exact ih _ (by rw [portSend_frame]; exact h)

theorem portSend_out (q : Fin 4) (f : TFrame) (s : State) (hu : (s.port q).state = .up) (hf : f.reliable = true)
    (he : (s.port q).queue = []) (hr : (s.port q).room f = true) :
    (portSend q f s).trc.out = s.trc.out
        ++ [⟨q.val, (s.port q).txFcnt, (s.port q).txRseq, (s.port q).rxNext, false, f,
            s.wire q.val (s.port q) (s.port q).txRseq false f⟩] := by
  simp [portSend, hu, hf, he, hr, mapPort, portEmit, State.mapTrc]

/-- Settles O8: the completion is put among those owed, then sent; what is sent reads nothing of what was changed. -/
theorem completionForOrigin : Obligations.CompletionForOrigin := by
  intro op sub o st res s ho hf c pl
  have hres : (if isSuccess st then res else 0) = if st.toNat < 256 then res else 0 := by simp [isSuccess]
  let u := (logCompletion op (some o) c
    (mapOrigin o sub.ring.val (fun w => { w with window := windowDone w.window sub.seq st c.result s.now }) s)).mapTm
      fun t => { t with owed := t.owed.filter (fun w => w.pl != pl) ++ [⟨o, pl, []⟩] }
  have hu : u = { s with tm := u.tm, lg := u.lg } := rfl
  have hid : u.tm.id = s.tm.id := rfl
  have howed : ⟨o, pl, []⟩ ∈ u.tm.owed := by simp [u, State.mapTm]
  have hx : finish op sub st res s =
      if s.tm.leading = true then sendDown (.cpl (o.zeroExtend 11) pl) u else sendUp (.cpl 0x400 pl) u := by
    have hfw : (mapOrigin o sub.ring.val (fun w => { w with window := windowDone w.window sub.seq st c.result s.now }) s).fwd
        (some o) sub.ring.val sub.seq = none := hf
    simp only [finish, finishAt, ho, hres, otherDone]
    rw [if_neg (by simp only [c] at hfw; rw [hfw]; simp)]
    rfl
  have hkeep : (finish op sub st res s).tm = u.tm ∧ (finish op sub st res s).rng = s.rng
      ∧ (finish op sub st res s).bus = s.bus := by
    rw [hx]
    split
    · rw [sendDown, flood_frame]; exact ⟨rfl, rfl, rfl⟩
    · rw [sendUp_frame]; exact ⟨rfl, rfl, rfl⟩
  obtain ⟨htm, hrng, hbus⟩ := hkeep
  refine ⟨htm ▸ howed, hrng, hbus, fun hl => ?_, fun q hl hq hup he hr _ => ?_⟩
  · have hp : u.tm.parent = s.tm.parent := rfl
    rw [hx, if_pos hl, sendDown, hp, hu, flood_outside _ _ _ _ _ _ hid]
    rfl
  · have hq' : u.tm.parent = some q := hq
    rw [hx, if_neg (by simp [hl]), sendUp, hq']
    dsimp only
    rw [hu, portSend_outside _ _ _ _ _ hid]
    exact portSend_out q _ s hup rfl he hr

/-- The cuts of a request: each within the size and within 4 KiB, one behind the other, over the whole of it. -/
theorem requestCuts_fit (size : Nat) (hs : 0 < size) (fuel a n : Nat) (h : n ≤ fuel) :
    ∀ c ∈ requestCuts size fuel a n, 1 ≤ c.2 ∧ c.2 ≤ size ∧ c.1 % 4096 + c.2 ≤ 4096 ∧ a ≤ c.1 ∧ c.1 + c.2 ≤ a + n := by
  induction fuel generalizing a n with
  | zero => simp [requestCuts]
  | succ fuel ih =>
    rw [requestCuts]
    split
    · simp
    · have hm : a % 4096 < 4096 := Nat.mod_lt _ (by omega)
      intro c hc
      rcases List.mem_cons.1 hc with rfl | hc
      · dsimp only; omega
      · have := ih _ _ (by omega) c hc; omega

theorem requestCuts_place (size : Nat) (fuel a n k : Nat) (c : Nat × Nat)
    (h : (requestCuts size fuel a n)[k]? = some c) :
    c.1 = a + (((requestCuts size fuel a n).take k).map Prod.snd).sum := by
  induction fuel generalizing a n k with
  | zero => simp [requestCuts] at h
  | succ fuel ih =>
    rw [requestCuts] at h ⊢
    split at h
    · simp at h
    · rename_i h0
      rw [if_neg h0]
      cases k with
      | zero =>
        simp only [List.getElem?_cons_zero, Option.some.injEq] at h
        simp [← h]
      | succ k =>
        simp only [List.getElem?_cons_succ] at h
        simp only [List.take_succ_cons, List.map_cons, List.sum_cons]
        rw [ih _ _ _ h, Nat.add_assoc]

theorem requestCuts_bytes (size : Nat) (hs : 0 < size) (bytes : List Byte) (base fuel a n : Nat) (h : n ≤ fuel) (ha : base ≤ a)
    (hl : bytes.length = (a - base) + n) :
    ((requestCuts size fuel a n).flatMap fun c => (bytes.drop (c.1 - base)).take c.2) = bytes.drop (a - base) := by
  induction fuel generalizing a n with
  | zero => simp only [requestCuts, List.flatMap_nil]; rw [List.drop_of_length_le (by omega)]
  | succ fuel ih =>
    rw [requestCuts]
    split
    · rw [List.flatMap_nil, List.drop_of_length_le (by omega)]
    · have hm : a % 4096 < 4096 := Nat.mod_lt _ (by omega)
      rw [List.flatMap_cons, ih _ _ (by omega) (by omega) (by omega)]
      dsimp only
      conv_rhs => rw [← List.take_append_drop (min n (min size (4096 - a % 4096))) (bytes.drop (a - base))]
      rw [List.drop_drop]
      congr 2
      omega

theorem payloadSize_pos (s : State) : 0 < s.payloadSize := by
  unfold State.payloadSize
  have : 0 < 2 ^ bits (s.cfgPlain (Config.pcieCap + 8)) 5 3 := Nat.two_pow_pos _
  omega

/-- A write to host memory as the list of its requests: ascending, within the payload limit and within 4 KiB. -/
theorem hostWrite_requests (d : Dword) (l : List Byte) (s : State) (hm : s.bus.master = true) (hd : s.bus.d3 = false) :
    ∃ w : List (Dword × List Byte), (hostWrite d l s).bus.out = s.bus.out ++ w.map (fun c => .memWrite c.1 c.2)
      ∧ w.flatMap (·.2) = l
      ∧ (∀ c ∈ w, 1 ≤ c.2.length ∧ c.2.length ≤ s.payloadSize ∧ c.1.toNat % 4096 + c.2.length ≤ 4096)
      ∧ ∀ k c, w[k]? = some c → c.1 = d + BitVec.ofNat 64 ((w.take k).flatMap (·.2)).length := by
  let cuts := requestCuts s.payloadSize l.length d.toNat l.length
  let data (c : Nat × Nat) : List Byte := (l.drop (c.1 - d.toNat)).take c.2
  have hfit := requestCuts_fit s.payloadSize (payloadSize_pos s) l.length d.toNat l.length (le_refl _)
  have hdata (c : Nat × Nat) (hc : c ∈ cuts) : (data c).length = c.2 := by
    have := hfit c hc
    simp only [data, List.length_take, List.length_drop]
    omega
  refine ⟨cuts.map fun c => (BitVec.ofNat 64 c.1, data c), ?_, ?_, ?_, ?_⟩
  · simp [hostWrite, State.mapBus, Bus.send, hm, hd, cuts, data, Function.comp_def]
  · rw [List.flatMap_map]
    simpa [cuts, data] using requestCuts_bytes s.payloadSize (payloadSize_pos s) l d.toNat l.length d.toNat l.length (le_refl _)
      (le_refl _) (by omega)
  · intro c hc
    obtain ⟨x, hx, rfl⟩ := List.mem_map.1 hc
    have := hfit x hx
    simp only [hdata x hx, BitVec.toNat_ofNat]
    omega
  · intro k c hc
    rw [List.getElem?_map] at hc
    obtain ⟨x, hx, rfl⟩ := Option.map_eq_some_iff.1 hc
    have hp := requestCuts_place _ _ _ _ _ _ hx
    have hsum : (((cuts.map fun c => (BitVec.ofNat 64 c.1, data c)).take k).flatMap (·.2)).length
        = ((cuts.take k).map Prod.snd).sum := by
      rw [← List.map_take, List.flatMap_map, List.length_flatMap]
      congr 1
      exact List.map_congr_left fun x hx => hdata x (List.mem_of_mem_take hx)
    rw [hsum]
    dsimp only
    rw [hp, BitVec.ofNat_add, BitVec.ofNat_toNat, BitVec.setWidth_eq]

/-- The answer of a command of the own host with one block of data. -/
theorem reply_own (op : Nat) (sub : Sub) (st : Half) (res d : Dword) (l : List Byte) (s : State) (ho : sub.origin = none)
    (hl : l ≠ []) :
    reply op sub st res [(0, d, l)] s =
      finish op sub st res (if hostOptional op 0 = true ∧ d = 0 then s else hostWrite d l s) := by
  have hf : ([(0, d, l)] : List (Nat × Dword × List Byte)).filter
      (fun e => !(hostOptional op e.1 && e.2.1 == 0) && !e.2.2.isEmpty) =
        if hostOptional op 0 = true ∧ d = 0 then [] else [(0, d, l)] := by
    by_cases h : hostOptional op 0 = true ∧ d = 0
    · simp [h]
    · have hk : (hostOptional op 0 && d == 0) = false := by simpa using h
      rw [List.filter_cons, hk, if_neg h]
      simp [hl]
  simp only [reply, ho, hf]
  split <;> rfl

/-- Settles O9: the bodies of the four commands, and the requests that a write to the host is cut into. -/
theorem generalCommandsReport : Obligations.GeneralCommandsReport := by
  refine ⟨fun sub v d s => ⟨fun h => ?_, fun h => ?_, fun h => ?_, fun h => ?_⟩, fun op sub st res d l s ho hl =>
    ⟨reply_own op sub st res d l s ho hl, hostWrite_requests d l s⟩⟩
  · exact ringCmd_runs _ h
  · exact ringCmd_runs _ h
  · exact ringCmd_runs _ h
  · have hclk : (begun (.heartbeat sub) s).clk = s.clk := by rw [begun_changes]
    exact (ringCmd_runs _ h).trans (by rw [hbRestart, hclk])

end Sys2Proof.Laws
end

section
/-!
The statements about the pool and the data moves: O10, O11, O12, O14.
-/
namespace Sys2Proof.Laws
open Sys2Proof.Machine Sys2Proof.Claims

theorem mem_freeBlocks (s : State) (x : Nat) : x ∈ s.freeBlocks ↔ x < 1536 ∧ x ∉ s.heldBlocks := by
  simp [State.freeBlocks, poolBlocks]

theorem freeBlocks_nodup (s : State) : s.freeBlocks.Nodup := List.nodup_range.filter _

theorem getD_mod_mem {α : Type} (l : List α) (k : Nat) (d : α) (h : l ≠ []) : l.getD (k % l.length) d ∈ l := by
  have hk := Nat.mod_lt k (List.length_pos_iff.2 h)
  rw [List.getD_eq_getElem _ _ hk]
  exact List.getElem_mem hk

/-- Blocks drawn one by one: as many as asked for, each of them free and drawn once. -/
theorem pickBlocks_spec (n : Nat) (free : List Nat) (s : State) (hn : n ≤ free.length) (hf : free.Nodup) :
    (pickBlocks n free s).1.length = n ∧ (pickBlocks n free s).1.Nodup ∧ (∀ x ∈ (pickBlocks n free s).1, x ∈ free)
      ∧ ∃ f, (pickBlocks n free s).2 = { s with free := f } := by
  induction n generalizing free s with
  | zero => exact ⟨rfl, List.nodup_nil, by simp [pickBlocks], s.free, rfl⟩
  | succ n ih =>
    have hlt : Config.freePick s.draw.1 % free.length < free.length := Nat.mod_lt _ (by omega)
    have hget : free[Config.freePick s.draw.1 % free.length]? = some free[Config.freePick s.draw.1 % free.length] :=
      List.getElem?_eq_getElem hlt
    have hmem := List.getElem_mem hlt
    generalize free[Config.freePick s.draw.1 % free.length] = b at hget hmem
    obtain ⟨h1, h2, h3, f, h4⟩ := ih (free.erase b) s.draw.2 (by rw [List.length_erase_of_mem hmem]; omega) (hf.erase b)
    have hx : pickBlocks (n + 1) free s = (b :: (pickBlocks n (free.erase b) s.draw.2).1,
        (pickBlocks n (free.erase b) s.draw.2).2) := by
      rw [pickBlocks]
      dsimp only
      rw [hget]
    rw [hx]
    refine ⟨by simp [h1], List.nodup_cons.2 ⟨fun hb => ?_, h2⟩, fun x hx => ?_, f, by rw [h4]; rfl⟩
    · exact (hf.not_mem_erase (h3 b hb)).elim
    · rcases List.mem_cons.1 hx with rfl | hx
      · exact hmem
      · exact List.mem_of_mem_erase (h3 x hx)

theorem mem_runsOf (free : List Nat) (n b : Nat) (h : b ∈ runsOf free n) : ∀ k, k < n → b + k ∈ free := by
  simp only [runsOf, List.mem_filter, List.all_eq_true, List.mem_range, List.contains_eq_mem, decide_eq_true_eq] at h
  exact h.2

/-- R169: the blocks that an allocation takes. -/
theorem takeBlocks_spec (s : State) (n : Nat) (c : Bool) (hn : n ≤ s.freeBlocks.length)
    (hc : c = true → runsOf s.freeBlocks n ≠ []) :
    (s.takeBlocks n c).1.length = n ∧ (s.takeBlocks n c).1.Nodup ∧ (∀ x ∈ (s.takeBlocks n c).1, x ∈ s.freeBlocks)
      ∧ (c = true → ∃ f, (s.takeBlocks n c).1 = (List.range n).map fun k => f + k)
      ∧ ∃ f, (s.takeBlocks n c).2 = { s with free := f } := by
  cases c with
  | false =>
    obtain ⟨h1, h2, h3, h4⟩ := pickBlocks_spec n s.freeBlocks s hn (freeBlocks_nodup s)
    exact ⟨h1, h2, h3, by simp, h4⟩
  | true =>
    have hb := mem_runsOf _ _ _ (getD_mod_mem _ (Config.freePick s.draw.1) 0 (hc rfl))
    have hx : s.takeBlocks n true = ((List.range n).map fun i =>
        (runsOf s.freeBlocks n).getD (Config.freePick s.draw.1 % (runsOf s.freeBlocks n).length) 0 + i, s.draw.2) := rfl
    rw [hx]
    refine ⟨by simp, ?_, ?_, fun _ => ⟨_, rfl⟩, _, rfl⟩
    · exact List.nodup_range.map fun a b h => by simpa using h
    · simp only [List.mem_map, List.mem_range, forall_exists_index, and_imp]
      rintro x k hk rfl
      exact hb k hk

/-- R166: a slot that no handle holds. -/
def freeSlots (s : State) : List Nat := (List.range poolBlocks).filter fun k => !(s.pool.handles.map Handle.slot).contains k

theorem mem_freeSlots (s : State) (k : Nat) : k ∈ freeSlots s ↔ k < 1536 ∧ ∀ x ∈ s.pool.handles, x.slot ≠ k := by
  simp [freeSlots, poolBlocks]

/-- The state with one handle more. -/
def handleAdded (h : Handle) (f : Nat) (s : State) : State :=
  { s with
    free := f
    pool := { s.pool with handles := s.pool.handles ++ [h], gens := alPut s.pool.gens h.slot (nextGen s h.slot) } }

/-- R166: the handle of an allocation: an unused slot, its next generation, and the blocks. -/
theorem newHandle_spec (c n : Nat) (contiguous : Bool) (w : Option Sub) (s : State) (hn : n ≤ s.freeBlocks.length)
    (hc : contiguous = true → runsOf s.freeBlocks n ≠ []) (hs : ∃ k, k < 1536 ∧ ∀ h ∈ s.pool.handles, h.slot ≠ k) :
    ∃ slot f, slot ∈ freeSlots s ∧ (newHandle c n contiguous w s).2 =
      handleAdded ⟨slot, nextGen s slot, c, (s.takeBlocks n contiguous).1, false, w, false⟩ f s := by
  obtain ⟨-, -, -, -, f, h5⟩ := takeBlocks_spec s n contiguous hn hc
  have hslots : freeSlots s ≠ [] := by
    obtain ⟨k, hk, hu⟩ := hs
    exact List.ne_nil_of_mem ((mem_freeSlots s k).2 ⟨hk, hu⟩)
  refine ⟨_, f + 1, getD_mod_mem (freeSlots s) (Config.freePick f) 0 hslots, ?_⟩
  simp only [newHandle, h5, handleAdded, State.draw, State.mapPool, freeSlots, nextGen]

/-- Table 11.4: the operands of POOL_ALLOC that name channel `c`. -/
theorem allocChannel_eq_some (sub : Sub) (count : Half) (channel flags : Byte) (c : Nat) (h1 : 1 ≤ count.toNat)
    (h2 : count.toNat ≤ 1536) (h3 : flags.toNat ≤ 3)
    (h4 : (flags.getLsbD 1 = false ∧ channel = 0 ∧ c = sub.ring.val)
       ∨ (flags.getLsbD 1 = true ∧ (channel.toNat < 16 ∨ channel.toNat = 17) ∧ c = channel.toNat)) :
    allocChannel sub count channel flags = some c := by
  have h0 : ¬ (count = 0 ∨ poolBlocks < count.toNat ∨ 4 ≤ flags.toNat) := by
    rintro (rfl | h | h)
    · simp at h1
    · simp only [poolBlocks] at h; omega
    · omega
  rw [allocChannel, if_neg h0]
  rcases h4 with ⟨hf, rfl, rfl⟩ | ⟨hf, hch, rfl⟩
  · rw [if_neg (by rw [hf]; simp), if_pos rfl]
  · rw [if_pos hf, if_pos hch]

theorem allocChannel_eq_none (sub : Sub) (count : Half) (channel flags : Byte)
    (h : count = 0 ∨ 1536 < count.toNat ∨ 4 ≤ flags.toNat ∨ (flags.getLsbD 1 = false ∧ channel ≠ 0)
      ∨ (flags.getLsbD 1 = true ∧ ¬ (channel.toNat < 16 ∨ channel.toNat = 17))) :
    allocChannel sub count channel flags = none := by
  unfold allocChannel
  split
  · rfl
  · rename_i h0
    simp only [not_or, poolBlocks] at h0
    obtain ⟨c1, c2, c3⟩ := h0
    rcases h with h | h | h | ⟨hf, hc⟩ | ⟨hf, hc⟩
    · exact absurd h c1
    · exact absurd h c2
    · exact absurd h c3
    · rw [if_neg (by rw [hf]; simp), if_neg hc]
    · rw [if_pos hf, if_neg hc]

/-- Settles O10: the operands name the channel, the tests of Table 08.4 admit it, and the handle is `newHandle`'s. -/
theorem poolAllocCases : Obligations.PoolAllocCases := by
  refine ⟨?_, ?_⟩
  · intro sub count channel flags c s hr h1 h2 h3 h4 b hq hn hrun hs
    have hx : exec (.poolAlloc sub count channel flags) s = .next (poolAllocBody sub count channel flags b) := ringCmd_runs _ hr
    have htest : b.allocTest c count.toNat (flags.getLsbD 0) = none := by
      have hruns : (flags.getLsbD 0 && (runsOf b.freeBlocks count.toNat).isEmpty) = false := by
        cases hf : flags.getLsbD 0 with
        | false => rfl
        | true => simpa using hrun hf
      simp only [State.allocTest]
      rw [if_neg (by omega), if_neg (by omega), hruns]
      rfl
    have hlen : count.toNat ≤ b.freeBlocks.length := by omega
    obtain ⟨slot, f, hslot, hnew⟩ := newHandle_spec c count.toNat (flags.getLsbD 0) (some sub) b hlen hrun hs
    obtain ⟨k1, k2, k3, k4, -⟩ := takeBlocks_spec b count.toNat (flags.getLsbD 0) hlen hrun
    obtain ⟨hlt, hunused⟩ := (mem_freeSlots b slot).1 hslot
    rw [hx, poolAllocBody, allocChannel_eq_some _ _ _ _ c h1 h2 h3 h4]
    dsimp only
    rw [htest]
    dsimp only
    rw [hnew]
    have hk (t : State) : ∃ r, keepRunning sub t = { t with rng := r } := by
      unfold keepRunning
      split
      · exact ⟨_, rfl⟩
      · exact ⟨t.rng, rfl⟩
    obtain ⟨r, hr'⟩ := hk (handleAdded ⟨slot, nextGen b slot, c, (b.takeBlocks count.toNat (flags.getLsbD 0)).1, false, some sub, false⟩ f b)
    rw [hr']
    exact ⟨_, _, rfl, rfl, rfl, rfl, rfl, rfl, k1, k2, fun x hx => (mem_freeBlocks b x).1 (k3 x hx), k4, hlt, hunused, rfl,
      rfl, rfl, rfl, rfl, rfl, rfl⟩
  · intro sub count channel flags s hr b ends
    have hx : exec (.poolAlloc sub count channel flags) s = .next (poolAllocBody sub count channel flags b) := ringCmd_runs _ hr
    have hbad (h : allocChannel sub count channel flags = none) : ends stBadOperand := by
      simp only [ends, hx, poolAllocBody, h]
    have htest (c : Nat) (st : Half) (h : allocChannel sub count channel flags = some c)
        (ht : b.allocTest c count.toNat (flags.getLsbD 0) = some st) : ends st := by
      simp only [ends, hx, poolAllocBody, h, ht]
    refine ⟨fun h => ?_, fun h => ?_, fun h => ?_, fun hf h => ?_, fun h => ?_, fun c h1 h2 h3 h4 => ?_⟩
    · exact hbad (allocChannel_eq_none _ _ _ _ (.inl h))
    · exact hbad (allocChannel_eq_none _ _ _ _ (.inr (.inl h)))
    · exact hbad (allocChannel_eq_none _ _ _ _ (.inr (.inr (.inl h))))
    · exact hbad (allocChannel_eq_none _ _ _ _ (.inr (.inr (.inr (.inl ⟨hf, h⟩)))))
    · refine hbad (allocChannel_eq_none _ _ _ _ ?_)
      cases hf : flags.getLsbD 1 with
      | false =>
        refine .inr (.inr (.inr (.inl ⟨rfl, ?_⟩)))
        rintro rfl
        simp at h
      | true => exact .inr (.inr (.inr (.inr ⟨rfl, by omega⟩)))
    · have hch := allocChannel_eq_some _ _ _ _ c h1 h2 h3 h4
      refine ⟨fun hq => ?_, fun hq hn => ?_, fun hq hn hf hrun => ?_⟩
      · exact htest c _ hch (by simp only [State.allocTest]; rw [if_pos hq])
      · exact htest c _ hch (by simp only [State.allocTest]; rw [if_neg (by omega), if_pos hn])
      · exact htest c _ hch (by
          simp only [State.allocTest]
          rw [if_neg (by omega), if_neg (by omega), hf, hrun]
          rfl)

theorem allocResult_eq (h : Handle) : h.allocResult =
    BitVec.ofNat 64 (h.value.toNat + h.blocks.length % 65536 * 65536 + h.blocks.getD 0 0 % 65536 * 2 ^ 32) := rfl

/-- Settles O11: the blocks are zeroed, the handle waits no more, and the command that waited completes. -/
theorem zeroingCompletes : Obligations.ZeroingCompletes := by
  intro v h sub s hv hw
  refine ⟨mapHandle h.slot (fun h => { h with waiting := none }) (zeroBlocks h.blocks s), ?_, fun a => ?_, rfl, rfl⟩
  · show execZeroingDone v s = _
    simp only [execZeroingDone, hv, hw, allocResult_eq]
  · exact zeroBlocks_get h.blocks s a

/-- Settles O12: the handle, then the scenes that its surfaces are bound to, then the posts and moves that still need it. -/
theorem poolFreeCases : Obligations.PoolFreeCases := by
  intro sub v s hr b
  have hx : exec (.poolFree sub v) s = .next (poolFreeBody sub v b) := ringCmd_runs _ hr
  refine ⟨fun hn => by simp only [hx, poolFreeBody, hn], fun h hh => ⟨?_, fun hs hp => ?_, fun hs hp hm => ?_⟩⟩
  all_goals rw [hx, poolFreeBody, hh]; dsimp only
  · rintro ⟨i, hi, hb⟩
    rw [if_pos (List.any_eq_true.2 ⟨i, hi, hb⟩)]
  · rw [if_neg (by simpa using hs), if_pos (by simpa using hp)]
    rfl
  · rw [if_neg (by simpa using hs), if_neg (by simp [hp, hm])]
    rfl

/-! ### The bytes of a handle -/

/-- Two offsets of a handle lie at two addresses. -/
theorem addr_inj (h : Handle) (hnd : h.blocks.Nodup) (i j : Nat) (hi : i < h.size) (hj : j < h.size) (he : h.addr i = h.addr j) :
    i = j := by
  have hib : i / 65536 < h.blocks.length := by simp only [Handle.size] at hi; omega
  have hjb : j / 65536 < h.blocks.length := by simp only [Handle.size] at hj; omega
  have hb : h.blocks.getD (i / 65536) 0 = h.blocks.getD (j / 65536) 0 := by simp only [Handle.addr] at he; omega
  have hm : i % 65536 = j % 65536 := by simp only [Handle.addr] at he; omega
  rw [List.getD_eq_getElem _ _ hib, List.getD_eq_getElem _ _ hjb] at hb
  have := (hnd.getElem_inj_iff).1 hb
  omega

/-- Offsets within a block lie one behind the other. -/
theorem addr_add (h : Handle) (off k : Nat) (hk : k < 65536 - off % 65536) : h.addr (off + k) = h.addr off + k := by
  have hd : (off + k) / 65536 = off / 65536 := by omega
  simp only [Handle.addr, hd]
  omega

/-- What a write into a handle's range stores: its bytes there, and nothing elsewhere. -/
theorem poolWrite_get (h : Handle) (hnd : h.blocks.Nodup) (fuel off : Nat) (bs : List Byte) (s : State)
    (hf : bs.length < fuel) (hr : bs.length ≠ 0 → off + bs.length ≤ h.size) :
    (∀ k, k < bs.length → cellGet 0 (poolWrite h fuel off bs s).pool.mem (h.addr (off + k)) = bs.getD k 0)
    ∧ ∀ a, (∀ k, k < bs.length → a ≠ h.addr (off + k)) →
        cellGet 0 (poolWrite h fuel off bs s).pool.mem a = cellGet 0 s.pool.mem a := by
  induction fuel generalizing off bs s with
  | zero => omega
  | succ fuel ih =>
    rw [poolWrite]
    split
    · rename_i he
      have : bs = [] := by simpa using he
      subst this
      exact ⟨by simp, fun _ _ => rfl⟩
    · rename_i he
      have hlen : bs.length ≠ 0 := by simpa using he
      dsimp only
      generalize hn : 65536 - off % 65536 = n
      have hdrop : (bs.drop n).length = bs.length - n := List.length_drop
      obtain ⟨h1, h2⟩ := ih (off + n) (bs.drop n) (memWrite (h.addr off) (bs.take n) s) (by omega) (by omega)
      have hrange := hr hlen
      have hmem (a : Nat) : cellGet 0 (memWrite (h.addr off) (bs.take n) s).pool.mem a =
          if h.addr off ≤ a ∧ a < h.addr off + (bs.take n).length then (bs.take n).getD (a - h.addr off) 0
          else cellGet 0 s.pool.mem a := cellGet_cellsPut ..
      have htake : (bs.take n).length = min n bs.length := List.length_take
      refine ⟨fun k hk => ?_, fun a ha => ?_⟩
      · by_cases hkn : k < n
        · have hadd := addr_add h off k (by omega)
          rw [h2 _ fun j hj heq => ?_, hmem, hadd, if_pos (by omega), Nat.add_sub_cancel_left]
          · simp [List.getD_eq_getElem?_getD, hkn]
          · have := addr_inj h hnd _ _ (by omega) (by omega) heq
            omega
        · have hk' := h1 (k - n) (by omega)
          rw [show off + n + (k - n) = off + k by omega] at hk'
          rw [hk']
          simp only [List.getD_eq_getElem?_getD, List.getElem?_drop]
          rw [show n + (k - n) = k by omega]
      · rw [h2 a fun k hk heq => ha (n + k) (by omega) (by rw [heq]; congr 1; omega), hmem, if_neg]
        rintro ⟨hlo, hhi⟩
        refine ha (a - h.addr off) (by omega) ?_
        rw [addr_add h off _ (by omega)]
        omega

/-- In a pool without memory errors, a write into a handle's range changes the bytes only. -/
theorem poolWrite_frame (h : Handle) (fuel off : Nat) (bs : List Byte) (s : State) (hu : s.pool.ue = []) (hc : s.pool.ce = []) :
    poolWrite h fuel off bs s = { s with pool := { s.pool with mem := (poolWrite h fuel off bs s).pool.mem } } := by
  induction fuel generalizing off bs s with
  | zero => rfl
  | succ fuel ih =>
    rw [poolWrite]
    split
    · rfl
    · dsimp only
      have hm : memWrite (h.addr off) (bs.take (65536 - off % 65536)) s =
          { s with pool := { s.pool with mem := (memWrite (h.addr off) (bs.take (65536 - off % 65536)) s).pool.mem } } := by
        conv_lhs => rw [memWrite_frame]
        simp [memWrite, State.mapPool, hu, hc]
      rw [ih _ _ _ (by rw [hm]; exact hu) (by rw [hm]; exact hc), hm]

/-! ### Data moves -/

theorem fillOk_eq (off len : Word) (w : Byte) (p : Dword) : fillOk off len w p =
    decide ((w = 1 ∨ w = 2 ∨ w = 4 ∨ w = 8) ∧ off.toNat % w.toNat = 0 ∧ len.toNat % w.toNat = 0
      ∧ p.toNat < 2 ^ (8 * w.toNat)) := by
  rw [Bool.eq_iff_iff]
  simp only [fillOk, ← BitVec.toNat_inj, List.contains_eq_mem, List.mem_cons, List.not_mem_nil, or_false, Bool.and_eq_true,
    decide_eq_true_eq, beq_iff_eq]
  tauto

/-- The start of a data move: HANDLE, the ranges, a zero LENGTH, the move. -/
theorem moveBody_cases {A : Answer} {op : Nat} {kind : MoveKind} {sub : Sub} {v : Half} {off : Word} {host : Dword} {len : Word}
    {good : Bool} {b : State} (hA : A = .next (moveBody op kind sub v off host len good b)) :
    (b.handle v = none → A = .next (finish op sub stBadHandle 0 b))
    ∧ ∀ h, b.handle v = some h →
      (h.blocks.length * 65536 < off.toNat + len.toNat ∨ good = false → A = .next (finish op sub stBadOperand 0 b))
      ∧ (off.toNat + len.toNat ≤ h.blocks.length * 65536 → good = true → len = 0 → A = .next (finish op sub stOkZero 0 b))
      ∧ (off.toNat + len.toNat ≤ h.blocks.length * 65536 → good = true → len ≠ 0 →
          A = .next (keepRunning sub ((if kind = .copyIn then hostRead sub host len.toNat b else b).mapPool fun p =>
            { p with
              moves := p.moves ++ [⟨p.nextMove, kind, v, off.toNat, host, len.toNat, sub⟩]
              nextMove := p.nextMove + 1 }))) := by
  subst hA
  refine ⟨fun hn => by simp only [moveBody, hn], fun h hh => ⟨fun hbad => ?_, fun hr hg h0 => ?_, fun hr hg h0 => ?_⟩⟩
  all_goals rw [moveBody, hh]; dsimp only
  · have hb : h.size < off.toNat + len.toNat ∨ (!good) = true := by
      simpa [Handle.size] using hbad
    rw [if_pos hb]
  all_goals have hb : ¬ (h.size < off.toNat + len.toNat ∨ (!good) = true) := by simp [hg, Handle.size, hr]
  · rw [if_neg hb, if_pos h0]
  · rw [if_neg hb, if_neg h0]

theorem readDrop_own (b : Sub) (s : State) (h : b.origin = none) : readDrop b s = s := by
  simp [readDrop, h, State.mapTm]

theorem noteCe_nil (s : State) : noteCe [] s = s := by simp [noteCe, State.mapPool]
theorem noteUe_nil (s : State) : noteUe [] s = s := by simp [noteUe, State.mapPool]

/-- In a pool without memory errors, nothing is met. -/
theorem meetUnits_clean (kind : Nat) (units : List Nat) (s : State) (hc : s.pool.ce = []) :
    meetUnits kind units [] s = s := by
  have hce : s.ceOf units = [] := by simp [State.ceOf, hc]
  simp [meetUnits, unitRaises, frameCe, hce, raised, raiseAll, State.mapPool]

theorem stopUnit_clean (s : State) (h : Handle) (off n : Nat) (w : Bool) (hu : s.pool.ue = []) :
    s.stopUnit h off n w = none := by
  simp [State.stopUnit, hu]

theorem moveWrite_clean (h : Handle) (off : Nat) (bs : List Byte) (s : State) (hu : s.pool.ue = []) (hc : s.pool.ce = []) :
    moveWrite h off bs s = (true, poolWrite h (bs.length + 1) off bs s) := by
  rw [moveWrite, stopUnit_clean _ _ _ _ _ hu]
  dsimp only
  rw [meetUnits_clean _ _ _ hc]

theorem freeingMove_kept (v : Half) (s : State) (h : Handle) (hv : s.handleAny v = some h) (hf : h.freeing = false) :
    freeingMove v s = s := by
  simp [freeingMove, hv, hf]

theorem reply_nothing (op : Nat) (sub : Sub) (st : Half) (res d : Dword) (s : State) (ho : sub.origin = none) :
    reply op sub st res [(0, d, [])] s = finish op sub st res s := by
  simp [reply, ho, hostOrder]

/-- R218: the `RESULT` of a completion that is no success is 0. -/
theorem finish_failed (op : Nat) (sub : Sub) (st : Half) (res : Dword) (s : State) (h : isSuccess st = false) :
    finish op sub st res s = finish op sub st 0 s := by
  simp [finish, finishAt, h]

theorem keeps_aerUncorrectable (s : State) : Keeps s (aerUncorrectable s) :=
  ⟨rfl, rfl, rfl, rfl, rfl, rfl, rfl, rfl, rfl, rfl, rfl, rfl, rfl, rfl, rfl, rfl⟩

theorem keeps_aerRaise (s : State) : Keeps s (aerRaise s) := (keeps_aerUncorrectable s).trans (keeps_raise ..)

/-- The end of a move of the own host, in a pool without memory errors: what it does, then the answer. -/
theorem dataMoveDone_clean (id : Nat) (host : HostRead) (m : Move) (h : Handle) (s : State)
    (hm : s.pool.moves.find? (fun x => x.id == id) = some m) (hv : s.handleAny m.handle = some h) (ho : m.sub.origin = none)
    (hk : m.kind ≠ .serve) (hw : s.moveWaits m host = false) (hb : s.moveBehind m = false) :
    let t := s.mapPool fun p => { p with moves := p.moves.filter fun x => x.id != id }
    exec (.dataMoveDone id host [] []) s = .next
      (reply m.kind.op m.sub (moveRun m h host t).1 (BitVec.ofNat 64 m.length) [(0, m.host, moveOut m h t)]
        (freeingMove m.handle (moveRun m h host t).2)) := by
  intro t
  have hd : s.moveData m host = some host := by
    unfold State.moveData
    rw [ho]
    cases m.kind <;> rfl
  have hv' : t.handleAny m.handle = some h := hv
  show execDataMoveDone id host [] [] s = _
  simp only [execDataMoveDone, hm, hw, hb, Bool.or_self, Bool.false_eq_true, if_false, hd, readDrop_own _ _ ho, ite_self,
    noteCe_nil, noteUe_nil, if_neg hk]
  rw [hv']

/-- What a move of the own host that writes the pool leaves, in a pool without memory errors. -/
theorem moveWrite_stores (h : Handle) (off : Nat) (bs : List Byte) (s : State) (hnd : h.blocks.Nodup)
    (hr : off + bs.length ≤ h.blocks.length * 65536) (hu : s.pool.ue = []) (hc : s.pool.ce = []) (hwf : Memory.wf s.pool.mem) :
    ∃ t, moveWrite h off bs s = (true, t)
      ∧ (∀ k, k < bs.length → cellGet 0 t.pool.mem (h.addr (off + k)) = bs.getD k 0)
      ∧ (∀ a, (∀ k, k < bs.length → a ≠ h.addr (off + k)) → cellGet 0 t.pool.mem a = cellGet 0 s.pool.mem a)
      ∧ Memory.wf t.pool.mem ∧ t = { s with pool := { s.pool with mem := t.pool.mem } } := by
  obtain ⟨h1, h2⟩ := poolWrite_get h hnd (bs.length + 1) off bs s (by omega) fun _ => hr
  exact ⟨_, moveWrite_clean h off bs s hu hc, h1, h2, poolWrite_wf _ _ _ _ _ hwf, poolWrite_frame _ _ _ _ _ hu hc⟩

theorem fillBytes_length (w p n : Nat) : (fillBytes w p n).length = n := by simp [fillBytes]

theorem fillBytes_getD (w p n k : Nat) (h : k < n) : (fillBytes w p n).getD k 0 = (leBytes p w).getD (k % w) 0 := by
  rw [List.getD_eq_getElem _ _ (by rw [fillBytes_length]; exact h)]
  simp [fillBytes]

theorem padTo_length_eq (n : Nat) (l : List Byte) (h : l.length = n) : padTo n l = l := by
  rw [padTo, List.take_append_of_le_length (by omega), List.take_of_length_le (by omega)]

/-- Settles O14: `moveBody` at the start; at the end `dataMoveDone_clean`, and what `moveRun` does for each kind. -/
theorem dataMoves : Obligations.DataMoves := by
  refine ⟨?_, ?_⟩
  · rintro i op kind sub v off host len good s (⟨rfl, rfl, rfl, rfl⟩ | ⟨rfl, rfl, rfl, rfl⟩ | ⟨w, p, rfl, rfl, rfl, rfl, rfl⟩) hr b
    · exact moveBody_cases (ringCmd_runs (moveBody 0x13 .copyIn sub v off host len true) hr)
    · exact moveBody_cases (ringCmd_runs (moveBody 0x14 .copyOut sub v off host len true) hr)
    · rw [← fillOk_eq]
      exact moveBody_cases (ringCmd_runs (moveBody 0x15 (.fill w.toNat p) sub v off 0 len (fillOk off len w p)) hr)
  · intro id host m h s hm hv hf hr hnd hu hc ho hwf
    refine ⟨fun hw => ?_, fun hw hb => ?_⟩
    · have hwait : (s.moveWaits m host || s.moveBehind m) = true := by simpa using hw
      show execDataMoveDone id host [] [] s = _
      simp only [execDataMoveDone, hm, hwait, if_true]
    · intro done stored
      let t := s.mapPool fun p => { p with moves := p.moves.filter fun x => x.id != id }
      have hend (hk : m.kind ≠ .serve) : exec (.dataMoveDone id host [] []) s = .next
          (reply m.kind.op m.sub (moveRun m h host t).1 (BitVec.ofNat 64 m.length) [(0, m.host, moveOut m h t)]
            (freeingMove m.handle (moveRun m h host t).2)) := dataMoveDone_clean id host m h s hm hv ho hk hw hb
      have hwrite (bs : List Byte) (hlen : bs.length ≤ m.length) := moveWrite_stores h m.offset bs t hnd
        (by omega) hu hc hwf
      have hfree (u : State) (hup : u.pool.handles = s.pool.handles) : freeingMove m.handle u = u :=
        freeingMove_kept _ _ h (by simpa [State.handleAny, hup] using hv) hf
      have hstored (bs : List Byte) (byte : Nat → Byte) (hlen : bs.length = m.length) (hk : m.kind ≠ .serve)
          (hbyte : ∀ k, k < m.length → bs.getD k 0 = byte k)
          (hrun : moveRun m h host t = ((if (moveWrite h m.offset bs t).1 then stOk else stMemError), (moveWrite h m.offset bs t).2))
          (hout : moveOut m h t = []) : stored byte := by
        obtain ⟨u, hu1, hu2, hu3, hu4, hu5⟩ := hwrite bs (by omega)
        rw [hu1] at hrun
        rw [hlen] at hu2 hu3
        refine ⟨u, ?_, fun k hk => (hu2 k hk).trans (hbyte k hk), hu3, hu4, hu5⟩
        simp only [done]
        rw [hend hk, hrun, hout, reply_nothing _ _ _ _ _ _ ho, hfree u (by rw [hu5]; rfl)]
        rfl
      refine ⟨fun bs hk hh hlen => ?_, fun w p hk => ?_, fun hk h0 => ?_, fun bs hk hh hlen => ?_⟩
      · refine hstored bs _ hlen (by simp [hk]) (fun _ _ => rfl) ?_ (by simp [moveOut, hk])
        simp only [moveRun, hk, hh, padTo_length_eq _ _ hlen]
      · refine hstored (fillBytes w p.toNat m.length) _ (fillBytes_length ..) (by simp [hk])
          (fun k hk => fillBytes_getD _ _ _ _ hk) ?_ (by simp [moveOut, hk])
        simp only [moveRun, hk]
      · have hout : moveOut m h t = (List.range m.length).map fun k => cellGet 0 s.pool.mem (h.addr (m.offset + k)) := by
          simp only [moveOut, hk, stopUnit_clean t h _ _ _ hu]
          rfl
        have hrun : moveRun m h host t = (stOk, t) := by
          simp only [moveRun, hk, stopUnit_clean t h _ _ _ hu, meetUnits_clean _ _ t hc]
        simp only [done]
        rw [hend (by simp [hk]), hrun, hout, hfree t rfl, hk, reply_own _ _ _ _ _ _ _ ho (by simpa using h0)]
        rfl
      · obtain ⟨u, hu1, hu2, hu3, -, hu5⟩ := hwrite bs hlen
        refine ⟨u, ?_, hu2, hu3, hu5⟩
        have hrun : moveRun m h host t = (stMemError, aerRaise u) := by
          simp only [moveRun, hk, hh, List.take_of_length_le hlen, hu1, readFailed, ho]
        rw [hend (by simp [hk]), hrun, show moveOut m h t = [] by simp [moveOut, hk], reply_nothing _ _ _ _ _ _ ho,
          hfree _ (by rw [(keeps_aerRaise u).pool, hu5]; rfl), hk, finish_failed _ _ _ _ _ rfl]
        rfl

end Sys2Proof.Laws
end

section
/-!
The statements about layers, posts and scenes: O16, O17, O19.
-/
namespace Sys2Proof.Laws
open Sys2Proof.Machine Sys2Proof.Claims

theorem blendOf_isSome (b : Byte) : (blendOf b).isSome = true ↔ b.toNat ≤ 4 := by
  unfold blendOf
  generalize b.toNat = n
  match n with
  | 0 | 1 | 2 | 3 | 4 => simp
  | n + 5 => simp

theorem notReadyOf_isSome (b : Byte) : (notReadyOf b).isSome = true ↔ b.toNat ≤ 3 := by
  unfold notReadyOf
  generalize b.toNat = n
  match n with
  | 0 | 1 | 2 | 3 => simp
  | n + 4 => simp

/-- Form 0 with codes that Table 11.8 lists. -/
theorem layerParams_codes (sub : Sub) (layer : Nat) (o : LayerOps) (s : State) (bl : Blend) (nr : NotReady)
    (hb : blendOf o.blend = some bl) (hn : notReadyOf o.notReady = some nr) (hl : layer ≤ 6) (hs : o.streaming.toNat ≤ 1) :
    layerParams sub layer o s =
      if layer < 6 then
        if LayerOps.vgOk (decide (layer < 2)) o then finish 0x22 sub stOk 0 (setLayer layer (LayerOps.toCfg o layer bl nr) none s)
        else finish 0x22 sub stBadOperand 0 s
      else if !LayerOps.s0Ok o (o.streaming == 1) then finish 0x22 sub stBadOperand 0 s
      else if LayerOps.shapeCount o = 0 then finish 0x22 sub stOk 0 (setLayer 6 (LayerOps.toCfg o 6 bl nr) (some []) s)
      else match s.poolRead o.surface (LayerOps.shapeOffset o) (64 * LayerOps.shapeCount o) with
        | .bad st => finish 0x22 sub st 0 s
        | .units l => finish 0x22 sub stMemError 0 (raiseUe 10 l s)
        | .data bs =>
          let s := copied o.surface (LayerOps.shapeOffset o) (64 * LayerOps.shapeCount o) s
          match parseShapes bs (LayerOps.shapeCount o) with
          | none => finish 0x22 sub stBadOperand 0 s
          | some sh => finish 0x22 sub stOk 0 (setLayer 6 (LayerOps.toCfg o 6 bl nr) (some sh) s) := by
  have h0 : ¬ (6 < layer ∨ 1 < o.streaming.toNat) := by omega
  rw [layerParams, hb, hn]
  exact if_neg h0

/-- Form 0 with a code that Table 11.8 does not list. -/
theorem layerParams_bad (sub : Sub) (layer : Nat) (o : LayerOps) (s : State)
    (h : ¬ (o.blend.toNat ≤ 4 ∧ o.notReady.toNat ≤ 3 ∧ o.streaming.toNat ≤ 1 ∧ layer ≤ 6)) :
    layerParams sub layer o s = finish 0x22 sub stBadOperand 0 s := by
  rw [← blendOf_isSome, ← notReadyOf_isSome] at h
  unfold layerParams
  split
  · rename_i b n hb hn
    rw [hb, hn] at h
    have h0 : 6 < layer ∨ 1 < o.streaming.toNat := by
      simp only [Option.isSome_some, true_and] at h
      omega
    dsimp only
    rw [if_pos h0]
  · rfl

theorem layerOrder_cases (sub : Sub) (m : Byte) (idx : List Byte) (s : State) (hl : idx.length = 7) :
    layerOrder sub m idx s =
      if 1 < m.toNat ∨ (m = 0 ∧ ∃ x ∈ idx, x ≠ 0) ∨ ∃ x ∈ idx, 6 < x.toNat then finish 0x22 sub stBadOperand 0 s
      else finish 0x22 sub stOk 0 (mapWork (fun w =>
        { w with orderMode := m.toNat, order := if m = 0 then [0, 1, 2, 3, 4, 5, 6] else idx.map BitVec.toNat }) s) := by
  have h : (1 < m.toNat ∨ (m = 0 ∧ idx.any (· != 0)) ∨ idx.any (fun i => decide (6 < i.toNat)))
      ↔ (1 < m.toNat ∨ (m = 0 ∧ ∃ x ∈ idx, x ≠ 0) ∨ ∃ x ∈ idx, 6 < x.toNat) := by simp
  simp only [layerOrder, h, padTo_length_eq _ _ hl]
  rfl

theorem byte_eq_one (m : Byte) (h : m.toNat < 2) (h0 : m ≠ 0) : m = 1 := by
  rw [ne_eq, ← BitVec.toNat_inj] at h0
  apply BitVec.eq_of_toNat_eq
  simp at h0 ⊢
  omega

/-- Settles O16: the body of each form, in the order of its checks. -/
theorem layerSetForms : Obligations.LayerSetForms := by
  intro sub s
  refine ⟨fun f hr => ringCmd_runs (layerSetBody sub (.bad f)) hr, ?params, ?coefs, ?order⟩
  case params =>
    intro l o hr i b codes
    have hx : exec i s = .next (layerParams sub l.toNat o b) := ringCmd_runs (layerSetBody sub (.params l o)) hr
    have hl6 : l = 6 → l.toNat = 6 := by rintro rfl; rfl
    have hgood (bl : Blend) (nr : NotReady) (hc : codes) (hb : blendOf o.blend = some bl) (hn : notReadyOf o.notReady = some nr) :=
      layerParams_codes sub l.toNat o b bl nr hb hn hc.2.2.2 hc.2.2.1
    have hcode (hc : codes) : ∃ bl nr, blendOf o.blend = some bl ∧ notReadyOf o.notReady = some nr := by
      obtain ⟨bl, hb⟩ := Option.isSome_iff_exists.1 ((blendOf_isSome _).2 hc.1)
      obtain ⟨nr, hn⟩ := Option.isSome_iff_exists.1 ((notReadyOf_isSome _).2 hc.2.1)
      exact ⟨bl, nr, hb, hn⟩
    rw [hx]
    refine ⟨fun hc => ?_, fun hc hl hv => ?_, fun bl nr hc hl hv hb hn => ?_, fun hc hl hv => ?_, fun bl nr hc hl hv hb hn => ?_⟩
    · rw [layerParams_bad _ _ _ _ hc]
    · obtain ⟨bl, nr, hb, hn⟩ := hcode hc
      rw [hgood bl nr hc hb hn, if_pos hl, hv]
      rfl
    · rw [hgood bl nr hc hb hn, if_pos hl, if_pos hv]
      rfl
    · obtain ⟨bl, nr, hb, hn⟩ := hcode hc
      rw [hgood bl nr hc hb hn, if_neg (by rw [hl6 hl]; decide), hv]
      rfl
    · intro put c read
      have hs0 := hgood bl nr hc hb hn
      rw [if_neg (by rw [hl6 hl]; decide), hv] at hs0
      have hcount (h0 : o.srcW ≠ 0) : ¬ LayerOps.shapeCount o = 0 := by
        rw [LayerOps.shapeCount, ← BitVec.toNat_zero (w := 16), BitVec.toNat_inj]; exact h0
      have hread (h0 : o.srcW ≠ 0) : layerParams sub l.toNat o b = match read with
          | .bad st => finish 0x22 sub st 0 b
          | .units l => finish 0x22 sub stMemError 0 (raiseUe 10 l b)
          | .data bs => match parseShapes bs o.srcW.toNat with
            | none => finish 0x22 sub stBadOperand 0 c
            | some sh => finish 0x22 sub stOk 0 (setLayer 6 (LayerOps.toCfg o 6 bl nr) (some sh) c) := by
        rw [hs0]
        exact if_neg (hcount h0)
      refine ⟨fun h0 => ?_, fun st h0 hd => ?_, fun u h0 hd => ?_, fun bs h0 hd hp => ?_, fun bs sh h0 hd hp => ?_⟩
      · refine congrArg _ (hs0.trans ?_)
        have hz : LayerOps.shapeCount o = 0 := by rw [LayerOps.shapeCount, h0]; rfl
        rw [if_pos hz]
        rfl
      · rw [hread h0, hd]
      · rw [hread h0, hd]
      · rw [hread h0, hd]
        dsimp only
        rw [hp]
      · refine congrArg _ ((hread h0).trans ?_)
        rw [hd]
        dsimp only
        rw [hp]
        rfl
  case coefs =>
    intro n h off hr i b good
    have hx : exec i s = .next (layerCoefs sub n h off b) := ringCmd_runs (layerSetBody sub (.coefs n h off)) hr
    have hn : (n = 1 ∨ n = 2 ∨ n = 3) ↔ ¬ (n = 0 ∨ 3 < n.toNat) := by
      bv_omega
    have hal : b.handle h = none ∨ off.toNat % 64 = 0 ↔ b.unaligned h off.toNat = false := by
      simp [State.unaligned, or_iff_not_imp_left, Option.isSome_iff_ne_none]
    have hread (hg : good) : layerCoefs sub n h off b = match b.poolRead h off.toNat 1536 with
        | .bad st => finish 0x22 sub st 0 b
        | .units l => finish 0x22 sub stMemError 0 (raiseUe 10 l b)
        | .data bs =>
          if coefsOk (parseCoefs bs) then finish 0x22 sub stOk 0
            ((copied h off.toNat 1536 b).mapScn fun x => { x with coefs := x.coefs.set n.toNat (parseCoefs bs) })
          else finish 0x22 sub stBadOperand 0 (copied h off.toNat 1536 b) := by
      rw [layerCoefs, if_neg (hn.1 hg.1), hal.1 hg.2]
      rfl
    rw [hx]
    refine ⟨fun hg => ?_, fun st hg hd => ?_, fun u hg hd => ?_, fun bs hg hd hc => ?_, fun bs hg hd hc => ?_⟩
    · rw [layerCoefs]
      by_cases h1 : n = 0 ∨ 3 < n.toNat
      · rw [if_pos h1]
      · rw [if_neg h1, if_pos]
        simpa using fun ha => hg ⟨hn.2 h1, hal.2 ha⟩
    · rw [hread hg, hd]
    · rw [hread hg, hd]
    · rw [hread hg, hd]
      dsimp only
      rw [if_neg (by simp [hc])]
    · rw [hread hg, hd]
      dsimp only
      rw [if_pos hc]
  case order =>
    intro m idx hl hr i b put
    have hx : exec i s = .next (layerOrder sub m idx b) := ringCmd_runs (layerSetBody sub (.order m idx)) hr
    rw [layerOrder_cases _ _ _ _ hl] at hx
    refine ⟨fun h => ?_, fun h0 h => ?_, fun h => ?_, fun h0 h => ?_, fun h1 h => ?_⟩
    · rw [hx, if_pos (.inl h)]
    · rw [hx, if_pos (.inr (.inl ⟨h0, h⟩))]
    · rw [hx, if_pos (.inr (.inr h))]
    · have hgood : ¬ (1 < m.toNat ∨ (m = 0 ∧ ∃ x ∈ idx, x ≠ 0) ∨ ∃ x ∈ idx, 6 < x.toNat) := by
        rintro (hm | ⟨-, x, hx, hne⟩ | ⟨x, hx, hlt⟩)
        · rw [h0] at hm; exact absurd hm (by decide)
        · exact hne (h x hx)
        · rw [h x hx] at hlt; exact absurd hlt (by decide)
      rw [if_neg hgood, if_pos h0] at hx
      exact hx
    · have hgood : ¬ (1 < m.toNat ∨ (m = 0 ∧ ∃ x ∈ idx, x ≠ 0) ∨ ∃ x ∈ idx, 6 < x.toNat) := by
        rintro (hm | ⟨h0, -⟩ | ⟨x, hx, hlt⟩)
        · rw [h1] at hm; exact absurd hm (by decide)
        · rw [h1] at h0; exact absurd h0 (by decide)
        · have := h x hx; omega
      rw [if_neg hgood, if_neg (by rw [h1]; decide)] at hx
      exact hx

/-- Table 11.6: the fence of a post. -/
theorem fenceOf_eq (sub : Sub) (f : FenceOps) :
    ((f.valid = 0 ∧ f.ring = 0 ∧ f.seq = 0) ∨ (f.valid = 1 ∧ f.ring.toNat ≤ 15) →
      fenceOf sub f = some (if f.valid = 1 then some ⟨sub.origin, f.ring.toNat, f.seq⟩ else none))
    ∧ (¬ ((f.valid = 0 ∧ f.ring = 0 ∧ f.seq = 0) ∨ (f.valid = 1 ∧ f.ring.toNat ≤ 15)) → fenceOf sub f = none) := by
  unfold fenceOf
  by_cases h0 : f.valid = 0
  · have h1 : ¬ (f.valid = 1) := by rw [h0]; decide
    rw [if_pos h0, if_neg h1]
    refine ⟨fun h => if_pos ?_, fun h => if_neg fun hz => h (.inl ⟨h0, hz⟩)⟩
    rcases h with h | h
    · exact h.2
    · exact absurd h.1 h1
  · rw [if_neg h0]
    refine ⟨fun h => ?_, fun h => if_neg fun hz => h (.inr hz)⟩
    rcases h with h | h
    · exact absurd h.1 h0
    · rw [if_pos h, if_pos h.1]

/-- The checks of a post, then the post. -/
theorem postBody_cases {A : Answer} {op : Nat} {sub : Sub} {layer l : Nat} {inRange ok nm : Bool} {fence : FenceOps}
    {mk : Option Fence → Post} {b : State} (hA : A = .next (postBody op sub l nm ok fence mk b))
    (hr : inRange = false → 6 < l) (hl : inRange = true → l = layer ∧ layer ≤ 6) :
    let fenceOk := (fence.valid = 0 ∧ fence.ring = 0 ∧ fence.seq = 0) ∨ (fence.valid = 1 ∧ fence.ring.toNat ≤ 15)
    let f : Option Fence := if fence.valid = 1 then some ⟨sub.origin, fence.ring.toNat, fence.seq⟩ else none
    (inRange = false → A = .next (finish op sub stBadOperand 0 b))
    ∧ (inRange = true → nm = false → A = .next (finish op sub stBadHandle 0 b))
    ∧ (inRange = true → nm = true → ¬ fenceOk ∨ ok = false → A = .next (finish op sub stBadOperand 0 b))
    ∧ (inRange = true → fenceOk → ok = true → nm = true → b.streamingNext layer = false →
        A = .next (finish op sub stWrongState 0 b))
    ∧ (inRange = true → fenceOk → ok = true → nm = true → b.streamingNext layer = true →
        A = .next (finish op sub stOk ((if b.frm.cutDone then b.nextFrame + 1 else b.nextFrame).zeroExtend 64)
          (b.mapScn fun c =>
            { c with
              runs := c.runs.modify layer fun r => { r with newest := some (mk f) }
              inUse := c.inUse ++ (if layer = 6 then [] else [(mk f).surface])
              inUseH := c.inUseH ++ (if layer = 6 then [(mk f).handle] else []) }))) := by
  intro fenceOk f
  obtain ⟨hgood, hbad⟩ := fenceOf_eq sub fence
  subst hA
  refine ⟨fun h => ?_, fun h hn => ?_, fun h hn hf => ?_, fun h hf hk hn hs => ?_, fun h hf hk hn hs => ?_⟩
  · rw [postBody, if_pos (hr h)]
  all_goals
    obtain ⟨rfl, h6⟩ := hl h
    rw [postBody, if_neg (by omega), hn]
  · rfl
  · by_cases hfo : fenceOk
    · have hk := hf.resolve_left (not_not.2 hfo)
      rw [hgood hfo, hk]
      rfl
    · rw [hbad hfo]
      rfl
  · rw [hgood hf, hk, hs]
    rfl
  · rw [hgood hf, hk, hs]
    rfl

/-- R248: LAYER_POST, once it runs. -/
theorem exec_layerPost (sub : Sub) (o : PostOps) (s : State) (hr : Runs (.layerPost sub o) s) :
    let b := begun (.layerPost sub o) s
    exec (.layerPost sub o) s = .next
      (postBody 0x23 sub (if o.layer.toNat ≤ 5 then o.layer.toNat else 7) (b.postable o.surface.toNat) true o.fence
        (fun f => ⟨o.surface.toNat, 0, 0, 0, o.srcX.toNat, o.srcY.toNat, o.srcW.toNat, o.srcH.toNat, f, none⟩) b) :=
  ringCmd_runs _ hr

/-- R248: SHAPES_POST, once it runs. -/
theorem exec_shapesPost (sub : Sub) (h : Half) (off : Word) (n : Byte) (fence : FenceOps) (s : State)
    (hr : Runs (.shapesPost sub h off n fence) s) :
    let b := begun (.shapesPost sub h off n fence) s
    exec (.shapesPost sub h off n fence) s = .next
      (postBody 0x24 sub 6 (b.handle h).isSome (decide (n.toNat ≤ 64) && off.toNat % 64 == 0) fence
        (fun f => ⟨0, h, off.toNat, n.toNat, 0, 0, 0, 0, f, none⟩) b) :=
  ringCmd_runs _ hr

/-- Settles O17: `postBody` for each of the two commands. -/
theorem postCommands : Obligations.PostCommands := by
  rintro i op sub layer inRange ok named fence post s (⟨o, rfl, rfl, rfl, rfl, rfl, rfl, rfl, rfl⟩ | ⟨h, off, n, rfl, rfl, rfl, rfl, rfl, rfl, rfl⟩) hr b
  · have hp := postBody_cases (layer := o.layer.toNat) (inRange := decide (o.layer.toNat ≤ 5)) (exec_layerPost sub o s hr)
      (fun h => by rw [if_neg (of_decide_eq_false h)]; decide)
      (fun h => have h5 := of_decide_eq_true h; ⟨if_pos h5, by omega⟩)
    exact hp
  · have hp := postBody_cases (layer := 6) (inRange := true) (exec_shapesPost sub h off n fence s hr) (by simp)
      fun _ => ⟨rfl, by decide⟩
    exact hp

/-- Table 06.4: a commit whose FRAME is in order and that passes checks 1 to 5. -/
theorem sceneCommitBody_checked (sub : Sub) (frame : Word) (s : State) (hf : sub.atTick = true ∨ frame = 0)
    (h13 : s.sceneCheck13 s.scn.work = none) (h45 : s.sceneCheck45 s.scn.work = none) :
    sceneCommitBody sub frame s = match s.commitFrame sub frame (s.sceneBytes s.scn.work) with
      | .error st => finish 0x30 sub st 0 s
      | .ok f => finish 0x30 sub (if f = s.firstFrame (leadUs (s.sceneBytes s.scn.work) s.frm.params.leadFix s.frm.params.tGuard)
            then stOk else stOkDeferred)
          (BitVec.ofNat 64 (s.scn.nextSeq.toNat + 2 ^ 32 * f.toNat))
          (usesAdd s.scn.work.surfaces [] (s.mapScn fun x =>
            { x with
              staged := x.staged.filter (fun h => h.first != f)
                ++ [⟨s.scn.nextSeq, f, s.scn.work, s.scn.coefs, s.sceneBytes s.scn.work⟩]
              nextSeq := x.nextSeq + 1 })) := by
  have hok := (frameOperandOk_iff sub frame).2 hf
  simp only [sceneCommitBody, hok, h13, h45, Option.or_none, Bool.not_true, Bool.false_eq_true, if_false] <;> rfl

theorem sceneCommitBody_refused (sub : Sub) (frame : Word) (s : State) (hf : sub.atTick = true ∨ frame = 0) (st : Half)
    (h : (s.sceneCheck13 s.scn.work).or (s.sceneCheck45 s.scn.work) = some st) :
    sceneCommitBody sub frame s = finish 0x30 sub st 0 s := by
  have hok := (frameOperandOk_iff sub frame).2 hf
  simp only [sceneCommitBody, hok, h, Bool.not_true, Bool.false_eq_true, if_false]

/-- Settles O19: a commit is its checks, `commitFrame` the last of them; a query is `State.queried`. -/
theorem sceneCommands : Obligations.SceneCommands := by
  refine ⟨?_, ?_⟩
  · intro sub frame s i hr b c p first
    have hx : exec i s = .next (sceneCommitBody sub frame b) := ringCmd_runs _ hr
    refine ⟨fun ht hf => ?_, fun hf => ⟨fun st h => ?_, fun st h1 h => ?_, fun h13 h45 => ?_⟩⟩
    · have hbad : frameOperandOk sub frame = false := by simpa [frameOperandOk, ht] using hf
      simp only [hx, sceneCommitBody, hbad, Bool.not_false, if_true]
    · rw [hx, sceneCommitBody_refused _ _ _ hf st (by rw [h]; rfl)]
    · rw [hx, sceneCommitBody_refused _ _ _ hf st (by rw [h1]; exact h)]
    · intro f full budget past
      rw [sceneCommitBody_checked _ _ _ hf h13 h45] at hx
      have hfull : (4 ≤ b.scn.staged.length ∧ (!(b.scn.staged.any fun g => g.first == f)) = true) ↔ full := by
        simp [full]
      have hpast : (sub.atTick && (b.passed f || decide (2 ^ 31 ≤ (f - first).toNat))) = true ↔ past := by
        simp [past]
      have hcf : b.commitFrame sub frame (b.sceneBytes c) =
          if full then .error stBusy else if ¬ budget then .error stBudget else if past then .error stWrongState else .ok f := by
        simp only [State.commitFrame, ← hfull, ← hpast, budget, Bool.not_eq_true, Bool.not_eq_eq_eq_not, Bool.not_true]
        rfl
      refine ⟨fun h => ?_, fun h hb => ?_, fun h hb hp => ?_, fun h hb hp => ?_⟩
      · rw [hx, hcf, if_pos h]
      · rw [hx, hcf, if_neg h, if_pos hb]
      · rw [hx, hcf, if_neg h, if_neg (not_not.2 hb), if_pos hp]
      · rw [hx, hcf, if_neg h, if_neg (not_not.2 hb), if_neg hp]
        simp only [usesAdd, State.mapScn, List.append_nil]
        rfl
  · intro sub w d s i hr b
    have hx : exec i s = .next (sceneQueryBody sub w d b) := ringCmd_runs _ hr
    have hfree : b.free = s.free := by
      simp only [b]
      rw [begun_changes]
    refine ⟨fun h => ?_, fun h2 hs => ?_, fun c seq first hw hq => ?_, rfl, fun g hg => ?_⟩
    · rw [hx, sceneQueryBody, if_pos (by omega)]
    · have hq : b.queried w.toNat = none := by
        rw [h2]
        show b.scn.staged.getLast?.map _ = none
        rw [hs]
        rfl
      rw [hx, sceneQueryBody, if_neg (by rw [h2]; decide), hq]
    · rw [hx, sceneQueryBody, if_neg (by omega), hq, ← hfree]
      rfl
    · simp only [State.queried, hg]

end Sys2Proof.Laws
end

section
/-!
The statement about the safety commands that arm changes: O21.
-/
namespace Sys2Proof.Laws
open Sys2Proof.Machine Sys2Proof.Claims

/-- R236: the word that a set command reports counts only where something is armed. -/
theorem setCmd_own (op : Nat) (sub : Sub) (mask : Half) (frame : Word) (shape : Bool) (check : Option Half)
    (changes : List Change) (own own' : Nat) (s : State) (h : shape = true → mask ≠ 0 → own = own') :
    setCmd op sub mask frame shape check changes own s = setCmd op sub mask frame shape check changes own' s := by
  cases hs : shape with
  | false => simp only [setCmd, Bool.not_false, Bool.true_or, if_true]
  | true =>
    by_cases hm : mask = 0
    · simp only [setCmd, hm, if_true]
    · rw [h hs hm]

theorem one_bit_mask (mask : Half) (n : Nat) : maskOk mask 1 [(0, n)] = (decide (mask.toNat ≤ 1) && (mask == 1 || n == 0)) := by
  simp only [maskOk, List.all_cons, List.all_nil, Bool.and_true]
  by_cases hm : mask.toNat ≤ 1
  · have hbit : mask.getLsbD 0 = (mask == 1) := by
      rw [Bool.eq_iff_iff, beq_iff_eq, ← BitVec.toNat_inj, BitVec.getLsbD, Nat.testBit_zero, decide_eq_true_eq]
      show mask.toNat % 2 = 1 ↔ mask.toNat = 1
      omega
    rw [hbit, decide_eq_true (show mask.toNat < 2 ^ 1 by omega), decide_eq_true hm]
  · rw [decide_eq_false (show ¬ mask.toNat < 2 ^ 1 by omega), decide_eq_false hm]
    rfl

/-- Table 12.5: the operands of FALLBACK_SET. -/
theorem fallbackOk_iff (s : State) (o : FallbackOps) : s.fallbackOk o = true ↔
    o.mask.toNat ≤ 7 ∧ (o.mask.getLsbD 0 = true ∨ o.dflt = 0) ∧ (o.mask.getLsbD 1 = true ∨ o.hb = 0)
       ∧ (o.mask.getLsbD 2 = true ∨ o.force = 0) ∧ o.force.toNat ≤ 8
       ∧ (o.mask.getLsbD 0 = true → o.dflt.toNat ≤ 7 ∧ s.sceneUsable o.dflt.toNat = true)
       ∧ (o.mask.getLsbD 1 = true → 50 ≤ o.hb.toNat ∧ o.hb.toNat ≤ 10000) := by
  have hm : o.mask.toNat < 2 ^ 3 ↔ o.mask.toNat ≤ 7 := by omega
  simp only [State.fallbackOk, maskOk, List.all_cons, List.all_nil, Bool.and_true, toNat_beq_zero, Bool.and_eq_true,
    Bool.or_eq_true, Bool.not_eq_true', decide_eq_true_eq, hm, beq_iff_eq, ← Bool.not_eq_true, ← imp_iff_not_or]
  tauto

/-- R272: the heartbeat's timeout at execution touches the parameter, the monitor's start and the marks of the configuration. -/
theorem hbTimeoutApply_eq (ms : Nat) (s : State) :
    hbTimeoutApply ms s = { s with
      frm := { s.frm with params := { s.frm.params with hbTimeout := ms } }
      saf := { s.saf with hbLast := s.clk.loc }
      reg := (hbTimeoutApply ms s).reg } := rfl

theorem hbTimeoutApply_arming (ms : Nat) (f : Word) (sub : Sub) (s : State) :
    (hbTimeoutApply ms s).passed f = s.passed f ∧ (hbTimeoutApply ms s).armedSets = s.armedSets
      ∧ (hbTimeoutApply ms s).setFrame sub f = s.setFrame sub f := ⟨rfl, rfl, rfl⟩

theorem exec_roadMode (sub : Sub) (mask : Half) (on : Byte) (frame : Word) (s : State) (hr : Runs (.roadMode sub mask on frame) s) :
    let b := begun (.roadMode sub mask on frame) s
    exec (.roadMode sub mask on frame) s = .next
      (setCmd 0x54 sub mask frame (maskOk mask 1 [(0, on.toNat)] && decide (on.toNat ≤ 1))
        (if b.view.roadSrc ≠ 0 then some stWrongState else none) (selected mask [(0, [.road (on == 1)])]) 0 b) :=
  ringCmd_runs _ hr

/-- Settles O21: four commands are `setCmd` with their operands; FALLBACK_SET has its own order. -/
theorem safetyAndFallbackSets : Obligations.SafetyAndFallbackSets := by
  refine ⟨⟨?hallmark, ?can, ?road, ?team⟩, ?fallback⟩
  case hallmark =>
    intro sub mask add frame
    refine armsFor_of_setCmd _ _ _ _ _ _ _ _ _ fun s hr => (ringCmd_runs (hallmarkSelectBody sub mask add frame) hr).trans ?_
    rw [hallmarkSelectBody, one_bit_mask, toNat_beq_zero]
    simp only [selected_cons, selected_nil, List.append_nil]
    refine congrArg _ (setCmd_own _ _ _ _ _ _ _ _ _ _ fun hs hm => ?_)
    have h1 : mask = 1 := by
      simp only [Bool.and_eq_true, decide_eq_true_eq] at hs
      bv_omega
    rw [h1]
    rfl
  case can =>
    intro sub o
    exact armsFor_of_setCmd _ _ _ _ _ _ _ _ _ fun s hr => ringCmd_runs _ hr
  case road =>
    intro sub mask on frame
    refine armsFor_of_setCmd _ _ _ _ _ _ _ _ _ fun s hr => (exec_roadMode sub mask on frame s hr).trans ?_
    simp only [one_bit_mask, toNat_beq_zero, selected_cons, selected_nil, List.append_nil]
    rw [Bool.and_right_comm]
  case team =>
    intro sub o
    exact armsFor_of_setCmd _ _ _ _ _ _ _ _ _ fun s hr => ringCmd_runs _ hr
  case fallback =>
    intro sub o s i hr b ok past hb l at_
    have hx : exec i s = .next (fallbackSetBody sub o b) := ringCmd_runs _ hr
    have hok : ok ↔ ¬ ((!b.fallbackOk o || !frameOperandOk sub o.frame) = true) := by
      rw [Bool.or_eq_true, not_or, Bool.not_eq_true', Bool.not_eq_true', Bool.not_eq_false, Bool.not_eq_false,
        frameOperandOk_iff, fallbackOk_iff]
      simp only [ok, and_assoc]
    have hpast : past ↔ (sub.atTick && b.passed o.frame) = true := by simp [past]
    have hsel : selected o.mask [(0, [.dfltScene o.dflt.toNat]), (2, [.force o.force.toNat])] = l := by
      simp only [selected_cons, selected_nil, List.append_nil, l]
    have hclk : b.clk = s.clk := by
      simp only [b]
      rw [begun_changes]
    refine ⟨fun h => ?_, fun h h0 => ?_, fun h h0 hp => ?_, fun h hp h2 => ?_, fun h hp h0 h2 h16 => ?_, fun h hp h0 h2 h16 => ?_,
      rfl, ?_, hbTimeoutApply_eq _ b⟩
    rotate_right
    · rw [← hclk]
      rfl
    all_goals rw [hx, fallbackSetBody, hsel]
    · rw [if_pos (not_not.1 (hok.not.1 h))]
    all_goals rw [if_neg (hok.1 h)]
    · rw [if_pos h0]
    · rw [if_neg h0, if_pos (hpast.1 hp)]
    · rw [if_neg (by rw [h2]; decide), if_neg (hpast.not.1 hp), if_pos h2]
    · rw [if_neg h0, if_neg (hpast.not.1 hp), if_neg h2, if_pos h16]
    · rw [if_neg h0, if_neg (hpast.not.1 hp), if_neg h2, if_neg (by omega)]
      have hu (u : State) (hfrm : u.passed o.frame = b.passed o.frame ∧ u.armedSets = b.armedSets
          ∧ u.setFrame sub o.frame = at_) :
          armSet 0x52 sub o.frame true l 0 u = finish 0x52 sub stOkDeferred (BitVec.ofNat 64 (2 ^ 32 * at_.toNat))
            (u.mapFrm fun f =>
              { f with armed := f.armed ++ [⟨at_, l, f.armSeq, true, sub.atTick⟩], armSeq := f.armSeq + 1 }) := by
        obtain ⟨h1, h3, h4⟩ := hfrm
        rw [armSet, h1, if_neg (hpast.not.1 hp), h3, if_neg (by omega), h4, if_neg (by decide), Nat.zero_mod]
        dsimp only
        rw [Nat.zero_add]
        rfl
      refine congrArg _ (hu _ ?_)
      split
      · exact hbTimeoutApply_arming _ _ _ b
      · exact ⟨rfl, rfl, rfl⟩

end Sys2Proof.Laws
end

section
/-!
The commands that report and acknowledge: O23.
-/
namespace Sys2Proof.Laws
open Sys2Proof.Machine Sys2Proof.Claims

theorem padTo_append (n : Nat) (l : List Byte) (h : l.length ≤ n) : padTo n l = l ++ List.replicate (n - l.length) 0 := by
  rw [padTo, List.take_append, List.take_of_length_le h, List.take_replicate, Nat.min_eq_left (by omega)]

theorem timeRecord_eq (s : State) : s.timeRecord =
    leBytes s.clk.team.toNat 8 ++ leBytes (BitVec.ofInt 32 (if s.actsFollower then s.clk.offset else 0)).toNat 4
      ++ leBytes s.quality.toNat 1 ++ leBytes s.hops 1 ++ leBytes s.discCode 1 ++ List.replicate 17 0 := by
  rw [State.timeRecord, padTo_append _ _ (by simp [b8, b4, b1])]
  simp [b8, b4, b1, State.now]

/-- Where no unit is marked, a meeting of the pixel map changes nothing. -/
theorem pixMeet_clean (frame : Word) (inside : Nat → Bool) (s : State) (hc : s.pool.ce = []) (hu : s.pool.ue = []) :
    raised (pixMeet frame inside ([], s)) = s := by
  have hce (l : List Nat) : s.ceOf l = [] := by simp [State.ceOf, hc]
  have hue (p : Nat → Bool) : s.pool.ue.filter p = [] := by simp [hu]
  simp [pixMeet, frameCe, hce, hue, raised, raiseAll, State.mapPool, State.mapHlt]

/-- R371: what an acknowledgement releases and what it leaves of the fault collector. -/
theorem ackRelease_flt (src : Nat) (s : State) : (ackRelease src s).flt =
    { s.flt with
      degrade := bitPut s.flt.degrade src false, safe := bitPut s.flt.safe src false
      dark := bitPut s.flt.dark src false, held := bitPut s.flt.held src false } := by
  have hpix (t : State) : (pixelAck src t).flt = t.flt := by
    unfold pixelAck
    split
    · rfl
    · split
      · rfl
      · split <;> rfl
  have hheld : (heldSet src false (latchRelease src s)).flt =
      { s.flt with
        degrade := bitPut s.flt.degrade src false, safe := bitPut s.flt.safe src false
        dark := bitPut s.flt.dark src false, held := bitPut s.flt.held src false } := by
    rw [heldSet, State.mapFlt, (latchRelease_latches src s).1]
  rw [ackRelease, hpix, ← hheld]
  split <;> split <;> split <;> rfl

/-- Settles O23: the reports are the answers of their bodies; FAULT_ACK is its checks, then `ackRelease`. -/
theorem reportAndAckCommands : Obligations.ReportAndAckCommands := by
  refine ⟨fun sub d s => ⟨fun hr => ringCmd_runs _ hr, fun hr => ringCmd_runs _ hr, fun hr => ?time, fun hr => ringCmd_runs _ hr,
    fun o hr => ?pixmap⟩, ?ack⟩
  case time =>
    intro b
    have hclk : b.clk = s.clk := by
      simp only [b]
      rw [begun_changes]
    have hx : exec (.timeQuery sub d) s = .next (reply 0x64 sub stOk b.now [(0, d, b.timeRecord)] b) :=
      ringCmd_runs (fun s => reply 0x64 sub stOk s.now [(0, d, s.timeRecord)] s) hr
    rw [hx, timeRecord_eq, State.now, hclk]
  case pixmap =>
    intro b at_ c n
    have hx : exec (.pixmapRead sub o) s = .next (pixmapBody sub o b) := ringCmd_runs _ hr
    refine ⟨fun hc hu => ?_, fun h => ?_, fun h1 h2 => ?_⟩
    · have hcb : c = b := pixMeet_clean _ _ _ hc hu
      rw [hcb]
      exact ⟨rfl, rfl, rfl, rfl⟩
    · rw [hx, pixmapBody, if_pos h]
    · rw [hx, pixmapBody, if_neg (by omega)]
  case ack =>
    intro sub src s i hr b
    have hx : exec i s = .next (faultAckBody sub src b) := ringCmd_runs _ hr
    have hflt : b.flt = s.flt := begun_flt i s
    refine ⟨fun h => ?_, fun h hp => ?_, fun h hp hses => ⟨fun hf => ?_, fun hf => ?_⟩, fun h hp hses => ?_⟩
    · rw [hx, faultAckBody, if_pos (by omega)]
    · rw [hx, faultAckBody, if_neg (by omega), if_pos hp]
    · rw [hx, faultAckBody, if_neg (by omega), h, hp, if_neg (by simp), if_pos ⟨rfl, hses⟩, if_pos hf]
    · rw [hx, faultAckBody, if_neg (by omega), h, hp, if_neg (by simp), if_pos ⟨rfl, hses⟩, if_neg (by simp [hf])]
    · refine ⟨ackRelease src.toNat b, ?_, ?_⟩
      · rw [hx, faultAckBody, if_neg (by omega), hp, if_neg (by simp), if_neg]
        rintro ⟨h1, h2⟩
        exact hses.elim (· h1) (by simp [h2])
      · rw [ackRelease_flt, ← hflt]
        exact ⟨bitPut_false_same .., bitPut_false_same .., bitPut_false_same .., bitPut_false_same .., rfl, rfl, rfl⟩

end Sys2Proof.Laws
end

section
/-!
What reporting leaves unchanged: a raise, an event and a completion change the link, the rings, the flight log, the fault
latches, the frame that is being built, the dark causes, the calibration run and the frames on the way in a team; `steady`
is a state without these, and each of these operations keeps it.
-/
namespace Sys2Proof.Laws
open Sys2Proof.Machine Sys2Proof.Claims

/-- The frame's timing without the frame that is being built. -/
@[simp] def steadyFrm (x : Machine.Frm) : Machine.Frm :=
  { x with
    capRows := 0, colMax := [], comp := none, compDone := false, compOn := false, compStart := 0, ctfBad := [], dead := []
    dec := none, fail := none, lines := [], rows := 0 }

/-- The array without its dark causes and what they open. -/
@[simp] def steadyArr (x : Arr) : Arr :=
  { x with
    causes := [], crcS := [], fixSeq := 0, isolFix := 0, relight := none, relit := 0, tripDark := 0, tripOpen := []
    wasOpen := 0 }

/-- A state without what a report may change. -/
def steady (s : State) : State :=
  let r := State.reset
  { s with
    free := 0
    bus := r.bus
    reg := { s.reg with intStat := 0 }
    rng := { s.rng with q := [], eq := r.rng.eq }
    lg := { s.lg with onDie := [], seq := 0 }
    flt := { r.flt with tsLo := s.flt.tsLo, tsHi := s.flt.tsHi, cond := s.flt.cond, held := s.flt.held }
    scn := { s.scn with runs := [] }
    frm := steadyFrm s.frm
    pho := { s.pho with aH := 0, aN := 0, aN0 := 0, aTile := [], shows := false }
    arr := steadyArr s.arr
    hlt := { s.hlt with spans := [], spanAt := 0 }
    saf := { s.saf with lastState := (0, 0, 0) }
    cal := { s.cal with abortFill := false, flat := none, run := none }
    tm := { s.tm with evLost := false, evSent := 0, fwds := [], owed := [], sent := false, streams := [], use := 0, wins := [] }
    trc := r.trc }

/-- A choice between two states. -/
@[simp] theorem steady_ite {c : Prop} {_ : Decidable c} (s t : State) :
    steady (if c then s else t) = if c then steady s else steady t := apply_ite ..

/-- A loop of steps that each keep it. -/
@[simp] theorem steady_foldl {α : Type} (f : State → α → State) (l : List α) (s : State)
    (h : ∀ t a, steady (f t a) = steady t) : steady (l.foldl f s) = steady s := by
  induction l generalizing s with
  | nil => rfl
  | cons a l ih => rw [List.foldl_cons, ih, h]

@[simp] theorem steady_mapBus (f : Bus → Bus) (s : State) : steady (s.mapBus f) = steady s := rfl
@[simp] theorem steady_mapTrc (f : Trc → Trc) (s : State) : steady (s.mapTrc f) = steady s := rfl
/-! A group of which something is kept, when its update keeps that. -/

@[simp] theorem steady_mapReg (f : Reg → Reg) (s : State)
    (h : ∀ x, { f x with intStat := 0 } =
      { x with intStat := 0 }) :
    steady (s.mapReg f) = steady s := by
  simp only [steady, State.mapReg, h s.reg]

@[simp] theorem steady_mapRng (f : Rngs → Rngs) (s : State)
    (h : ∀ x, { f x with q := [], eq := State.reset.rng.eq } =
      { x with q := [], eq := State.reset.rng.eq }) :
    steady (s.mapRng f) = steady s := by
  simp only [steady, State.mapRng, h s.rng]

@[simp] theorem steady_mapLg (f : Machine.Log → Machine.Log) (s : State)
    (h : ∀ x, { f x with onDie := [], seq := 0 } =
      { x with onDie := [], seq := 0 }) :
    steady (s.mapLg f) = steady s := by
  simp only [steady, State.mapLg, h s.lg]

@[simp] theorem steady_mapScn (f : Scn → Scn) (s : State)
    (h : ∀ x, { f x with runs := [] } =
      { x with runs := [] }) :
    steady (s.mapScn f) = steady s := by
  simp only [steady, State.mapScn, h s.scn]

@[simp] theorem steady_mapFrm (f : Machine.Frm → Machine.Frm) (s : State) (h : ∀ x, steadyFrm (f x) = steadyFrm x) :
    steady (s.mapFrm f) = steady s := by
  simp only [steady, State.mapFrm, h s.frm]

@[simp] theorem steady_mapPho (f : Pho → Pho) (s : State)
    (h : ∀ x, { f x with aH := 0, aN := 0, aN0 := 0, aTile := [], shows := false } =
      { x with aH := 0, aN := 0, aN0 := 0, aTile := [], shows := false }) :
    steady (s.mapPho f) = steady s := by
  simp only [steady, State.mapPho, h s.pho]

@[simp] theorem steady_mapHlt (f : Hlt → Hlt) (s : State)
    (h : ∀ x, { f x with spans := [], spanAt := 0 } =
      { x with spans := [], spanAt := 0 }) :
    steady (s.mapHlt f) = steady s := by
  simp only [steady, State.mapHlt, h s.hlt]

@[simp] theorem steady_mapSaf (f : Saf → Saf) (s : State)
    (h : ∀ x, { f x with lastState := (0, 0, 0) } =
      { x with lastState := (0, 0, 0) }) :
    steady (s.mapSaf f) = steady s := by
  simp only [steady, State.mapSaf, h s.saf]

@[simp] theorem steady_mapCal (f : Cal → Cal) (s : State)
    (h : ∀ x, { f x with abortFill := false, flat := none, run := none } =
      { x with abortFill := false, flat := none, run := none }) :
    steady (s.mapCal f) = steady s := by
  simp only [steady, State.mapCal, h s.cal]

@[simp] theorem steady_mapTm (f : Machine.Team → Machine.Team) (s : State)
    (h : ∀ x, { f x with evLost := false, evSent := 0, fwds := [], owed := [], sent := false, streams := [], use := 0, wins := [] } =
      { x with evLost := false, evSent := 0, fwds := [], owed := [], sent := false, streams := [], use := 0, wins := [] }) :
    steady (s.mapTm f) = steady s := by
  simp only [steady, State.mapTm, h s.tm]

@[simp] theorem steady_mapFlt (f : Flt → Flt) (s : State) (hl : ∀ x, (f x).tsLo = x.tsLo) (hh : ∀ x, (f x).tsHi = x.tsHi)
    (hc : ∀ x, (f x).cond = x.cond) (hd : ∀ x, (f x).held = x.held) : steady (s.mapFlt f) = steady s := by
  simp only [steady, State.mapFlt, hl, hh, hc, hd]

@[simp] theorem steady_mapRing (n : Nat) (f : Ring → Ring) (s : State) : steady (mapRing n f s) = steady s := rfl
@[simp] theorem steady_mapPort (p : Fin 4) (f : Port → Port) (s : State) : steady (mapPort p f s) = steady s := rfl
@[simp] theorem steady_mapOrigin (o : BitVec 10) (r : Nat) (f : OriginWindow → OriginWindow) (s : State) :
    steady (mapOrigin o r f s) = steady s := rfl
@[simp] theorem steady_portEmit (p : Fin 4) (r : Word) (b : Bool) (f : TFrame) (s : State) :
    steady (portEmit p r b f s) = steady s := rfl
@[simp] theorem steady_logAdd (k c : Nat) (t : Dword) (d : List Byte) (s : State) : steady (logAdd k c t d s) = steady s := rfl
@[simp] theorem steady_logCompletion (op : Nat) (o : Option (BitVec 10)) (c : Completion) (s : State) :
    steady (logCompletion op o c s) = steady s := rfl

@[simp] theorem steady_portSend (p : Fin 4) (f : TFrame) (s : State) : steady (portSend p f s) = steady s := by
  simp [portSend]
@[simp] theorem steady_flood (b : Bool) (e : Option (Fin 4)) (f : TFrame) (s : State) :
    steady (flood b e f s) = steady s := by
  simp [flood]
@[simp] theorem steady_sendDown (f : TFrame) (s : State) : steady (sendDown f s) = steady s := steady_flood ..
@[simp] theorem steady_sendUp (f : TFrame) (s : State) : steady (sendUp f s) = steady s := by
  unfold sendUp
  split <;> simp
@[simp] theorem steady_cmdDown (f : Forward) (b : Bool) (t : BitVec 11) (s : State) :
    steady (cmdDown f b t s) = steady s := by
  simp [cmdDown]

@[simp] theorem steady_busSend (o : BusOut) (s : State) : steady (busSend o s) = steady s := rfl
@[simp] theorem steady_msixSend (v : Nat) (s : State) : steady (msixSend v s) = steady s := by
  simp [msixSend]
@[simp] theorem steady_intCause (c : Nat) (s : State) : steady (intCause c s) = steady s := by
  simp [intCause]
@[simp] theorem steady_eqModCheck (s : State) : steady (eqModCheck s) = steady s := by
  simp [eqModCheck]
@[simp] theorem steady_eqWrite (e : Event) (s : State) : steady (eqWrite e s) = steady s := by
  simp [eqWrite]
@[simp] theorem steady_forwardEvent (e : Event) (s : State) : steady (forwardEvent e s) = steady s := by
  simp [forwardEvent]
@[simp] theorem steady_emitAt (t : Dword) (c : Nat) (d : List Byte) (s : State) : steady (emitAt t c d s) = steady s := by
  simp [emitAt]
@[simp] theorem steady_emit (c : Nat) (d : List Byte) (s : State) : steady (emit c d s) = steady s := steady_emitAt ..

@[simp] theorem steady_cqModCheck (n : Nat) (s : State) : steady (cqModCheck n s) = steady s := by
  simp [cqModCheck]
@[simp] theorem steady_cqWrite (op : Nat) (ioc : Bool) (c : Completion) (s : State) :
    steady (cqWrite op ioc c s) = steady s := by
  simp [cqWrite]
@[simp] theorem steady_heldRelease (op n : Nat) (ioc : Bool) (seq : Word) (s : State) :
    steady (heldRelease op n ioc seq s) = steady s := by
  unfold heldRelease
  dsimp only
  split <;> simp
@[simp] theorem steady_mutedDone (op : Nat) (sub : Sub) (st : Half) (res t : Dword) (s : State) :
    steady (mutedDone op sub st res t s) = steady s := by
  simp [mutedDone]
@[simp] theorem steady_ownDone (op : Nat) (sub : Sub) (st : Half) (res t : Dword) (s : State) :
    steady (ownDone op sub st res t s) = steady s := by
  simp [ownDone]
@[simp] theorem steady_cplSend (op : Nat) (o : BitVec 10) (d r : Bool) (a : List (BitVec 10)) (c : Completion) (s : State) :
    steady (cplSend op o d r a c s) = steady s := by
  unfold cplSend
  dsimp only
  split <;> simp
@[simp] theorem steady_fwdSettle (f : Forward) (s : State) : steady (fwdSettle f s) = steady s := by
  unfold fwdSettle
  dsimp only
  split
  · split <;> simp
  · simp
@[simp] theorem steady_fwdMark (f : Option Forward) (e : BitVec 10) (g : TargetState → TargetState) (s : State) :
    steady (fwdMark f e g s) = steady s := by
  unfold fwdMark
  split <;> simp
@[simp] theorem steady_fwdTarget (o : Option (BitVec 10)) (r : Nat) (q : Word) (e : BitVec 10) (g : TargetState → TargetState)
    (s : State) : steady (fwdTarget o r q e g s) = steady s := by
  simp [fwdTarget]
@[simp] theorem steady_otherDone (op : Nat) (sub : Sub) (o : BitVec 10) (st : Half) (res t : Dword) (s : State) :
    steady (otherDone op sub o st res t s) = steady s := by
  simp [otherDone]

/-- The completion of a command. -/
@[simp] theorem steady_finishAt (op : Nat) (sub : Sub) (st : Half) (res t : Dword) (s : State) :
    steady (finishAt op sub st res t s) = steady s := by
  unfold finishAt
  dsimp only
  split
  · simp
  · split <;> simp
@[simp] theorem steady_finish (op : Nat) (sub : Sub) (st : Half) (res : Dword) (s : State) :
    steady (finish op sub st res s) = steady s := steady_finishAt ..
@[simp] theorem steady_keepRunning (sub : Sub) (s : State) : steady (keepRunning sub s) = steady s := by
  unfold keepRunning
  split <;> simp

@[simp] theorem steady_clearWrite (s : State) : steady (clearWrite s) = steady s := rfl
@[simp] theorem steady_postsFresh (s : State) : steady (postsFresh s) = steady s := by simp [postsFresh]
/-- The decision and the composition that S is written from. -/
theorem steady_writeNext (d : Option Decision) (c : Option CompSet) (b : Bool) (n : Nat) (s : State) :
    steady (s.mapFrm fun f => { f with dec := d, comp := c, compOn := b, compStart := n }) = steady s := rfl
@[simp] theorem steady_fillInstead (m : Bool) (s : State) : steady (fillInstead m s) = steady s := by
  unfold fillInstead
  split
  · rfl
  · split
    · exact (steady_writeNext ..).trans ((steady_clearWrite _).trans (steady_postsFresh s))
    · rfl
@[simp] theorem steady_calAbort (s : State) : steady (calAbort s) = steady s := by
  unfold calAbort
  split <;> simp
@[simp] theorem steady_calLeave (s : State) : steady (calLeave s) = steady s := by simp [calLeave]
@[simp] theorem steady_safetyEmit (f : Word) (st scene : Nat) (m : BitVec 12) (s : State) :
    steady (safetyEmit f st scene m s) = steady s := by simp [safetyEmit]
@[simp] theorem steady_safetyEvent (f : Word) (st scene : Nat) (m : BitVec 12) (s : State) :
    steady (safetyEvent f st scene m s) = steady s := by simp [safetyEvent]
@[simp] theorem steady_stateFlood (k : Nat) (d : List Byte) (s : State) : steady (stateFlood k d s) = steady s := by
  simp [stateFlood]
@[simp] theorem steady_safetyNote (b : BitVec 12) (s : State) : steady (safetyNote b s) = steady s := by
  simp [safetyNote]
@[simp] theorem steady_causeArise (b : BitVec 12) (s : State) : steady (causeArise b s) = steady s := by
  simp [causeArise]
@[simp] theorem steady_spanCut (s : State) : steady (spanCut s) = steady s := by simp [spanCut]
@[simp] theorem steady_tilesOpen (m : BitVec 256) (s : State) : steady (tilesOpen m s) = steady s := rfl
@[simp] theorem steady_darkAdd (c : DarkCause) (s : State) : steady (darkAdd c s) = steady s := rfl
@[simp] theorem steady_latchSet (src sev : Nat) (s : State) : steady (latchSet src sev s) = steady s := by simp [latchSet]
@[simp] theorem steady_latchFirst (src sev : Nat) (t : Dword) (s : State) : steady (latchFirst src sev t s) = steady s := by
  rw [latchFirst, steady_mapFlt] <;> intro x <;> dsimp only <;> split <;> rfl
@[simp] theorem steady_pinAssert (s : State) : steady (pinAssert s) = steady s := by simp [pinAssert]

/-- A raise of a fault source. -/
@[simp] theorem steady_raiseMin (src m : Nat) (d : List Byte) (s : State) : steady (raiseMin src m d s) = steady s := by
  simp [raiseMin]
@[simp] theorem steady_raise (src : Nat) (d : List Byte) (s : State) : steady (raise src d s) = steady s := steady_raiseMin ..
@[simp] theorem steady_raiseAll (l : List Raise) (s : State) : steady (raiseAll l s) = steady s := by
  simp [raiseAll]
@[simp] theorem steady_raised (q : List Raise × State) : steady (raised q) = steady q.2 := by
  simp [raised]

/-! ### Memory errors that a reading meets -/

/-- A loop of steps that each keep it, on a state with its raises. -/
theorem steady_foldl_snd {α β : Type} (f : β × State → α → β × State) (l : List α) (q : β × State)
    (h : ∀ t a, steady (f t a).2 = steady t.2) : steady (l.foldl f q).2 = steady q.2 := by
  induction l generalizing q with
  | nil => rfl
  | cons a l ih => rw [List.foldl_cons, ih, h]

@[simp] theorem steady_frameMem (src unit kind layer : Nat) (frame : Word) (q : List Raise × State) :
    steady (frameMem src unit kind layer frame q).2 = steady q.2 := rfl

/-- Of the pool a meeting changes the lists of its errors only. -/
theorem steady_meetUnits (kind : Nat) (units bad : List Nat) (s : State) : ∃ ce ue,
    steady (meetUnits kind units bad s) = steady (s.mapPool fun p => { p with ce := ce, ue := ue }) := by
  let c := (frameCe kind 0 0 units ([], s)).2
  have hce : steady c = steady (s.mapPool fun p => { p with ce := p.ce.filter fun u => !(s.ceOf units).contains u }) :=
    steady_foldl_snd _ _ _ fun _ _ => rfl
  let d := (bad.foldl (fun q u => frameMem fMemUe u kind 0 0 q) (frameCe kind 0 0 units ([], s))).2
  have hd : steady d = steady c := steady_foldl_snd _ _ _ fun _ _ => rfl
  refine ⟨s.pool.ce.filter fun u => !(s.ceOf units).contains u, d.pool.ue ++ bad.filter fun u => !d.pool.ue.contains u, ?_⟩
  have hpool := congrArg State.pool (hd.trans hce)
  rw [meetUnits, steady_raised]
  have hset (t : State) (p : Pool) : steady (t.mapPool fun _ => p) = (steady t).mapPool fun _ => p := rfl
  refine (hset d { d.pool with ue := d.pool.ue ++ bad.filter fun u => !d.pool.ue.contains u }).trans ?_
  rw [hd, hce, show d.pool = _ from hpool]
  rfl

/-- A copy out of the pool. -/
theorem steady_copied (handle : Half) (off n : Nat) (s : State) : ∃ ce ue,
    steady (copied handle off n s) = steady (s.mapPool fun p => { p with ce := ce, ue := ue }) := by
  unfold copied
  split
  · exact ⟨s.pool.ce, s.pool.ue, rfl⟩
  · exact steady_meetUnits ..

end Sys2Proof.Laws
end

section
/-!
The commands of sessions and protected items, settings, logs and updates: O26 to O29.
-/
namespace Sys2Proof.Laws
open Sys2Proof.Machine Sys2Proof.Claims

/-! ### What the beginning of an entry leaves -/

/-- R262: of the security state the beginning of an entry changes at most the time of the session's last use. -/
theorem begun_sec (i : Instr) (s : State) :
    (begun i s).sec = { s.sec with session := (begun i s).sec.session }
    ∧ (begun i s).sec.session.map Session.origin = s.sec.session.map Session.origin := by
  unfold begun
  split
  · exact ⟨rfl, rfl⟩
  · have hw (p : Spelled) : (startWindow p s).sec = s.sec := by
      unfold startWindow
      split <;> rfl
    split
    · refine ⟨?_, ?_⟩ <;> simp only [sessionTouch, State.mapSec, hw]
      cases s.sec.session <;> rfl
    · rw [hw]
      exact ⟨rfl, rfl⟩

@[simp] theorem begun_set (i : Instr) (s : State) : (begun i s).sec.set = s.sec.set := by rw [(begun_sec i s).1]
@[simp] theorem begun_fails (i : Instr) (s : State) : (begun i s).sec.fails = s.sec.fails := by rw [(begun_sec i s).1]
@[simp] theorem begun_marks (i : Instr) (s : State) : (begun i s).sec.marks = s.sec.marks := by rw [(begun_sec i s).1]
@[simp] theorem begun_challenge (i : Instr) (s : State) : (begun i s).sec.challenge = s.sec.challenge := by
  rw [(begun_sec i s).1]
@[simp] theorem begun_waits (i : Instr) (s : State) : (begun i s).sec.waits = s.sec.waits := by rw [(begun_sec i s).1]
@[simp] theorem begun_clk (i : Instr) (s : State) : (begun i s).clk = s.clk := by rw [begun_changes]
@[simp] theorem begun_pwr (i : Instr) (s : State) : (begun i s).pwr = s.pwr := by rw [begun_changes]
@[simp] theorem begun_idn (i : Instr) (s : State) : (begun i s).idn = s.idn := by rw [begun_changes]
@[simp] theorem begun_free (i : Instr) (s : State) : (begun i s).free = s.free := by rw [begun_changes]
@[simp] theorem begun_fls (i : Instr) (s : State) : (begun i s).fls = s.fls := by rw [begun_changes]

/-! ### Sessions -/

theorem readFailed_fail (sub : Sub) (l : List Byte) (s : State) :
    readFailed sub (.fail l) s = if sub.origin = none then aerRaise s else s := by
  unfold readFailed
  cases sub.origin <;> rfl

theorem readFailed_ok (sub : Sub) (l : List Byte) (s : State) : readFailed sub (.ok l) s = s := by
  unfold readFailed
  cases sub.origin <;> rfl

theorem exec_authLogin {sub : Sub} {o : LoginOps} {d : HostRead} {s : State} (hr : Runs (.authLogin sub o d) s) :
    exec (.authLogin sub o d) s = .next (loginBody sub o d (begun (.authLogin sub o d) s)) := ringCmd_runs _ hr

/-- A command that runs on an administrative row came on ring 0 (check 4). -/
theorem runs_admin_ring {i : Instr} {p : Spelled} {s : State} (hp : spelled i = some p) (ha : p.row.admin = true)
    (hr : Runs i s) : p.sub.ring.val = 0 := by
  simp only [Runs, hp] at hr
  obtain ⟨-, hcheck, -⟩ := hr
  by_contra h
  simp [State.entryCheck, ha, h] at hcheck

/-- R262: on ring 0 a command is the session's when the session is of its origin. -/
theorem sessionOk_iff {sub : Sub} (h : sub.ring.val = 0) (s : State) :
    s.sessionOk sub = true ↔ s.sec.session.map Session.origin = some sub.origin := by
  unfold State.sessionOk
  cases s.sec.session <;> simp [h]

theorem challengeOut_eq (sub : Sub) (h : Dword) (s : State) :
    challengeOut sub h (s.mapSec fun x => { x with challenge := none }) =
      let ch := leBytes s.serialNo.toNat 8 ++ ((List.range 32).map fun k => Config.freeByte (s.free + k))
        ++ leBytes s.sec.set.prot.recovery.toNat 8
      reply 0x88 sub stOk 0 [(0, h, ch)] { s with free := s.free + 32, sec := { s.sec with challenge := some ch } } := rfl

theorem hostRead_changes (sub : Sub) (h : Dword) (n : Nat) (s : State) :
    hostRead sub h n s = { s with bus := (hostRead sub h n s).bus } := by
  unfold hostRead
  split <;> rfl

@[simp] theorem hostRead_idn (sub : Sub) (h : Dword) (n : Nat) (s : State) : (hostRead sub h n s).idn = s.idn := by
  rw [hostRead_changes]

@[simp] theorem hostRead_sec (sub : Sub) (h : Dword) (n : Nat) (s : State) : (hostRead sub h n s).sec = s.sec := by
  rw [hostRead_changes]

@[simp] theorem hostRead_clk (sub : Sub) (h : Dword) (n : Nat) (s : State) : (hostRead sub h n s).clk = s.clk := by
  rw [hostRead_changes]

@[simp] theorem hostRead_pwr (sub : Sub) (h : Dword) (n : Nat) (s : State) : (hostRead sub h n s).pwr = s.pwr := by
  rw [hostRead_changes]

@[simp] theorem hostRead_free (sub : Sub) (h : Dword) (n : Nat) (s : State) : (hostRead sub h n s).free = s.free := by
  rw [hostRead_changes]

/-- R264, R469: an answer to a challenge that the host's memory gave. -/
theorem loginResponse_cases (sub : Sub) (op : Half) (ch : Option (List Byte)) (h : Dword) (l : List Byte) (s : State) :
    let c := hostRead sub h 64 s
    ((∀ m, ch = some m → Config.ecdsaOk s.idn.recoveryKey m (padTo 64 l) = false) →
      loginResponse sub op ch h (.ok l) s = finish 0x88 sub stNotAuthorized 0 c)
    ∧ (∀ m, ch = some m → Config.ecdsaOk s.idn.recoveryKey m (padTo 64 l) = true → s.sec.marks.length < 6000 →
      loginResponse sub op ch h (.ok l) s = flashStart sub 4 (.recovery op) c) := by
  intro c
  refine ⟨fun hbad => ?_, fun m hm hok hroom => ?_⟩ <;> unfold loginResponse <;> rw [readFailed_ok]
  · cases ch with
    | none => exact if_pos rfl
    | some m => exact if_pos (by simp [hbad m rfl])
  · subst hm
    dsimp only
    rw [if_neg (by simp [hok]), if_neg (by rw [hostRead_sec]; omega)]

/-- Settles O26: the modes of AUTH_LOGIN one by one, AUTH_LOGOUT, and the events. -/
theorem sessionCases : Obligations.SessionCases := by
  refine ⟨fun sub o d s => ?login, fun sub s => ⟨fun hr => ?logout, rfl, rfl, rfl, fun h => ?_, fun w rest h => ?_⟩⟩
  case login =>
    intro i hr b c p
    have hx : exec i s = .next (loginBody sub o d b) := exec_authLogin hr
    have hlock : c.lockedOut = b.lockedOut := rfl
    have hset : c.sec.set = s.sec.set := begun_set i s
    have hfails : c.sec.fails = s.sec.fails := begun_fails i s
    have hclk : c.clk = s.clk := begun_clk i s
    have htrng : c.pwr.trngOk = s.pwr.trngOk := congrArg Machine.Pwr.trngOk (begun_pwr i s)
    have hmode0 : o.mode = 0 → loginOk o = true → loginBody sub o d b = loginPassword sub o c := fun h hk => by
      rw [loginBody, hk, if_neg (by simp), if_pos h]
    have hmode1 : o.mode = 1 → loginOk o = true →
        loginBody sub o d b = loginChallenge sub (BitVec.ofNat 64 (leAt o.password 0 8)) c := fun h hk => by
      rw [loginBody, hk, if_neg (by simp), if_neg (by simp [h]), if_pos h]
    have hmode2 : o.mode = 2 → loginOk o = true → loginBody sub o d b =
        loginResponse sub o.operator s.sec.challenge (BitVec.ofNat 64 (leAt o.password 0 8)) d c := fun h hk => by
      rw [loginBody, hk, if_neg (by simp), if_neg (by simp [h]), if_neg (by simp [h]), begun_challenge]
    have hcompare : o.mode = 0 → loginOk o = true → b.lockedOut = false → p.pwState = 1 →
        loginBody sub o d b = loginCompare sub o.operator (o.password.take o.pwLen.toNat) c := fun h0 hk hl hp => by
      rw [hmode0 h0 hk, loginPassword, if_neg (by simp [hlock, hl]), if_neg (by rw [hset]; exact not_not.mpr hp)]
    refine ⟨fun h => ?_, fun hk h0 hl => ?_, fun hk h0 hl hp => ?_, fun hk h0 hl hp hpw => ?right,
      fun hk h0 hl hp hpw => ?wrong, fun hk h1 ht => ?_, fun hk h1 ht => ?_, fun hk h2 => ?response⟩
    · rw [hx, loginBody, h, if_pos (by simp)]
    · rw [hx, hmode0 h0 hk, loginPassword, if_pos (by rw [hlock, hl])]
    · rw [hx, hmode0 h0 hk, loginPassword, if_neg (by simp [hlock, hl]), if_pos (by rw [hset]; exact hp)]
    case right =>
      intro n
      have hn : loginBody sub o d b =
          if n.failsStored then loginOpen sub o.operator n else flashStart sub 4 (.login true o.operator) n := by
        rw [hcompare h0 hk hl hp, loginCompare, hset, if_pos hpw]
      have hstored : n.failsStored = true ↔ p.fails = 0 ∧ p.lockS = 0 := by
        rw [State.failsStored, show n.sec.set = s.sec.set from hset, Bool.and_eq_true, beq_iff_eq, beq_iff_eq]
        exact Iff.rfl
      refine ⟨fun hz => ?_, fun hz => ?_⟩
      · rw [hx, hn, if_pos (hstored.mpr hz), loginOpen, sessionOpen, show n.clk = s.clk from hclk]
      · rw [hx, hn, if_neg (mt hstored.mp hz)]
    case wrong =>
      intro k w n
      have hn : authFailure c = n := by
        simp only [authFailure, hfails, hclk]
        rfl
      have hlogin : loginBody sub o d b =
          if n.failsStored then finish 0x88 sub stNotAuthorized 0 n else flashStart sub 4 (.login false o.operator) n := by
        rw [hcompare h0 hk hl hp, loginCompare, hset, if_neg hpw, hn]
      refine ⟨fun hz => ?_, fun hz => ?_⟩
      · rw [hx, hlogin, if_pos hz]
      · rw [hx, hlogin, if_neg (by simp [hz])]
    · intro r ch
      rw [hx, hmode1 h1 hk, loginChallenge, if_pos (by rw [htrng, ht]), challengeOut_eq,
        begun_free, begun_set]
    · rw [hx, hmode1 h1 hk, loginChallenge, if_neg (by simp [c, b, State.mapSec, ht])]
    case response =>
      let c₀ := c
      intro c
      have hidn : c₀.idn = s.idn := begun_idn i s
      have hmarks : c₀.sec.marks = s.sec.marks := begun_marks i s
      refine ⟨fun l hd => ?_, fun l hd hbad => ?_, fun l m hd hm hok hroom => ?_⟩ <;> rw [hx, hmode2 h2 hk, hd]
      · rw [loginResponse, readFailed_fail]
      · rw [(loginResponse_cases sub _ _ _ l c₀).1 (by rwa [hidn])]
      · rw [(loginResponse_cases sub _ _ _ l c₀).2 m hm (by rwa [hidn]) (by rwa [hmarks])]
  case logout =>
    intro b
    have hring : sub.ring.val = 0 := runs_admin_ring (p := ⟨sub, rowAdm 0x89 .single false false, []⟩) rfl rfl hr
    have hx : exec (.authLogout sub) s = .next (finish 0x89 sub stOk 0 (if b.sessionOk sub then sessionEnd b else b)) :=
      ringCmd_runs _ hr
    have hiff := sessionOk_iff hring b
    rw [(begun_sec _ s).2] at hiff
    rw [hx]
    by_cases h : s.sec.session.map Session.origin = some sub.origin
    · rw [if_pos (hiff.mpr h)]
      exact (if_pos h).symm ▸ rfl
    · rw [if_neg (mt hiff.mp h)]
      exact (if_neg h).symm ▸ rfl
  · rw [show exec .trngHealthRestored s = execTrngHealthRestored s from rfl, execTrngHealthRestored, h]
    rfl
  · rw [show exec .trngHealthRestored s = execTrngHealthRestored s from rfl, execTrngHealthRestored, h]
    rfl

/-! ### Protected items -/

theorem exec_protectedWrite {sub : Sub} {item : Half} {v : Word} {s : State} (hr : Runs (.protectedWrite sub item v) s) :
    exec (.protectedWrite sub item v) s = .next (protectedBody sub item v (begun (.protectedWrite sub item v) s)) :=
  ringCmd_runs _ hr

theorem exec_teamPair {sub : Sub} {k : BitVec 128} {s : State} (hr : Runs (.teamPair sub k) s) :
    exec (.teamPair sub k) s = .next (teamPairBody sub k (begun (.teamPair sub k) s)) := ringCmd_runs _ hr

theorem exec_passwordSet {sub : Sub} {ol nl : Byte} {op : Half} {h : Dword} {d : HostRead} {s : State}
    (hr : Runs (.passwordSet sub ol nl op h d) s) : exec (.passwordSet sub ol nl op h d) s =
      .next (passwordBody sub ol nl op h d (begun (.passwordSet sub ol nl op h d) s)) := ringCmd_runs _ hr

theorem exec_cutoffSet {sub : Sub} {o : CutoffOps} {s : State} (hr : Runs (.cutoffSet sub o) s) :
    exec (.cutoffSet sub o) s = .next (cutoffBody sub o (begun (.cutoffSet sub o) s)) := ringCmd_runs _ hr

/-- Table 12.3: the protected items and their ranges. -/
theorem protChange_isNone (item : Half) (v : Word) : (protChange item v).isNone = true ↔
    ¬ ((item = 1 ∧ 205 ≤ v.toNat ∧ v.toNat ≤ 1023) ∨ (item = 2 ∧ v.toNat ≤ 4) ∨ (item = 3 ∧ v.toNat ≤ 2)) := by
  have h1 : item = 1 ↔ item.toNat = 1 := by constructor <;> intro h <;> bv_omega
  have h2 : item = 2 ↔ item.toNat = 2 := by constructor <;> intro h <;> bv_omega
  have h3 : item = 3 ↔ item.toNat = 3 := by constructor <;> intro h <;> bv_omega
  rw [h1, h2, h3, protChange]
  split
  · split <;> simp [*]
  · split <;> simp [*]
  · split <;> simp [*]
  · next n1 n2 n3 => simp [show BitVec.toNat item ≠ 1 from n1, show BitVec.toNat item ≠ 2 from n2, show BitVec.toNat item ≠ 3 from n3]

/-- R236, R257, R267: the state and the change log are checked, then the flash write starts. -/
theorem cutoffStart_cases (sub : Sub) (o : CutoffOps) (vs : List (Nat × Nat)) (b : State) :
    (sub.atTick = true → b.passed o.frame = true → cutoffStart sub o vs b = finish 0x42 sub stWrongState 0 b)
    ∧ ((sub.atTick = false ∨ b.passed o.frame = false) →
        (16 ≤ b.armedSets → cutoffStart sub o vs b = finish 0x42 sub stBusy 0 b)
        ∧ (b.armedSets < 16 → 4096 ≤ b.sec.marks.length → cutoffStart sub o vs b = finish 0x42 sub stLogFull 0 b)
        ∧ (b.armedSets < 16 → b.sec.marks.length < 4096 → cutoffStart sub o vs b = flashStart sub 4
            (.cutoff (cutoffChanges o vs) o.frame (if o.mask.getLsbD 0 then some (o.side, vs) else none)
              (if o.mask.getLsbD 1 then some o.limit else none)) b)) := by
  refine ⟨fun ha hp => ?_, fun h => ?_⟩
  · rw [cutoffStart, if_pos (by simp [ha, hp])]
  · have hn : ¬ (sub.atTick && b.passed o.frame) = true := by
      rcases h with h | h <;> simp [h]
    refine ⟨fun h16 => ?_, fun h16 hl => ?_, fun h16 hl => ?_⟩
    · rw [cutoffStart, if_neg hn, if_pos h16]
    · rw [cutoffStart, if_neg hn, if_neg (by omega), if_pos (by simpa [State.logFull] using hl)]
    · rw [cutoffStart, if_neg hn, if_neg (by omega), if_neg (by simpa [State.logFull] using hl)]

/-- R263, R265, R267: the checks of a password block, in their order. -/
theorem passwordCheck_cases (sub : Sub) (ol nl : Byte) (op : Half) (l : List Byte) (c : State) (hl : l.length = 64) :
    let p := c.sec.set.prot
    (zeroFrom (l.take 32) ol.toNat = false ∨ zeroFrom (l.drop 32) nl.toNat = false →
      passwordCheck sub ol nl op l c = finish 0x8B sub stBadOperand 0 c)
    ∧ (zeroFrom (l.take 32) ol.toNat = true → zeroFrom (l.drop 32) nl.toNat = true →
        let may := (p.pwState = 0 ∧ ol = 0) ∨ (p.pwState = 1 ∧ ol ≠ 0)
        let room := c.lockedOut = false ∧ c.sec.marks.length < 4096
        let fits := ol = 0 ∨ Config.pbkdf2 (l.take ol.toNat) p.salt = p.digest
        (p.pwState = 2 → passwordCheck sub ol nl op l c = finish 0x8B sub stNotAuthorized 0 c)
        ∧ (p.pwState = 0 → ol ≠ 0 → passwordCheck sub ol nl op l c = finish 0x8B sub stBadOperand 0 c)
        ∧ (p.pwState = 1 → ol = 0 → passwordCheck sub ol nl op l c = finish 0x8B sub stBadOperand 0 c)
        ∧ (may → c.lockedOut = true → passwordCheck sub ol nl op l c = finish 0x8B sub stLockedOut 0 c)
        ∧ (may → c.lockedOut = false → 4096 ≤ c.sec.marks.length →
            passwordCheck sub ol nl op l c = finish 0x8B sub stLogFull 0 c)
        ∧ (may → room → ¬ fits → passwordCheck sub ol nl op l c =
            if (authFailure c).failsStored then finish 0x8B sub stNotAuthorized 0 (authFailure c)
            else flashStart sub 4 .pwFail (authFailure c))
        ∧ (may → room → fits →
            passwordCheck sub ol nl op l c = passwordNew sub op ((l.drop 32).take nl.toNat) c)) := by
  intro p
  have hpad : padTo 64 l = l := padTo_length_eq 64 l hl
  refine ⟨fun h => ?_, fun ho hn => ?_⟩
  · unfold passwordCheck
    rw [hpad]
    rw [if_pos (by rcases h with h | h <;> simp [h])]
  · intro may room fits
    have hz : ¬ (!(zeroFrom (l.take 32) ol.toNat && zeroFrom (l.drop 32) nl.toNat)) = true := by simp [ho, hn]
    have hmay : may → ¬ p.pwState = 2 ∧ ¬ ((ol == 0) != (p.pwState == 0)) = true := fun h => by
      rcases h with ⟨h1, h2⟩ | ⟨h1, h2⟩
      · rw [h1, beq_iff_eq.mpr h2]
        decide
      · rw [h1, beq_eq_false_iff_ne.mpr h2]
        decide
    have hlock : c.lockedOut = false → ¬ c.lockedOut = true := fun h => by simp [h]
    have hfull : 4096 ≤ c.sec.marks.length ↔ c.logFull = true := by simp [State.logFull]
    have hold : ¬ fits ↔ ol ≠ 0 ∧ Config.pbkdf2 (l.take ol.toNat) p.salt ≠ p.digest := not_or
    refine ⟨fun h2 => ?_, fun h0 h => ?_, fun h1 h => ?_, fun hm hl => ?_, fun hm hl hf => ?_, fun hm hr hnf => ?_,
      fun hm hr hf => ?_⟩ <;> unfold passwordCheck <;> rw [hpad] <;> dsimp only <;> rw [if_neg hz]
    · rw [if_pos h2]
    · rw [show c.sec.set.prot.pwState = 0 from h0, beq_eq_false_iff_ne.mpr h, if_neg (by decide), if_pos (by decide)]
    · rw [show c.sec.set.prot.pwState = 1 from h1, beq_iff_eq.mpr h, if_neg (by decide), if_pos (by decide)]
    · rw [if_neg (hmay hm).1, if_neg (hmay hm).2, if_pos hl]
    · rw [if_neg (hmay hm).1, if_neg (hmay hm).2, if_neg (hlock hl), if_pos (hfull.mp hf)]
    · rw [if_neg (hmay hm).1, if_neg (hmay hm).2, if_neg (hlock hr.1), if_neg (mt hfull.mpr (by omega)), if_pos (hold.mp hnf)]
    · rw [if_neg (hmay hm).1, if_neg (hmay hm).2, if_neg (hlock hr.1), if_neg (mt hfull.mpr (by omega)),
        if_neg (mt hold.mpr (not_not.mpr hf))]

/-- R257: what follows the copy of a vertex list. -/
def cutoffRead (sub : Sub) (o : CutoffOps) (r : PoolRead) (b : State) : State :=
  match r with
  | .bad st => finish 0x42 sub st 0 b
  | .units l => finish 0x42 sub stMemError 0 (raiseUe 10 l b)
  | .data bs =>
    let c := copied o.handle o.offset.toNat (4 * o.count.toNat) b
    if vertsOk (parseVerts bs o.count.toNat) then cutoffStart sub o (parseVerts bs o.count.toNat) c
    else finish 0x42 sub stBadOperand 0 c

/-- R265: what follows the read of the password block. -/
def passwordBlock (sub : Sub) (ol nl : Byte) (op : Half) (d : HostRead) (s : State) : State :=
  match d with
  | .fail _ => finish 0x8B sub stMemError 0 s
  | .ok l => passwordCheck sub ol nl op l s

/-- Settles O27: each command by the cases of its checks. -/
theorem protectedCommandsStart : Obligations.ProtectedCommandsStart := by
  refine fun sub s => ⟨fun item v hr => ?prot, fun k hr => ?pair, fun ol nl op h d hr => ?pass, fun o hr => ?cut⟩
  case prot =>
    intro i b good
    have hx : exec i s = .next (protectedBody sub item v b) := exec_protectedWrite hr
    have hm : b.sec.marks = s.sec.marks := begun_marks i s
    refine ⟨fun h => ?_, fun h hl => ?_, fun h hl => ?_⟩
    · rw [hx, protectedBody, if_pos ((protChange_isNone item v).mpr h)]
    · rw [hx, protectedBody, if_neg (mt (protChange_isNone item v).mp (not_not.mpr h)), if_pos (by simpa [State.logFull, hm] using hl)]
    · rw [hx, protectedBody, if_neg (mt (protChange_isNone item v).mp (not_not.mpr h)), if_neg (by simpa [State.logFull, hm] using hl)]
  case pair =>
    intro b
    have hm : b.sec.marks = s.sec.marks := begun_marks _ s
    refine ⟨fun hl => ?_, fun hl => ?_⟩
    · rw [exec_teamPair hr, teamPairBody, if_pos (by simpa [State.logFull, hm] using hl)]
    · rw [exec_teamPair hr, teamPairBody, if_neg (by simpa [State.logFull, hm] using hl)]
  case pass =>
    intro i b p good
    have hx : exec i s = .next (passwordBody sub ol nl op h d b) := exec_passwordSet hr
    have hgood : passwordOk ol nl = true ↔ good := by simp [passwordOk, good]
    refine ⟨fun hn => ?_, fun hg => ?_⟩
    · rw [hx, passwordBody, if_pos (by simpa using mt hgood.mp hn)]
    intro c
    have hbody : passwordBody sub ol nl op h d b = passwordBlock sub ol nl op d (readFailed sub d c) := by
      rw [passwordBody, if_neg (by simp [hgood.mpr hg])]
      rfl
    refine ⟨fun l hd => ?_, fun l hd hl => ?_⟩
    · rw [hx, hbody, hd, readFailed_fail]
      rfl
    have hcheck : exec i s = .next (passwordCheck sub ol nl op l c) := by
      rw [hx, hbody, hd, readFailed_ok]
      rfl
    have hset : c.sec.set = s.sec.set := (congrArg Sec.set (hostRead_sec ..)).trans (begun_set i s)
    have hmarks : c.sec.marks = s.sec.marks := (congrArg Sec.marks (hostRead_sec ..)).trans (begun_marks i s)
    have hlock : c.lockedOut = b.lockedOut := by simp only [c, State.lockedOut, hostRead_sec, hostRead_clk]
    have hpw := passwordCheck_cases sub ol nl op l c hl
    rw [hset, hmarks, hlock] at hpw
    obtain ⟨hzero, hrest⟩ := hpw
    refine ⟨fun hz => hcheck.trans (congrArg _ (hzero hz)), fun ho hn => ?_⟩
    intro may room fits
    obtain ⟨h2, h0, h1, hlo, hfull, hold, hnew⟩ := hrest ho hn
    refine ⟨fun k => hcheck.trans (congrArg _ (h2 k)), fun k l => hcheck.trans (congrArg _ (h0 k l)),
      fun k l => hcheck.trans (congrArg _ (h1 k l)), fun k l => hcheck.trans (congrArg _ (hlo k l)),
      fun k l m => hcheck.trans (congrArg _ (hfull k l m)), fun k r f => ⟨fun hs => ?_, fun hs => ?_⟩,
      fun k r f ht => ?_, fun k r f ht => ?_⟩
    · rw [hcheck, hold k r f, if_pos hs]
    · rw [hcheck, hold k r f, if_neg (by simp [hs])]
    · intro salt
      rw [hcheck, hnew k r f, passwordNew, if_pos (by rw [hostRead_pwr, begun_pwr, ht]), passwordSalt, State.random, hostRead_free,
        begun_free]
    · rw [hcheck, hnew k r f, passwordNew, if_neg (by simp [hostRead_pwr, begun_pwr, ht, c, b])]
  case cut =>
    intro i b ok go
    have hx : exec i s = .next (cutoffBody sub o b) := exec_cutoffSet hr
    have hm : b.sec.marks = s.sec.marks := begun_marks i s
    have hok : (!cutoffShape o || !frameOperandOk sub o.frame) = true ↔ ¬ ok := by
      simp only [ok]
      rw [← frameOperandOk_iff]
      cases cutoffShape o <;> cases frameOperandOk sub o.frame <;> simp
    have hgo (c : State) (vs : List (Nat × Nat)) (hc : c.sec.marks = s.sec.marks)
        (hb : cutoffBody sub o b = cutoffStart sub o vs c) : go c vs := by
      have h := cutoffStart_cases sub o vs c
      rw [← hb, hc] at h
      simp only [go, hx, Host.Outcome.next.injEq]
      exact h
    have hread : ok → o.mask ≠ 0 → o.count ≠ 0 → cutoffBody sub o b =
        cutoffRead sub o (b.poolRead o.handle o.offset.toNat (4 * o.count.toNat)) b := fun h1 h2 h3 => by
      rw [cutoffBody, if_neg (mt hok.mp (not_not.mpr h1)), if_neg h2, if_neg h3]
      rfl
    refine ⟨fun h => ?_, fun h h0 => ?_, fun h h0 h1 => ?_, fun bs h h0 h1 hp => ?_, fun st h h0 h1 hp => ?_,
      fun u h h0 h1 hp => ?_⟩
    · rw [hx, cutoffBody, if_pos (hok.mpr h)]
    · rw [hx, cutoffBody, if_neg (mt hok.mp (not_not.mpr h)), if_pos h0]
    · refine hgo b [] hm ?_
      rw [cutoffBody, if_neg (mt hok.mp (not_not.mpr h)), if_neg h0, if_pos h1]
    · intro c
      have hc : c.sec.marks = s.sec.marks := by
        obtain ⟨_, _, he⟩ := steady_copied o.handle o.offset.toNat (4 * o.count.toNat) b
        exact (congrArg (fun x => (State.sec x).marks) he).trans hm
      refine ⟨fun hv => ?_, fun hv => hgo c _ hc ?_⟩
      · rw [hx, hread h h0 h1, hp, cutoffRead, hv, if_neg (by simp)]
      · rw [hread h h0 h1, hp, cutoffRead, if_pos hv]
    · rw [hx, hread h h0 h1, hp]
      rfl
    · rw [hx, hread h h0 h1, hp]
      rfl

/-! ### Settings and logs -/

theorem exec_settingsRead {sub : Sub} {w : Byte} {off : Word} {d : Dword} {n : Word} {s : State}
    (hr : Runs (.settingsRead sub w off d n) s) : exec (.settingsRead sub w off d n) s =
      .next (settingsReadBody sub w off d n (begun (.settingsRead sub w off d n) s)) := ringCmd_runs _ hr

theorem exec_settingsWrite {sub : Sub} {f : Half} {n : Byte} {l : List Byte} {s : State}
    (hr : Runs (.settingsWrite sub f n l) s) : exec (.settingsWrite sub f n l) s =
      .next (settingsWriteBody sub f n l (begun (.settingsWrite sub f n l) s)) := ringCmd_runs _ hr

theorem exec_cfgCommit {sub : Sub} {s : State} (hr : Runs (.cfgCommit sub) s) :
    exec (.cfgCommit sub) s = .next (cfgCommitBody sub (begun (.cfgCommit sub) s)) := ringCmd_runs _ hr

theorem exec_logRead {sub : Sub} {w : Byte} {f : Word} {d : Dword} {n : Word} {s : State}
    (hr : Runs (.logRead sub w f d n) s) : exec (.logRead sub w f d n) s =
      .next (logReadBody sub w f d n (begun (.logRead sub w f d n) s)) := ringCmd_runs _ hr

theorem exec_logArchive {sub : Sub} {u : Word} {s : State} (hr : Runs (.logArchive sub u) s) :
    exec (.logArchive sub u) s = .next (logArchiveBody sub u (begun (.logArchive sub u) s)) := ringCmd_runs _ hr

theorem logFull_iff (s : State) : s.logFull = true ↔ 4096 ≤ s.sec.marks.length := decide_eq_true_iff

theorem padTo_take_of_le (n : Nat) (l : List Byte) (h : n ≤ l.length) : padTo n l = l.take n := by
  rw [padTo, List.take_append_of_le_length h]

/-- R268: the touchmarks of a read, and the sequence that follows them. -/
theorem marksRead_eq (f : Word) (n : Nat) (s : State) : marksRead f n s =
    let r := (s.sec.marks.filter fun t => decide (f.toNat ≤ t.seq.toNat)).take n
    (BitVec.ofNat 64 (r.length + 2 ^ 32 * ((r.getLast?.map fun t => t.seq + 1).getD f).toNat), r.flatMap Touchmark.bytes) := by
  unfold marksRead
  cases h : ((s.sec.marks.filter fun t => decide (f.toNat ≤ t.seq.toNat)).take n).getLast? <;> simp only [h] <;> rfl

/-- Settles O28: each command by the cases of its body. -/
theorem settingsAndLogCommands : Obligations.SettingsAndLogCommands := by
  refine fun sub s => ⟨fun w off d n hr => ?read, fun f n l hl hr => ?write, fun hr => ?commit, fun w f d n hr => ?logRead,
    fun u hr => ?archive⟩
  case read =>
    intro i b
    have hset : b.sec.set = s.sec.set := begun_set i s
    have hsec : b.workRecord = { s.sec.set with ord := s.sec.work } := by
      rw [State.workRecord, (begun_sec i s).1]
    refine ⟨fun h => ?_, fun h1 h2 => ?_⟩
    · rw [exec_settingsRead hr, settingsReadBody, if_pos (by omega)]
    · rw [exec_settingsRead hr, settingsReadBody, if_neg (by omega)]
      dsimp only
      rw [hset, hsec]
  case write =>
    intro i b good
    have hwork : b.sec.work = s.sec.work := by rw [(begun_sec i s).1]
    have hn : n = 0 ↔ n.toNat = 0 := by constructor <;> intro h <;> bv_omega
    have hgood : ¬ good ↔ n = 0 ∨ 32 < n.toNat ∨ (!zeroFrom l n.toNat) = true := by
      cases hz : zeroFrom l n.toNat <;> simp only [good, hn, hz] <;> simp
      omega
    have hpad : good → padTo n.toNat l = l.take n.toNat := fun h => padTo_take_of_le _ _ (by omega)
    refine ⟨fun h => ?_, fun w h hw => ?_⟩
    · by_cases hg : good
      · rw [exec_settingsWrite hr, settingsWriteBody, if_neg (mt hgood.mpr (not_not.mpr hg)), hpad hg, hwork,
          h.resolve_left (not_not.mpr hg)]
      · rw [exec_settingsWrite hr, settingsWriteBody, if_pos (hgood.mp hg)]
    · rw [exec_settingsWrite hr, settingsWriteBody, if_neg (mt hgood.mpr (not_not.mpr h)), hpad h, hwork, hw]
  case commit =>
    intro b
    have hm : b.sec.marks = s.sec.marks := begun_marks _ s
    refine ⟨fun h => ?_, fun h => ?_⟩
    · rw [exec_cfgCommit hr, cfgCommitBody, if_pos ((logFull_iff b).mpr (by rwa [hm]))]
    · rw [exec_cfgCommit hr, cfgCommitBody, if_neg (mt (logFull_iff b).mp (by rw [hm]; omega))]
  case logRead =>
    intro i b good
    have hmarks : b.sec.marks = s.sec.marks := begun_marks i s
    have h0 : w = 0 ↔ w.toNat = 0 := by constructor <;> intro h <;> bv_omega
    have h1 : w = 1 ↔ w.toNat = 1 := by constructor <;> intro h <;> bv_omega
    have hgood : ¬ good ↔ 1 < w.toNat ∨ 4096 < n.toNat ∨ (w = 0 ∧ logSize ≤ f.toNat) := by
      simp only [good, h0, h1, logSize]
      omega
    refine ⟨fun h => ?_, fun h hn => ?_, fun h hn hw => ?_, fun h hn hw => ?_⟩
    · rw [exec_logRead hr, logReadBody, if_pos (hgood.mp h)]
    · rw [exec_logRead hr, logReadBody, if_neg (mt hgood.mpr (not_not.mpr h)), if_pos hn]
    · intro r
      rw [exec_logRead hr, logReadBody, if_neg (mt hgood.mpr (not_not.mpr h)), if_neg hn]
      dsimp only
      rw [if_pos hw, if_pos hw]
      rfl
    · intro r
      have hw0 : ¬ w = 0 := by rw [hw]; decide
      rw [exec_logRead hr, logReadBody, if_neg (mt hgood.mpr (not_not.mpr h)), if_neg hn]
      dsimp only
      rw [if_neg hw0, if_neg hw0, marksRead_eq, hmarks]
  case archive =>
    intro b
    have hnew : b.newestMark = s.sec.nextMark - 1 := by rw [State.newestMark, (begun_sec _ s).1]
    refine ⟨fun h => ?_, fun h => ?_⟩
    · rw [exec_logArchive hr, logArchiveBody, hnew, if_pos h]
    · rw [exec_logArchive hr, logArchiveBody, hnew, if_neg (by omega)]

/-! ### Updates -/

theorem exec_updateOpen {sub : Sub} {n : Word} {s : State} (hr : Runs (.updateOpen sub n) s) :
    exec (.updateOpen sub n) s = .next (updateOpenBody sub n (begun (.updateOpen sub n) s)) := ringCmd_runs _ hr

theorem exec_updateWrite {sub : Sub} {off : Word} {h : Dword} {n : Word} {d : HostRead} {s : State}
    (hr : Runs (.updateWrite sub off h n d) s) : exec (.updateWrite sub off h n d) s =
      .next (updateWriteBody sub off h n d (begun (.updateWrite sub off h n d) s)) := ringCmd_runs _ hr

theorem exec_updateClose {sub : Sub} {s : State} (hr : Runs (.updateClose sub) s) :
    exec (.updateClose sub) s = .next (updateCloseBody sub (begun (.updateClose sub) s)) := ringCmd_runs _ hr

theorem exec_updateConfirm {sub : Sub} {s : State} (hr : Runs (.updateConfirm sub) s) :
    exec (.updateConfirm sub) s = .next (updateConfirmBody sub (begun (.updateConfirm sub) s)) := ringCmd_runs _ hr

theorem inactive_of_fls {s t : State} (h : t.fls = s.fls) : t.inactive = s.inactive := by
  simp only [State.inactive, State.bootRec, State.bootCopies, h]

/-- Whether a page of the update differs depends on the flash alone. -/
theorem pageConflict_of_fls {s t : State} (h : t.fls = s.fls) (p : Nat × List Byte) : t.pageConflict p = s.pageConflict p := by
  simp only [State.pageConflict, inactive_of_fls h, State.slotBytes, State.slotCells, h]

/-- R284: what follows the read of the pages of an update. -/
def updateBlock (sub : Sub) (off n : Nat) (d : HostRead) (s : State) : State :=
  match d with
  | .fail bs => updatePartial sub off (bs.take n) s
  | .ok bs => updateProgram sub off (padTo n bs) s

theorem updateProgram_cases (sub : Sub) (off : Nat) (bs : List Byte) {b c : State} (h : c.fls = b.fls) :
    let pages := pagesOf off bs
    let clash := ∃ p ∈ pages, b.pageConflict p = true
    let old := ∀ p ∈ pages, p.1 ∈ b.fls.upd.written
    (clash → updateProgram sub off bs c = finish 0x81 sub stUpdConflict 0 c)
    ∧ (¬ clash → old → updateProgram sub off bs c = finish 0x81 sub stOk 0 c)
    ∧ (¬ clash → ¬ old → updateProgram sub off bs c = flashStart sub (if b.inactive then 1 else 0) (.updWrite off bs) c) := by
  intro pages clash old
  have hclash : (pages.any c.pageConflict) = true ↔ clash := by
    simp only [List.any_eq_true, pageConflict_of_fls h, clash]
  have hold : (pages.all fun p => c.fls.upd.written.contains p.1) = true ↔ old := by
    simp [h, old]
  refine ⟨fun hc => ?_, fun hc ho => ?_, fun hc ho => ?_⟩
  · rw [updateProgram, if_pos (hclash.mpr hc)]
  · rw [updateProgram, if_neg (mt hclash.mp hc), if_pos (hold.mpr ho)]
  · rw [updateProgram, if_neg (mt hclash.mp hc), if_neg (mt hold.mp ho), inactive_of_fls h, flag]

theorem updatePartial_cases (sub : Sub) (off : Nat) (bs : List Byte) {b c : State} (h : c.fls = b.fls) :
    let pages := pagesOf off bs
    let none_ := (∃ p ∈ pages, b.pageConflict p = true) ∨ ∀ p ∈ pages, p.1 ∈ b.fls.upd.written
    (none_ → updatePartial sub off bs c = finish 0x81 sub stMemError 0 c)
    ∧ (¬ none_ → updatePartial sub off bs c = flashStart sub (if b.inactive then 1 else 0) (.updPartial off bs) c) := by
  intro pages none_
  have hnone : (pages.any c.pageConflict || pages.all fun p => c.fls.upd.written.contains p.1) = true ↔ none_ := by
    simp only [Bool.or_eq_true, List.any_eq_true, pageConflict_of_fls h, none_]
    simp [h]
  refine ⟨fun hc => ?_, fun hc => ?_⟩
  · rw [updatePartial, if_pos (hnone.mpr hc)]
  · rw [updatePartial, if_neg (mt hnone.mp hc), inactive_of_fls h, flag]

/-- R442: the verdict on the closed image in halter mode. -/
theorem closeCheck_cases (sub : Sub) (s : State) :
    (s.manifest s.inactive = .ok → closeCheck sub s = flashStart sub 6 .updClose s)
    ∧ (s.manifest s.inactive = .rollback →
        closeCheck sub s = finish 0x82 sub stUpdRollback 0 (imageFault s.inactive .rollback s))
    ∧ ∀ r, s.manifest s.inactive = .bad r → closeCheck sub s = finish 0x82 sub stUpdSignature 0 s := by
  unfold closeCheck
  generalize State.manifest s = m
  refine ⟨fun h => ?_, fun h => ?_, fun r h => ?_⟩ <;> simp only [h]

/-- Settles O29: each command by the cases of its body. -/
theorem updateCommands : Obligations.UpdateCommands := by
  refine fun sub s => ⟨fun n => ?opens, fun off host len d => ?write, ?close, ?confirm⟩
  case opens =>
    intro i hr b good busy u
    have hx : exec i s = .next (updateOpenBody sub n b) := exec_updateOpen hr
    have hupd : b.fls.upd = s.fls.upd := congrArg Fls.upd (begun_fls i s)
    have hgood : ¬ good ↔ n.toNat < 256 ∨ slotSize < n.toNat ∨ n.toNat % 256 ≠ 0 := by
      simp only [good, slotSize]
      omega
    have hbusy : busy ↔ b.fls.upd.state = 1 ∨ b.fls.upd.waiting.isSome = true := by
      rw [hupd, Option.isSome_iff_ne_none]
    refine ⟨fun h => ?_, fun h hb => ?_, fun h hb ho => ?_, fun h hb ho h2 => ?_, fun h hb ho h2 => ?_⟩
    · rw [hx, updateOpenBody]
      exact congrArg _ (if_pos (hgood.mp h))
    all_goals
      have hn := mt hgood.mpr (not_not.mpr h)
      rw [hx, updateOpenBody, if_neg hn]
    · rw [if_pos (hbusy.mp hb)]
    · rw [if_neg (mt hbusy.mpr hb), if_pos ho]
    · rw [if_neg (mt hbusy.mpr hb), if_neg (by simp [ho])]
      dsimp only
      rw [if_neg (by simpa [hupd] using h2)]
      rfl
    · rw [if_neg (mt hbusy.mpr hb), if_neg (by simp [ho])]
      dsimp only
      rw [if_pos (by simpa [hupd] using h2)]
      rfl
  case write =>
    intro i hr b good fits
    have hx : exec i s = .next (updateWriteBody sub off host len d b) := exec_updateWrite hr
    have hfls : b.fls = s.fls := begun_fls i s
    have hgood : ¬ good ↔ off.toNat % 256 ≠ 0 ∨ len.toNat % 256 ≠ 0 ∨ 65536 < len.toNat := by
      simp only [good]
      omega
    have hfits : ¬ fits ↔ s.fls.upd.length ≤ off.toNat ∨ s.fls.upd.length < off.toNat + len.toNat := by
      simp only [fits]
      omega
    have hlen : len = 0 ↔ len.toNat = 0 := by constructor <;> intro h <;> bv_omega
    have hblock : good → s.fls.upd.state = 1 → fits → len ≠ 0 → updateWriteBody sub off host len d b =
        updateBlock sub off.toNat len.toNat d (readFailed sub d (hostRead sub host len.toNat b)) := fun h h1 hf hl => by
      rw [updateWriteBody]
      dsimp only
      rw [if_neg (mt hgood.mpr (not_not.mpr h)), hfls, if_neg (not_not.mpr h1), if_neg (mt hfits.mpr (not_not.mpr hf)),
        if_neg (mt hlen.mpr hl)]
      rfl
    have hkeep : (hostRead sub host len.toNat b).fls = b.fls := by rw [hostRead_changes]
    refine ⟨fun h => ?_, fun h h1 => ?_, fun h h1 hf => ?_, fun h h1 hf hl => ?_, fun bs h h1 hf hl hd => ?_,
      fun bs h h1 hf hl hd => ?_⟩
    · rw [hx, updateWriteBody]
      exact congrArg _ (if_pos (hgood.mp h))
    · rw [hx, updateWriteBody]
      dsimp only
      rw [if_neg (mt hgood.mpr (not_not.mpr h)), hfls, if_pos h1]
    · rw [hx, updateWriteBody]
      dsimp only
      rw [if_neg (mt hgood.mpr (not_not.mpr h)), hfls, if_neg (not_not.mpr h1), if_pos (hfits.mp hf)]
    · rw [hx, updateWriteBody]
      dsimp only
      rw [if_neg (mt hgood.mpr (not_not.mpr h)), hfls, if_neg (not_not.mpr h1), if_neg (mt hfits.mpr (not_not.mpr hf)),
        if_pos (hlen.mp hl)]
    · intro pages clash old c
      obtain ⟨h1', h2', h3'⟩ := updateProgram_cases sub off.toNat (padTo len.toNat bs) hkeep
      rw [hx, hblock h h1 hf hl, hd, readFailed_ok, updateBlock]
      rw [hfls] at h2' h3'
      exact ⟨fun k => congrArg _ (h1' k), fun k l => congrArg _ (h2' k l), fun k l => congrArg _ (h3' k l)⟩
    · intro pages none_ c₀ c
      have hc : c.fls = b.fls := by
        simp only [c]
        split
        · exact (keeps_aerRaise _).fls.trans hkeep
        · exact hkeep
      obtain ⟨h1', h2'⟩ := updatePartial_cases sub off.toNat (bs.take len.toNat) hc
      rw [hx, hblock h h1 hf hl, hd, readFailed_fail, updateBlock]
      rw [hfls] at h1' h2'
      exact ⟨fun k => congrArg _ (h1' k), fun k => congrArg _ (h2' k)⟩
  case close =>
    intro i hr b whole
    have hx : exec i s = .next (updateCloseBody sub b) := exec_updateClose hr
    have hfls : b.fls = s.fls := begun_fls i s
    have hpwr : b.pwr = s.pwr := begun_pwr i s
    have hwhole : whole → ¬ s.fls.upd.written.length * 256 < s.fls.upd.length := fun h => not_lt.mpr h
    have hcheck : s.fls.upd.state = 1 → whole → s.pwr.mode = .halter → updateCloseBody sub b = closeCheck sub b :=
      fun h1 hw hm => by
        rw [updateCloseBody, hfls, hpwr, if_neg (not_not.mpr h1), if_neg (hwhole hw), if_pos hm]
    refine ⟨fun h => ?_, fun h hw => ?_, fun h hw hm => ?_, fun h hw hm hv => ?_, fun r h hw hm hv => ?_⟩
    · rw [hx, updateCloseBody, hfls, if_pos h]
    · rw [hx, updateCloseBody, hfls, if_neg (not_not.mpr h), if_pos (not_le.mp hw)]
    · by_cases hh : s.pwr.mode = .halter
      · rw [hx, hcheck h hw hh, (closeCheck_cases sub b).1 (hm.resolve_left (not_not.mpr hh))]
      · rw [hx, updateCloseBody, hfls, hpwr, if_neg (not_not.mpr h), if_neg (hwhole hw), if_neg hh]
    · rw [hx, hcheck h hw hm, (closeCheck_cases sub b).2.1 hv]
    · rw [hx, hcheck h hw hm, (closeCheck_cases sub b).2.2 r hv]
  case confirm =>
    intro i hr b
    have hx : exec i s = .next (updateConfirmBody sub b) := exec_updateConfirm hr
    have hfls : b.fls = s.fls := begun_fls i s
    refine ⟨fun h => ?_, fun h => ?_⟩
    · rw [hx, updateConfirmBody, hfls, h, if_pos (by simp)]
    · rw [hx, updateConfirmBody, hfls, h, if_neg (by simp)]

end Sys2Proof.Laws
end

section
/-!
Core watchdogs and reloads, doorbells: O31, O37.
-/
namespace Sys2Proof.Laws
open Sys2Proof.Machine Sys2Proof.Claims

/-! ### Watchdogs -/

/-- R17, R455: a core whose watchdog expires stops, the expiry is noted, and the third within 60 s keeps it stopped. -/
def wdogStop (c : CoreId) (s : State) : State :=
  let t := (coreSet c false s).mapPwr fun p =>
    { p with wdogs := (p.wdogs.filter fun e => decide (s.clk.loc < e.2 + 60000000000)) ++ [(c, s.clk.loc)] }
  if t.expiries c < 3 then t else t.mapPwr fun p => { p with stopped := p.stopped ++ [c] }

theorem watchdogExpiry_eq (c : CoreId) (s : State) (hon : s.coreOn c = true) (hclk : s.pwr.coreClock = true) :
    exec (.watchdogExpiry c) s = .next (raise fWdog [BitVec.ofNat 8 (coreNo c)]
      (if c = .ostler then ostlerStop (wdogStop c s) else wdogStop c s)) := by
  change execWatchdogExpiry c s = _
  unfold execWatchdogExpiry
  rw [if_neg (by simp [hon, hclk])]
  rfl

/-- The cores that run are in the power state. -/
theorem coreOn_of_pwr {s t : State} (c : CoreId) (hf : t.pwr.farrier = s.pwr.farrier) (hg : t.pwr.groom = s.pwr.groom)
    (ho : t.pwr.ostler = s.pwr.ostler) : t.coreOn c = s.coreOn c := by
  cases c
  · exact hf
  · exact hg
  · exact ho

theorem coreSet_coreOn (c d : CoreId) (b : Bool) (s : State) :
    (coreSet c b s).coreOn d = if d = c then b else s.coreOn d := by
  cases c <;> cases d <;> rfl

theorem coreSet_wdogs (c : CoreId) (b : Bool) (s : State) :
    (coreSet c b s).pwr.wdogs = s.pwr.wdogs ∧ (coreSet c b s).pwr.stopped = s.pwr.stopped := by
  cases c <;> exact ⟨rfl, rfl⟩

theorem wdogStop_changes (c : CoreId) (s : State) : wdogStop c s = { s with pwr := (wdogStop c s).pwr } := by
  unfold wdogStop
  dsimp only
  split <;> rfl

theorem wdogStop_coreOn (c d : CoreId) (s : State) : (wdogStop c s).coreOn d = if d = c then false else s.coreOn d := by
  rw [← coreSet_coreOn]
  unfold wdogStop
  dsimp only
  split <;> exact coreOn_of_pwr d rfl rfl rfl

/-- R455: the third expiry within 60 s. -/
theorem wdogStop_stopped (c : CoreId) (s : State) : (wdogStop c s).pwr.stopped =
    if 2 ≤ (s.pwr.wdogs.filter fun e => e.1 == c && decide (s.clk.loc < e.2 + 60000000000)).length
    then s.pwr.stopped ++ [c] else s.pwr.stopped := by
  let t := (coreSet c false s).mapPwr fun p =>
    { p with wdogs := (p.wdogs.filter fun e => decide (s.clk.loc < e.2 + 60000000000)) ++ [(c, s.clk.loc)] }
  have hn : t.expiries c =
      (s.pwr.wdogs.filter fun e => e.1 == c && decide (s.clk.loc < e.2 + 60000000000)).length + 1 := by
    simp only [t, State.expiries, State.mapPwr, (coreSet_wdogs c false s).1, List.filter_append, List.filter_filter,
      List.length_append]
    simp
  have hs : t.pwr.stopped = s.pwr.stopped := (coreSet_wdogs c false s).2
  have hw : wdogStop c s = if t.expiries c < 3 then t else t.mapPwr fun p => { p with stopped := p.stopped ++ [c] } := rfl
  rw [hw, hn]
  split
  · rw [if_neg (by omega), hs]
  · rw [if_pos (by omega)]
    exact congrArg (· ++ [c]) hs

theorem ostlerStop_changes (s : State) :
    ostlerStop s = { s with clk := (ostlerStop s).clk, tm := (ostlerStop s).tm } := by
  unfold ostlerStop
  split <;> rfl

/-- R18: a follower leaves tick sync, and its time is disciplined no more. -/
theorem ostlerStop_follower (s : State) (h : s.actsFollower = true) :
    (ostlerStop s).tm.tickSync = false ∧ (ostlerStop s).clk.slew = 0 := by
  rw [ostlerStop, if_pos h]
  exact ⟨rfl, rfl⟩

/-- Settles O31: the expiry by `wdogStop` and `ostlerStop`, the reload by the section that it finds. -/
theorem watchdogAndReload : Obligations.WatchdogAndReload := by
  intro s
  refine ⟨fun c hon hclk => ?expiry, fun c hoff => ?idle, fun c slot hc hrun hoff hfar hst => ?reload, fun c hc => ?stopped⟩
  case expiry =>
    have hpwr : (if c = .ostler then ostlerStop (wdogStop c s) else wdogStop c s).pwr = (wdogStop c s).pwr := by
      split
      · rw [ostlerStop_changes]
      · rfl
    refine ⟨if c = .ostler then ostlerStop (wdogStop c s) else wdogStop c s, ?_, ?_, fun d hd => ?_, ?_, ?_, ?_, ?_⟩
    · rw [watchdogExpiry_eq c s hon hclk]
      cases c <;> rfl
    · rw [coreOn_of_pwr (s := wdogStop c s) c (by rw [hpwr]) (by rw [hpwr]) (by rw [hpwr]), wdogStop_coreOn, if_pos rfl]
    · rw [coreOn_of_pwr (s := wdogStop c s) d (by rw [hpwr]) (by rw [hpwr]) (by rw [hpwr]), wdogStop_coreOn, if_neg hd]
    · rw [hpwr]
      exact wdogStop_stopped c s
    · intro ho hf
      rw [if_pos ho]
      refine ostlerStop_follower _ ?_
      rw [wdogStop_changes]
      exact hf
    · split
      · rw [ostlerStop_changes, wdogStop_changes]
      · rw [wdogStop_changes]
    · split
      · rw [ostlerStop_changes, wdogStop_changes]
      · rw [wdogStop_changes]
  case idle =>
    change execWatchdogExpiry c s = _
    rw [execWatchdogExpiry, if_pos (by simp [hoff])]
  case reload =>
    have hx : exec (.coreReloadDone c) s = .next (coreReload c (if c = .groom then 2 else 3) s) := by
      cases c
      · exact absurd rfl hc
      · rfl
      · rfl
    have hnot : ¬ (s.coreOn c || s.pwr.stopped.contains c || !s.pwr.farrier) = true := by
      simp [hoff, hfar, hst]
    intro found
    refine ⟨fun x hx' hok => ⟨coreSet c true s, ?_, ?_, fun d hd => ?_, ?_⟩, fun x hx' hbad => ?_⟩
    · rw [hx, coreReload, hrun]
      dsimp only
      rw [if_neg hnot, show s.sectionOf slot (if c = .groom then 2 else 3) = some x from hx']
      dsimp only
      rw [if_pos hok]
    · rw [coreSet_coreOn, if_pos rfl]
    · rw [coreSet_coreOn, if_neg hd]
    · cases c <;> rfl
    · rw [hx, coreReload, hrun]
      dsimp only
      rw [if_neg hnot, show s.sectionOf slot (if c = .groom then 2 else 3) = some x from hx']
      dsimp only
      rw [if_neg (by simp [hbad])]
  case stopped =>
    have hgive (k : Nat) : coreReload c k s = s := by
      unfold coreReload
      split
      · rfl
      · rw [if_pos (by simp [hc])]
    cases c
    · rfl
    · exact congrArg _ (hgive 2)
    · exact congrArg _ (hgive 3)

/-! ### Doorbells -/

/-- R426: outside a SLEEP or STANDBY entry a write to BAR2 wakes nothing. -/
theorem wakeQualify_bar2 (l : Nat) (s : State) (h : s.pwr.entry = none) : wakeQualify 6 l s = s := by
  unfold wakeQualify
  split
  · rfl
  · simp [h]

/-- R426: a write to BAR2 that leaves no entry running does what its register does. -/
theorem bar2Op_decoded (f : State → State) (s : State) (hm : s.memOn = true) (h : (f (busAwake s)).pwr.entry = none) :
    bar2Op f s = .next (f (busAwake s)) := by
  rw [bar2Op, if_pos hm, wakeQualify_bar2 0 _ h]

theorem busAwake_eq (s : State) : busAwake s = { s with bus := { s.bus with l1 := false } } := by
  unfold busAwake
  split
  · rfl
  · next h =>
    rw [← Bool.not_eq_true _ |>.mp h]

theorem keeps_sqAccept (n : Nat) (i : BitVec 13) (s : State) : Keeps s (sqAccept n i s) :=
  keeps_ite (keeps_raise ..) (keeps_ite (keeps_raise ..) (keeps_ite (keeps_raise ..) (keeps_mapRing ..)))

theorem keeps_cqAccept (n : Nat) (i : BitVec 13) (s : State) : Keeps s (cqAccept n i s) :=
  keeps_ite (keeps_raise ..) (keeps_ite (keeps_raise ..) (keeps_ite (keeps_raise ..)
    (keeps_ite (keeps_raise ..) (keeps_mapRing ..))))

theorem keeps_eqAccept (i : BitVec 13) (s : State) : Keeps s (eqAccept i s) :=
  keeps_ite (keeps_raise ..) (keeps_ite (keeps_raise ..) (keeps_ite (keeps_raise ..)
    (keeps_ite (keeps_raise ..) (keeps_mapRng ..))))

theorem sleepSpan_eq (s : State) (h : s.pwr.mode ≠ .sleep) : s.sleepSpan = false := by simp [State.sleepSpan, h]

/-- Settles O37: outside SLEEP a doorbell is the acceptance of its index, and it wakes nothing. -/
theorem doorbells : Obligations.Doorbells := by
  intro s₀ n v hm hs he s i r q sq cq eq owed eqOwed
  have hspan : s.sleepSpan = false := sleepSpan_eq s hs
  have hawake : busAwake s₀ = s := busAwake_eq s₀
  refine ⟨?_, ?_, ?_⟩
  · have hf : sqBell n.val v s = sqAccept n.val i s := if_neg (by simp [hspan])
    have hx := bar2Op_decoded (sqBell n.val v) s₀ hm (by rw [hawake, hf, (keeps_sqAccept ..).pwr]; exact he)
    refine hx.trans (congrArg _ ?_)
    rw [hawake, hf]
    simp only [sqAccept, Bool.not_eq_true']
    rfl
  · have hf : cqBell n.val v s = cqAccept n.val i s := if_neg (by simp [hspan])
    have hx := bar2Op_decoded (cqBell n.val v) s₀ hm (by rw [hawake, hf, (keeps_cqAccept ..).pwr]; exact he)
    refine hx.trans (congrArg _ ?_)
    rw [hawake, hf]
    simp only [cqAccept, Bool.not_eq_true', releaseOk, decide_eq_false_iff_not]
    rfl
  · have hf : eqBell v s = eqAccept i s := if_neg (by simp [hspan])
    have hx := bar2Op_decoded (eqBell v) s₀ hm (by rw [hawake, hf, (keeps_eqAccept ..).pwr]; exact he)
    refine hx.trans (congrArg _ ?_)
    rw [hawake, hf]
    simp only [eqAccept, Bool.not_eq_true', releaseOk, decide_eq_false_iff_not]
    rfl

end Sys2Proof.Laws
end

section
/-!
The BAR4 aperture and the scrub, registers, update strobes and the configuration CRC: O34 to O36, O39.
-/
namespace Sys2Proof.Laws
open Sys2Proof.Machine Sys2Proof.Claims

/-! ### The aperture and the scrub -/

/-- Refutes O39: with the link in L1 a `SCRUB_READ` leaves the link there, and the statement's `s` has it out of L1. The scrub is
no access of the host: where it does not run, the state stays as it is (`State.reset` with the link in L1). -/
theorem not_apertureAndScrub : ¬ Obligations.ApertureAndScrub := by
  intro h
  let s₀ : State := { State.reset with bus := { State.reset.bus with l1 := true } }
  obtain ⟨-, -, -, -, -, hoff, -⟩ := h s₀
  have hstay : exec (.scrubRead .clean) s₀ = .next s₀ := rfl
  have hsame := hstay.symm.trans (hoff rfl .clean)
  exact Bool.noConfusion (congrArg (fun t => t.bus.l1) (Host.Outcome.next.inj hsame))

/-! ### Armed register sets -/

/-- What reports leave of the registers: all but the cause of the engine interrupt. -/
theorem reg_of_steady {s t : State} (h : steady t = steady s) : t.reg = { s.reg with intStat := t.reg.intStat } := by
  have hr : { t.reg with intStat := 0 } = { s.reg with intStat := 0 } := congrArg State.reg h
  exact congrArg (fun r => { r with intStat := t.reg.intStat }) hr

theorem sets_of_steady {s t : State} (h : steady t = steady s) : t.reg.sets = s.reg.sets := by rw [reg_of_steady h]

theorem steady_intRecheck (b s : State) : steady (intRecheck b s) = steady s := by
  unfold intRecheck
  dsimp only
  split
  · exact steady_msixSend ..
  · rfl

theorem ringsSync_reg (s : State) : (ringsSync s).reg = s.reg := by
  have hfold (l : List Nat) (t : State) : (l.foldl (fun s n =>
      let on := s.sqSize n != 0
      if on && !(s.ring n).enabled then ringEnable n s
      else if !on && (s.ring n).enabled then ringDisable n s
      else s) t).reg = t.reg := by
    induction l generalizing t with
    | nil => rfl
    | cons n l ih =>
      rw [List.foldl_cons, ih]
      dsimp only
      split
      · rfl
      · split <;> rfl
  exact hfold _ s

/-- R407: the application of a set leaves the armed sets. -/
theorem applySet_sets (g : Nat) (v : List (Nat × Word)) (s : State) : (applySet g v s).reg.sets = s.reg.sets := by
  unfold applySet
  dsimp only
  split
  · exact sets_of_steady (s := s.mapReg fun r => { r with refused := bitPut r.refused g true }) (steady_raise ..)
  · split
    · rw [ringsSync_reg]
      rfl
    · split
      · refine (sets_of_steady (s := cfgTouch false (!v.isEmpty) (mergeAll s g v)) ?_).trans rfl
        rw [steady_eqModCheck, steady_foldl _ _ _ fun _ _ => steady_cqModCheck .., steady_intRecheck]
      · split <;> rfl

theorem foldl_applySet_sets (l : List ArmedSet) (s : State) :
    (l.foldl (fun s a => applySet a.group a.values s) s).reg.sets = s.reg.sets := by
  induction l generalizing s with
  | nil => rfl
  | cons a l ih => rw [List.foldl_cons, ih, applySet_sets]

/-- R408: the sets whose instant is reached leave. -/
theorem dueAtTime_sets (s : State) : (dueAtTime s).reg.sets =
    s.reg.sets.filter fun a => !(a.whenTo == .atTime && decide (a.target.toNat ≤ s.clk.team.toNat)) := by
  rw [dueAtTime]
  rw [foldl_applySet_sets]
  refine List.filter_congr fun a ha => ?_
  rw [Bool.eq_iff_iff]
  simp only [ha, State.now, Bool.not_eq_true', List.contains_eq_mem, List.mem_filter, true_and,
    decide_eq_false_iff_not, Bool.not_eq_true]
  exact Iff.rfl

/-- R407: the arming of group `g`. -/
theorem setArm_sets (g : Nat) (w : ArmedWhen) (x : Dword) (s : State) : (setArm g w x s).reg.sets =
    s.reg.sets.filter (fun a => a.group != g) ++ [⟨g, s.groupValues g, w, x, s.frm.armSeq⟩] := rfl

/-- R407: an armed set that is applied at once leaves the sets of the other groups. -/
theorem setFire_setArm (g : Nat) (w : ArmedWhen) (x : Dword) (s : State) : setFire g (setArm g w x s) =
    applySet g (s.groupValues g) { s with
      reg := { s.reg with
        sets := s.reg.sets.filter fun a => a.group != g
        replaced := s.reg.replaced || s.reg.sets.any fun a => a.group == g }
      frm := { s.frm with armSeq := s.frm.armSeq + 1 } } := by
  have hfind : (setArm g w x s).reg.sets.find? (fun a => a.group == g) =
      some ⟨g, s.groupValues g, w, x, s.frm.armSeq⟩ := by
    rw [setArm_sets, List.find?_append, List.find?_eq_none.mpr fun a ha => by simpa using (List.mem_filter.mp ha).2]
    simp
  have hfilter : (setArm g w x s).reg.sets.filter (fun a => a.group != g) = s.reg.sets.filter fun a => a.group != g := by
    rw [setArm_sets, List.filter_append, List.filter_filter]
    simp
  rw [setFire, hfind]
  dsimp only
  rw [State.mapReg, hfilter]
  rfl

/-- A step of a strobe that selects one group. -/
theorem foldl_single {α : Type} (f : α → Nat → α) (n g : Nat) (s : α) (hg : g < n) (h : ∀ k t, k ≠ g → f t k = t) :
    (List.range n).foldl f s = f s g := by
  have hid (l : List Nat) (hl : g ∉ l) (t : α) : l.foldl f t = t := by
    induction l generalizing t with
    | nil => rfl
    | cons k l ih =>
      rw [List.foldl_cons, h k t (fun e => hl (by simp [e])), ih fun hm => hl (List.mem_cons_of_mem _ hm)]
  obtain ⟨l, r, hlr⟩ := List.append_of_mem (List.mem_range.mpr hg)
  have hnd : (l ++ g :: r).Nodup := hlr ▸ List.nodup_range
  rw [List.nodup_append] at hnd
  obtain ⟨-, hr, hlt⟩ := hnd
  rw [hlr, List.foldl_append, List.foldl_cons, hid l (fun hm => hlt g hm g (by simp) rfl), hid r (List.nodup_cons.mp hr).1]

/-- R408: the step of a strobe for the group `g`. -/
def strobeStep (when : Nat) (groups : BitVec 9) (target : Dword) (s : State) (g : Nat) : State :=
  if !groups.getLsbD g then s
  else if when = 1 then setArm g .tick (s.nextTick.zeroExtend 64) s
  else if when = 0 then
    let s := setArm g .atTime 0 s
    if s.sleepSpan then s else setFire g s
  else
    let gone := decide (target.toNat < s.now.toNat)
    let s := setArm g .atTime target (s.mapReg fun r => { r with late := r.late || gone })
    if decide (target.toNat ≤ s.now.toNat) && !s.sleepSpan then setFire g s else s

theorem strobeArm_eq (when : Nat) (groups : BitVec 9) (s : State) : strobeArm when groups s =
    (List.range 9).foldl (strobeStep when groups ((s.reg.atHi.zeroExtend 64 <<< 32) ||| s.reg.atLo.zeroExtend 64)) s := rfl

theorem single_getLsbD (g k : Nat) (hg : g < 9) : ((1#9 <<< g).getLsbD k) = decide (k = g) := by
  rw [BitVec.getLsbD_shiftLeft, BitVec.getLsbD_one]
  by_cases h : k = g
  · simp [h, hg]
  · simp [h]
    omega

theorem strobeArm_single (when g : Nat) (hg : g < 9) (s : State) : strobeArm when (1#9 <<< g) s =
    strobeStep when (1#9 <<< g) ((s.reg.atHi.zeroExtend 64 <<< 32) ||| s.reg.atLo.zeroExtend 64) s g := by
  rw [strobeArm_eq]
  refine foldl_single _ 9 g s hg fun k t hk => ?_
  rw [strobeStep, single_getLsbD g k hg, if_pos (by simp [hk])]

/-- R408: the step of an arming for the next tick. -/
theorem strobeTick_step (groups : BitVec 9) (x : Dword) (s : State) (g : Nat) :
    (strobeStep 1 groups x s g).reg.shadow = s.reg.shadow ∧ (strobeStep 1 groups x s g).reg.force = s.reg.force
    ∧ (strobeStep 1 groups x s g).nextTick = s.nextTick
    ∧ (groups.getLsbD g = false → (strobeStep 1 groups x s g).reg.sets = s.reg.sets)
    ∧ (groups.getLsbD g = true → ∃ k, (strobeStep 1 groups x s g).reg.sets =
        s.reg.sets.filter (fun a => a.group != g) ++ [⟨g, s.groupValues g, .tick, s.nextTick.zeroExtend 64, k⟩]) := by
  unfold strobeStep
  cases hb : groups.getLsbD g
  · exact ⟨rfl, rfl, rfl, fun _ => rfl, fun h => by cases h⟩
  · exact ⟨rfl, rfl, rfl, fun h => (by cases h), fun _ => ⟨s.frm.armSeq, rfl⟩⟩

theorem groupValues_of_shadow {s t : State} (g : Nat) (h : t.reg.shadow = s.reg.shadow) : t.groupValues g = s.groupValues g := by
  simp only [State.groupValues, State.shadowVal, h]

/-- R408: the steps of an arming for the next tick, for the groups of a list. -/
theorem strobeTick_steps (groups : BitVec 9) (x : Dword) (l : List Nat) (hnd : l.Nodup) (s : State) :
    let t := l.foldl (strobeStep 1 groups x) s
    t.reg.shadow = s.reg.shadow ∧ t.reg.force = s.reg.force
    ∧ (∀ g, (g ∉ l ∨ groups.getLsbD g = false) →
        t.reg.sets.filter (fun a => a.group == g) = s.reg.sets.filter fun a => a.group == g)
    ∧ ∀ g ∈ l, groups.getLsbD g = true → ∃ k, t.reg.sets.filter (fun a => a.group == g) =
        [⟨g, s.groupValues g, .tick, s.nextTick.zeroExtend 64, k⟩] := by
  induction l generalizing s with
  | nil => exact ⟨rfl, rfl, fun _ _ => rfl, fun g hg => by cases hg⟩
  | cons h l ih =>
    obtain ⟨hnew, hl⟩ := List.nodup_cons.mp hnd
    obtain ⟨hsh, hfo, hnt, hkeep, hset⟩ := strobeTick_step groups x s h
    obtain ⟨ihsh, ihfo, ihkeep, ihset⟩ := ih hl (strobeStep 1 groups x s h)
    have hother (g : Nat) (hg : g ≠ h) : (strobeStep 1 groups x s h).reg.sets.filter (fun a => a.group == g) =
        s.reg.sets.filter fun a => a.group == g := by
      cases hb : groups.getLsbD h
      · rw [hkeep hb]
      · obtain ⟨k, hk⟩ := hset hb
        rw [hk, List.filter_append, List.filter_filter,
          List.filter_cons_of_neg (by simpa using Ne.symm hg), List.filter_nil, List.append_nil]
        refine List.filter_congr fun a _ => ?_
        by_cases ha : a.group = g <;> simp [ha, hg]
    refine ⟨ihsh.trans hsh, ihfo.trans hfo, fun g hg => ?_, fun g hg hb => ?_⟩ <;> rw [List.foldl_cons]
    · by_cases hgh : g = h
      · have hb : groups.getLsbD g = false := hg.resolve_left (by simp [hgh])
        rw [ihkeep g (.inr hb), hkeep (hgh ▸ hb)]
      · rw [ihkeep g (hg.imp_left fun hn hm => hn (List.mem_cons_of_mem _ hm)), hother g hgh]
    · by_cases hgh : g = h
      · obtain ⟨k, hk⟩ := hset (hgh ▸ hb)
        refine ⟨k, ?_⟩
        rw [ihkeep g (.inl (hgh ▸ hnew)), hk, List.filter_append, List.filter_filter, hgh,
          List.filter_cons_of_pos (by simp), List.filter_nil]
        rw [List.filter_eq_nil_iff.mpr fun a _ => by simp, List.nil_append]
      · obtain ⟨k, hk⟩ := ihset g ((List.mem_cons.mp hg).resolve_left hgh) hb
        exact ⟨k, by rw [hk, groupValues_of_shadow g hsh, hnt]⟩

/-- R407, R408: a group whose armed set is discarded. -/
def disarmGroup (g : Nat) (late : Bool) (s : State) : State :=
  { s with
    reg := { s.reg with
      sets := s.reg.sets.filter fun a => a.group != g
      replaced := s.reg.replaced || s.reg.sets.any fun a => a.group == g
      late := s.reg.late || late }
    frm := { s.frm with armSeq := s.frm.armSeq + 1 } }

/-- R407: an immediate set. -/
theorem strobeStep_now (groups : BitVec 9) (x : Dword) (s : State) (g : Nat) (hg : groups.getLsbD g = true)
    (hs : s.sleepSpan = false) : strobeStep 0 groups x s g = applySet g (s.groupValues g) (disarmGroup g false s) := by
  have hspan : (setArm g .atTime 0 s).sleepSpan = false := hs
  rw [strobeStep, hg, if_neg (by simp), if_neg (by simp), if_pos rfl]
  dsimp only
  rw [hspan, if_neg (by simp), setFire_setArm, disarmGroup, Bool.or_false]

/-- R408: a set for an instant that is reached. -/
theorem strobeStep_passed (groups : BitVec 9) (x : Dword) (s : State) (g : Nat) (hg : groups.getLsbD g = true)
    (hs : s.sleepSpan = false) (hx : x.toNat ≤ s.now.toNat) : strobeStep 2 groups x s g =
      applySet g (s.groupValues g) (disarmGroup g (decide (x.toNat < s.now.toNat)) s) := by
  let u := s.mapReg fun r => { r with late := r.late || decide (x.toNat < s.now.toNat) }
  have hspan : (setArm g .atTime x u).sleepSpan = false := hs
  have hnow : x.toNat ≤ (setArm g .atTime x u).now.toNat := hx
  rw [strobeStep, hg, if_neg (by simp), if_neg (by simp), if_neg (by simp)]
  dsimp only
  rw [if_pos (Bool.and_eq_true_iff.mpr ⟨decide_eq_true hnow, by rw [hspan]; rfl⟩), setFire_setArm]
  rfl

/-- R408: a set for an instant to come. -/
theorem strobeStep_later (groups : BitVec 9) (x : Dword) (s : State) (g : Nat) (hg : groups.getLsbD g = true)
    (hx : s.now.toNat < x.toNat) : strobeStep 2 groups x s g =
      setArm g .atTime x (s.mapReg fun r => { r with late := r.late || decide (x.toNat < s.now.toNat) }) := by
  let u := s.mapReg fun r => { r with late := r.late || decide (x.toNat < s.now.toNat) }
  have hnow : ¬ x.toNat ≤ (setArm g .atTime x u).now.toNat := not_le.mpr hx
  rw [strobeStep, hg, if_neg (by simp), if_neg (by simp), if_neg (by simp)]
  dsimp only
  rw [if_neg fun h => hnow (of_decide_eq_true (Bool.and_eq_true_iff.mp h).1)]

/-- Settles O34: a strobe is one step for each selected group. -/
theorem strobeCommands : Obligations.StrobeCommands := by
  intro s₀ groups s halted refused disarmed instant
  have hs : busAwake s₀ = s := busAwake_eq s₀
  have hx (w : Nat) (hm : s.memOn = true) : whenMem (strobe w groups) s₀ = .next (strobe w groups s) := by
    rw [whenMem, if_pos (show s₀.memOn = true from hm), hs]
  refine ⟨fun hm => ⟨fun h0 => ?_, fun h0 => ?_, fun hh => ?_, fun g hg hgr hh hsl => ?_, fun hh => ?_⟩, fun hsl hc => ?_⟩
  · have h (w : Nat) : strobe w groups s = s := if_pos h0
    exact ⟨(hx 0 hm).trans (congrArg _ (h 0)), (hx 1 hm).trans (congrArg _ (h 1)), (hx 2 hm).trans (congrArg _ (h 2)),
      (hx 3 hm).trans (congrArg _ (h 3))⟩
  · refine (hx 3 hm).trans (congrArg _ ?_)
    rw [strobe, if_neg h0, if_pos (.inl rfl)]
    rfl
  · have h0 : ¬ groups = 0 := fun h => hh.2 (by rw [h]; decide)
    have h (w : Nat) : strobe w groups s = refused := by
      rw [strobe, if_neg h0, if_pos (.inr hh)]
      rfl
    exact ⟨(hx 0 hm).trans (congrArg _ (h 0)), (hx 1 hm).trans (congrArg _ (h 1)), (hx 2 hm).trans (congrArg _ (h 2))⟩
  · have h0 : ¬ groups = 0 := fun h => by
      have := single_getLsbD g g hg
      rw [← hgr, h] at this
      simp at this
    have hbit : groups.getLsbD g = true := by rw [hgr, single_getLsbD g g hg, decide_eq_true rfl]
    have hspan : s.sleepSpan = false := sleepSpan_eq s hsl
    have harm (w : Nat) (hw : w ≠ 3) : strobe w groups s = strobeStep w groups instant s g := by
      rw [strobe, if_neg h0, if_neg (not_or.mpr ⟨hw, hh⟩), hgr, strobeArm_single w g hg]
    refine ⟨(hx 0 hm).trans (congrArg _ ?_), fun hi => (hx 2 hm).trans (congrArg _ ?_),
      fun hi => (hx 2 hm).trans (congrArg _ ?_), fun hi => ⟨_, (hx 2 hm).trans (congrArg _ (harm 2 (by decide))), ?_⟩⟩
    · rw [harm 0 (by decide), strobeStep_now groups instant s g hbit hspan]
      rfl
    · rw [harm 2 (by decide), strobeStep_passed groups instant s g hbit hspan (le_of_lt hi), decide_eq_true (show instant.toNat < s.now.toNat from hi)]
      rfl
    · have hle : instant.toNat ≤ s.now.toNat := by rw [hi]; rfl
      rw [harm 2 (by decide), strobeStep_passed groups instant s g hbit hspan hle,
        decide_eq_false (show ¬ instant.toNat < s.now.toNat by rw [hi]; exact lt_irrefl _)]
      rfl
    · rw [strobeStep_later groups instant s g hbit hi,
        decide_eq_false (show ¬ instant.toNat < s.now.toNat from not_lt.mpr (le_of_lt hi))]
      exact ⟨rfl, rfl, Bool.or_false _⟩
  · have h3 : ¬ (1 = 3 ∨ (s.pwr.mode = .halter ∧ groups &&& 0x1FC ≠ 0)) := not_or.mpr ⟨by decide, hh⟩
    by_cases h0 : groups = 0
    · refine ⟨s, (hx 1 hm).trans (congrArg _ (if_pos h0)), rfl, rfl, fun g hg => ⟨fun _ => rfl, fun hb => ?_⟩⟩
      rw [h0] at hb
      simp at hb
    · obtain ⟨hsh, hfo, hkeep, hset⟩ := strobeTick_steps groups instant (List.range 9) List.nodup_range s
      refine ⟨(List.range 9).foldl (strobeStep 1 groups instant) s, (hx 1 hm).trans (congrArg _ ?_), hfo, hsh,
        fun g hg => ⟨fun hb => hkeep g (.inr hb), fun hb => ?_⟩⟩
      · rw [strobe, if_neg h0, if_neg h3]
        rfl
      · exact hset g (List.mem_range.mpr hg) hb
  · refine ⟨dueAtTime s₀, ?_, dueAtTime_sets s₀⟩
    change execArmedSetAtTime s₀ = _
    rw [execArmedSetAtTime, if_neg]
    simp [sleepSpan_eq s₀ hsl, show s₀.pwr.configReady = true from hc]

end Sys2Proof.Laws
end

section
/-!
Of the reporting operations only a raise changes the fault collector.
-/
namespace Sys2Proof.Laws
open Sys2Proof.Machine Sys2Proof.Claims

/-- A choice between two states. -/
@[simp] theorem flt_ite {c : Prop} {_ : Decidable c} (s t : State) :
    (if c then s else t).flt = if c then s.flt else t.flt := apply_ite ..

/-- A loop of steps that each keep it. -/
@[simp] theorem flt_foldl {α : Type} (f : State → α → State) (l : List α) (s : State)
    (h : ∀ t a, (f t a).flt = t.flt) : (l.foldl f s).flt = s.flt := by
  induction l generalizing s with
  | nil => rfl
  | cons a l ih => rw [List.foldl_cons, ih, h]

@[simp] theorem mapBus_flt (f : Bus → Bus) (s : State) : (s.mapBus f).flt = s.flt := rfl
@[simp] theorem mapTrc_flt (f : Trc → Trc) (s : State) : (s.mapTrc f).flt = s.flt := rfl
@[simp] theorem mapReg_flt (f : Reg → Reg) (s : State) : (s.mapReg f).flt = s.flt := rfl
@[simp] theorem mapRng_flt (f : Rngs → Rngs) (s : State) : (s.mapRng f).flt = s.flt := rfl
@[simp] theorem mapTm_flt (f : Machine.Team → Machine.Team) (s : State) : (s.mapTm f).flt = s.flt := rfl
@[simp] theorem mapSaf_flt (f : Saf → Saf) (s : State) : (s.mapSaf f).flt = s.flt := rfl
@[simp] theorem mapCal_flt (f : Cal → Cal) (s : State) : (s.mapCal f).flt = s.flt := rfl
@[simp] theorem mapScn_flt (f : Scn → Scn) (s : State) : (s.mapScn f).flt = s.flt := rfl
@[simp] theorem mapFrm_flt (f : Machine.Frm → Machine.Frm) (s : State) : (s.mapFrm f).flt = s.flt := rfl
@[simp] theorem mapHlt_flt (f : Hlt → Hlt) (s : State) : (s.mapHlt f).flt = s.flt := rfl
@[simp] theorem mapRing_flt (n : Nat) (f : Ring → Ring) (s : State) : (mapRing n f s).flt = s.flt := rfl
@[simp] theorem mapPort_flt (p : Fin 4) (f : Port → Port) (s : State) : (mapPort p f s).flt = s.flt := rfl
@[simp] theorem mapOrigin_flt (o : BitVec 10) (r : Nat) (f : OriginWindow → OriginWindow) (s : State) :
    (mapOrigin o r f s).flt = s.flt := rfl
@[simp] theorem portEmit_flt (p : Fin 4) (r : Word) (b : Bool) (f : TFrame) (s : State) :
    (portEmit p r b f s).flt = s.flt := rfl
@[simp] theorem logAdd_flt (k c : Nat) (t : Dword) (d : List Byte) (s : State) : (logAdd k c t d s).flt = s.flt := rfl
@[simp] theorem logCompletion_flt (op : Nat) (o : Option (BitVec 10)) (c : Completion) (s : State) :
    (logCompletion op o c s).flt = s.flt := rfl

@[simp] theorem portSend_flt (p : Fin 4) (f : TFrame) (s : State) : (portSend p f s).flt = s.flt := by
  simp [portSend]
@[simp] theorem flood_flt (b : Bool) (e : Option (Fin 4)) (f : TFrame) (s : State) :
    (flood b e f s).flt = s.flt := by
  simp [flood]
@[simp] theorem sendDown_flt (f : TFrame) (s : State) : (sendDown f s).flt = s.flt := flood_flt ..
@[simp] theorem sendUp_flt (f : TFrame) (s : State) : (sendUp f s).flt = s.flt := by
  unfold sendUp
  split <;> simp
@[simp] theorem cmdDown_flt (f : Forward) (b : Bool) (t : BitVec 11) (s : State) :
    (cmdDown f b t s).flt = s.flt := by
  simp [cmdDown]

@[simp] theorem busSend_flt (o : BusOut) (s : State) : (busSend o s).flt = s.flt := rfl
@[simp] theorem msixSend_flt (v : Nat) (s : State) : (msixSend v s).flt = s.flt := by
  simp [msixSend]
@[simp] theorem intCause_flt (c : Nat) (s : State) : (intCause c s).flt = s.flt := by
  simp [intCause]
@[simp] theorem eqModCheck_flt (s : State) : (eqModCheck s).flt = s.flt := by
  simp [eqModCheck]
@[simp] theorem eqWrite_flt (e : Event) (s : State) : (eqWrite e s).flt = s.flt := by
  simp [eqWrite]
@[simp] theorem forwardEvent_flt (e : Event) (s : State) : (forwardEvent e s).flt = s.flt := by
  simp [forwardEvent]
@[simp] theorem emitAt_flt (t : Dword) (c : Nat) (d : List Byte) (s : State) : (emitAt t c d s).flt = s.flt := by
  simp [emitAt]
@[simp] theorem emit_flt (c : Nat) (d : List Byte) (s : State) : (emit c d s).flt = s.flt := emitAt_flt ..

@[simp] theorem cqModCheck_flt (n : Nat) (s : State) : (cqModCheck n s).flt = s.flt := by
  simp [cqModCheck]
@[simp] theorem cqWrite_flt (op : Nat) (ioc : Bool) (c : Completion) (s : State) :
    (cqWrite op ioc c s).flt = s.flt := by
  simp [cqWrite]
@[simp] theorem heldRelease_flt (op n : Nat) (ioc : Bool) (seq : Word) (s : State) :
    (heldRelease op n ioc seq s).flt = s.flt := by
  unfold heldRelease
  dsimp only
  split <;> simp
@[simp] theorem mutedDone_flt (op : Nat) (sub : Sub) (st : Half) (res t : Dword) (s : State) :
    (mutedDone op sub st res t s).flt = s.flt := by
  simp [mutedDone]
@[simp] theorem ownDone_flt (op : Nat) (sub : Sub) (st : Half) (res t : Dword) (s : State) :
    (ownDone op sub st res t s).flt = s.flt := by
  simp [ownDone]
@[simp] theorem cplSend_flt (op : Nat) (o : BitVec 10) (d r : Bool) (a : List (BitVec 10)) (c : Completion) (s : State) :
    (cplSend op o d r a c s).flt = s.flt := by
  unfold cplSend
  dsimp only
  split <;> simp
@[simp] theorem fwdSettle_flt (f : Forward) (s : State) : (fwdSettle f s).flt = s.flt := by
  unfold fwdSettle
  dsimp only
  split
  · split <;> simp
  · simp
@[simp] theorem fwdMark_flt (f : Option Forward) (e : BitVec 10) (g : TargetState → TargetState) (s : State) :
    (fwdMark f e g s).flt = s.flt := by
  unfold fwdMark
  split <;> simp
@[simp] theorem fwdTarget_flt (o : Option (BitVec 10)) (r : Nat) (q : Word) (e : BitVec 10) (g : TargetState → TargetState)
    (s : State) : (fwdTarget o r q e g s).flt = s.flt := by
  simp [fwdTarget]
@[simp] theorem otherDone_flt (op : Nat) (sub : Sub) (o : BitVec 10) (st : Half) (res t : Dword) (s : State) :
    (otherDone op sub o st res t s).flt = s.flt := by
  simp [otherDone]

@[simp] theorem finishAt_flt (op : Nat) (sub : Sub) (st : Half) (res t : Dword) (s : State) :
    (finishAt op sub st res t s).flt = s.flt := by
  unfold finishAt
  dsimp only
  split
  · simp
  · split <;> simp
@[simp] theorem finish_flt (op : Nat) (sub : Sub) (st : Half) (res : Dword) (s : State) :
    (finish op sub st res s).flt = s.flt := finishAt_flt ..
@[simp] theorem keepRunning_flt (sub : Sub) (s : State) : (keepRunning sub s).flt = s.flt := by
  unfold keepRunning
  split <;> simp

@[simp] theorem clearWrite_flt (s : State) : (clearWrite s).flt = s.flt := rfl
@[simp] theorem postsFresh_flt (s : State) : (postsFresh s).flt = s.flt := by simp [postsFresh]
theorem writeNext_flt (d : Option Decision) (c : Option CompSet) (b : Bool) (n : Nat) (s : State) :
    (s.mapFrm fun f => { f with dec := d, comp := c, compOn := b, compStart := n }).flt = s.flt := rfl
@[simp] theorem fillInstead_flt (m : Bool) (s : State) : (fillInstead m s).flt = s.flt := by
  unfold fillInstead
  split
  · rfl
  · split
    · exact (writeNext_flt ..).trans ((clearWrite_flt _).trans (postsFresh_flt s))
    · rfl
@[simp] theorem calAbort_flt (s : State) : (calAbort s).flt = s.flt := by
  unfold calAbort
  split <;> simp
@[simp] theorem calLeave_flt (s : State) : (calLeave s).flt = s.flt := by simp [calLeave]
@[simp] theorem safetyEmit_flt (f : Word) (st scene : Nat) (m : BitVec 12) (s : State) :
    (safetyEmit f st scene m s).flt = s.flt := by simp [safetyEmit]
@[simp] theorem safetyEvent_flt (f : Word) (st scene : Nat) (m : BitVec 12) (s : State) :
    (safetyEvent f st scene m s).flt = s.flt := by simp [safetyEvent]
@[simp] theorem stateFlood_flt (k : Nat) (d : List Byte) (s : State) : (stateFlood k d s).flt = s.flt := by
  simp [stateFlood]
@[simp] theorem safetyNote_flt (b : BitVec 12) (s : State) : (safetyNote b s).flt = s.flt := by
  simp [safetyNote]
@[simp] theorem causeArise_flt (b : BitVec 12) (s : State) : (causeArise b s).flt = s.flt := by
  simp [causeArise]
@[simp] theorem spanCut_flt (s : State) : (spanCut s).flt = s.flt := by simp [spanCut]
@[simp] theorem tilesOpen_flt (m : BitVec 256) (s : State) : (tilesOpen m s).flt = s.flt := rfl
@[simp] theorem darkAdd_flt (c : DarkCause) (s : State) : (darkAdd c s).flt = s.flt := rfl

end Sys2Proof.Laws
end

section
/-!
Of the reporting operations only a raise that asks for fast-dark changes what opens the tile switches. What a raise does to the
fault collector and to the switches: O48.
-/
namespace Sys2Proof.Laws
open Sys2Proof.Machine Sys2Proof.Claims

/-- The array without what a new start of S sets (R154): its dark causes, trips and relit rows among it. -/
def switches (s : State) : Arr := { s.arr with crcS := [], isolFix := 0, fixSeq := 0 }

/-- A choice between two states. -/
@[simp] theorem switches_ite {c : Prop} {_ : Decidable c} (s t : State) :
    switches (if c then s else t) = if c then switches s else switches t := apply_ite ..

/-- A loop of steps that each keep it. -/
@[simp] theorem switches_foldl {α : Type} (f : State → α → State) (l : List α) (s : State)
    (h : ∀ t a, switches (f t a) = switches t) : switches (l.foldl f s) = switches s := by
  induction l generalizing s with
  | nil => rfl
  | cons a l ih => rw [List.foldl_cons, ih, h]

@[simp] theorem mapBus_switches (f : Bus → Bus) (s : State) : switches (s.mapBus f) = switches s := rfl
@[simp] theorem mapTrc_switches (f : Trc → Trc) (s : State) : switches (s.mapTrc f) = switches s := rfl
@[simp] theorem mapReg_switches (f : Reg → Reg) (s : State) : switches (s.mapReg f) = switches s := rfl
@[simp] theorem mapRng_switches (f : Rngs → Rngs) (s : State) : switches (s.mapRng f) = switches s := rfl
@[simp] theorem mapTm_switches (f : Machine.Team → Machine.Team) (s : State) : switches (s.mapTm f) = switches s := rfl
@[simp] theorem mapSaf_switches (f : Saf → Saf) (s : State) : switches (s.mapSaf f) = switches s := rfl
@[simp] theorem mapCal_switches (f : Cal → Cal) (s : State) : switches (s.mapCal f) = switches s := rfl
@[simp] theorem mapScn_switches (f : Scn → Scn) (s : State) : switches (s.mapScn f) = switches s := rfl
@[simp] theorem mapFrm_switches (f : Machine.Frm → Machine.Frm) (s : State) : switches (s.mapFrm f) = switches s := rfl
@[simp] theorem mapFlt_switches (f : Flt → Flt) (s : State) : switches (s.mapFlt f) = switches s := rfl
@[simp] theorem mapRing_switches (n : Nat) (f : Ring → Ring) (s : State) : switches (mapRing n f s) = switches s := rfl
@[simp] theorem mapPort_switches (p : Fin 4) (f : Port → Port) (s : State) : switches (mapPort p f s) = switches s := rfl
@[simp] theorem mapOrigin_switches (o : BitVec 10) (r : Nat) (f : OriginWindow → OriginWindow) (s : State) :
    switches (mapOrigin o r f s) = switches s := rfl
@[simp] theorem portEmit_switches (p : Fin 4) (r : Word) (b : Bool) (f : TFrame) (s : State) :
    switches (portEmit p r b f s) = switches s := rfl
@[simp] theorem logAdd_switches (k c : Nat) (t : Dword) (d : List Byte) (s : State) :
    switches (logAdd k c t d s) = switches s := rfl
@[simp] theorem logCompletion_switches (op : Nat) (o : Option (BitVec 10)) (c : Completion) (s : State) :
    switches (logCompletion op o c s) = switches s := rfl

@[simp] theorem portSend_switches (p : Fin 4) (f : TFrame) (s : State) : switches (portSend p f s) = switches s := by
  simp [portSend]
@[simp] theorem flood_switches (b : Bool) (e : Option (Fin 4)) (f : TFrame) (s : State) :
    switches (flood b e f s) = switches s := by
  simp [flood]
@[simp] theorem sendDown_switches (f : TFrame) (s : State) : switches (sendDown f s) = switches s := flood_switches ..
@[simp] theorem sendUp_switches (f : TFrame) (s : State) : switches (sendUp f s) = switches s := by
  unfold sendUp
  split <;> simp
@[simp] theorem cmdDown_switches (f : Forward) (b : Bool) (t : BitVec 11) (s : State) :
    switches (cmdDown f b t s) = switches s := by
  simp [cmdDown]

@[simp] theorem busSend_switches (o : BusOut) (s : State) : switches (busSend o s) = switches s := rfl
@[simp] theorem msixSend_switches (v : Nat) (s : State) : switches (msixSend v s) = switches s := by
  simp [msixSend]
@[simp] theorem intCause_switches (c : Nat) (s : State) : switches (intCause c s) = switches s := by
  simp [intCause]
@[simp] theorem eqModCheck_switches (s : State) : switches (eqModCheck s) = switches s := by
  simp [eqModCheck]
@[simp] theorem eqWrite_switches (e : Event) (s : State) : switches (eqWrite e s) = switches s := by
  simp [eqWrite]
@[simp] theorem forwardEvent_switches (e : Event) (s : State) : switches (forwardEvent e s) = switches s := by
  simp [forwardEvent]
@[simp] theorem emitAt_switches (t : Dword) (c : Nat) (d : List Byte) (s : State) : switches (emitAt t c d s) = switches s := by
  simp [emitAt]
@[simp] theorem emit_switches (c : Nat) (d : List Byte) (s : State) : switches (emit c d s) = switches s := emitAt_switches ..

@[simp] theorem cqModCheck_switches (n : Nat) (s : State) : switches (cqModCheck n s) = switches s := by
  simp [cqModCheck]
@[simp] theorem cqWrite_switches (op : Nat) (ioc : Bool) (c : Completion) (s : State) :
    switches (cqWrite op ioc c s) = switches s := by
  simp [cqWrite]
@[simp] theorem heldRelease_switches (op n : Nat) (ioc : Bool) (seq : Word) (s : State) :
    switches (heldRelease op n ioc seq s) = switches s := by
  unfold heldRelease
  dsimp only
  split <;> simp
@[simp] theorem mutedDone_switches (op : Nat) (sub : Sub) (st : Half) (res t : Dword) (s : State) :
    switches (mutedDone op sub st res t s) = switches s := by
  simp [mutedDone]
@[simp] theorem ownDone_switches (op : Nat) (sub : Sub) (st : Half) (res t : Dword) (s : State) :
    switches (ownDone op sub st res t s) = switches s := by
  simp [ownDone]
@[simp] theorem cplSend_switches (op : Nat) (o : BitVec 10) (d r : Bool) (a : List (BitVec 10)) (c : Completion) (s : State) :
    switches (cplSend op o d r a c s) = switches s := by
  unfold cplSend
  dsimp only
  split <;> simp
@[simp] theorem fwdSettle_switches (f : Forward) (s : State) : switches (fwdSettle f s) = switches s := by
  unfold fwdSettle
  dsimp only
  split
  · split <;> simp
  · simp
@[simp] theorem fwdMark_switches (f : Option Forward) (e : BitVec 10) (g : TargetState → TargetState) (s : State) :
    switches (fwdMark f e g s) = switches s := by
  unfold fwdMark
  split <;> simp
@[simp] theorem fwdTarget_switches (o : Option (BitVec 10)) (r : Nat) (q : Word) (e : BitVec 10) (g : TargetState → TargetState)
    (s : State) : switches (fwdTarget o r q e g s) = switches s := by
  simp [fwdTarget]
@[simp] theorem otherDone_switches (op : Nat) (sub : Sub) (o : BitVec 10) (st : Half) (res t : Dword) (s : State) :
    switches (otherDone op sub o st res t s) = switches s := by
  simp [otherDone]

@[simp] theorem finishAt_switches (op : Nat) (sub : Sub) (st : Half) (res t : Dword) (s : State) :
    switches (finishAt op sub st res t s) = switches s := by
  unfold finishAt
  dsimp only
  split
  · simp
  · split <;> simp
@[simp] theorem finish_switches (op : Nat) (sub : Sub) (st : Half) (res : Dword) (s : State) :
    switches (finish op sub st res s) = switches s := finishAt_switches ..
@[simp] theorem keepRunning_switches (sub : Sub) (s : State) : switches (keepRunning sub s) = switches s := by
  unfold keepRunning
  split <;> simp

@[simp] theorem clearWrite_switches (s : State) : switches (clearWrite s) = switches s := rfl
@[simp] theorem postsFresh_switches (s : State) : switches (postsFresh s) = switches s := by simp [postsFresh]
theorem writeNext_switches (d : Option Decision) (c : Option CompSet) (b : Bool) (n : Nat) (s : State) :
    switches (s.mapFrm fun f => { f with dec := d, comp := c, compOn := b, compStart := n }) = switches s := rfl
@[simp] theorem fillInstead_switches (m : Bool) (s : State) : switches (fillInstead m s) = switches s := by
  unfold fillInstead
  split
  · rfl
  · split
    · exact (writeNext_switches ..).trans ((clearWrite_switches _).trans (postsFresh_switches s))
    · rfl
@[simp] theorem calAbort_switches (s : State) : switches (calAbort s) = switches s := by
  unfold calAbort
  split <;> simp
@[simp] theorem calLeave_switches (s : State) : switches (calLeave s) = switches s := by simp [calLeave]
@[simp] theorem safetyEmit_switches (f : Word) (st scene : Nat) (m : BitVec 12) (s : State) :
    switches (safetyEmit f st scene m s) = switches s := by simp [safetyEmit]
@[simp] theorem safetyEvent_switches (f : Word) (st scene : Nat) (m : BitVec 12) (s : State) :
    switches (safetyEvent f st scene m s) = switches s := by simp [safetyEvent]
@[simp] theorem stateFlood_switches (k : Nat) (d : List Byte) (s : State) : switches (stateFlood k d s) = switches s := by
  simp [stateFlood]
@[simp] theorem safetyNote_switches (b : BitVec 12) (s : State) : switches (safetyNote b s) = switches s := by
  simp [safetyNote]
@[simp] theorem causeArise_switches (b : BitVec 12) (s : State) : switches (causeArise b s) = switches s := by
  simp [causeArise]

/-! ### Raises -/

/-- R358 to R360, R365, R369: what a raise of severity `sev` makes of the fault collector. -/
def raiseFlt (src sev : Nat) (seq : Word) (data : List Byte) (now : Dword) (loc : Nat) (f : Flt) : Flt :=
  let f := { f with sticky := bitPut f.sticky src true, ovf := f.ovf || f.valid }
  let f := if f.valid then f else { f with valid := true, src := BitVec.ofNat 8 src, sev := sev, ts := now }
  let f := if 3 ≤ sev then { f with pin := true, pinSev := true, relPending := false, pinSince := loc } else f
  let f := if 4 ≤ sev && sevActs src then
      { f with
        behind := if f.degrade = 0 ∧ f.safe = 0 ∧ f.dark = 0 then BitVec.ofNat 8 src else f.behind
        degrade := if sev = 4 then bitPut f.degrade src true else f.degrade
        safe := if sev = 5 then bitPut f.safe src true else f.safe
        dark := if 6 ≤ sev then bitPut f.dark src true else f.dark }
    else f
  { f with entries := alPut f.entries src (seq, padTo 8 data) }

/-- A raise of severity 0 changes nothing. -/
theorem raiseMin_zero (src m : Nat) (d : List Byte) (s : State) (h : s.sevOf src m = 0) : raiseMin src m d s = s := by
  rw [raiseMin, h]
  exact if_pos rfl

theorem raiseMin_flt (src m : Nat) (d : List Byte) (s : State) (h : s.sevOf src m ≠ 0) :
    (raiseMin src m d s).flt = raiseFlt src (s.sevOf src m) s.lg.seq d s.clk.team s.clk.loc s.flt := by
  rw [raiseMin]
  dsimp only
  rw [if_neg h]
  simp only [causeArise_flt, flt_ite, calLeave_flt, emit_flt, darkAdd_flt, intCause_flt, ite_self, State.mapFlt, latchSet,
    pinAssert, latchFirst, logAdd_flt]
  rfl

theorem bitPut_true_getLsbD {w : Nat} (m : BitVec w) (i k : Nat) (hk : k < w) :
    (bitPut m i true).getLsbD k = (m.getLsbD k || decide (k = i)) := by
  have hone : (BitVec.ofNat w (2 ^ i)).getLsbD k = decide (k = i) := by
    rw [BitVec.getLsbD_ofNat, Nat.testBit_two_pow]
    simp [hk, eq_comm]
  rw [bitPut, if_pos rfl, BitVec.getLsbD_or, hone]

section
variable (src sev : Nat) (seq : Word) (data : List Byte) (now : Dword) (loc : Nat) (f : Flt)

theorem raiseFlt_sticky : (raiseFlt src sev seq data now loc f).sticky = bitPut f.sticky src true := by
  unfold raiseFlt
  dsimp only
  split <;> split <;> split <;> rfl

/-- R365: the first-error latch. -/
theorem raiseFlt_first : (raiseFlt src sev seq data now loc f).valid = true
    ∧ (raiseFlt src sev seq data now loc f).ovf = (f.ovf || f.valid)
    ∧ (raiseFlt src sev seq data now loc f).src = (if f.valid then f.src else BitVec.ofNat 8 src)
    ∧ (raiseFlt src sev seq data now loc f).sev = (if f.valid then f.sev else sev)
    ∧ (raiseFlt src sev seq data now loc f).ts = if f.valid then f.ts else now := by
  unfold raiseFlt
  dsimp only
  cases hv : f.valid <;> split <;> split <;> simp_all

/-- R369: FAULT_N. -/
theorem raiseFlt_pin : (raiseFlt src sev seq data now loc f).pin = (f.pin || decide (3 ≤ sev))
    ∧ (raiseFlt src sev seq data now loc f).relPending = (f.relPending && !decide (3 ≤ sev))
    ∧ (raiseFlt src sev seq data now loc f).pinSince = if 3 ≤ sev then loc else f.pinSince := by
  unfold raiseFlt
  dsimp only
  by_cases h3 : 3 ≤ sev <;> split <;> split <;> simp_all

/-- R360: the latches. -/
theorem raiseFlt_latches :
    (raiseFlt src sev seq data now loc f).degrade = (if sev = 4 ∧ sevActs src then bitPut f.degrade src true else f.degrade)
    ∧ (raiseFlt src sev seq data now loc f).safe = (if sev = 5 ∧ sevActs src then bitPut f.safe src true else f.safe)
    ∧ (raiseFlt src sev seq data now loc f).dark = if 6 ≤ sev ∧ sevActs src then bitPut f.dark src true else f.dark := by
  unfold raiseFlt
  dsimp only
  cases sevActs src
  · by_cases h3 : 3 ≤ sev <;> cases f.valid <;> simp [h3]
  · by_cases h4 : 4 ≤ sev
    · have h3 : 3 ≤ sev := by omega
      cases f.valid <;> simp [h3, h4]
    · have h5 : sev ≠ 4 ∧ sev ≠ 5 ∧ ¬ 6 ≤ sev := by omega
      by_cases h3 : 3 ≤ sev <;> cases f.valid <;> simp [h3, h4, h5]

end

/-- R64: what a dark cause makes of the switches depends on the switches alone. -/
theorem darkAdd_switches {s t : State} (c : DarkCause) (h : switches t = switches s) :
    switches (darkAdd c t) = switches (darkAdd c s) := by
  have hd (u : State) : switches (darkAdd c u) =
      { switches u with
        wasOpen := (switches u).wasOpen ||| BitVec.allOnes 256
        causes := if (switches u).causes.contains c then (switches u).causes else (switches u).causes ++ [c]
        relight := none, relit := 0
        tripDark := (switches u).tripOpen.foldl (fun m t => bitPut m t true) (switches u).tripDark, tripOpen := [] } := rfl
  rw [hd, hd, h]

/-- R64, R354: a raise of severity 6 opens the tile switches. -/
theorem raiseMin_switches (src m : Nat) (d : List Byte) (s : State) : switches (raiseMin src m d s) =
    if 6 ≤ s.sevOf src m ∧ sevActs src then switches (darkAdd .fault s) else switches s := by
  rw [raiseMin]
  dsimp only
  split
  · next h => rw [if_neg (by omega)]
  · simp only [causeArise_switches, switches_ite, calLeave_switches, emit_switches, ite_self]
    refine ite_congr (propext Bool.and_eq_true_iff |>.trans (by simp)) (fun _ => darkAdd_switches _ ?_) fun _ => ?_ <;>
      simp [latchSet, pinAssert, latchFirst]

/-- R64: with a dark cause every tile switch is open. -/
theorem tileClosed_of_cause {s : State} {c : DarkCause} (h : c ∈ s.arr.causes) (t : Nat) : s.tileClosed t = false := by
  have hne : s.arr.causes.isEmpty = false := by
    cases hc : s.arr.causes with
    | nil => rw [hc] at h; cases h
    | cons a l => rfl
  rw [State.tileClosed, hne]
  rfl

theorem darkAdd_mem (c : DarkCause) (s : State) : c ∈ (switches (darkAdd c s)).causes := by
  change c ∈ (if s.arr.causes.contains c then s.arr.causes else s.arr.causes ++ [c])
  by_cases h : c ∈ s.arr.causes <;> simp [h]

theorem pinRelease_cases (s : State) :
    let width := 1000000 * max 1 (bits (s.cfg 0x1014) 0 8)
    let may := s.flt.pin = true ∧ (s.flt.relPending = true ∨ (s.cfg 0x1014).getLsbD 8 = true)
      ∧ (s.pwr.mode ≠ .halter ∧ s.pwr.mode ≠ .reset ∧ s.pwr.mode ≠ .off ∧ s.pwr.mode ≠ .standby)
      ∧ (s.flt.degrade = 0 ∧ s.flt.safe = 0 ∧ s.flt.dark = 0) ∧ s.flt.pinSince + width ≤ s.clk.loc
    (may → pinRelease s = { s with flt := { s.flt with pin := false, pinSev := false, relPending := false } })
    ∧ (¬ may → pinRelease s = s) := by
  intro width may
  have hmay : may ↔ (s.flt.pin && (s.flt.relPending || (s.cfg 0x1014).getLsbD 8) && !s.latched && s.pwr.mode != .halter
      && s.pwr.mode != .reset && s.pwr.mode != .off && s.pwr.mode != .standby
      && decide (s.flt.pinSince + width ≤ s.clk.loc)) = true := by
    simp only [may, State.latched, Bool.and_eq_true, Bool.or_eq_true, bne_iff_ne, decide_eq_true_eq, Bool.not_eq_true',
      Bool.or_eq_false_iff, bne_eq_false_iff_eq]
    tauto
  exact ⟨fun h => if_pos (hmay.mp h), fun h => if_neg (mt hmay.mpr h)⟩

/-- Settles O48: the releases by their conditions, a raise by `raiseFlt` and by the switches that it opens. -/
theorem faultCollector : Obligations.FaultCollector := by
  refine ⟨fun s => ⟨fun src h hp => ?_, fun src hp => ?_, ?_⟩, fun src data s hsrc => ?_⟩
  · exact congrArg _ (if_neg (not_or.mpr ⟨by omega, by simp [hp]⟩))
  · exact congrArg _ (if_pos (.inr hp))
  · intro width asked running free
    obtain ⟨hyes, hno⟩ := pinRelease_cases s
    exact ⟨fun h1 h2 h3 h4 h5 => congrArg _ (hyes ⟨h1, h2, h3, h4, h5⟩), fun h => congrArg _ (hno h)⟩
  · intro sev acts t
    have hsev : s.sevOf src 0 = sev := by simp only [State.sevOf, State.sevSet, Nat.max_zero, sev]
    have hacts : sevActs src = acts := by
      rw [Bool.eq_iff_iff]
      simp [sevActs, acts, fHostHeartbeat]
    have hk : Keeps s t := keeps_raise ..
    have hflt : sev ≠ 0 → t.flt = raiseFlt src sev s.lg.seq data s.clk.team s.clk.loc s.flt := fun h => by
      rw [show t = raiseMin src 0 data s from rfl, raiseMin_flt src 0 data s (by rwa [hsev]), hsev]
    have hzero : sev = 0 → t = s := fun h => raiseMin_zero src 0 data s (by rw [hsev, h])
    have hlatch : t.flt.degrade = (if sev = 4 ∧ acts then bitPut s.flt.degrade src true else s.flt.degrade)
        ∧ t.flt.safe = (if sev = 5 ∧ acts then bitPut s.flt.safe src true else s.flt.safe)
        ∧ t.flt.dark = if 6 ≤ sev ∧ acts then bitPut s.flt.dark src true else s.flt.dark := by
      by_cases h : sev = 0
      · rw [hzero h, if_neg (by omega), if_neg (by omega), if_neg (by omega)]
        exact ⟨rfl, rfl, rfl⟩
      · rw [hflt h, ← hacts]
        exact raiseFlt_latches ..
    have hbit (c : Prop) [Decidable c] (m : BitVec 160) (k : Nat) (hk : k < 160) :
        (if c ∧ acts = true then bitPut m src true else m).getLsbD k =
          (m.getLsbD k || (decide (k = src) && decide c && acts)) := by
      by_cases hc : c <;> cases acts <;> simp [hc, bitPut_true_getLsbD m src k hk]
    obtain ⟨hdeg, hsafe, hdark⟩ := hlatch
    refine ⟨hzero, fun h => ?_, fun h => ?_, fun h => ?_, fun k hk => ?_, fun k hk => ?_, fun k hk => ?_, fun h ha => ?_,
      hk.arrA, hk.clk, hk.pool, hk.force, hk.surfs⟩
    · obtain ⟨hv, ho, hs, hse, hts⟩ := raiseFlt_first src sev s.lg.seq data s.clk.team s.clk.loc s.flt
      rw [hflt (by omega)]
      refine ⟨fun k hk => ?_, hv, fun h => ?_, fun h => ?_, fun h => ?_⟩
      · rw [raiseFlt_sticky, bitPut_true_getLsbD _ _ _ hk]
      · rw [hs, hse, hts, h]
        exact ⟨rfl, rfl, rfl⟩
      · rw [ho, h, Bool.or_true]
      · rw [hs, hts, h]
        exact ⟨rfl, rfl⟩
    · obtain ⟨hp, hr, -⟩ := raiseFlt_pin src sev s.lg.seq data s.clk.team s.clk.loc s.flt
      rw [hflt (by omega), hp, hr, decide_eq_false (by omega)]
      exact ⟨Bool.or_false _, Bool.and_true _⟩
    · obtain ⟨hp, hr, hsince⟩ := raiseFlt_pin src sev s.lg.seq data s.clk.team s.clk.loc s.flt
      rw [hflt (by omega), hp, hr, hsince, decide_eq_true h, if_pos h]
      exact ⟨Bool.or_true _, Bool.and_false _, rfl⟩
    · rw [hdeg, hbit _ _ _ hk]
    · rw [hsafe, hbit _ _ _ hk]
    · rw [hdark, hbit _ _ _ hk]
    · have hsw : switches t = switches (darkAdd .fault s) := by
        rw [show t = raiseMin src 0 data s from rfl, raiseMin_switches, hsev, hacts, if_pos ⟨h, ha⟩]
      have hmem : DarkCause.fault ∈ (switches t).causes := hsw ▸ darkAdd_mem .fault s
      exact ⟨hmem, fun u _ => tileClosed_of_cause hmem u⟩

end Sys2Proof.Laws
end

section
/-!
The configuration CRC: O36.
-/
namespace Sys2Proof.Laws
open Sys2Proof.Machine Sys2Proof.Claims

/-! ### What a raise notes -/

theorem raiseMin_grows (src m : Nat) (d : List Byte) (s : State) (h : s.sevOf src m ≠ 0) :
    LogGrows (logAdd 5 src s.now d s) (raiseMin src m d s) := by
  have hif {c : Prop} [Decidable c] (f : State → State) (h : ∀ s, LogGrows s (f s)) (s : State) :
      LogGrows s (if c then f s else s) := .ite (h s) (.refl s)
  rw [raiseMin]
  dsimp only
  rw [if_neg h]
  refine LogGrows.trans ?_ (logGrows_causeArise ..)
  refine LogGrows.trans ?_ (hif calLeave logGrows_calLeave _)
  refine LogGrows.trans ?_ (hif _ (fun s => logGrows_emit ..) _)
  refine .trans ?_ (.of_lg (s := latchFirst src (s.sevOf src m) s.now (logAdd 5 src s.now d s)) ?_)
  · exact .of_lg rfl
  · split <;> split <;> split <;> split <;> simp only [intCause_lg, State.mapFlt, latchSet, darkAdd] <;> rfl

/-- R360, R365: a raise sets the sticky bit of its source and stands in the flight log. -/
theorem raiseMin_noted (src m : Nat) (d : List Byte) (s : State) (hsrc : src < 160) (h : s.sevOf src m ≠ 0) :
    (raiseMin src m d s).flt.sticky.getLsbD src = true
    ∧ ∃ e ∈ (raiseMin src m d s).lg.onDie, e.kind = 5 ∧ e.code = BitVec.ofNat 16 src ∧ e.data = pad16 d := by
  refine ⟨?_, ?_⟩
  · rw [raiseMin_flt src m d s h, raiseFlt_sticky, bitPut_true_getLsbD _ _ _ hsrc]
    simp
  · exact ⟨⟨s.now, s.lg.seq, BitVec.ofNat 16 src, 5, false, s.engineId, pad16 d⟩,
      (raiseMin_grows src m d s h).subset (List.mem_append_right _ (by simp)), rfl, rfl, rfl⟩

/-! ### Passes of the configuration CRC -/

/-- R413 to R416: what a pass writes to the registers of the shared partition, where it commits it itself (`auto`) or compares
it (`seen`). -/
def passRegS (cur : Word) (auto seen : Prop) [Decidable auto] [Decidable seen] (r : Reg) : Reg :=
  { r with
    curS := cur, freshS := r.freshS || !r.touchS, touchS := false
    refS := if auto then cur else r.refS, staleS := r.staleS && !decide auto, lateS := r.lateS && !decide auto
    mismS := if seen then decide (cur ≠ r.refS) else r.mismS }

/-- R413 to R416: the same for the local partition. -/
def passRegL (cur : Word) (auto seen : Prop) [Decidable auto] [Decidable seen] (r : Reg) : Reg :=
  { r with
    curL := cur, freshL := r.freshL || !r.touchL, touchL := false
    refL := if auto then cur else r.refL, staleL := r.staleL && !decide auto, lateL := r.lateL && !decide auto
    mismL := if seen then decide (cur ≠ r.refL) else r.mismL }

/-- A pass commits (`auto`), leaves (`¬ seen`) or compares. -/
theorem pass_eq {auto seen : Prop} [Decidable seen] {a b : Bool} {cur ref : Word} {commit left compared v : State}
    {report : State → State} (ha : auto ↔ a = true) (hb : ¬ seen ↔ b = true) (hx : auto → ¬ seen) (hc : auto → commit = v)
    (hl : ¬ auto → ¬ seen → left = v) (hw : ¬ auto → seen → compared = v) :
    (if a = true then commit else if b = true then left
      else if decide (cur ≠ ref) = true then report compared else compared) =
      if seen ∧ cur ≠ ref then report v else v := by
  by_cases h : auto
  · rw [if_pos (ha.mp h), hc h, if_neg fun k => hx h k.1]
  · rw [if_neg (mt ha.mpr h)]
    by_cases hs : seen
    · rw [if_neg (mt hb.mpr (not_not.mpr hs)), hw h hs]
      by_cases hne : cur ≠ ref
      · rw [if_pos (decide_eq_true hne), if_pos ⟨hs, hne⟩]
      · rw [if_neg (mt of_decide_eq_true hne), if_neg fun k => hne k.2]
    · rw [if_pos (hb.mp hs), hl h hs, if_neg fun k => hs k.1]

theorem autoCommit_iff (a b c d : Bool) :
    (a = true ∧ b = true ∧ c = true ∧ d = true) ↔ (a && b && c && d) = true := by
  simp only [Bool.and_eq_true, and_assoc]

theorem notSeen_iff (a b c : Bool) : ¬ (a = true ∧ b = false ∧ c = false) ↔ (b || c || !a) = true := by
  cases a <;> cases b <;> cases c <;> simp

theorem passShared_eq (cur : Word) (s : State) :
    let auto := (s.cfg 0x134).getLsbD 0 = true ∧ (s.reg.freshS || !s.reg.touchS) = true ∧ s.reg.staleS = true
      ∧ s.reg.committed = true
    let seen := s.reg.committed = true ∧ s.reg.staleS = false ∧ s.reg.touchS = false
    let v := s.mapReg (passRegS cur auto seen)
    passShared cur s = if seen ∧ cur ≠ s.reg.refS then crcCompare 0 cur v.reg.refS v else v := by
  intro auto seen v
  refine pass_eq (auto := auto) (report := fun s => crcCompare 0 cur s.reg.refS s) (autoCommit_iff ..) (notSeen_iff ..)
    (fun h k => ?_) (fun h => ?_) (fun h h' => ?_) fun h h' => ?_
  · exact Bool.noConfusion (h.2.2.1.symm.trans k.2.1)
  · have hs : ¬ seen := fun k => Bool.noConfusion (h.2.2.1.symm.trans k.2.1)
    simp [v, passRegS, h, hs, commitNow, State.mapReg]
  · simp [v, passRegS, h, h', State.mapReg]
  · simp [v, passRegS, h, h', State.mapReg]
    exact decide_not

theorem passLocal_eq (cur : Word) (s : State) :
    let auto := (s.cfg 0x134).getLsbD 1 = true ∧ (s.reg.freshL || !s.reg.touchL) = true ∧ s.reg.staleL = true
      ∧ s.reg.committed = true
    let seen := s.reg.committed = true ∧ s.reg.staleL = false ∧ s.reg.touchL = false
    let v := s.mapReg (passRegL cur auto seen)
    passLocal cur s = if seen ∧ cur ≠ s.reg.refL then crcCompare 1 cur v.reg.refL v else v := by
  intro auto seen v
  refine pass_eq (auto := auto) (report := fun s => crcCompare 1 cur s.reg.refL s) (autoCommit_iff ..) (notSeen_iff ..)
    (fun h k => ?_) (fun h => ?_) (fun h h' => ?_) fun h h' => ?_
  · exact Bool.noConfusion (h.2.2.1.symm.trans k.2.1)
  · have hs : ¬ seen := fun k => Bool.noConfusion (h.2.2.1.symm.trans k.2.1)
    simp [v, passRegL, h, hs, commitNow, State.mapReg]
  · simp [v, passRegL, h, h', State.mapReg]
  · simp [v, passRegL, h, h', State.mapReg]
    exact decide_not

/-- R415: the registers that a pass leaves. -/
theorem passShared_reg (cur : Word) (s : State) :
    let auto := (s.cfg 0x134).getLsbD 0 = true ∧ (s.reg.freshS || !s.reg.touchS) = true ∧ s.reg.staleS = true
      ∧ s.reg.committed = true
    let seen := s.reg.committed = true ∧ s.reg.staleS = false ∧ s.reg.touchS = false
    (passShared cur s).reg = { passRegS cur auto seen s.reg with intStat := (passShared cur s).reg.intStat } := by
  intro auto seen
  rw [passShared_eq cur s]
  split
  · exact reg_of_steady (steady_raise ..)
  · rfl

theorem passLocal_reg (cur : Word) (s : State) :
    let auto := (s.cfg 0x134).getLsbD 1 = true ∧ (s.reg.freshL || !s.reg.touchL) = true ∧ s.reg.staleL = true
      ∧ s.reg.committed = true
    let seen := s.reg.committed = true ∧ s.reg.staleL = false ∧ s.reg.touchL = false
    (passLocal cur s).reg = { passRegL cur auto seen s.reg with intStat := (passLocal cur s).reg.intStat } := by
  intro auto seen
  rw [passLocal_eq cur s]
  split
  · exact reg_of_steady (steady_raise ..)
  · rfl

/-- R415: the record of a pass that differs. -/
def CrcNoted (part : Nat) (cur ref : Word) (t : State) : Prop :=
  t.flt.sticky.getLsbD fCfgCrc = true ∧ ∃ e ∈ t.lg.onDie, e.kind = 5 ∧ e.code = BitVec.ofNat 16 fCfgCrc
    ∧ e.data.take 12 = leBytes part 4 ++ leBytes cur.toNat 4 ++ leBytes ref.toNat 4

theorem crcCompare_noted (part : Nat) (hp : part < 256) (cur ref : Word) (s : State) (h : s.sevOf fCfgCrc 0 ≠ 0) :
    CrcNoted part cur ref (crcCompare part cur ref s) := by
  let d := b1 part ++ leBytes 0 3 ++ b4 cur.toNat ++ b4 ref.toNat
  obtain ⟨hst, e, he, hk, hc, hd⟩ := raiseMin_noted fCfgCrc 0 d s (by decide) h
  refine ⟨hst, e, he, hk, hc, ?_⟩
  have hpart : leBytes part 4 = b1 part ++ leBytes 0 3 := by
    have hz : part / 256 = 0 := by omega
    simp [leBytes, b1, hz]
  have hlen : d.length = 12 := by simp [d, b1, b4]
  rw [hd, pad16, List.take_take, Nat.min_eq_left (by decide), List.take_append_of_le_length (by omega),
    List.take_of_length_le (by omega), hpart]
  rfl

/-- Another pass keeps the record. -/
theorem CrcNoted.crcCompare {part p : Nat} {cur ref c r : Word} {s : State} (h : CrcNoted part cur ref s) :
    CrcNoted part cur ref (Machine.crcCompare p c r s) := by
  obtain ⟨hst, e, he, hrest⟩ := h
  refine ⟨?_, e, (logGrows_raiseMin ..).subset he, hrest⟩
  change (raiseMin fCfgCrc 0 _ s).flt.sticky.getLsbD fCfgCrc = true
  by_cases h0 : s.sevOf fCfgCrc 0 = 0
  · rw [raiseMin_zero _ _ _ _ h0]
    exact hst
  · exact (raiseMin_noted fCfgCrc 0 _ s (by decide) h0).1

theorem CrcNoted.passLocal {part : Nat} {cur ref c : Word} {s : State} (h : CrcNoted part cur ref s) :
    CrcNoted part cur ref (Machine.passLocal c s) := by
  rw [passLocal_eq c s]
  split
  · exact CrcNoted.crcCompare h
  · exact h

/-- R415: a compared pass that differs is on record. -/
theorem passShared_noted (cur : Word) (s : State)
    (hs : s.reg.committed = true ∧ s.reg.staleS = false ∧ s.reg.touchS = false) (hne : cur ≠ s.reg.refS)
    (h : s.sevOf fCfgCrc 0 ≠ 0) : CrcNoted 0 cur s.reg.refS (passShared cur s) := by
  rw [passShared_eq cur s, if_pos ⟨hs, hne⟩]
  refine (if_neg (fun k : _ ∧ _ => ?_) : _ = s.reg.refS) ▸ crcCompare_noted 0 (by decide) cur _ _ h
  exact Bool.noConfusion (k.2.2.1.symm.trans hs.2.1)

theorem passLocal_noted (cur : Word) (s : State)
    (hs : s.reg.committed = true ∧ s.reg.staleL = false ∧ s.reg.touchL = false) (hne : cur ≠ s.reg.refL)
    (h : s.sevOf fCfgCrc 0 ≠ 0) : CrcNoted 1 cur s.reg.refL (passLocal cur s) := by
  rw [passLocal_eq cur s, if_pos ⟨hs, hne⟩]
  refine (if_neg (fun k : _ ∧ _ => ?_) : _ = s.reg.refL) ▸ crcCompare_noted 1 (by decide) cur _ _ h
  exact Bool.noConfusion (k.2.2.1.symm.trans hs.2.1)

/-- A pass that finds no difference writes the registers of the CRC only. -/
theorem passShared_same (cur : Word) (s : State)
    (h : ¬ (s.reg.committed = true ∧ s.reg.staleS = false ∧ s.reg.touchS = false) ∨ cur = s.reg.refS) :
    passShared cur s = { s with reg := (passShared cur s).reg } := by
  rw [passShared_eq cur s, if_neg fun k => h.elim (· k.1) k.2]
  rfl

theorem passLocal_same (cur : Word) (s : State)
    (h : ¬ (s.reg.committed = true ∧ s.reg.staleL = false ∧ s.reg.touchL = false) ∨ cur = s.reg.refL) :
    passLocal cur s = { s with reg := (passLocal cur s).reg } := by
  rw [passLocal_eq cur s, if_neg fun k => h.elim (· k.1) k.2]
  rfl

/-- Settles O36: a pass of each partition by `passShared_eq` and `passLocal_eq`. -/
theorem configurationCrc : Obligations.ConfigurationCrc := by
  intro s a b
  refine ⟨fun h => ?_, fun h => ?_, fun p => ?_⟩
  · exact congrArg _ (if_pos (by simp [h]))
  · intro curS curL seenS seenL raises
    let x := passShared curS s
    let y := passLocal curL x
    let t := y.mapReg fun r => { r with passes := r.passes + 1 }
    have hx : exec (.cfgCrcPass a b) s = .next t := congrArg _ (if_neg (by simp [h]))
    have hxreg := passShared_reg curS s
    have hyreg := passLocal_reg curL x
    have hforce : x.reg.force = s.reg.force := by
      rw [hxreg]
      rfl
    have hcfg : x.cfg 0x134 = s.cfg 0x134 := by simp only [State.cfg, hforce]
    obtain ⟨hxL, hxf, hxt, hxr, hxs, hxm, hxc, hxp⟩ : x.reg.curL = s.reg.curL ∧ x.reg.freshL = s.reg.freshL
        ∧ x.reg.touchL = s.reg.touchL ∧ x.reg.refL = s.reg.refL ∧ x.reg.staleL = s.reg.staleL ∧ x.reg.mismL = s.reg.mismL
        ∧ x.reg.committed = s.reg.committed ∧ x.reg.passes = s.reg.passes := by
      rw [hxreg]
      exact ⟨rfl, rfl, rfl, rfl, rfl, rfl, rfl, rfl⟩
    let autoS := (s.cfg 0x134).getLsbD 0 = true ∧ (s.reg.freshS || !s.reg.touchS) = true ∧ s.reg.staleS = true
      ∧ s.reg.committed = true
    let autoL := (s.cfg 0x134).getLsbD 1 = true ∧ (s.reg.freshL || !s.reg.touchL) = true ∧ s.reg.staleL = true
      ∧ s.reg.committed = true
    obtain ⟨hSc, hSf, hSt, hSr, hSs, hSm⟩ : t.reg.curS = curS ∧ t.reg.freshS = (s.reg.freshS || !s.reg.touchS)
        ∧ t.reg.touchS = false ∧ t.reg.refS = (if autoS then curS else s.reg.refS)
        ∧ t.reg.staleS = (s.reg.staleS && !decide autoS)
        ∧ t.reg.mismS = if seenS then decide (curS ≠ s.reg.refS) else s.reg.mismS := by
      change y.reg.curS = _ ∧ y.reg.freshS = _ ∧ y.reg.touchS = _ ∧ y.reg.refS = _ ∧ y.reg.staleS = _ ∧ y.reg.mismS = _
      rw [hyreg]
      change x.reg.curS = _ ∧ x.reg.freshS = _ ∧ x.reg.touchS = _ ∧ x.reg.refS = _ ∧ x.reg.staleS = _ ∧ x.reg.mismS = _
      rw [hxreg]
      exact ⟨rfl, rfl, rfl, rfl, rfl, rfl⟩
    obtain ⟨hLc, hLf, hLt, hLr, hLs, hLm, hLp⟩ : t.reg.curL = curL ∧ t.reg.freshL = (s.reg.freshL || !s.reg.touchL)
        ∧ t.reg.touchL = false ∧ t.reg.refL = (if autoL then curL else s.reg.refL)
        ∧ t.reg.staleL = (s.reg.staleL && !decide autoL)
        ∧ t.reg.mismL = (if seenL then decide (curL ≠ s.reg.refL) else s.reg.mismL)
        ∧ t.reg.passes = s.reg.passes + 1 := by
      change y.reg.curL = _ ∧ y.reg.freshL = _ ∧ y.reg.touchL = _ ∧ y.reg.refL = _ ∧ y.reg.staleL = _ ∧ y.reg.mismL = _
        ∧ y.reg.passes + 1 = _
      rw [hyreg]
      simp [passRegL, hcfg, hxf, hxt, hxr, hxs, hxm, hxc, hxp, autoL, seenL]
    refine ⟨t, hx, hLp, hSc, hLc, hSf, hLf, hSt, hLt, fun h => ?_, fun h => ?_, fun h1 h2 => ?_, fun h1 h2 h3 h4 => ?_,
      fun h1 h2 h3 h4 => ?_, fun h1 h2 => ?_, fun h1 h2 => ?_⟩
    · have hns : ¬ autoS := fun k => Bool.noConfusion (k.2.2.1.symm.trans h.2.1)
      rw [hSm, hSr, if_pos h, if_neg hns]
      refine ⟨rfl, rfl, fun hne hsev => ?_⟩
      exact (passShared_noted curS s h hne hsev).passLocal
    · have hns : ¬ autoL := fun k => Bool.noConfusion (k.2.2.1.symm.trans h.2.1)
      rw [hLm, hLr, if_pos h, if_neg hns]
      refine ⟨rfl, rfl, fun hne hsev => ?_⟩
      have hsevx : x.sevOf fCfgCrc 0 ≠ 0 := by
        simpa only [State.sevOf, State.sevSet, State.cfg, hforce] using hsev
      have hn := passLocal_noted curL x (by rw [hxc, hxs, hxt]; exact h) (by rw [hxr]; exact hne) hsevx
      rw [hxr] at hn
      exact hn
    · have hxs' := passShared_same curS s h1
      have hys := passLocal_same curL x (by rw [hxc, hxs, hxt, hxr]; exact h2)
      change { y with reg := t.reg } = _
      rw [show y = _ from hys, show x = _ from hxs']
    · have ha : autoS := ⟨h4, hSf ▸ h3, h2, h1⟩
      rw [hSs, hSr, if_pos ha, decide_eq_true ha]
      exact ⟨Bool.and_false _, rfl⟩
    · have ha : autoL := ⟨h4, hLf ▸ h3, h2, h1⟩
      rw [hLs, hLr, if_pos ha, decide_eq_true ha]
      exact ⟨Bool.and_false _, rfl⟩
    · have ha : ¬ autoS := fun k => Bool.noConfusion (k.2.1.symm.trans (hSf ▸ h2))
      rw [hSs, hSr, if_neg ha, decide_eq_false ha, h1]
      exact ⟨rfl, rfl⟩
    · have ha : ¬ autoL := fun k => Bool.noConfusion (k.2.1.symm.trans (hLf ▸ h2))
      rw [hLs, hLr, if_neg ha, decide_eq_false ha, h1]
      exact ⟨rfl, rfl⟩
  · intro new
    have hnew : new ↔ (s.staleNew p && s.reg.committed && s.passesRun) = true := by
      cases p <;> simp [new, State.staleNew, and_assoc]
    refine ⟨fun h => ?_, fun h => ?_⟩
    · refine (congrArg _ (if_pos (hnew.mp h))).trans ?_
      cases p <;> rfl
    · exact congrArg _ (if_neg (mt hnew.mpr h))

end Sys2Proof.Laws
end

section
/-!
Single accesses to the registers of BAR0: O35.
-/
namespace Sys2Proof.Laws
open Sys2Proof.Machine Sys2Proof.Claims

/-! ### A request of one double word -/

theorem whenMem_awake (f : State → State) (s : State) (hm : s.memOn = true) :
    whenMem f s = .next (f { s with bus := { s.bus with l1 := false } }) := by
  rw [whenMem, if_pos hm, busAwake_eq]

theorem whenRead_awake (f : State → State) (s : State) (hm : s.memOn = true) :
    whenRead f s = .next (f { s with bus := { s.bus with l1 := false } }) := by
  rw [whenRead, if_pos hm, busAwake_eq]

theorem requestFails_one (bar : Nat) (wr : Bool) (o : Nat) (be bl : BitVec 4) (h : o % 4 = 0) :
    requestFails bar wr (requestWords o 1 be bl) = wordFails bar wr (o, be == 0xF) := by
  have ho : o / 4 * 4 = o := by omega
  have hw : requestWords o 1 be bl = [(o, be == 0xF)] := by
    show [(o / 4 * 4 + 4 * 0, _)] = _
    rw [ho]
    rfl
  rw [hw]
  rw [requestFails, List.findSome?_cons]
  cases wordFails bar wr (o, be == 0xF) <;> rfl

/-- A whole write of an implemented register does what `regWrite` says. -/
theorem registerWrite_whole {s₀ : State} (hm : s₀.memOn = true) {o : Half} (v : Word) (bl : BitVec 4)
    (h4 : o.toNat % 4 = 0) (hlow : o.toNat < 0x8000) (hhas : regHas o.toNat = true) :
    exec (.registerWrite .bar0 o [v] 0xF bl) s₀
      = .next (regWrite o.toNat v { s₀ with bus := { s₀.bus with l1 := false } }) := by
  refine (whenMem_awake _ _ hm).trans (congrArg _ ?_)
  have hok : requestFails 0 true (requestWords o.toNat 1 0xF bl) = none := by
    rw [requestFails_one _ _ _ _ _ h4]
    simp only [wordFails, Nat.mod_eq_of_lt hlow, hhas]
    simp [show o.toNat < 0x10000 by omega, show ¬ 0x8000 ≤ o.toNat by omega]
  have ho : o.toNat / 4 * 4 = o.toNat := by omega
  simp only [hostWriteOp, barNum, List.length_singleton, hok]
  show regWrite (o.toNat / 4 * 4 + 4 * 0) v _ = _
  rw [ho]
  rfl

theorem registerWrite_partial {s₀ : State} (hm : s₀.memOn = true) (o : Half) (v : Word) (be bl : BitVec 4)
    (hbe : be ≠ 0xF) (h4 : o.toNat % 4 = 0) :
    exec (.registerWrite .bar0 o [v] be bl) s₀
      = .next (regAccess o.toNat 3 0 be.toNat (errNonfatal { s₀ with bus := { s₀.bus with l1 := false } })) := by
  refine (whenMem_awake _ _ hm).trans (congrArg _ ?_)
  have hbad : requestFails 0 true (requestWords o.toNat 1 be bl) = some (o.toNat, 3) := by
    rw [requestFails_one _ _ _ _ _ h4]
    have hb : (be == 0xF) = false := beq_eq_false_iff_ne.mpr hbe
    rw [hb]
    rfl
  simp only [hostWriteOp, barNum, List.length_singleton, hbad]
  rfl

theorem refusedRead_fails {s₀ : State} (hm : s₀.memOn = true) (bar : BarId) (o : Half) (be bl : BitVec 4)
    (h4 : o.toNat % 4 = 0) {kind : Nat}
    (hbad : wordFails (barNum bar) false (o.toNat, be == 0xF) = some (o.toNat, kind)) :
    exec (.refusedRead bar o 1 be bl) s₀
      = .next (busReply .readAbort (regAccess o.toNat kind (barNum bar) be.toNat
          (aerLog completerAbort { s₀ with bus := { s₀.bus with l1 := false } }))) := by
  refine (whenRead_awake _ _ hm).trans (congrArg _ ?_)
  have hbad := (requestFails_one (barNum bar) false o.toNat be bl h4).trans hbad
  simp only [hostReadOp, hbad]

/-- A read of one implemented register answers its sample; at its own address the register is cleared. -/
theorem hostRead_one (o : Nat) (s : State) (h4 : o % 4 = 0) (hlow : o < 0x10000) (hhas : regHas (o % 0x8000) = true) :
    hostReadOp 0 o 1 0xF 0xF s
      = (if o < 0x8000 then regClear o else id)
          (busReply (.readData [(regSample (o % 0x8000) s).1]) (regSample (o % 0x8000) s).2) := by
  have hok : requestFails 0 false (requestWords o 1 0xF 0xF) = none := by
    rw [requestFails_one _ _ _ _ _ h4]
    simp [wordFails, hhas, hlow]
  have ho : o / 4 * 4 + 4 * 0 = o := by omega
  have hl : (requestWords o 1 0xF 0xF).map Prod.fst = [o] := by
    show [o / 4 * 4 + 4 * 0] = _
    rw [ho]
  simp only [hostReadOp, hok, hl]
  by_cases hh : o < 0x8000
  · simp only [hh, if_true, List.filter_cons, decide_true]
    rfl
  · simp only [hh, if_false, if_true, List.filter_cons, decide_false]
    rfl

/-! ### Writes -/

set_option maxRecDepth 8000 in
theorem classC_implemented : ∀ o ∈ classCRegs, regHas o = true ∧ o < 0x8000 ∧ o % 4 = 0 := by
  decide

set_option maxRecDepth 8000 in
theorem classC_not_readings : ∀ o ∈ classCRegs, o < 0x2100 ∨ 0x2180 ≤ o := by
  decide

theorem regWrite_classC {o : Nat} (ho : o ∈ classCRegs) (v : Word) (s : State) :
    regWrite o v s = shadowWrite o v s := by
  have hc : classCRegs.contains o = true := by simpa using ho
  exact if_pos hc

/-- The number whose digits of base 16 are `d 0`, `d 1` and so on. -/
theorem digit_sum_lt (d : Nat → Nat) (hd : ∀ k, d k < 16) (n : Nat) :
    ((List.range n).map fun k => d k * 16 ^ k).sum < 16 ^ n := by
  induction n with
  | zero => simp
  | succ n ih =>
    have hn := Nat.mul_le_mul_right (16 ^ n) (Nat.le_of_lt_succ (hd n))
    rw [List.range_succ, List.map_append, List.sum_append, List.map_singleton, List.sum_singleton, pow_succ]
    omega

theorem digit_sum (d : Nat → Nat) (hd : ∀ k, d k < 16) (n k : Nat) (hk : k < n) :
    ((List.range n).map fun k => d k * 16 ^ k).sum / 16 ^ k % 16 = d k := by
  induction n with
  | zero => exact absurd hk (Nat.not_lt_zero k)
  | succ n ih =>
    rw [List.range_succ, List.map_append, List.sum_append, List.map_singleton, List.sum_singleton]
    obtain rfl | hlt := Nat.eq_or_lt_of_le (Nat.le_of_lt_succ hk)
    · rw [Nat.add_mul_div_right _ _ (Nat.pow_pos (by decide)), Nat.div_eq_of_lt (digit_sum_lt d hd k), Nat.zero_add,
        Nat.mod_eq_of_lt (hd k)]
    · have hdvd : 16 ^ k * 16 ∣ d n * 16 ^ n := Dvd.dvd.mul_left (pow_dvd_pow 16 hlt) _
      rw [← Nat.mod_mul_right_div_self, Nat.add_mod, Nat.mod_eq_zero_of_dvd hdvd, Nat.add_zero, Nat.mod_mod,
        Nat.mod_mul_right_div_self, ih hlt]

/-- R364: the severities that a write of `FLT_SEVn` puts into its shadow. -/
theorem sevWrite_digit (n : Nat) (v : Word) (k : Nat) (hk : k < 8) :
    (sevWrite n v).toNat / 16 ^ k % 16 = if sourceKnown (8 * n + k) then min 6 (v.toNat / 16 ^ k % 16) else 0 := by
  let d (k : Nat) : Nat := if sourceKnown (8 * n + k) then min 6 (bits v (4 * k) 4) else 0
  have hd (k : Nat) : d k < 16 := by dsimp only [d]; split <;> omega
  have hw : sevWrite n v = word ((List.range 8).map fun k => d k * 16 ^ k).sum := by
    unfold sevWrite
    refine congrArg (fun l : List Nat => word l.sum) (List.map_congr_left fun k _ => ?_)
    dsimp only [d]
    split <;> simp
  have hnat : (sevWrite n v).toNat = ((List.range 8).map fun k => d k * 16 ^ k).sum := by
    rw [hw]
    exact (BitVec.toNat_ofNat ..).trans (Nat.mod_eq_of_lt (digit_sum_lt d hd 8))
  rw [hnat, digit_sum d hd 8 k hk]
  have hbits : bits v (4 * k) 4 = v.toNat / 16 ^ k % 16 := by
    rw [show (16 : Nat) ^ k = 2 ^ (4 * k) by rw [Nat.pow_mul]]
    simp [bits]
  simp only [d, hbits]

theorem regWrite_readonly {o : Nat} (hlo : 0x2100 ≤ o) (hhi : o < 0x2180) (v : Word) (s : State) : regWrite o v s = s := by
  have hc : ¬ classCRegs.contains o = true := fun h => by
    obtain hlt | hge := classC_not_readings o (by simpa using h) <;> omega
  have hr : ¬ (0x400 ≤ o ∧ o < 0x800) := by omega
  unfold regWrite
  rw [if_neg hc, if_neg hr]
  split
  case h_10 => rfl
  all_goals omega

theorem commitWrite_shared (v : Word) (s : State) : commitWrite .shared v s
    = if s.reg.freshS = true ∧ v = s.reg.curS then
        { s with reg := { s.reg with refS := s.reg.curS, staleS := false, lateS := false } }
      else regAccess 0x120 8 0 0xF s := by
  simp only [commitWrite, Bool.and_eq_true, beq_iff_eq]
  rfl

theorem commitWrite_local (v : Word) (s : State) : commitWrite .localPart v s
    = if s.reg.freshL = true ∧ v = s.reg.curL then
        { s with reg := { s.reg with refL := s.reg.curL, staleL := false, lateL := false } }
      else regAccess 0x124 8 0 0xF s := by
  simp only [commitWrite, Bool.and_eq_true, beq_iff_eq]
  rfl

theorem pinRelease_keeps_or (s : State) :
    pinRelease s = s ∨ s.latched = false ∧ s.flt.pin = true
      ∧ pinRelease s = { s with flt := { s.flt with pin := false, pinSev := false, relPending := false } } := by
  unfold pinRelease
  dsimp only
  split
  · next h =>
    simp only [Bool.and_eq_true, Bool.not_eq_true'] at h
    obtain ⟨⟨⟨⟨⟨⟨⟨hpin, -⟩, hlat⟩, -⟩, -⟩, -⟩, -⟩, -⟩ := h
    exact .inr ⟨hlat, hpin, rfl⟩
  · exact .inl rfl

/-- R370: `FLT_PIN_REL` requests the release of FAULT_N, or releases it at once. -/
theorem pinRelOp_spec (s : State) :
    (pinRelOp s = { s with flt := { s.flt with
        pin := (pinRelOp s).flt.pin, pinSev := (pinRelOp s).flt.pinSev, relPending := (pinRelOp s).flt.relPending } })
    ∧ (s.flt.pin = false → (pinRelOp s).flt.pin = false ∧ (pinRelOp s).flt.relPending = false)
    ∧ (s.flt.pin = true → s.latched = true → (pinRelOp s).flt.pin = true ∧ (pinRelOp s).flt.relPending = true)
    ∧ ((pinRelOp s).flt.pin = true → (pinRelOp s).flt.relPending = true) := by
  obtain hx | ⟨hl, hp, hx⟩ := pinRelease_keeps_or (s.mapFlt fun f => { f with relPending := f.pin })
  · have hx : pinRelOp s = _ := hx
    rw [hx]
    exact ⟨rfl, fun h => ⟨h, h⟩, fun h _ => ⟨h, h⟩, fun h => h⟩
  · have hx : pinRelOp s = _ := hx
    have hl : s.latched = false := hl
    have hp : s.flt.pin = true := hp
    rw [hx]
    exact ⟨rfl, fun h => by simp [hp] at h, fun _ h => by simp [hl] at h, fun h => Bool.noConfusion h⟩

/-! ### Reads with an effect -/

theorem mapLane_lane (n : Nat) (f : Lane → Lane) (s : State) (h : n < s.lan.l.length) :
    (mapLane n f s).lane n = f (s.lane n) := by
  simp [mapLane, State.mapLan, State.lane, List.getD, h]

theorem mapLane_lane_other {n k : Nat} (hk : k ≠ n) (f : Lane → Lane) (s : State) :
    (mapLane n f s).lane k = s.lane k := by
  simp [mapLane, State.mapLan, State.lane, List.getD, Ne.symm hk]

theorem mapLane_length (n : Nat) (f : Lane → Lane) (s : State) : (mapLane n f s).lan.l.length = s.lan.l.length := by
  simp [mapLane, State.mapLan]

/-- R205: what bringing the counters of lane `n` up to date does. -/
theorem laneCount_spec (n : Nat) (s : State) (hn : n < s.lan.l.length) :
    let t := laneCount n s
    t.bus = s.bus ∧ t.lan.l.length = s.lan.l.length ∧ (s.lane n).errCnt.toNat ≤ (t.lane n).errCnt.toNat
    ∧ (t.lane n).test = (s.lane n).test ∧ ((s.lane n).prbsLock = false → t = s)
    ∧ ∀ k, k ≠ n → t.lane k = s.lane k := by
  intro t
  have ht : t = laneCount n s := rfl
  unfold laneCount at ht
  dsimp only at ht
  split at ht
  · rw [ht]
    exact ⟨rfl, rfl, le_rfl, rfl, fun _ => rfl, fun _ _ => rfl⟩
  · next e he =>
    split at ht
    · rw [ht]
      exact ⟨rfl, rfl, le_rfl, rfl, fun _ => rfl, fun _ _ => rfl⟩
    · next hlock =>
      have hdraw (f : Lane → Lane) : ((mapLane n f (s.draw.2.draw.2)).lane n) = f (s.lane n) :=
        mapLane_lane n f (s.draw.2.draw.2) hn
      refine ⟨by rw [ht]; rfl, by rw [ht]; exact mapLane_length .., ?_, by rw [ht, hdraw], fun h => ?_, fun k hk => ?_⟩
      · rw [ht, hdraw]
        have hlt := (s.lane n).errCnt.isLt
        simp only [BitVec.toNat_ofNat]
        omega
      · simp [h] at hlock
      · rw [ht]
        exact mapLane_lane_other hk ..

/-- R205: the clearing read of `LTn_ERRCNT`, seen from the lanes. -/
theorem errcntRead_spec (n : Fin 8) (s : State) (hl : s.lan.l.length = 8) :
    let t := hostReadOp 0 (0x3004 + 0x40 * n.val) 1 0xF 0xF s
    let u := laneCount n.val s
    t.bus.out = s.bus.out ++ [.readData [(u.lane n.val).errCnt]]
    ∧ t.lane n.val = { u.lane n.val with
        errCnt := 0, bitCount := (u.lane n.val).bitCount % 10000
        bitsLo := word ((u.lane n.val).bitCount / 10000), bitsHi := word ((u.lane n.val).bitCount / 10000 / 2 ^ 32)
        since := u.clk.loc }
    ∧ ∀ k, k ≠ n.val → t.lane k = s.lane k := by
  intro t u
  have hn := n.isLt
  obtain ⟨hbus, hlen, -, -, -, hother⟩ := laneCount_spec n.val s (by omega)
  have hsample : regSample ((0x3004 + 0x40 * n.val) % 0x8000) s = ((u.lane n.val).errCnt, u) := by
    fin_cases n <;> rfl
  have hclear (x : State) : regClear (0x3004 + 0x40 * n.val) x = laneClear n.val x := by
    fin_cases n <;> rfl
  have ht : t = laneClear n.val (busReply (.readData [(u.lane n.val).errCnt]) u) := by
    have hone := hostRead_one (0x3004 + 0x40 * n.val) s (by omega) (by omega) (by fin_cases n <;> rfl)
    rw [if_pos (by omega), hsample, hclear] at hone
    exact hone
  refine ⟨?_, ?_, fun k hk => ?_⟩
  · rw [ht, ← hbus]
    rfl
  · rw [ht]
    exact mapLane_lane n.val _ (busReply _ u) (hlen.symm ▸ hl.symm ▸ hn)
  · rw [ht]
    exact (mapLane_lane_other hk _ (busReply _ u)).trans (hother k hk)

/-- R404: the clearing read of one word of the sticky bits. -/
theorem stickyClear_getLsbD (m : BitVec 160) (k b : Nat) (hb : b < 160) :
    (m &&& ~~~(0xFFFFFFFF#160 <<< (32 * k))).getLsbD b = (m.getLsbD b && decide (b / 32 ≠ k)) := by
  have hones (i : Nat) : (0xFFFFFFFF#160).getLsbD i = decide (i < 32) := by
    rw [show (0xFFFFFFFF#160) = BitVec.ofNat 160 (2 ^ 32 - 1) from rfl, BitVec.getLsbD_ofNat, Nat.testBit_two_pow_sub_one]
    by_cases h : i < 32 <;> simp [h]; omega
  rw [BitVec.getLsbD_and, BitVec.getLsbD_not, BitVec.getLsbD_shiftLeft, hones]
  congr 1
  by_cases hlo : b < 32 * k
  · have : b / 32 ≠ k := by omega
    simp [hb, hlo, this]
  · by_cases hhi : b - 32 * k < 32
    · have : b / 32 = k := by omega
      simp [hb, hlo, hhi, this]
    · have : b / 32 ≠ k := by omega
      simp [hb, hlo, hhi, this]

/-- A clearing read of one word at `o`, its own address or the alias. -/
theorem clearingRead_one {s₀ : State} (hm : s₀.memOn = true) (o : Half) (h4 : o.toNat % 4 = 0) (hlow : o.toNat < 0x10000)
    (hhas : regHas (o.toNat % 0x8000) = true) :
    let s : State := { s₀ with bus := { s₀.bus with l1 := false } }
    exec (.clearingRead o 1) s₀ = .next ((if o.toNat < 0x8000 then regClear o.toNat else id)
      (busReply (.readData [(regSample (o.toNat % 0x8000) s).1]) (regSample (o.toNat % 0x8000) s).2)) :=
  (whenRead_awake _ _ hm).trans (congrArg _ (hostRead_one o.toNat _ h4 hlow hhas))

/-- Settles O35: each access is one request of one double word; the writes by what `regWrite` does at their offset, the
reads by the sample and by what a clearing read clears. -/
theorem registerAccess : Obligations.RegisterAccess := by
  unfold Obligations.RegisterAccess
  refine ⟨fun s₀ hm => ?_, fun s₀ hm => ?_⟩
  · intro s
    refine ⟨fun o v bl ho hsev => ?_, fun o v bl ho hlo hhi => ?_, fun o v be bl hbe h4 => ?_,
      fun o v bl hlo hhi h4 => ?_, fun v => ?_, fun v => ?_, ?_, ?_, fun r => ?_,
      
      fun b => whenMem_awake (gpioSetOp b) _ hm, fun b => whenMem_awake (gpioClrOp b) _ hm⟩
    · intro m locked
      obtain ⟨hhas, hlow, h4⟩ := classC_implemented _ ho
      have hx := registerWrite_whole hm v bl h4 hlow hhas
      have hiff : (o.toNat = 0x134 ∨ o.toNat = 0x138) ∧ s.reg.locked = true ↔ locked := by
        simp only [locked, ← BitVec.toNat_inj]
        rfl
      rw [regWrite_classC ho] at hx
      refine ⟨fun h => hx.trans (congrArg _ ?_), fun h => hx.trans (congrArg _ (if_pos (hiff.mpr h)))⟩
      exact (if_neg (fun hl => h (hiff.mp hl))).trans (by rw [if_neg hsev]; rfl)
    · intro m
      obtain ⟨hhas, hlow, h4⟩ := classC_implemented _ ho
      have hx := registerWrite_whole hm v bl h4 hlow hhas
      have hfree : ¬ ((o.toNat = 0x134 ∨ o.toNat = 0x138) ∧ s.reg.locked = true) := by omega
      rw [regWrite_classC ho, shadowWrite, if_neg hfree, if_pos ⟨hlo, hhi⟩] at hx
      exact ⟨_, sevWrite_digit _ v, hx⟩
    · exact registerWrite_partial hm o v be bl hbe h4
    · have hhas : regHas o.toNat = true := by
        simp [regHas]
        omega
      exact (registerWrite_whole hm v bl h4 (by omega) hhas).trans
        (congrArg _ (regWrite_readonly hlo hhi v s))
    · exact (whenMem_awake _ _ hm).trans (congrArg _ (commitWrite_shared v s))
    · exact (whenMem_awake _ _ hm).trans (congrArg _ (commitWrite_local v s))
    · exact whenMem_awake (fun s => s.mapReg fun r => { r with locked := true }) _ hm
    · exact ⟨_, whenMem_awake pinRelOp _ hm, pinRelOp_spec s⟩
    · have hx : exec (.seqReset r) s₀ = .next (seqResetOp r.val s) := whenMem_awake _ _ hm
      refine ⟨fun h => ?_, fun h => ?_⟩
      · rw [hx, seqResetOp, if_pos h]
        exact congrArg (fun o => Host.Outcome.next (regAccess o 8 0 0xF s)) (by simp only [ringReg]; omega)
      · rw [hx, seqResetOp, if_neg (by simp [h])]
  · intro s answered aborted abort
    refine ⟨fun bar o be bl hbe h4 => ?_, fun o bl h4 hbad => ?_, ?_, ?_, fun n hl => ?_, ?_, ?_, ?_, ?_, fun k hk => ?_, ?_⟩
    · have hb : (be == 0xF) = false := beq_eq_false_iff_ne.mpr hbe
      refine (refusedRead_fails hm bar o be bl h4 (by rw [hb]; rfl)).trans ?_
      cases bar <;> rfl
    · refine refusedRead_fails hm .bar0 o 0xF bl h4 ?_
      have hno : (decide (o.toNat < 0x10000) && regHas (o.toNat % 0x8000)) = false := by
        obtain h | h := hbad
        · simp [Nat.not_lt.mpr h]
        · simp [h]
      simp only [wordFails, barNum, hno]
      rfl
    · exact (whenRead_awake _ _ hm).trans (congrArg _ (hostRead_one 0x1000 s rfl (by decide) rfl))
    · exact (whenRead_awake _ _ hm).trans (congrArg _ (hostRead_one 0x4000 s rfl (by decide) rfl))
    · obtain ⟨-, -, hle, htest, hsame, -⟩ := laneCount_spec n.val s (by omega)
      obtain ⟨hout, hlane, hother⟩ := errcntRead_spec n s hl
      refine ⟨_, _, whenRead_awake _ _ hm, hout, hle, ?_, ?_, ?_, fun h => ?_, fun k _ hk => hother k hk⟩
      · rw [hlane]
      · rw [hlane]
        exact Nat.mod_lt _ (by decide)
      · rw [hlane]
        exact htest
      · rw [hlane, hsame h]
        exact ⟨rfl, rfl, rfl⟩
    · exact clearingRead_one hm 0x208 rfl (by decide) rfl
    · exact clearingRead_one hm 0x818 rfl (by decide) rfl
    · exact clearingRead_one hm 0x10C rfl (by decide) rfl
    · exact clearingRead_one hm 0x2004 rfl (by decide) rfl
    · have hoff : (BitVec.ofNat 16 (0x1020 + 4 * k)).toNat = 0x1020 + 4 * k := by
        rw [BitVec.toNat_ofNat]
        omega
      have hx := clearingRead_one hm (BitVec.ofNat 16 (0x1020 + 4 * k)) (by omega) (by omega)
        (by rw [hoff]; interval_cases k <;> rfl)
      rw [hoff, if_pos (by omega)] at hx
      refine ⟨_, hx, ?_, fun b hb => ?_⟩
      · interval_cases k <;> rfl
      · refine Eq.trans ?_ (stickyClear_getLsbD s.flt.sticky k b hb)
        interval_cases k <;> rfl
    · exact clearingRead_one hm 0x8208 rfl (by decide) rfl

end Sys2Proof.Laws
end

section
/-!
The host port and its rings: the MSI-X structures and a loss of the data link (O41).
-/
namespace Sys2Proof.Laws
open Sys2Proof.Machine Sys2Proof.Claims

/-! ### The MSI-X table -/

/-- What the release of pending messages touches. -/
structure MsixKept (s t : State) : Prop where
  eq : t = { s with bus := t.bus }
  msix : t.bus.msix = s.bus.msix

theorem MsixKept.refl (s : State) : MsixKept s s := ⟨rfl, rfl⟩

theorem MsixKept.trans {s t u : State} (h : MsixKept s t) (h' : MsixKept t u) : MsixKept s u :=
  ⟨by rw [h'.eq, h.eq], h'.msix.trans h.msix⟩

theorem msixKept_busSend (o : BusOut) (s : State) : MsixKept s (busSend o s) := by
  refine ⟨rfl, ?_⟩
  show (Bus.send [o] s.bus).msix = _
  unfold Bus.send
  split <;> rfl

theorem msixKept_msixRelease (s : State) : MsixKept s (msixRelease s) := by
  unfold msixRelease
  generalize List.range 32 = l
  induction l generalizing s with
  | nil => exact .refl s
  | cons v l ih =>
    refine MsixKept.trans ?_ (ih _)
    dsimp only
    split
    · have hcleared : MsixKept s (s.mapBus fun b => { b with pba := b.pba &&& ~~~(1#32 <<< v) }) := ⟨rfl, rfl⟩
      exact hcleared.trans (msixKept_busSend ..)
    · exact .refl s

/-- With one message pending, of a vector that is not masked, exactly that message is sent. -/
theorem msixRelease_one (s : State) (k : Nat) (hk : k < 32) (hp : s.bus.pba = 1#32 <<< k) (hen : s.bus.msixEn = true)
    (hf : s.bus.funcMask = false) (hmask : (s.bus.msix.getD k ⟨0, 0, true⟩).masked = false) (hm : s.bus.master = true)
    (hd : s.bus.d3 = false) :
    let e := s.bus.msix.getD k ⟨0, 0, true⟩
    (msixRelease s).bus.pba = 0 ∧ (msixRelease s).bus.out = s.bus.out ++ [.msix k e.addr e.data] := by
  intro e
  let step (s : State) (v : Nat) : State :=
    let e := s.bus.msix.getD v ⟨0, 0, true⟩
    if s.bus.pba.getLsbD v && !e.masked && !s.bus.funcMask && s.bus.msixEn then
      busSend (.msix v e.addr e.data) (s.mapBus fun b => { b with pba := b.pba &&& ~~~(1#32 <<< v) })
    else s
  have hidle (l : List Nat) (t : State) (h : ∀ v ∈ l, t.bus.pba.getLsbD v = false) : l.foldl step t = t := by
    induction l with
    | nil => rfl
    | cons v l ih =>
      have hv : step t v = t := if_neg (by simp [h v List.mem_cons_self])
      rw [List.foldl_cons, hv]
      exact ih fun w hw => h w (List.mem_cons_of_mem _ hw)
  have hbit (v : Nat) : s.bus.pba.getLsbD v = decide (v = k) := by
    rw [hp]
    by_cases hv : v = k
    · subst hv
      simp [hk]
    · simp [hv]
      omega
  have hsent : step s k = busSend (.msix k e.addr e.data) (s.mapBus fun b => { b with pba := 0 }) := by
    have hon : (s.bus.pba.getLsbD k && !(s.bus.msix.getD k ⟨0, 0, true⟩).masked && !s.bus.funcMask && s.bus.msixEn) = true := by
      rw [hbit, hmask, hf, hen]
      simp
    refine (if_pos hon).trans ?_
    have hz : s.bus.pba &&& ~~~(1#32 <<< k) = 0 := by rw [hp, BitVec.and_not_self]
    simp only [State.mapBus, hz]
    rfl
  have hbus : (busSend (.msix k e.addr e.data) (s.mapBus fun b => { b with pba := 0 })).bus
      = { s.bus with pba := 0, out := s.bus.out ++ [.msix k e.addr e.data], l1 := false } := by
    simp [busSend, State.mapBus, Bus.send, hm, hd]
  have hsplit : List.range 32 = List.range k ++ k :: (List.range' (k + 1) (31 - k)) := by
    rw [← List.range'_succ, List.range_eq_range', List.range_eq_range', show 31 - k + 1 = 32 - k by omega]
    have := List.range'_append_1 (s := 0) (m := k) (n := 32 - k)
    rw [Nat.zero_add, show k + (32 - k) = 32 by omega] at this
    exact this.symm
  have hall : msixRelease s = busSend (.msix k e.addr e.data) (s.mapBus fun b => { b with pba := 0 }) := by
    show (List.range 32).foldl step s = _
    rw [hsplit, List.foldl_append, hidle (List.range k) s fun v hv => by
      rw [hbit, decide_eq_false (by have := List.mem_range.mp hv; omega)], List.foldl_cons, hsent]
    exact hidle _ _ fun v _ => by rw [hbus]; exact BitVec.getLsbD_zero
  rw [hall, hbus]
  exact ⟨rfl, rfl⟩

/-- A write to the MSI-X table, or beside it, outside an entry into SLEEP or STANDBY. -/
theorem msixTableWrite_decoded {s₀ : State} (hm : s₀.memOn = true) (he : s₀.pwr.entry = none) (o : Half) (v : Word)
    (hhi : 0x480 < o.toNat) (h4 : o.toNat % 4 = 0) (hhas : bar2Has o.toNat = true) :
    exec (.msixTableWrite o v) s₀ = .next (msixWrite o.toNat v { s₀ with bus := { s₀.bus with l1 := false } }) := by
  have ho : o.toNat / 4 * 4 = o.toNat := by omega
  have hw (s : State) : bar2Write o.toNat v s = msixWrite o.toNat v s := by
    rw [bar2Write, if_neg (by omega), if_neg (by omega), if_neg (by omega)]
  have hentry (s : State) (h : s.pwr.entry = none) : (msixWrite o.toNat v s).pwr.entry = none := by
    unfold msixWrite
    split
    · rw [(msixKept_msixRelease _).eq]
      exact h
    · exact h
  refine congrArg _ ((if_neg (by simp [hm])).trans ?_)
  simp only [ho, hhas, if_true, busAwake_eq, hw]
  exact wakeQualify_bar2 0 _ (hentry _ he)

/-- R195: a write of word `j` of entry `k` of the MSI-X table. -/
theorem msixTableWrite_word {s₀ : State} (hm : s₀.memOn = true) (he : s₀.pwr.entry = none) (v : Word) (k j : Nat)
    (hk : k < 32) (hj : j < 4) :
    exec (.msixTableWrite (BitVec.ofNat 16 (0x800 + 16 * k + 4 * j)) v) s₀
      = .next (msixRelease { s₀ with bus := { s₀.bus with
          l1 := false, msix := s₀.bus.msix.modify k fun e => e.put j v } }) := by
  have ho : (BitVec.ofNat 16 (0x800 + 16 * k + 4 * j)).toNat = 0x800 + 16 * k + 4 * j := by
    rw [BitVec.toNat_ofNat]
    omega
  have hhas : bar2Has (0x800 + 16 * k + 4 * j) = true := by
    simp [bar2Has]
    omega
  rw [msixTableWrite_decoded hm he _ v (by omega) (by omega) (by rw [ho]; exact hhas), ho, msixWrite,
    if_pos (by omega), show (0x800 + 16 * k + 4 * j - 0x800) / 16 = k by omega,
    show (0x800 + 16 * k + 4 * j) / 4 % 4 = j by omega]
  rfl

theorem addr_low (a : Dword) (v : Word) :
    ((a &&& 0xFFFFFFFF00000000) ||| (v &&& 0xFFFFFFFC).zeroExtend 64).truncate 32 = v &&& 0xFFFFFFFC := by
  ext i hi
  have hhigh : (0xFFFFFFFF00000000#64).getLsbD i = false := by
    interval_cases i <;> rfl
  simp

/-! ### A loss of the data link -/

/-- What the ring pairs' following of their sizes leaves: all but the enabled state of the rings and what it ends. -/
structure RingsMoved (s t : State) : Prop where
  bus : t.bus = s.bus
  clk : t.clk = s.clk
  frm : t.frm = s.frm
  scn : t.scn = s.scn
  arr : t.arr = s.arr
  pho : t.pho = s.pho
  reg : t.reg = s.reg
  session : t.sec.session = s.sec.session
  handles : t.pool.handles.map (fun x : Handle => { x with waiting := none })
    = s.pool.handles.map (fun x : Handle => { x with waiting := none })
  mem : t.pool.mem = s.pool.mem
  length : t.rng.q.length = s.rng.q.length
  windows : ∀ n, (t.ring n).window = (s.ring n).window ∧ (t.ring n).lastSeq = (s.ring n).lastSeq
    ∧ (t.ring n).seqValid = (s.ring n).seqValid

theorem RingsMoved.refl (s : State) : RingsMoved s s :=
  ⟨rfl, rfl, rfl, rfl, rfl, rfl, rfl, rfl, rfl, rfl, rfl, fun _ => ⟨rfl, rfl, rfl⟩⟩

theorem RingsMoved.trans {s t u : State} (h : RingsMoved s t) (h' : RingsMoved t u) : RingsMoved s u where
  bus := h'.bus.trans h.bus
  clk := h'.clk.trans h.clk
  frm := h'.frm.trans h.frm
  scn := h'.scn.trans h.scn
  arr := h'.arr.trans h.arr
  pho := h'.pho.trans h.pho
  reg := h'.reg.trans h.reg
  session := h'.session.trans h.session
  handles := h'.handles.trans h.handles
  mem := h'.mem.trans h.mem
  length := h'.length.trans h.length
  windows n := by
    obtain ⟨hw, hl, hv⟩ := h.windows n
    obtain ⟨hw', hl', hv'⟩ := h'.windows n
    exact ⟨hw'.trans hw, hl'.trans hl, hv'.trans hv⟩

theorem mapRing_windows (n k : Nat) (f : Ring → Ring) (s : State)
    (hf : ∀ r, (f r).window = r.window ∧ (f r).lastSeq = r.lastSeq ∧ (f r).seqValid = r.seqValid) :
    ((mapRing n f s).ring k).window = (s.ring k).window ∧ ((mapRing n f s).ring k).lastSeq = (s.ring k).lastSeq
      ∧ ((mapRing n f s).ring k).seqValid = (s.ring k).seqValid := by
  by_cases hn : n < s.rng.q.length
  · rw [mapRing_ring n k f s hn]
    split
    · next hk => exact hk ▸ hf _
    · exact ⟨rfl, rfl, rfl⟩
  · have hsame : mapRing n f s = s := by
      rw [mapRing_frame, List.modify_eq_self (Nat.le_of_not_lt hn)]
    rw [hsame]
    exact ⟨rfl, rfl, rfl⟩

theorem ringsMoved_mapSubs (f : Sub → Sub) (s : State) : RingsMoved s (s.mapSubs f) where
  bus := rfl
  clk := rfl
  frm := rfl
  scn := rfl
  arr := rfl
  pho := rfl
  reg := rfl
  session := rfl
  handles := by
    simp only [State.mapSubs, List.map_map]
    rfl
  mem := rfl
  length := rfl
  windows _ := ⟨rfl, rfl, rfl⟩

theorem ringsMoved_mapRing (n : Nat) (f : Ring → Ring) (s : State)
    (hf : ∀ r, (f r).window = r.window ∧ (f r).lastSeq = r.lastSeq ∧ (f r).seqValid = r.seqValid) :
    RingsMoved s (mapRing n f s) :=
  ⟨rfl, rfl, rfl, rfl, rfl, rfl, rfl, rfl, rfl, rfl, mapRing_length .., fun k => mapRing_windows n k f s hf⟩

theorem ringsMoved_ringEnable (n : Nat) (s : State) : RingsMoved s (ringEnable n s) :=
  ringsMoved_mapRing n _ s fun _ => ⟨rfl, rfl, rfl⟩

theorem ringsMoved_ringDisable (n : Nat) (s : State) : RingsMoved s (ringDisable n s) :=
  (ringsMoved_mapSubs _ s).trans (ringsMoved_mapRing n _ _ fun _ => ⟨rfl, rfl, rfl⟩)

/-- One ring follows its size. -/
def ringFollow (s : State) (n : Nat) : State :=
  let on := s.sqSize n != 0
  if on && !(s.ring n).enabled then ringEnable n s
  else if !on && (s.ring n).enabled then ringDisable n s
  else s

theorem ringsMoved_ringFollow (s : State) (n : Nat) : RingsMoved s (ringFollow s n) := by
  unfold ringFollow
  dsimp only
  split
  · exact ringsMoved_ringEnable ..
  · split
    · exact ringsMoved_ringDisable ..
    · exact .refl s

theorem ringsMoved_foldl (l : List Nat) (s : State) : RingsMoved s (l.foldl ringFollow s) := by
  induction l generalizing s with
  | nil => exact .refl s
  | cons n l ih => exact (ringsMoved_ringFollow s n).trans (ih _)

/-- A ring with size 0 is disabled once it has followed its size, and the other rings stay. -/
theorem ringFollow_enabled (s : State) (n k : Nat) (hn : n < s.rng.q.length) (hz : s.sqSize n = 0) :
    ((ringFollow s n).ring k).enabled = if k = n then false else (s.ring k).enabled := by
  unfold ringFollow
  have hon : (s.sqSize n != 0) = false := by simp [hz]
  simp only [hon, Bool.false_and, Bool.not_false, Bool.true_and, Bool.false_eq_true, if_false]
  by_cases he : (s.ring n).enabled = true
  · rw [if_pos he]
    unfold ringDisable
    rw [mapRing_ring _ _ _ _ (by exact hn)]
    split <;> rfl
  · rw [if_neg he]
    split
    · next hk => rw [hk]; simpa using he
    · rfl

theorem ringsFollow_disabled (s : State) (m : Nat) (hl : m ≤ s.rng.q.length) (hz : ∀ n, n < m → s.sqSize n = 0) (k : Nat)
    (hk : k < m) : (((List.range m).foldl ringFollow s).ring k).enabled = false := by
  induction m with
  | zero => exact absurd hk (Nat.not_lt_zero k)
  | succ m ih =>
    have hmoved := ringsMoved_foldl (List.range m) s
    have hsize : ((List.range m).foldl ringFollow s).sqSize m = 0 := by
      rw [← hz m (Nat.lt_succ_self m)]
      simp only [State.sqSize, State.cfg, hmoved.reg]
    rw [List.range_succ, List.foldl_append]
    refine (ringFollow_enabled _ m k (by rw [hmoved.length]; omega) hsize).trans ?_
    split
    · rfl
    · exact ih (by omega) (fun n hn => hz n (Nat.lt_succ_of_lt hn)) (by omega)

/-- The event ring follows its size. -/
def eqFollow (s : State) : State :=
  s.mapRng fun r =>
    let on := s.eqSize != 0
    if on && !r.eq.enabled then
      { r with eq := { r.eq with enabled := true, tail := 0, head := 0, phase := true, modCount := 0, modStart := 0
                                 late := none } }
    else if !on && r.eq.enabled then { r with eq := { r.eq with enabled := false, modCount := 0, late := none } }
    else r

theorem ringsSync_follow (s : State) : ringsSync s = eqFollow ((List.range 16).foldl ringFollow s) := rfl

theorem eqFollow_rings (s : State) : (eqFollow s).rng.q = s.rng.q := by
  simp only [eqFollow, State.mapRng]
  split
  · rfl
  · split <;> rfl

theorem eqFollow_disabled (s : State) (hz : s.eqSize = 0) : (eqFollow s).rng.eq.enabled = false := by
  have hon : (s.eqSize != 0) = false := by simp [hz]
  simp only [eqFollow, State.mapRng, hon, Bool.false_and, Bool.false_eq_true, if_false, Bool.not_false, Bool.true_and]
  split
  · rfl
  · next h => simpa using h

theorem ringsMoved_eqFollow (s : State) : RingsMoved s (eqFollow s) := by
  have hq := eqFollow_rings s
  refine ⟨rfl, rfl, rfl, rfl, rfl, rfl, rfl, rfl, rfl, rfl, congrArg List.length hq, fun n => ?_⟩
  simp only [State.ring, hq]
  exact ⟨trivial, trivial, trivial⟩

theorem ringsSync_moved (s : State) : RingsMoved s (ringsSync s) :=
  (ringsMoved_foldl (List.range 16) s).trans (ringsMoved_eqFollow _)

theorem ringsSync_disabled (s : State) (hl : s.rng.q.length = 16) (hz : ∀ n, n < 16 → s.sqSize n = 0) (n : Nat)
    (hn : n < 16) : ((ringsSync s).ring n).enabled = false := by
  simp only [ringsSync_follow, State.ring, eqFollow_rings]
  exact ringsFollow_disabled s 16 (by omega) hz n hn

theorem ringsSync_eq_disabled (s : State) (hz : s.eqSize = 0) : (ringsSync s).rng.eq.enabled = false := by
  have hmoved := ringsMoved_foldl (List.range 16) s
  have hsize : ((List.range 16).foldl ringFollow s).eqSize = s.eqSize := by
    simp only [State.eqSize, State.cfg, hmoved.reg]
  exact eqFollow_disabled ((List.range 16).foldl ringFollow s) (hsize.trans hz)

/-- The registers of the ring pairs have no value beside their reset once their rows have left. -/
theorem alGet_filter_none {β : Type} (l : List (Nat × β)) (k : Nat) (p : Nat → Bool) (hk : p k = true) :
    alGet (l.filter fun e => !p e.1) k = none := by
  rw [alGet, Option.map_eq_none_iff, List.find?_eq_none]
  intro e he
  have hp := (List.mem_filter.mp he).2
  intro heq
  rw [beq_iff_eq] at heq
  simp [heq, hk] at hp

/-- The state whose rings follow the sizes of R196: all of them 0. -/
def ringRegsReset (s : State) : State :=
  cfgTouch false true (s.mapReg fun r =>
    { r with shadow := r.shadow.filter fun e => !isRingReg e.1, force := r.force.filter fun e => !isRingReg e.1 })

theorem ringRegsReset_cfg (s : State) (o : Nat) (h : isRingReg o = true) : (ringRegsReset s).cfg o = regReset o := by
  have hnone : alGet (s.reg.force.filter fun e => !isRingReg e.1) o = none := alGet_filter_none _ _ _ h
  show (alGet (s.reg.force.filter fun e => !isRingReg e.1) o).getD (regReset o) = _
  rw [hnone]
  rfl

theorem sqSize_ringRegsReset (s : State) (n : Nat) (hn : n < 16) : (ringRegsReset s).sqSize n = 0 := by
  have hreg : isRingReg (ringReg n 0x10) = true := by
    simp [isRingReg, ringReg]
    omega
  have hzero : regReset (ringReg n 0x10) = 0 := by interval_cases n <;> rfl
  rw [State.sqSize, ringRegsReset_cfg _ _ hreg, hzero]
  rfl

/-- R196: the ring pairs and the event ring after a loss of the link. -/
theorem ringsDown_spec (s : State) (hl : s.rng.q.length = 16) :
    let t := ringsDown s
    t.bus = s.bus ∧ t.clk = s.clk ∧ t.frm = s.frm ∧ t.scn = s.scn ∧ t.arr = s.arr ∧ t.pho = s.pho
    ∧ t.sec.session = s.sec.session ∧ t.pool.mem = s.pool.mem
    ∧ t.pool.handles.map (fun x : Handle => { x with waiting := none })
        = s.pool.handles.map (fun x : Handle => { x with waiting := none })
    ∧ t.rng.eq.enabled = false
    ∧ ∀ n, n < 16 → (t.ring n).enabled = false ∧ (t.ring n).window = (s.ring n).window
        ∧ (t.ring n).lastSeq = (s.ring n).lastSeq ∧ (t.ring n).seqValid = (s.ring n).seqValid
        ∧ (t.ring n).cqPhase = true ∧ (t.ring n).sqTail = 0 := by
  intro t
  have hmoved := ringsSync_moved (ringRegsReset s)
  refine ⟨hmoved.bus, hmoved.clk, hmoved.frm, hmoved.scn, hmoved.arr, hmoved.pho, hmoved.session, hmoved.mem,
    hmoved.handles, ringsSync_eq_disabled _ ?_, fun n hn => ?_⟩
  · show (ringRegsReset s).eqSize = 0
    rw [State.eqSize, ringRegsReset_cfg s 0x808 rfl]
    rfl
  · have hring : t.ring n = { (ringsSync (ringRegsReset s)).ring n with
        sqTail := 0, sqHead := 0, cqTail := 0, cqHead := 0, cqPhase := true, sqIndex := 0, cqIndex := 0
        sqLate := none, cqLate := none } := by
      have hlen : n < (ringsSync (ringRegsReset s)).rng.q.length := by
        rw [hmoved.length]
        exact hl ▸ hn
      show (((ringsSync (ringRegsReset s)).rng.q.map _).getD n Ring.reset) = _
      simp only [State.ring, List.getD_eq_getElem?_getD, List.getElem?_map, List.getElem?_eq_getElem hlen]
      rfl
    obtain ⟨hw, hs, hv⟩ := hmoved.windows n
    rw [hring]
    exact ⟨ringsSync_disabled (ringRegsReset s) hl (sqSize_ringRegsReset s) n hn, hw, hs, hv, rfl, rfl⟩

theorem ptmHold_ctx (s : State) : (ptmHold s).clk.ptmCtx = s.clk.ptmCtx := by
  unfold ptmHold
  dsimp only [State.mapClk]
  by_cases h : s.clk.disc = .ptm
  · rw [if_pos h]
    rfl
  · rw [if_neg h]

theorem lanesDown_frame (s : State) : lanesDown s = { s with lan := (lanesDown s).lan } := by
  unfold lanesDown
  generalize List.range s.pcieLanes = l
  induction l generalizing s with
  | nil => rfl
  | cons n l ih => exact ih (laneQuiet n s)

theorem hostSessionEnd_frame (s : State) :
    hostSessionEnd s = { s with sec := { s.sec with session := (hostSessionEnd s).sec.session } } := by
  unfold hostSessionEnd
  split
  · split <;> rfl
  · rfl

/-- R262: only the session of this engine's own host ends with the link. -/
theorem hostSessionEnd_session (s : State) (e : Session) (h : s.sec.session = some e) :
    (e.origin = none → (hostSessionEnd s).sec.session = none)
    ∧ (e.origin ≠ none → (hostSessionEnd s).sec.session = s.sec.session) := by
  simp only [hostSessionEnd, h]
  refine ⟨fun ho => ?_, fun ho => ?_⟩
  · simp only [ho]
    rfl
  · rw [if_neg (by simpa using ho), h]

/-- Settles O41: a table write is one `MsixEntry.put` and the release of what it unmasks; a link loss resets the bus, and its
rings follow the sizes of their reset registers. -/
theorem msixAndLinkLoss : Obligations.MsixAndLinkLoss := by
  unfold Obligations.MsixAndLinkLoss
  refine ⟨fun s₀ v hm hs he hl => ?_, fun s hup hlen => ?_⟩
  · intro s
    refine ⟨fun k hk => ?_, ?_, ?_⟩
    · intro e at4
      have hput (j : Nat) (hj : j < 4) : exec (.msixTableWrite (at4 j) v) s₀ = .next
          (msixRelease { s with bus := { s.bus with msix := s.bus.msix.modify k fun e => e.put j v } }) :=
        msixTableWrite_word hm he v k j hk hj
      have hget (f : MsixEntry → MsixEntry) : (s.bus.msix.modify k f).getD k ⟨0, 0, true⟩ = f e := by
        have hk' : k < s.bus.msix.length := by
          show k < s₀.bus.msix.length
          omega
        simp [e, List.getD, hk']
      refine ⟨⟨_, hput 2 (by decide), ?_⟩, ⟨_, hput 0 (by decide), ?_⟩, fun hv => ?_, fun hv hp hen hf hma hd => ?_⟩
      · rw [(msixKept_msixRelease _).msix]
        exact hget _
      · rw [(msixKept_msixRelease _).msix]
        exact (congrArg (fun e : MsixEntry => e.addr.truncate 32) (hget _)).trans (addr_low e.addr v)
      · rw [hput 3 (by decide)]
        simp only [MsixEntry.put, hv]
      · have hentry := hget fun e => e.put 3 v
        obtain ⟨hpba, hout⟩ := msixRelease_one
          { s with bus := { s.bus with msix := s.bus.msix.modify k fun e => e.put 3 v } } k hk hp hen hf
          ((congrArg MsixEntry.masked hentry).trans hv) hma hd
        refine ⟨_, hput 3 (by decide), hpba, hout.trans ?_⟩
        rw [hentry]
        rfl
    · exact msixTableWrite_decoded hm he 0xC00 v (by decide) rfl rfl
    · refine congrArg _ ((if_neg (by simp [hm])).trans ?_)
      have hno : ¬ bar2Has ((0xB00 : Half).toNat / 4 * 4) = true := by decide
      simp only [busAwake_eq]
      refine (congrArg (wakeQualify 6 0) (if_neg hno)).trans ?_
      refine wakeQualify_bar2 0 _ ?_
      rw [regAccess, (keeps_raise ..).pwr]
      exact he
  · let u := ptmHold ((lanesDown (s.mapBus Bus.down)).mapClk fun c => { c with ptmCtx := false })
    have hu : u = { s with bus := u.bus, clk := u.clk, lan := u.lan } :=
      congrArg (fun t : State => { t with bus := u.bus, clk := u.clk, lan := u.lan }) (lanesDown_frame (s.mapBus Bus.down))
    have hbus : u.bus = s.bus.down := congrArg State.bus (lanesDown_frame (s.mapBus Bus.down))
    have hctx : u.clk.ptmCtx = false := by
      show (ptmHold _).clk.ptmCtx = false
      rw [ptmHold_ctx]
      rfl
    obtain ⟨hb, hclk, hfrm, hscn, harr, hpho, hses, hmem, hhan, heq, hrings⟩ :=
      ringsDown_spec u (by rw [hu]; exact hlen)
    have hx : exec .linkDown s = .next (raise fLinkDown [] (hostSessionEnd (ringsDown u))) :=
      congrArg _ (if_neg (by simp [hup]))
    refine ⟨hostSessionEnd (ringsDown u), hx, ?_⟩
    rw [hostSessionEnd_frame]
    refine ⟨?_, ?_, ?_, ?_, ?_, ?_, heq, fun n hn => ?_, fun e he => ?_, ?_, ?_, ?_, ?_, ?_, ?_⟩
    · simp only [hb, hbus]
      rfl
    · simp only [hb, hbus]
      rfl
    · simp only [hclk, hctx]
    · simp only [hb, hbus]
      rfl
    · simp only [hb, hbus]
      rfl
    · simp only [hb, hbus]
      rfl
    · rw [hu] at hrings
      rw [hu]
      exact hrings n hn
    · have hsame : u.sec.session = s.sec.session := by rw [hu]
      rw [hsame] at hses
      exact hses ▸ hostSessionEnd_session _ e (hses.trans he)
    · exact (congrArg Machine.Frm.frame hfrm).trans (by rw [hu])
    · exact hscn.trans (by rw [hu])
    · exact harr.trans (by rw [hu])
    · exact hpho.trans (by rw [hu])
    · exact hhan.trans (by rw [hu])
    · exact hmem.trans (by rw [hu])

end Sys2Proof.Laws
end

section
/-!
The host port: configuration requests, the training of the link and the PTM dialog (O40).
-/
namespace Sys2Proof.Laws
open Sys2Proof.Machine Sys2Proof.Claims

/-! ### Configuration requests -/

theorem bitsPut_getLsbD (w : Word) (lo len v i : Nat) (hi : i < 32) :
    (bitsPut w lo len v).getLsbD i = if lo ≤ i ∧ i < lo + len then v.testBit (i - lo) else w.getLsbD i := by
  have hmask : (BitVec.ofNat 32 ((2 ^ len - 1) * 2 ^ lo)).getLsbD i = decide (lo ≤ i ∧ i < lo + len) := by
    rw [BitVec.getLsbD_ofNat, Nat.testBit_mul_two_pow, Nat.testBit_two_pow_sub_one]
    by_cases h : lo ≤ i
    · simp [hi, h]
      omega
    · simp [h]
  have hval : (BitVec.ofNat 32 (at_ v lo len)).getLsbD i = (decide (lo ≤ i ∧ i < lo + len) && v.testBit (i - lo)) := by
    rw [BitVec.getLsbD_ofNat, at_, Nat.testBit_mul_two_pow, Nat.testBit_mod_two_pow]
    by_cases h : lo ≤ i
    · have : i - lo < len ↔ i < lo + len := by omega
      simp [hi, h, this]
    · simp [h]
  rw [bitsPut, BitVec.getLsbD_or, BitVec.getLsbD_and, BitVec.getLsbD_not, hmask, hval]
  by_cases h : lo ≤ i ∧ i < lo + len
  · simp [h]
  · simp [h, hi]

/-- A whole write replaces the low byte. -/
theorem mergeBytes_low (old new : Word) (i : Nat) (hi : i < 8) : (mergeBytes 0xF old new).getLsbD i = new.getLsbD i := by
  have hstep (w : Word) (k : Nat) (hk : 0 < k) :
      (bitsPut w (8 * k) 8 (new.toNat / 2 ^ (8 * k) % 256)).getLsbD i = w.getLsbD i := by
    rw [bitsPut_getLsbD _ _ _ _ _ (by omega), if_neg (by omega)]
  show (bitsPut (bitsPut (bitsPut (bitsPut old (8 * 0) 8 _) (8 * 1) 8 _) (8 * 2) 8 _) (8 * 3) 8 _).getLsbD i = _
  rw [hstep _ 3 (by decide), hstep _ 2 (by decide), hstep _ 1 (by decide), bitsPut_getLsbD _ _ _ _ _ (by omega),
    if_pos (by omega)]
  show (new.toNat / 1 % 2 ^ 8).testBit (i - 0) = _
  rw [Nat.div_one, Nat.testBit_mod_two_pow]
  simp [hi, BitVec.getLsbD]

/-- R197: requests that are let out leave nothing held while the function may issue them. -/
theorem heldSend_bus (s : State) :
    (heldSend s).bus.memEn = s.bus.memEn ∧ (heldSend s).bus.master = s.bus.master ∧ (heldSend s).bus.d3 = s.bus.d3
    ∧ (s.bus.master = true → s.bus.d3 = false → (heldSend s).bus.held = []) := by
  unfold heldSend
  split
  · next h =>
    simp only [Bool.and_eq_true, Bool.not_eq_true'] at h
    let out (s : State) (o : BusOut) : State := match o with
      | .msix v _ _ => msixSend v s
      | o => busSend o s
    have hsend (o : BusOut) (t : State) (hm : t.bus.master = true) (hd : t.bus.d3 = false) :
        (busSend o t).bus.memEn = t.bus.memEn ∧ (busSend o t).bus.master = t.bus.master
        ∧ (busSend o t).bus.d3 = t.bus.d3 ∧ (busSend o t).bus.held = t.bus.held := by
      simp [busSend, State.mapBus, Bus.send, hm, hd]
    have hout (t : State) (o : BusOut) (hm : t.bus.master = true) (hd : t.bus.d3 = false) :
        (out t o).bus.memEn = t.bus.memEn ∧ (out t o).bus.master = t.bus.master
        ∧ (out t o).bus.d3 = t.bus.d3 ∧ (out t o).bus.held = t.bus.held := by
      dsimp only [out]
      split
      · unfold msixSend
        dsimp only
        split
        · exact ⟨rfl, rfl, rfl, rfl⟩
        · exact hsend _ _ hm hd
      · exact hsend _ _ hm hd
    have hfold (l : List BusOut) (t : State) (hm : t.bus.master = true) (hd : t.bus.d3 = false) :
        (l.foldl out t).bus.memEn = t.bus.memEn ∧ (l.foldl out t).bus.master = t.bus.master
        ∧ (l.foldl out t).bus.d3 = t.bus.d3 ∧ (l.foldl out t).bus.held = t.bus.held := by
      induction l generalizing t with
      | nil => exact ⟨rfl, rfl, rfl, rfl⟩
      | cons o l ih =>
        obtain ⟨he, hma, hdd, hh⟩ := hout t o hm hd
        obtain ⟨he', hma', hdd', hh'⟩ := ih (out t o) (hma.trans hm) (hdd.trans hd)
        exact ⟨he'.trans he, hma'.trans hma, hdd'.trans hdd, hh'.trans hh⟩
    obtain ⟨he, hma, hdd, hh⟩ := hfold s.bus.held (s.mapBus fun b => { b with held := [] }) h.1 h.2
    exact ⟨he, hma, hdd, fun _ _ => hh⟩
  · next h =>
    refine ⟨rfl, rfl, rfl, fun hm hd => ?_⟩
    simp [hm, hd] at h

/-! ### The training of the link -/

/-- A trained lane: locked, with the taps of its speed. -/
def LaneTrained (speed : Nat) (a b : Lane) : Prop :=
  b.sigDet = true ∧ b.cdrLock = true
  ∧ (speed ≤ 2 → (b.pre, b.main, b.post) = (0, 40, 8) ∨ (b.pre, b.main, b.post) = (0, 36, 12))
  ∧ (3 ≤ speed → (b.pre, b.main, b.post) = (a.pre, a.main, a.post)
      ∨ (b.pre.toNat + b.main.toNat + b.post.toNat = 48 ∧ b.pre.toNat ≤ 12 ∧ b.post.toNat ≤ 16))

theorem mapLane_mapLane (n : Nat) (f g : Lane → Lane) (s : State) :
    mapLane n g (mapLane n f s) = mapLane n (fun l => g (f l)) s := by
  simp only [mapLane, State.mapLan, List.modify_modify_eq]
  rfl

/-- The training of one lane: at most one request on the link, and the taps of that lane. -/
theorem laneTrain_spec (speed n : Nat) (s : State) (hn : n < s.lan.l.length) :
    let t := laneTrain speed n s
    (∃ (es : List BusOut) (b : Bool), t = { s with free := t.free, lan := t.lan, bus := { s.bus with out := s.bus.out ++ es, l1 := b } }
      ∧ (speed ≤ 2 → es = []) ∧ (3 ≤ speed → ∃ r, es = [.txEq n 48 16 r]))
    ∧ t.lan.l.length = s.lan.l.length ∧ LaneTrained speed (s.lane n) (t.lane n) ∧ ∀ k, k ≠ n → t.lane k = s.lane k := by
  intro t
  by_cases hsp : speed ≤ 2
  · have ht : t = tapsPut n (deEmphasis (Config.freePick s.free % 2 == 1))
        (mapLane n (fun l => { l with sigDet := true, cdrLock := true }) { s with free := s.free + 5 }) := if_pos hsp
    refine ⟨⟨[], s.bus.l1, ?_, fun _ => rfl, fun h => by omega⟩, ?_, ?_, fun k hk => ?_⟩
    · rw [ht, List.append_nil]
      rfl
    · rw [ht]
      simp only [tapsPut, mapLane_length]
    · rw [ht, tapsPut, mapLane_mapLane, mapLane_lane n _ { s with free := s.free + 5 } hn]
      refine ⟨rfl, rfl, fun _ => ?_, fun h => by omega⟩
      cases (Config.freePick s.free % 2 == 1)
      · exact .inl rfl
      · exact .inr rfl
    · rw [ht, tapsPut, mapLane_mapLane, mapLane_lane_other hk]
      rfl
  · let pick (k m : Nat) : Nat := Config.freePick k % m
    let p : Nat × Nat × Nat := if pick s.free 2 = 0 then linkPreset (pick (s.free + 1) 11)
      else (pick (s.free + 1) 32, pick (s.free + 2) 64, pick (s.free + 3) 32)
    let ctle (l : Lane) : Lane := { l with ctle := BitVec.ofNat 4 (Config.freePick (s.free + 4)) }
    let lock (l : Lane) : Lane := { l with sigDet := true, cdrLock := true }
    have ht : t = mapLane n ctle (eqRequest n p (mapLane n lock { s with free := s.free + 5 })) := if_neg hsp
    by_cases hok : tapsOk p.1 p.2.1 p.2.2 = true
    · let taps (l : Lane) : Lane :=
        { l with pre := BitVec.ofNat 5 p.1, main := BitVec.ofNat 6 p.2.1, post := BitVec.ofNat 5 p.2.2 }
      have ht : t = busReply (.txEq n 48 16 false)
          (mapLane n (fun l => ctle (taps (lock l))) { s with free := s.free + 5 }) := by
        rw [ht, eqRequest]
        simp only [hok, if_true]
        rw [tapsPut, mapLane_mapLane]
        exact congrArg (busReply (.txEq n 48 16 false)) (mapLane_mapLane n _ ctle _)
      refine ⟨⟨_, false, ?_, fun h => absurd h hsp, fun _ => ⟨false, rfl⟩⟩, ?_, ?_, fun k hk => ?_⟩
      · rw [ht]
        rfl
      · rw [ht]
        exact mapLane_length ..
      · have hlane : t.lane n = ctle (taps (lock (s.lane n))) := by
          rw [ht]
          exact mapLane_lane n _ { s with free := s.free + 5 } hn
        rw [hlane]
        simp only [tapsOk, Bool.and_eq_true, beq_iff_eq, decide_eq_true_eq] at hok
        obtain ⟨hsum, -, hpre, hpost⟩ := hok
        refine ⟨rfl, rfl, fun h => absurd h hsp, fun _ => .inr ?_⟩
        simp only [ctle, taps, BitVec.toNat_ofNat]
        rw [Nat.mod_eq_of_lt (by omega), Nat.mod_eq_of_lt (by omega), Nat.mod_eq_of_lt (by omega)]
        exact ⟨hsum, hpre, hpost⟩
      · rw [ht]
        exact mapLane_lane_other hk _ { s with free := s.free + 5 }
    · have ht : t = busReply (.txEq n 48 16 true) (mapLane n (fun l => ctle (lock l)) { s with free := s.free + 5 }) := by
        rw [ht, eqRequest]
        simp only [Bool.not_eq_true] at hok
        simp only [hok, Bool.false_eq_true, if_false]
        exact congrArg (busReply (.txEq n 48 16 true)) (mapLane_mapLane n _ ctle _)
      have hlane : t.lane n = ctle (lock (s.lane n)) := by
        rw [ht]
        exact mapLane_lane n _ { s with free := s.free + 5 } hn
      refine ⟨⟨_, false, ?_, fun h => absurd h hsp, fun _ => ⟨true, rfl⟩⟩, ?_, ?_, fun k hk => ?_⟩
      · rw [ht]
        rfl
      · rw [ht]
        exact mapLane_length ..
      · rw [hlane]
        exact ⟨rfl, rfl, fun h => absurd h hsp, fun _ => .inl rfl⟩
      · rw [ht]
        exact mapLane_lane_other hk _ { s with free := s.free + 5 }

/-- The training of the lanes `l`, one after the other. -/
theorem lanesTrain_spec (speed : Nat) (l : List Nat) (hd : l.Nodup) (s : State) (hl : ∀ n ∈ l, n < s.lan.l.length) :
    let t := l.foldl (fun s n => laneTrain speed n s) s
    (∃ (es : List BusOut) (b : Bool), t = { s with free := t.free, lan := t.lan, bus := { s.bus with out := s.bus.out ++ es, l1 := b } }
      ∧ (speed ≤ 2 → es = []) ∧ (3 ≤ speed → es.length = l.length ∧ ∀ o ∈ es, ∃ n ∈ l, ∃ r, o = .txEq n 48 16 r))
    ∧ (∀ n ∈ l, LaneTrained speed (s.lane n) (t.lane n)) ∧ ∀ k, k ∉ l → t.lane k = s.lane k := by
  induction l generalizing s with
  | nil =>
    refine ⟨⟨[], s.bus.l1, ?_, fun _ => rfl, fun _ => ⟨rfl, fun o ho => absurd ho (List.not_mem_nil)⟩⟩,
      fun n hn => absurd hn (List.not_mem_nil), fun _ _ => rfl⟩
    rw [List.append_nil]
    rfl
  | cons n l ih =>
    obtain ⟨hnl, hd⟩ := List.nodup_cons.mp hd
    obtain ⟨⟨es, b, ht, hlow, hhigh⟩, hlen, hlane, hother⟩ := laneTrain_spec speed n s (hl n List.mem_cons_self)
    obtain ⟨⟨es', b', ht', hlow', hhigh'⟩, hlanes, hothers⟩ :=
      ih hd (laneTrain speed n s) fun k hk => hlen.symm ▸ hl k (List.mem_cons_of_mem _ hk)
    have hbus : (laneTrain speed n s).bus = { s.bus with out := s.bus.out ++ es, l1 := b } := by rw [ht]
    refine ⟨⟨es ++ es', b', ?_, fun h => by rw [hlow h, hlow' h]; rfl, fun h => ?_⟩, fun k hk => ?_, fun k hk => ?_⟩
    · rw [List.foldl_cons]
      generalize (List.foldl (fun s n => laneTrain speed n s) (laneTrain speed n s) l) = u at ht'
      rw [ht', hbus, ht, List.append_assoc]
    · obtain ⟨r, hr⟩ := hhigh h
      obtain ⟨hcount, hall⟩ := hhigh' h
      refine ⟨by rw [hr, List.length_append, hcount, List.length_cons]; exact Nat.add_comm .., fun o ho => ?_⟩
      rw [hr] at ho
      obtain ho | ho := List.mem_append.mp ho
      · exact ⟨n, List.mem_cons_self, r, List.mem_singleton.mp ho⟩
      · obtain ⟨k, hk, r', hr'⟩ := hall o ho
        exact ⟨k, List.mem_cons_of_mem _ hk, r', hr'⟩
    · obtain rfl | hk := List.mem_cons.mp hk
      · rw [List.foldl_cons, hothers k hnl]
        exact hlane
      · have hne : k ≠ n := fun h => hnl (h ▸ hk)
        rw [List.foldl_cons, ← hother k hne]
        exact hlanes k hk
    · have hne : k ≠ n := fun h => hk (h ▸ List.mem_cons_self)
      rw [List.foldl_cons, hothers k fun h => hk (List.mem_cons_of_mem _ h), hother k hne]

theorem lanesQuiet_lane (m : Nat) (s : State) (hm : m ≤ s.lan.l.length) (k : Nat) :
    let t := (List.range m).foldl (fun s n => laneQuiet n s) s
    t.lan.l.length = s.lan.l.length
    ∧ t.lane k = if k < m then { s.lane k with sigDet := false, cdrLock := false } else s.lane k := by
  induction m with
  | zero => exact ⟨rfl, by simp⟩
  | succ m ih =>
    obtain ⟨hlen, hlane⟩ := ih (by omega)
    dsimp only
    rw [List.range_succ, List.foldl_append]
    refine ⟨(mapLane_length ..).trans hlen, ?_⟩
    by_cases hk : k = m
    · subst hk
      refine (mapLane_lane k _ _ (by omega)).trans ?_
      rw [hlane, if_neg (Nat.lt_irrefl k), if_pos (Nat.lt_succ_self k)]
    · refine (mapLane_lane_other hk _ _).trans (hlane.trans ?_)
      exact if_congr (by omega) rfl rfl

theorem pcieLanes_le (s : State) : s.pcieLanes ≤ 4 := by
  unfold State.pcieLanes
  split <;> decide

theorem maxWidth_le (s : State) : s.maxWidth ≤ s.pcieLanes := by
  unfold State.maxWidth
  split
  · exact Nat.min_le_right ..
  · exact le_rfl

theorem mem_linkLanes (s : State) (w n : Nat) :
    n ∈ s.linkLanes w ↔ ∃ k, k < w ∧ n = if s.bus.reversed then s.maxWidth - 1 - k else k := by
  simp only [State.linkLanes, List.mem_map, List.mem_range]
  exact exists_congr fun k => and_congr_right fun _ => eq_comm

theorem linkLanes_nodup (s : State) (w : Nat) (hw : w ≤ s.maxWidth) : (s.linkLanes w).Nodup := by
  refine (List.nodup_map_iff_inj_on List.nodup_range).mpr fun a ha b hb h => ?_
  rw [List.mem_range] at ha hb
  split at h <;> omega

theorem linkLanes_lt (s : State) (w n : Nat) (hw : w ≤ s.maxWidth) (hn : n ∈ s.linkLanes w) : n < s.maxWidth := by
  obtain ⟨k, hk, rfl⟩ := (mem_linkLanes ..).mp hn
  split <;> omega

/-- R201: `LINK_UP` at a speed and a width that the link can have. -/
theorem linkUp_spec (s : State) (sp w : Nat) (hst : s.started = true) (hok : s.linkOk sp w = true)
    (hl : s.lan.l.length = 8) : ∃ t, exec (.linkUp sp w) s = .next t
    ∧ (∃ l : List BusOut, t.bus = { s.bus with
          linkUp := true, speed := sp, width := w, reversed := t.bus.reversed, out := s.bus.out ++ l, l1 := t.bus.l1 }
        ∧ (sp ≤ 2 → l = [])
        ∧ (3 ≤ sp → l.length = w ∧ ∀ o ∈ l, ∃ n r, n < s.maxWidth ∧ o = .txEq n 48 16 r))
    ∧ (t.bus.reversed = true → 1 < s.maxWidth) ∧ t.rng = s.rng ∧ t.reg = s.reg
    ∧ ∀ n, n < s.pcieLanes →
      let used := ∃ k, k < w ∧ n = (if t.bus.reversed then s.maxWidth - 1 - k else k)
      (used → LaneTrained sp (s.lane n) (t.lane n))
      ∧ (¬ used → (t.lane n).sigDet = false ∧ (t.lane n).cdrLock = false) := by
  let turn := decide (1 < s.maxWidth) && Config.freePick s.free % 2 == 1
  let u : State := { s with
    free := s.free + 1, bus := { s.bus with linkUp := true, speed := sp, width := w, reversed := turn } }
  have hx : exec (.linkUp sp w) s = .next ((u.linkLanes w).foldl (fun s n => laneTrain sp n s) (lanesDown u)) :=
    congrArg _ (if_neg (by simp [hst, hok]))
  have hw : w ≤ u.maxWidth := by
    simp only [State.linkOk, Bool.and_eq_true, decide_eq_true_eq] at hok
    exact hok.2
  have hle := pcieLanes_le u
  have hmax := maxWidth_le u
  have hquiet (k : Nat) := lanesQuiet_lane u.pcieLanes u (by show u.pcieLanes ≤ s.lan.l.length; omega) k
  have hdown : lanesDown u = { u with lan := (lanesDown u).lan } := lanesDown_frame u
  obtain ⟨⟨es, b, ht, hlow, hhigh⟩, hlanes, hothers⟩ := lanesTrain_spec sp (u.linkLanes w) (linkLanes_nodup u w hw)
    (lanesDown u) fun n hn => by
      have hlen : (lanesDown u).lan.l.length = 8 := (hquiet 0).1.trans hl
      have := linkLanes_lt u w n hw hn
      omega
  generalize ((u.linkLanes w).foldl (fun s n => laneTrain sp n s) (lanesDown u)) = t at hx ht hlanes hothers
  have hbus : t.bus = { u.bus with out := s.bus.out ++ es, l1 := b } := by rw [ht, hdown]
  have hrev : t.bus.reversed = turn := by rw [hbus]
  refine ⟨t, hx, ⟨es, by rw [hbus], hlow, fun h => ?_⟩, fun h => ?_, by rw [ht, hdown], by rw [ht, hdown], fun n hn => ?_⟩
  · obtain ⟨hcount, hall⟩ := hhigh h
    refine ⟨hcount.trans ((List.length_map _).trans List.length_range), fun o ho => ?_⟩
    obtain ⟨n, hn, r, hr⟩ := hall o ho
    exact ⟨n, r, linkLanes_lt u w n hw hn, hr⟩
  · rw [hrev] at h
    simp only [turn, Bool.and_eq_true, decide_eq_true_eq] at h
    exact h.1
  · intro used
    have hmem : n ∈ u.linkLanes w ↔ used := by
      rw [mem_linkLanes]
      simp only [used, hrev]
      exact Iff.rfl
    have hq : (lanesDown u).lane n = { s.lane n with sigDet := false, cdrLock := false } :=
      (hquiet n).2.trans (if_pos hn)
    refine ⟨fun h => ?_, fun h => ?_⟩
    · have := hlanes n (hmem.mpr h)
      rw [hq] at this
      exact this
    · rw [hothers n fun hn => h (hmem.mp hn), hq]
      exact ⟨rfl, rfl⟩

/-! ### The PTM dialog -/

/-- R310: a response in a dialog under way. -/
theorem ptmResponse_next (s : State) (m d t1 : Dword) (hr : s.ptmRuns = true) (ht : s.clk.ptmT1 = some t1) :
    exec (.ptmResponse m d) s = .next
      (if s.clk.ptmCtx then ptmCorrect (ptmOffset t1 s.now m d) (s.mapClk fun c => { c with ptmT1 := none, ptmCtx := true })
        else s.mapClk fun c => { c with ptmT1 := none, ptmCtx := true }) := by
  show execPtmResponse m d s = _
  simp only [execPtmResponse, ht, hr]
  rfl

/-- R310: a step leaves the clock with its offset taken out, and nothing to slew. -/
theorem timeJump_clk (d : Int) (cause : Nat) (s : State) :
    (timeJump d cause s).clk = { s.clk with team := s.clk.team + BitVec.ofInt 64 d, slew := 0 } :=
  (keepsTime_dueAtTime _).clk.trans (keeps_emit ..).clk

/-- Settles O40. -/
theorem hostPortCommands : Obligations.HostPortCommands := by
  intro s
  refine ⟨fun o w hup hready => ?_, fun o hup hready => ?_, fun v hup hready => ?_, fun hup hready => ?_, fun h => ?_,
    linkUp_spec s, fun hup hen hl => ?_, fun h => ?_, fun m d t1 hr ht => ?_, ?_, ?_, fun n hm hc => ?_, fun hm hc => ?_⟩
  · refine congrArg _ ((if_neg (by simp [hup])).trans (if_pos (by simp [hready])))
  · refine congrArg _ ((if_neg (by simp [hup])).trans (if_neg (by simp [hready])))
  · let w := mergeBytes 0xF (s.cfgRead 4 &&& ~~~(cfgRow 4).clear) v
    let u := s.mapBus fun b =>
      { b with cfg := alPut b.cfg 4 ((cfgRow 4).put (s.cfgPlain 4) w), memEn := w.getLsbD 1, master := w.getLsbD 2 }
    have hx : exec (.configurationRequest 0x004 (some (v, 0xF))) s = .next (busReply .cfgDone (heldSend u)) :=
      congrArg _ ((if_neg (by simp [hup])).trans (if_neg (by simp [hready])))
    obtain ⟨hmem, hmaster, -, hheld⟩ := heldSend_bus u
    have hbit (i : Nat) (hi : i < 8) : w.getLsbD i = v.getLsbD i := mergeBytes_low _ _ i hi
    exact ⟨_, hx, hmem.trans (hbit 1 (by decide)), hmaster.trans (hbit 2 (by decide)),
      fun hv hd => hheld ((hbit 2 (by decide)).trans hv) hd⟩
  · have hx : exec (.configurationRequest 0x000 none) s = .next (busReply (.cfgData (s.cfgRead 0)) s) :=
      congrArg _ ((if_neg (by simp [hup])).trans (if_neg (by simp [hready])))
    exact ⟨_, hx, rfl⟩
  · exact congrArg _ (if_pos h)
  · exact congrArg _ (if_pos (by simp [hup, hen, hl]))
  · exact congrArg _ (if_pos h)
  · intro h theta
    have hx := ptmResponse_next s m d t1 hr ht
    refine ⟨fun hctx hstep => ?_, fun hctx hstep => ?_, fun hctx => ?_⟩
    · rw [hx, if_pos hctx, ptmCorrect, if_neg (by simpa [State.mapClk] using hstep)]
      rfl
    · have hjump := hx.trans (congrArg _ ((if_pos hctx).trans (if_pos hstep)))
      refine ⟨_, hjump, ?_, ?_, ?_⟩
      · rw [timeJump_clk]
        show s.clk.team + BitVec.ofInt 64 (-theta) = h
        rw [BitVec.ofInt_neg, BitVec.ofInt_toInt]
        simp
      · exact congrArg (fun c => c.ptmStep) (timeJump_clk ..)
      · exact congrArg (fun c => c.slew) (timeJump_clk ..)
    · rw [hx, if_neg (by simp [hctx])]
      rfl
  · exact ⟨_, Nat.mod_lt (Config.freePick s.free) (by decide), rfl⟩
  · refine ⟨_, Nat.mod_lt (Config.freePick s.free) (by decide), ?_⟩
    intro l t
    exact ⟨fun h => congrArg _ (if_neg (Nat.not_lt.mpr h)), fun h => congrArg _ (if_pos h)⟩
  · exact congrArg _ (if_pos ⟨hm, hc⟩)
  · have hx : exec (.cqModTimeout .eq) s = .next ((msixSend (bits (s.cfg 0x80C) 8 5) s).mapRng fun r =>
        { r with eq := { r.eq with modCount := 0 } }) := congrArg _ (if_pos ⟨hm, hc⟩)
    refine ⟨_, hx, rfl, rfl, ?_⟩
    show (msixSend _ s).rng.q = _
    rw [msixSend_frame]

end Sys2Proof.Laws
end

section
/-!
The other events of the frame's timing: O44.
-/
namespace Sys2Proof.Laws
open Sys2Proof.Machine Sys2Proof.Claims

/-! ### The loop on FSYNC_IN -/

/-- R28: what every reference edge notes in the loop. -/
def EdgeNoted (t : Nat) (l m : SyncLoop) : Prop := m.lastEdge = t ∧ m.selCount = l.selCount

theorem edgeNoted_track (t : Nat) (l m : SyncLoop) (err : Int) (h : EdgeNoted t l m) : EdgeNoted t l (m.track err) := by
  unfold SyncLoop.track
  split
  · exact h
  · exact h

theorem fsyncLoss_sync (s : State) : (fsyncLoss s).clk = s.clk ∧ (fsyncLoss s).frm.sync = { s.frm.sync with
    state := .holdover, edges := 0, good := 0, bad := 0, measured := [], stretch := 0, trim := 0 } := by
  let u := s.mapFrm fun f => { f with sync := { f.sync with
    state := .holdover, edges := 0, good := 0, bad := 0, measured := [], stretch := 0, trim := 0 } }
  have h : steady (fsyncLoss s) = steady u := steady_raise ..
  exact ⟨congrArg (fun x => x.clk) h, congrArg (fun x => x.frm.sync) h⟩

theorem fsyncInterval_spec (t iv : Nat) (s : State) :
    (fsyncInterval t iv s).clk = s.clk ∧ EdgeNoted t s.frm.sync (fsyncInterval t iv s).frm.sync := by
  have hloss : (fsyncLoss (s.mapFrm fun f => { f with sync := { f.sync with lastEdge := t } })).clk = s.clk
      ∧ EdgeNoted t s.frm.sync
          (fsyncLoss (s.mapFrm fun f => { f with sync := { f.sync with lastEdge := t } })).frm.sync := by
    obtain ⟨hc, hs⟩ := fsyncLoss_sync (s.mapFrm fun f => { f with sync := { f.sync with lastEdge := t } })
    exact ⟨hc, by rw [hs]; exact ⟨rfl, rfl⟩⟩
  unfold fsyncInterval
  dsimp only
  split
  · split
    · exact ⟨rfl, rfl, rfl⟩
    · split
      · exact ⟨rfl, rfl, rfl⟩
      · exact ⟨rfl, rfl, rfl⟩
  · split
    · split
      · split
        · exact hloss
        · exact ⟨rfl, rfl, rfl⟩
      · split
        · exact ⟨rfl, rfl, rfl⟩
        · exact ⟨rfl, rfl, rfl⟩
    · split
      · split
        · exact hloss
        · exact ⟨rfl, edgeNoted_track t s.frm.sync _ _ ⟨rfl, rfl⟩⟩
      · exact ⟨rfl, edgeNoted_track t s.frm.sync _ _ ⟨rfl, rfl⟩⟩

/-- R28: a reference edge is stamped, and the loop notes it. -/
theorem fsyncReference_spec (s : State) :
    (fsyncReference s).clk.edge = s.clk.team ∧ EdgeNoted s.clk.loc s.frm.sync (fsyncReference s).frm.sync := by
  unfold fsyncReference
  dsimp only
  split
  · exact ⟨rfl, rfl, rfl⟩
  · obtain ⟨hc, hn⟩ := fsyncInterval_spec s.clk.loc (s.clk.loc - s.frm.sync.lastEdge)
      (s.mapClk fun c => { c with edge := c.team })
    exact ⟨congrArg (fun c => c.edge) hc, hn⟩

/-! ### The flush of the flight log -/

theorem logPut_fold_next (l : List LogEntry) (g : Machine.Log) (hg : g.next < logSize) :
    (l.foldl Log.put g).next = (g.next + l.length) % logSize := by
  induction l generalizing g with
  | nil => exact (Nat.mod_eq_of_lt hg).symm
  | cons e l ih =>
    rw [List.foldl_cons, ih (Log.put g e) (Nat.mod_lt _ (by decide))]
    show ((g.next + 1) % logSize + l.length) % logSize = (g.next + (l.length + 1)) % logSize
    rw [Nat.mod_add_mod, Nat.add_assoc, Nat.add_comm 1]

/-! ### The entry into tick sync -/

theorem selfEvent_steady (change : Nat) (s : State) : steady (selfEvent change s) = steady s := by
  unfold selfEvent
  exact steady_emit ..

/-- R319: a follower that may enter tick sync enters it at its target. -/
theorem syncEntry_spec (s : State) (e : SchedEntry) (hr : s.syncReady = true) (ht : s.syncTarget = some e) :
    let t := syncEntry s
    t.tm.tickSync = true ∧ t.tm.leftSync = false ∧ t.tm.tickNo = e.tick - 1
    ∧ t.frm.period = (s.clk.loc - s.frm.tickLoc) + (e.time.toNat - s.clk.team.toNat) ∧ t.frm.stretched = true := by
  intro t
  let u := ((ticksShift (e.tick - 1 - s.tm.tickNo) s).mapTm fun t =>
    { t with tickSync := true, leftSync := false, tickNo := e.tick - 1 }).mapFrm fun f =>
      { f with period := (s.clk.loc - f.tickLoc) + (e.time.toNat - s.now.toNat), stretched := true }
  have hx : t = if s.tm.leftSync then selfEvent 7 u else u := by
    show syncEntry s = _
    simp only [syncEntry, hr, ht]
    rfl
  have hs : steady t = steady u := by
    rw [hx]
    split
    · exact selfEvent_steady 7 u
    · rfl
  exact ⟨congrArg (fun x => x.tm.tickSync) hs, congrArg (fun x => x.tm.leftSync) hs, congrArg (fun x => x.tm.tickNo) hs,
    congrArg (fun x => x.frm.period) hs, congrArg (fun x => x.frm.stretched) hs⟩

/-- Settles O44. -/
theorem tickSources : Obligations.TickSources := by
  intro s
  refine ⟨fun rising h => ?_, fun rising hti hsrc hr => ?_, fun hti hsrc hst => ?_, fun h => ?_, fun hti hen hout => ?_,
    fun hti hdram hself hnext => ?_, fun e hti hr ht => ?_, fun hr => ?_⟩
  · let u := s.mapFrm fun f => { f with fsyncIn := rising }
    have hstop : (!u.ticking || u.frm.src != .fsync || rising == u.frm.params.falling) = true := by
      obtain h | h | h := h
      · have h1 : u.ticking = false := h
        simp [h1]
      · have h2 : u.frm.src ≠ .fsync := h
        simp [h2]
      · have h3 : rising = u.frm.params.falling := h
        simp [h3]
    exact congrArg _ (if_pos hstop)
  · let u := s.mapFrm fun f => { f with fsyncIn := rising }
    have hgo : ¬ (!u.ticking || u.frm.src != .fsync || rising == u.frm.params.falling) = true := by
      have h1 : u.ticking = true := hti
      have h2 : u.frm.src = .fsync := hsrc
      have h3 : rising ≠ u.frm.params.falling := hr
      simp [h1, h2, h3]
    refine ⟨fun hlt => congrArg _ ((if_neg hgo).trans (if_pos hlt)), fun hge => ?_⟩
    have hx : exec (.fsyncInEdge rising) s = .next (fsyncReference (u.mapFrm fun f =>
        { f with sync := { f.sync with selCount := 0 } })) :=
      congrArg _ ((if_neg hgo).trans (if_neg (Nat.not_lt.mpr hge)))
    obtain ⟨hedge, hlast, hsel⟩ := fsyncReference_spec (u.mapFrm fun f => { f with sync := { f.sync with selCount := 0 } })
    exact ⟨_, hx, hedge, hlast, hsel⟩
  · exact congrArg _ (if_pos (by simpa [hti, hsrc] using hst))
  · show Host.Outcome.next (ite _ _ _) = _
    obtain h | h | h := h
    · rw [if_pos (by simp [h])]
      rfl
    · rw [if_pos (by simp [h])]
      rfl
    · rw [if_pos h]
      exact congrArg _ (ite_self _)
  · intro due
    have hon : ¬ (!s.ticking || !s.frm.params.foEnable) = true := by simp [hti, hen]
    have hlow : ¬ s.frm.fsyncOut = true := by simp [hout]
    refine ⟨fun h => ?_, fun h => ?_⟩
    · exact congrArg _ ((if_neg hon).trans ((if_neg hlow).trans (if_pos (by simpa [due] using h))))
    · exact congrArg _ ((if_neg hon).trans ((if_neg hlow).trans (if_neg (by simpa [due] using h))))
  · have hx : exec .logFlush s = .next (logFlushOp s) := congrArg _ (if_pos (by simp [hti, hdram, hself]))
    refine ⟨_, hx, rfl, rfl, rfl, logPut_fold_next _ _ hnext, fun e he => ?_⟩
    show alGet ((s.lg.onDie.foldl Log.put s.lg).dram) s.lg.next = _
    rw [he]
    show alGet (alPut s.lg.dram s.lg.next e) s.lg.next = _
    simp [alGet, alPut]
  · have hx : exec .tickSyncEntry s = .next (syncEntry s) := congrArg _ (if_pos hti)
    exact ⟨_, hx, syncEntry_spec s e hr ht⟩
  · have hx : syncEntry s = s := if_pos (by simp [hr])
    show Host.Outcome.next (if s.ticking then syncEntry s else s) = _
    rw [hx, ite_self]

end Sys2Proof.Laws
end

section
/-!
The array: pixels, tiles and fast-dark (O45).
-/
namespace Sys2Proof.Laws
open Sys2Proof.Machine Sys2Proof.Claims

/-! ### Bits and association lists -/

theorem bitPut_getLsbD {w : Nat} (m : BitVec w) (i k : Nat) (v : Bool) (hk : k < w) :
    (bitPut m i v).getLsbD k = if k = i then v else m.getLsbD k := by
  cases v with
  | true =>
    rw [bitPut_true_getLsbD m i k hk]
    split <;> simp [*]
  | false =>
    by_cases h : k = i
    · rw [if_pos h, h]
      exact bitPut_false_same ..
    · rw [if_neg h]
      have hone : (BitVec.ofNat w (2 ^ i)).getLsbD k = false := by
        rw [BitVec.getLsbD_ofNat, Nat.testBit_two_pow, decide_eq_false (Ne.symm h), Bool.and_false]
      show (m &&& ~~~(BitVec.ofNat w (2 ^ i))).getLsbD k = _
      rw [BitVec.getLsbD_and, BitVec.getLsbD_not, hone, Bool.not_false, Bool.and_true, decide_eq_true hk, Bool.and_true]

theorem alGet_alPut_same {β : Type} (l : List (Nat × β)) (k : Nat) (v : β) : alGet (alPut l k v) k = some v := by
  simp [alGet, alPut]

theorem alGet_alPut_other {β : Type} (l : List (Nat × β)) {k j : Nat} (v : β) (h : j ≠ k) :
    alGet (alPut l k v) j = alGet l j := by
  have hk : (k == j) = false := beq_eq_false_iff_ne.mpr (Ne.symm h)
  rw [alPut, alGet, List.find?_cons, hk, List.find?_filter]
  refine congrArg (Option.map Prod.snd) (congrArg (fun p => l.find? p) (funext fun e => ?_))
  by_cases he : e.1 = j
  · simp [he, h]
  · simp [he]

/-! ### The tile switches -/

theorem tileOf_lt (x : Fin 2048) (y : Fin 512) : tileOf x.val y.val < 256 := by
  have := x.isLt
  have := y.isLt
  simp only [tileOf]
  omega

/-- A raise keeps the trips and isolations of the array; what it does to the tile switches is fast-dark. -/
theorem raiseMin_arr (src m : Nat) (d : List Byte) (s : State) :
    let t := raiseMin src m d s
    t.arr.tileTrips = s.arr.tileTrips ∧ t.arr.hw159 = s.arr.hw159 ∧ t.arr.isol = s.arr.isol
    ∧ ((t.arr.tripOpen = s.arr.tripOpen ∧ t.arr.relit = s.arr.relit ∧ t.arr.causes = s.arr.causes)
      ∨ (.fault ∈ t.arr.causes ∧ t.arr.relit = 0 ∧ ∀ c, c ∈ s.arr.causes → c ∈ t.arr.causes)) := by
  intro t
  have hsw : switches t = if 6 ≤ s.sevOf src m ∧ sevActs src then switches (darkAdd .fault s) else switches s :=
    raiseMin_switches ..
  split at hsw
  · refine ⟨congrArg (fun a => a.tileTrips) hsw, congrArg (fun a => a.hw159) hsw, congrArg (fun a => a.isol) hsw, .inr ?_⟩
    have hc : t.arr.causes = (switches (darkAdd .fault s)).causes := congrArg (fun a => a.causes) hsw
    refine ⟨hc ▸ darkAdd_mem .fault s, congrArg (fun a => a.relit) hsw, fun c h => ?_⟩
    rw [hc]
    change c ∈ (if s.arr.causes.contains .fault then s.arr.causes else s.arr.causes ++ [.fault])
    split
    · exact h
    · exact List.mem_append_left _ h
  · exact ⟨congrArg (fun a => a.tileTrips) hsw, congrArg (fun a => a.hw159) hsw, congrArg (fun a => a.isol) hsw,
      .inl ⟨congrArg (fun a => a.tripOpen) hsw, congrArg (fun a => a.relit) hsw, congrArg (fun a => a.causes) hsw⟩⟩

theorem tileClosed_of_isol {s : State} {t : Nat} (h : s.arr.isol.getLsbD t = true) : s.tileClosed t = false := by
  simp [State.tileClosed, h]

theorem tileClosed_of_tripOpen {s : State} {t : Nat} (h : t ∈ s.arr.tripOpen) : s.tileClosed t = false := by
  simp [State.tileClosed, h]

theorem tileClosed_of_relit {s : State} (h : s.arr.relit = 0) (t : Nat) : s.tileClosed t = false := by
  simp [State.tileClosed, h]

/-! ### Pixels -/

/-- R154: the tile of a stuck-on pixel opens, and no other. -/
theorem stuckIsolate_closed (x : Fin 2048) (y : Fin 512) (s : State) (h : s.held154 (tileOf x.val y.val) = false) :
    let t := stuckIsolate x.val y.val s
    t.tileClosed (tileOf x.val y.val) = false
    ∧ ∀ u, u < 256 → u ≠ tileOf x.val y.val → t.tileClosed u = s.tileClosed u := by
  intro t
  have ht : t.arr.isol = bitPut s.arr.isol (tileOf x.val y.val) true ∧ t.arr.causes = s.arr.causes
      ∧ t.frm.powerDark = s.frm.powerDark ∧ t.arr.tripOpen = s.arr.tripOpen ∧ t.arr.relit = s.arr.relit := by
    have hx : t = _ := if_neg (by simp [h])
    rw [hx]
    exact ⟨rfl, rfl, rfl, rfl, rfl⟩
  obtain ⟨hisol, hc, hp, ho, hr⟩ := ht
  refine ⟨tileClosed_of_isol ?_, fun u hu hne => ?_⟩
  · rw [hisol, bitPut_getLsbD _ _ _ _ (tileOf_lt x y), if_pos rfl]
  · simp only [State.tileClosed, hisol, hc, hp, ho, hr, bitPut_getLsbD _ _ _ _ hu, if_neg hne]

/-- What an isolation leaves of the finds, the map and the frame. -/
theorem stuckIsolate_frame (x y : Nat) (s : State) :
    let t := stuckIsolate x y s
    t.hlt.found = s.hlt.found ∧ t.hlt.slotFound = s.hlt.slotFound ∧ t.hlt.map = s.hlt.map ∧ t.arr.a = s.arr.a
    ∧ t.frm = s.frm := by
  unfold stuckIsolate
  dsimp only
  split
  · exact ⟨rfl, rfl, rfl, rfl, rfl⟩
  · exact ⟨rfl, rfl, rfl, rfl, rfl⟩

theorem findAdd_frame (p : PixelFind) (slot : Bool) (s : State) :
    let t := findAdd p slot s
    t.hlt.found = (if slot then s.hlt.found else s.hlt.found ++ [p])
    ∧ t.hlt.slotFound = (if slot then s.hlt.slotFound ++ [p] else s.hlt.slotFound)
    ∧ t.hlt.map = s.hlt.map ∧ t.arr.a = s.arr.a ∧ t.frm = s.frm := by
  let u := s.mapHlt fun h =>
    if slot then { h with slotFound := h.slotFound ++ [p] } else { h with found := h.found ++ [p] }
  have hu : u.hlt.found = (if slot then s.hlt.found else s.hlt.found ++ [p])
      ∧ u.hlt.slotFound = (if slot then s.hlt.slotFound ++ [p] else s.hlt.slotFound) ∧ u.hlt.map = s.hlt.map := by
    cases slot
    · exact ⟨rfl, rfl, rfl⟩
    · exact ⟨rfl, rfl, rfl⟩
  obtain ⟨huf, hus, hum⟩ := hu
  obtain ⟨hf, hs, hm, ha, hfr⟩ := stuckIsolate_frame p.x.val p.y.val u
  by_cases h : (p.kind == .stuck && u.stuckIsolates p.x.val p.y.val) = true
  · have hx : findAdd p slot s = stuckIsolate p.x.val p.y.val u := if_pos h
    dsimp only
    rw [hx]
    exact ⟨hf.trans huf, hs.trans hus, hm.trans hum, ha, hfr⟩
  · have hx : findAdd p slot s = u := if_neg h
    dsimp only
    rw [hx]
    exact ⟨huf, hus, hum, rfl, rfl⟩

theorem findAdd_fold (l : List PixelFind) (s : State) :
    let t := l.foldl (fun s p => findAdd p true s) s
    t.hlt.slotFound = s.hlt.slotFound ++ l ∧ t.hlt.found = s.hlt.found ∧ t.hlt.map = s.hlt.map ∧ t.frm = s.frm := by
  induction l generalizing s with
  | nil => exact ⟨(List.append_nil _).symm, rfl, rfl, rfl⟩
  | cons p l ih =>
    obtain ⟨hf, hs, hm, -, hfr⟩ := findAdd_frame p true s
    obtain ⟨hs', hf', hm', hfr'⟩ := ih (findAdd p true s)
    refine ⟨?_, hf'.trans hf, hm'.trans hm, hfr'.trans hfr⟩
    rw [List.foldl_cons, hs', hs, if_pos rfl, List.append_assoc]
    rfl

/-! ### Over-current -/

/-- R158: what the clearing of a dark cause leaves: it is gone, and no tile row is closed by it. -/
theorem darkRemove_arr (c : DarkCause) (s : State) :
    let t := darkRemove c s
    c ∉ t.arr.causes ∧ t.arr.relit = s.arr.relit ∧ t.pho = s.pho ∧ t.saf = s.saf ∧ t.flt = s.flt
    ∧ ∀ d, d ≠ c → (d ∈ t.arr.causes ↔ d ∈ s.arr.causes) := by
  unfold darkRemove
  dsimp only
  split
  · have hcauses : (relightStart (s.mapArr fun a => { a with causes := a.causes.filter fun x => x != c })).arr.causes
        = s.arr.causes.filter fun x => x != c := by
      unfold relightStart
      split <;> rfl
    refine ⟨?_, ?_, ?_, ?_, ?_, fun d hd => ?_⟩
    · rw [hcauses, List.mem_filter]
      simp
    · unfold relightStart
      split <;> rfl
    · unfold relightStart
      split <;> rfl
    · unfold relightStart
      split <;> rfl
    · unfold relightStart
      split <;> rfl
    · rw [hcauses, List.mem_filter]
      simp [hd]
  · next h =>
    exact ⟨by simpa using h, rfl, rfl, rfl, rfl, fun _ _ => Iff.rfl⟩

theorem probeDrop_arr (t : Nat) (s : State) : (probeDrop t s).arr = s.arr ∧ (probeDrop t s).clk = s.clk := by
  unfold probeDrop
  split
  · exact ⟨rfl, rfl⟩
  · exact ⟨rfl, rfl⟩

/-- The state of a trip before its raise: the tile, where it was closed, counts as seen open. -/
def tripSeen (t : Nat) (s : State) : State :=
  let u := if s.tileClosed t then probeDrop t (tilesOpen (bitPut 0 t true) s) else s
  u.mapArr fun a =>
    { a with tileTrips := a.tileTrips.filter (fun e => decide (u.now.toNat < e.2 + 1000000000)) ++ [(t, u.now.toNat)] }

theorem tripSeen_arr (t : Nat) (s : State) :
    (tripSeen t s).arr.tileTrips
      = s.arr.tileTrips.filter (fun e => decide (s.clk.team.toNat < e.2 + 1000000000)) ++ [(t, s.clk.team.toNat)]
    ∧ (tripSeen t s).arr.hw159 = s.arr.hw159 ∧ (tripSeen t s).clk = s.clk := by
  unfold tripSeen
  dsimp only
  split
  · obtain ⟨ha, hc⟩ := probeDrop_arr t (tilesOpen (bitPut 0 t true) s)
    simp only [State.mapArr, State.now, ha, hc]
    exact ⟨rfl, rfl, rfl⟩
  · exact ⟨rfl, rfl, rfl⟩

/-- R159: this trip is the third or later within 1 s exactly where two were recent. -/
theorem tripsOf_tripSeen (t : Nat) (s : State) :
    let recent := s.arr.tileTrips.filter fun e => decide (s.clk.team.toNat < e.2 + 1000000000)
    (tripSeen t s).tripsOf t = (recent.filter fun e => e.1 == t).length + 1 := by
  intro recent
  obtain ⟨htrips, -, hclk⟩ := tripSeen_arr t s
  have hagain : recent.filter (fun e => e.1 == t && decide (s.clk.team.toNat < e.2 + 1000000000))
      = recent.filter fun e => e.1 == t := by
    refine List.filter_congr fun e he => ?_
    have := (List.mem_filter.mp he).2
    rw [this, Bool.and_true]
  have hnow : (tripSeen t s).now = s.clk.team := congrArg (fun c => c.team) hclk
  rw [State.tripsOf, htrips, hnow, List.filter_append, List.length_append, hagain]
  simp

/-- R157, R159: the raise of a trip, with the opening that it brings. -/
def tripRaise (t : Nat) (closed : Bool) (s : State) : State :=
  if s.tripsOf t < 3 then
    raise fTileOvercurrent (b1 t)
      (s.mapArr fun a =>
        if closed then { a with tripOpen := a.tripOpen ++ [t] } else { a with tripDark := bitPut a.tripDark t true })
  else
    raiseMin fTileOvercurrent 5 (b1 t)
      (s.mapArr fun a =>
        { a with hw159 := bitPut a.hw159 t true, rel159 := bitPut a.rel159 t false, isol := bitPut a.isol t true })

theorem tileTrip_next (m : TileTrip) (s : State) : exec (.tileOvercurrentTrip m) s = .next
    (if !s.tileTrips m || (!s.tileClosed m.tile.toNat && !s.arrayTripped m.tile.toNat) then s
      else tripRaise m.tile.toNat (s.tileClosed m.tile.toNat) (tripSeen m.tile.toNat s)) := rfl

theorem tripRaise_tileTrips (t : Nat) (closed : Bool) (s : State) :
    (tripRaise t closed s).arr.tileTrips = s.arr.tileTrips := by
  unfold tripRaise
  split
  · refine (raiseMin_arr fTileOvercurrent 0 (b1 t) _).1.trans ?_
    cases closed
    · rfl
    · rfl
  · exact (raiseMin_arr fTileOvercurrent 5 (b1 t) _).1

/-- R159: the third trip isolates the tile for good. -/
theorem tripRaise_third (t : Nat) (closed : Bool) (s : State) (ht : t < 256) (h : 3 ≤ s.tripsOf t) :
    (tripRaise t closed s).arr.hw159.getLsbD t = true ∧ (tripRaise t closed s).arr.isol.getLsbD t = true := by
  have hx : tripRaise t closed s = _ := if_neg (Nat.not_lt.mpr h)
  obtain ⟨-, hhw, hisol, -⟩ := raiseMin_arr fTileOvercurrent 5 (b1 t) (s.mapArr fun a =>
    { a with hw159 := bitPut a.hw159 t true, rel159 := bitPut a.rel159 t false, isol := bitPut a.isol t true })
  rw [hx, hhw, hisol]
  exact ⟨(bitPut_getLsbD _ _ _ _ ht).trans (if_pos rfl), (bitPut_getLsbD _ _ _ _ ht).trans (if_pos rfl)⟩

/-- R157: an earlier trip of a closed tile opens its switch. -/
theorem tripRaise_opens (t : Nat) (s : State) (h : s.tripsOf t < 3) :
    let u := tripRaise t true s
    u.tileClosed t = false ∧ (t ∈ u.arr.tripOpen ∨ .fault ∈ u.arr.causes) ∧ u.arr.hw159 = s.arr.hw159 := by
  intro u
  let v := s.mapArr fun a => { a with tripOpen := a.tripOpen ++ [t] }
  have hx : u = raise fTileOvercurrent (b1 t) v := if_pos h
  obtain ⟨-, hhw, -, hcase⟩ := raiseMin_arr fTileOvercurrent 0 (b1 t) v
  have hu : u.arr = (raiseMin fTileOvercurrent 0 (b1 t) v).arr := congrArg State.arr hx
  rw [← hu] at hhw hcase
  obtain ⟨hopen, -, -⟩ | ⟨hcause, -, -⟩ := hcase
  · have hmem : t ∈ u.arr.tripOpen := hopen ▸ List.mem_append_right _ List.mem_cons_self
    exact ⟨tileClosed_of_tripOpen hmem, .inl hmem, hhw⟩
  · exact ⟨tileClosed_of_cause hcause t, .inr hcause, hhw⟩

/-! ### Fast-dark and relight -/

/-- R158: an array trip opens every tile and caps the curb of the relight. -/
theorem arrayTrip_spec (s : State) (hc : s.closedTiles ≠ 0) (ht : s.arrayTrips (Config.arrayCharge s.free + 1) = true) :
    ∃ t, exec .arrayOvercurrentTrip s = .next t
      ∧ t.pho.cap = true ∧ t.arr.relit = 0 ∧ .array ∉ t.arr.causes ∧ ∀ k, k < 256 → t.tileClosed k = false := by
  let u : State := { s with free := s.free + 1 }
  let trips := u.arr.arrTrips.filter (fun t => decide (u.now.toNat < t + 1000000000)) ++ [u.now.toNat]
  let v := darkAdd .array (u.mapArr fun a => { a with arrTrips := trips, arrTripAt := some u.clk.loc })
  let w := curbLoad (v.mapPho fun p => { p with cap := true }) v
  let r := raiseMin fArrayOvercurrent (if 3 ≤ trips.length then 5 else 0) [] w
  have hgo : ¬ (u.closedTiles = 0 || !u.arrayTrips (Config.arrayCharge s.free + 1)) = true := by
    have h1 : ¬ u.closedTiles = 0#256 := hc
    have h2 : u.arrayTrips (Config.arrayCharge s.free + 1) = true := ht
    simp [h1, h2]
  have hx : exec .arrayOvercurrentTrip s = .next (darkRemove .array r) := congrArg _ (if_neg hgo)
  obtain ⟨hno, hrelit, hpho, -⟩ := darkRemove_arr .array r
  have hr : r.arr.relit = 0 := by
    obtain ⟨-, -, -, ⟨-, h, -⟩ | ⟨-, h, -⟩⟩ := raiseMin_arr fArrayOvercurrent (if 3 ≤ trips.length then 5 else 0) [] w
    · exact h.trans rfl
    · exact h
  have hcap : r.pho.cap = true := by
    have h : steady r = steady w := steady_raiseMin ..
    exact (congrArg (fun x => x.pho.cap) h).trans rfl
  exact ⟨_, hx, hpho ▸ hcap, hrelit.trans hr, hno, fun k _ => tileClosed_of_relit (hrelit.trans hr) k⟩

theorem foldl_alPut_get (l : List Nat) (m : List (Nat × Nat)) (v k : Nat) :
    alGet (l.foldl (fun m t => alPut m t v) m) k = if k ∈ l then some v else alGet m k := by
  induction l generalizing m with
  | nil => simp
  | cons a l ih =>
    rw [List.foldl_cons, ih]
    by_cases hl : k ∈ l
    · simp [hl]
    · by_cases ha : k = a
      · subst ha
        simp [hl, alGet_alPut_same]
      · simp [hl, ha, alGet_alPut_other]

theorem foldl_bitClear_getLsbD (l : List Nat) (m : BitVec 256) (k : Nat) (hk : k < 256) :
    (l.foldl (fun m t => bitPut m t false) m).getLsbD k = (m.getLsbD k && !decide (k ∈ l)) := by
  induction l generalizing m with
  | nil => simp
  | cons a l ih =>
    rw [List.foldl_cons, ih, bitPut_getLsbD _ _ _ _ hk]
    by_cases ha : k = a
    · simp [ha]
    · simp [ha]

/-- Table 03.6: the tiles of row `r` that tripped. -/
theorem mem_rowTripped (r k : Nat) (m : BitVec 256) :
    k ∈ ((List.range 32).map (32 * r + ·)).filter (fun t => m.getLsbD t) ↔ k / 32 = r ∧ m.getLsbD k = true := by
  rw [List.mem_filter, List.mem_map]
  refine and_congr_left fun _ => ⟨?_, fun h => ⟨k % 32, List.mem_range.mpr (by omega), by omega⟩⟩
  rintro ⟨j, hj, rfl⟩
  have := List.mem_range.mp hj
  omega

theorem relightStep_spec (s : State) (r : Nat) (hr : s.arr.relight = some r) : ∃ t, exec .relightStep s = .next t
    ∧ t = { s with
      arr := { s.arr with
        relit := bitPut s.arr.relit r true, relight := if r + 1 < 8 then some (r + 1) else none
        chargeAt := t.arr.chargeAt, tripDark := t.arr.tripDark }
      hlt := { s.hlt with spans := t.hlt.spans, spanAt := t.hlt.spanAt } }
    ∧ ∀ k, k < 256 →
      (k / 32 = r → t.arr.tripDark.getLsbD k = false
        ∧ (s.arr.tripDark.getLsbD k = true → alGet t.arr.chargeAt k = some s.clk.loc))
      ∧ (k / 32 ≠ r → t.arr.tripDark.getLsbD k = s.arr.tripDark.getLsbD k
        ∧ alGet t.arr.chargeAt k = alGet s.arr.chargeAt k) := by
  let again := ((List.range 32).map (32 * r + ·)).filter fun t => s.arr.tripDark.getLsbD t
  have hx : exec .relightStep s = .next ((spanCut s).mapArr fun a =>
      { a with relit := bitPut a.relit r true, relight := if r + 1 < 8 then some (r + 1) else none
               chargeAt := again.foldl (fun m t => alPut m t s.clk.loc) a.chargeAt
               tripDark := again.foldl (fun m t => bitPut m t false) a.tripDark }) := by
    show execRelightStep s = _
    simp only [execRelightStep, hr]
    rfl
  refine ⟨_, hx, rfl, fun k hk => ⟨fun h => ⟨?_, fun hb => ?_⟩, fun h => ⟨?_, ?_⟩⟩⟩
  · refine (foldl_bitClear_getLsbD again s.arr.tripDark k hk).trans ?_
    have hmem := mem_rowTripped r k s.arr.tripDark
    cases hb : s.arr.tripDark.getLsbD k with
    | false => rfl
    | true => rw [decide_eq_true (hmem.mpr ⟨h, hb⟩)]; rfl
  · exact (foldl_alPut_get again s.arr.chargeAt _ k).trans (if_pos ((mem_rowTripped ..).mpr ⟨h, hb⟩))
  · refine (foldl_bitClear_getLsbD again s.arr.tripDark k hk).trans ?_
    rw [decide_eq_false fun hmem => h ((mem_rowTripped ..).mp hmem).1]
    exact Bool.and_true _
  · exact (foldl_alPut_get again s.arr.chargeAt _ k).trans (if_neg fun hmem => h ((mem_rowTripped ..).mp hmem).1)

/-- R354: DARK_N opens every tile. -/
theorem darkNAssert_spec (s : State) (hp : s.saf.darkPin = false) (hv : s.pwr.vaon = true) :
    ∃ t, exec .darkNAssert s = .next t
      ∧ t.saf.darkPin = true ∧ .pin ∈ t.arr.causes ∧ ∀ k, k < 256 → t.tileClosed k = false := by
  let u := darkAdd .pin (s.mapSaf fun f => { f with darkPin := true })
  let t := if u.collects then raise fDarkPin [] (causeArise s.causes (calLeave u)) else u
  have hx : exec .darkNAssert s = .next t := congrArg _ (if_neg (by simp [hp, hv]))
  have hpin : DarkCause.pin ∈ u.arr.causes := darkAdd_mem .pin (s.mapSaf fun f => { f with darkPin := true })
  have hmem : DarkCause.pin ∈ t.arr.causes := by
    dsimp only [t]
    split
    · have hbefore : (causeArise s.causes (calLeave u)).arr.causes = u.arr.causes :=
        congrArg (fun a => a.causes) ((causeArise_switches ..).trans (calLeave_switches ..))
      obtain ⟨-, -, -, ⟨-, -, h⟩ | ⟨-, -, h⟩⟩ := raiseMin_arr fDarkPin 0 [] (causeArise s.causes (calLeave u))
      · exact (h.trans hbefore).symm ▸ hpin
      · exact h _ (hbefore.symm ▸ hpin)
    · exact hpin
  have hsaf : t.saf.darkPin = true := by
    dsimp only [t]
    split
    · have h : steady (raise fDarkPin [] (causeArise s.causes (calLeave u))) = steady u := by simp
      exact congrArg (fun x => x.saf.darkPin) h
    · rfl
  exact ⟨t, hx, hsaf, hmem, fun k _ => tileClosed_of_cause hmem k⟩

/-- Settles O45. -/
theorem arrayEvents : Obligations.ArrayEvents := by
  refine ⟨fun s => ⟨fun p h => ?_, fun p hti hm hv => ?_, fun l hti hm hp => ?_, fun l hp => ?_⟩,
    fun s => ⟨fun m => ?_, fun h => ?_, arrayTrip_spec s, ?_, fun h => ?_, relightStep_spec s, darkNAssert_spec s,
      fun h => ?_, fun h => ?_⟩⟩
  · refine congrArg _ (if_neg ?_)
    obtain h | h | h := h <;> simp [h]
  · have hx : exec (.pixelSample p) s = .next (findAdd p false s) := congrArg _ (if_pos (by simp [hti, hm, hv]))
    obtain ⟨hf, -, hmap, ha, -⟩ := findAdd_frame p false s
    refine ⟨_, hx, hf, hmap, ha, fun hk => ?_, fun hk hiso hheld => ?_⟩
    · exact if_neg (by rw [beq_eq_false_iff_ne.mpr hk, Bool.false_and]; exact Bool.false_ne_true)
    · let u := s.mapHlt fun h => { h with found := h.found ++ [p] }
      have hu : findAdd p false s = stuckIsolate p.x.val p.y.val u := by
        refine if_pos ?_
        have : u.stuckIsolates p.x.val p.y.val = true := hiso
        simp only [hk, Bool.false_eq_true, if_false]
        exact this
      rw [hu]
      exact stuckIsolate_closed p.x p.y u hheld
  · have hx : exec (.probeSlot l) s = .next ((l.filter s.probeValid).foldl (fun s p => findAdd p true s)
        (s.mapFrm fun f => { f with probed := some s.probeNow })) := congrArg _ (if_neg (by simp [hti, hm, hp]))
    obtain ⟨hs, hf, hmap, hfr⟩ := findAdd_fold (l.filter s.probeValid)
      (s.mapFrm fun f => { f with probed := some s.probeNow })
    refine ⟨_, hx, ⟨s.probeNow, ?_, by rw [State.probeNow], by rw [State.probeNow], by rw [State.probeNow]⟩, hs, hf, hmap⟩
    rw [hfr]
    rfl
  · have hsome : s.frm.probed.isSome = true := Option.isSome_iff_ne_none.mpr hp
    exact congrArg _ (if_pos (by simp [hsome]))
  · intro tile recent own trips
    have htrips : s.tileTrips m = true ↔ trips := by
      simp only [State.tileTrips, currentTrips, Bool.or_eq_true, Bool.and_eq_true, decide_eq_true_eq]
      exact Iff.rfl
    have hlt : tile.toNat < 256 := tile.isLt
    have hthird : (tripSeen tile.toNat s).tripsOf tile.toNat = own + 1 := tripsOf_tripSeen ..
    obtain ⟨hlist, hhw, -⟩ := tripSeen_arr tile.toNat s
    have hgo (h : trips) (hopen : s.tileClosed tile.toNat = true ∨ s.arrayTripped tile.toNat = true) :
        exec (.tileOvercurrentTrip m) s
          = .next (tripRaise tile.toNat (s.tileClosed tile.toNat) (tripSeen tile.toNat s)) := by
      refine (tileTrip_next m s).trans (congrArg _ (if_neg ?_))
      rw [htrips.mpr h]
      obtain h | h := hopen
      · simp [tile] at h
        simp [h]
      · simp [tile] at h
        simp [h]
    refine ⟨fun h => ?_, fun hc ha => ?_, fun h hopen => ⟨_, hgo h hopen, ?_, fun hown => ?_⟩, fun h hc => ?_, fun h => ?_,
      fun h => ?_⟩
    · refine (tileTrip_next m s).trans (congrArg _ (if_pos ?_))
      rw [Bool.eq_false_iff.mpr fun ht => h (htrips.mp ht)]
      rfl
    · refine (tileTrip_next m s).trans (congrArg _ (if_pos ?_))
      rw [show s.tileClosed m.tile.toNat = false from hc, show s.arrayTripped m.tile.toNat = false from ha]
      simp
    · rw [tripRaise_tileTrips]
      exact hlist
    · exact tripRaise_third _ _ _ hlt (by omega)
    · have hx := hgo h (.inl hc)
      rw [hc] at hx
      refine ⟨_, hx, ?_, fun hown => ?_⟩
      · by_cases hown : own < 2
        · exact (tripRaise_opens tile.toNat (tripSeen tile.toNat s) (by omega)).1
        · exact tileClosed_of_isol (tripRaise_third tile.toNat true (tripSeen tile.toNat s) hlt (by omega)).2
      · obtain ⟨-, hcause, hsame⟩ := tripRaise_opens tile.toNat (tripSeen tile.toNat s) (by omega)
        exact ⟨hcause, hsame.trans hhw⟩
    · exact congrArg _ (if_pos (by simpa using h))
    · have hx : exec (.tileReclose tile) s = .next ((spanCut s).mapArr fun a =>
          { a with tripOpen := a.tripOpen.filter (fun t => t != tile.toNat)
                   chargeAt := alPut a.chargeAt tile.toNat s.clk.loc }) := congrArg _ (if_neg (by simpa using h))
      exact ⟨_, hx, rfl, alGet_alPut_same .., rfl⟩
  · refine congrArg _ (if_pos ?_)
    obtain h | h := h
    · have h1 : ({ s with free := s.free + 1 } : State).closedTiles = 0 := h
      simp [h1]
    · have h1 : ({ s with free := s.free + 1 } : State).arrayTrips (Config.arrayCharge s.free + 1) = false := h
      simp [h1]
  · intro lifts
    have hiff : (s.pho.cap && s.capOver) = true ↔ lifts := by
      simp only [Bool.and_eq_true, State.capOver, lifts]
      refine and_congr_right fun _ => ?_
      cases s.arr.arrTripAt with
      | none => simp
      | some k => simp
    refine ⟨fun h => congrArg _ (if_neg (mt hiff.mp h)), fun h => ?_⟩
    have hx : exec .relightCapLift s = .next (curbLoad ((spanCut s).mapPho fun p => { p with cap := false }) s) :=
      congrArg _ (if_pos (hiff.mpr h))
    exact ⟨_, hx, rfl, rfl, rfl, rfl, rfl⟩
  · show execRelightStep s = _
    simp only [execRelightStep, h]
  · exact congrArg _ (if_pos (by simp [h]))
  · obtain ⟨hno, -, -, hsaf, -, hother⟩ := darkRemove_arr .pin (s.mapSaf fun f => { f with darkPin := false })
    have hx : exec .darkNRelease s = .next (darkRemove .pin (s.mapSaf fun f => { f with darkPin := false })) :=
      congrArg _ (if_pos h)
    exact ⟨_, hx, by rw [hsaf]; rfl, hno, hother⟩

end Sys2Proof.Laws
end

section
/-!
Housekeeping: samples, rounds, comparators and the headroom steps (O46).
-/
namespace Sys2Proof.Laws
open Sys2Proof.Machine Sys2Proof.Claims

/-! ### The channels -/

theorem mapCh_same (c : Nat) (f : HkChan → HkChan) (s : State) (hc : c < s.hk.ch.length) :
    (mapCh c f s).hkCh c = f (s.hkCh c) := by
  simp [mapCh, State.mapHk, State.hkCh, List.getD, hc]

theorem mapCh_other {c k : Nat} (hk : k ≠ c) (f : HkChan → HkChan) (s : State) : (mapCh c f s).hkCh k = s.hkCh k := by
  simp [mapCh, State.mapHk, State.hkCh, List.getD, Ne.symm hk]

theorem mapCh_length (c : Nat) (f : HkChan → HkChan) (s : State) : (mapCh c f s).hk.ch.length = s.hk.ch.length := by
  simp [mapCh, State.mapHk]

/-- A raise leaves the housekeeping and the derating factors. -/
theorem raise_hk (src : Nat) (d : List Byte) (s : State) :
    (raise src d s).hk = s.hk ∧ (raise src d s).pho.dG = s.pho.dG ∧ (raise src d s).pho.dq = s.pho.dq
    ∧ (raise src d s).pwr = s.pwr ∧ (raise src d s).frm.params = s.frm.params := by
  have h := steady_raise src d s
  exact ⟨congrArg (fun x => x.hk) h, congrArg (fun x => x.pho.dG) h, congrArg (fun x => x.pho.dq) h,
    congrArg (fun x => x.pwr) h, congrArg (fun x => x.frm.params) h⟩

/-! ### Samples (R382, R383, R386) -/

/-- What a sample of channel `c` leaves of the sequencer and of the other channels' number. -/
structure Sampled (s t : State) : Prop where
  length : t.hk.ch.length = s.hk.ch.length
  round : t.hk.round = s.hk.round
  rot : t.hk.rot = s.hk.rot
  clk : t.clk = s.clk

theorem Sampled.refl (s : State) : Sampled s s := ⟨rfl, rfl, rfl, rfl⟩

theorem Sampled.trans {s t u : State} (h : Sampled s t) (h' : Sampled t u) : Sampled s u :=
  ⟨h'.length.trans h.length, h'.round.trans h.round, h'.rot.trans h.rot, h'.clk.trans h.clk⟩

theorem sampled_raise (src : Nat) (d : List Byte) (s : State) : Sampled s (raise src d s) := by
  have hk := (raise_hk src d s).1
  exact ⟨by rw [hk], by rw [hk], by rw [hk], congrArg (fun x => x.clk) (steady_raise src d s)⟩

theorem sampled_mapCh (c : Nat) (f : HkChan → HkChan) (s : State) : Sampled s (mapCh c f s) :=
  ⟨mapCh_length .., rfl, rfl, rfl⟩

theorem sampled_ite {c : Prop} [Decidable c] {s t u : State} (h : Sampled s t) (h' : Sampled s u) :
    Sampled s (if c then t else u) := by
  split
  · exact h
  · exact h'

theorem sampled_step {c : Prop} [Decidable c] {s t u : State} (h : Sampled s t) (h' : Sampled t u) :
    Sampled s (if c then u else t) := sampled_ite (h.trans h') h

/-- R388: a failed sensor, before its raise. -/
def sensorFailed (c : Nat) (last : Int) (s : State) : State :=
  let s := mapCh c (fun ch => { ch with failed := true, lastValid := last }) s
  s.mapHk fun h =>
    { h with hold := true, holdNew := h.holdNew || !h.hold, clamp := h.clamp ||| s.clampNow, refresh2x := h.refresh2x || c == 18 }

theorem sensorFail_raise (c : Nat) (last : Int) (s : State) :
    sensorFail c last s = raise fTsensFail (b1 c) (sensorFailed c last s) := rfl

theorem sampled_sensorFail (c : Nat) (last : Int) (s : State) : Sampled s (sensorFail c last s) := by
  have hset : Sampled s (sensorFailed c last s) := ⟨mapCh_length .., rfl, rfl, rfl⟩
  exact hset.trans (sampled_raise ..)

theorem sampled_dramSample (v : Int) (s : State) : Sampled s (dramSample v s) := by
  have hset : Sampled s (s.mapHk fun h =>
      { h with refresh2x := if 1360 < v then true else if v < 1312 then false else h.refresh2x }) := ⟨rfl, rfl, rfl, rfl⟩
  unfold dramSample
  exact hset.trans (sampled_ite ((sampled_mapCh ..).trans (sampled_raise ..)) (sampled_ite (sampled_mapCh ..) (.refl _)))

theorem sampled_coolSample (c : Nat) (raw : HkRaw) (s : State) : Sampled s (coolSample c raw s) := by
  unfold coolSample
  split
  · exact sampled_ite ⟨rfl, rfl, rfl, rfl⟩ (.refl s)
  · exact .refl s

/-- A reading outside -55 °C to 175 °C, or none. -/
def rawBad : HkRaw → Bool
  | .value v => decide (v < -880) || decide (2800 < v)
  | .openShort => true

/-- The channel that takes a reading. -/
def chanTake (raw : HkRaw) (k : HkChan) : HkChan :=
  { k with range := rawBad raw, value := match raw with
            | .value v => v
            | .openShort => k.value }

/-- R386: what follows a reading that channel `c` has taken in `s`; `ch` is the channel before. -/
def tempJudge (c : Nat) (bad : Bool) (ch : HkChan) (s : State) : State :=
  if ch.failed then s
  else if bad then sensorFail c ch.value s
  else if c = 18 then dramSample ((s.hkCh 18).value) s
  else s

theorem tempSample_judge (c : Nat) (raw : HkRaw) (s : State) :
    tempSample c raw s = tempJudge c (rawBad raw) ((coolSample c raw s).hkCh c)
      (mapCh c (chanTake raw) (coolSample c raw s)) := by
  cases raw <;> rfl

theorem sampled_tempJudge (c : Nat) (bad : Bool) (ch : HkChan) (s : State) : Sampled s (tempJudge c bad ch s) :=
  sampled_ite (.refl s) (sampled_ite (sampled_sensorFail ..) (sampled_ite (sampled_dramSample ..) (.refl s)))

theorem sampled_tempSample (c : Nat) (raw : HkRaw) (s : State) : Sampled s (tempSample c raw s) := by
  rw [tempSample_judge]
  exact (sampled_coolSample ..).trans ((sampled_mapCh ..).trans (sampled_tempJudge ..))

theorem sensorFail_ch (c : Nat) (last : Int) (s : State) (hc : c < s.hk.ch.length) :
    (sensorFail c last s).hkCh c = { s.hkCh c with failed := true, lastValid := last }
    ∧ (sensorFail c last s).hk.cool = s.hk.cool := by
  have hk : (sensorFail c last s).hk = (sensorFailed c last s).hk := (raise_hk fTsensFail (b1 c) _).1
  refine ⟨?_, by rw [hk]; rfl⟩
  rw [State.hkCh, hk]
  exact mapCh_same c _ s hc

theorem dramSample_ch (v : Int) (s : State) (hc : 18 < s.hk.ch.length) :
    ∃ b, (dramSample v s).hkCh 18 = { s.hkCh 18 with cond := b } ∧ (dramSample v s).hk.cool = s.hk.cool := by
  let u := s.mapHk fun h => { h with refresh2x := if 1360 < v then true else if v < 1312 then false else h.refresh2x }
  have hput (b : Bool) : (mapCh 18 (fun ch => { ch with cond := b }) u).hkCh 18 = { s.hkCh 18 with cond := b } :=
    mapCh_same 18 _ u hc
  by_cases h : (1760 < v && !(u.hkCh 18).cond) = true
  · have hx : dramSample v s = raise fDramHot (b2 (u16 v)) (mapCh 18 (fun ch => { ch with cond := true }) u) := if_pos h
    have hk := (raise_hk fDramHot (b2 (u16 v)) (mapCh 18 (fun ch => { ch with cond := true }) u)).1
    refine ⟨true, ?_, by rw [hx, hk]; rfl⟩
    rw [hx, State.hkCh, hk]
    exact hput true
  · by_cases h' : v < 1680
    · have hx : dramSample v s = mapCh 18 (fun ch => { ch with cond := false }) u := (if_neg h).trans (if_pos h')
      rw [hx]
      exact ⟨false, hput false, rfl⟩
    · have hx : dramSample v s = u := (if_neg h).trans (if_neg h')
      rw [hx]
      exact ⟨(s.hkCh 18).cond, rfl, rfl⟩

theorem tempJudge_ch (c : Nat) (bad : Bool) (ch : HkChan) (s : State) (hc : c < s.hk.ch.length) :
    let t := tempJudge c bad ch s
    (t.hkCh c).value = (s.hkCh c).value ∧ t.hk.cool = s.hk.cool
    ∧ ((s.hkCh c).failed = true → (t.hkCh c).failed = true)
    ∧ (ch.failed = false → bad = true → (t.hkCh c).failed = true) := by
  unfold tempJudge
  dsimp only
  split
  · next h => exact ⟨rfl, rfl, id, fun hf => by simp [h] at hf⟩
  · split
    · obtain ⟨hch, hcool⟩ := sensorFail_ch c ch.value s hc
      rw [hch]
      exact ⟨rfl, hcool, fun _ => rfl, fun _ _ => rfl⟩
    · next hbad =>
      split
      · next h18 =>
        subst h18
        obtain ⟨b, hch, hcool⟩ := dramSample_ch ((s.hkCh 18).value) s hc
        rw [hch]
        exact ⟨rfl, hcool, id, fun _ h => absurd h hbad⟩
      · exact ⟨rfl, rfl, id, fun _ h => absurd h hbad⟩

theorem coolSample_ch (c k : Nat) (raw : HkRaw) (s : State) : (coolSample c raw s).hkCh k = s.hkCh k := by
  unfold coolSample
  split
  · split
    · rfl
    · rfl
  · rfl

/-- R383, R386: a sample of a temperature sensor. -/
theorem tempSample_ch (c : Nat) (raw : HkRaw) (s : State) (hc : c < s.hk.ch.length) :
    let t := tempSample c raw s
    (∀ v, raw = .value v → (t.hkCh c).value = v)
    ∧ (∀ v, raw = .value v → c < 18 → 2176 < v → t.hk.cool = false)
    ∧ ((s.hkCh c).failed = true → (t.hkCh c).failed = true)
    ∧ (rawBad raw = true → (t.hkCh c).failed = true) := by
  let u := coolSample c raw s
  have hlen : c < u.hk.ch.length := (sampled_coolSample c raw s).length.symm ▸ hc
  have hlen' : c < (mapCh c (chanTake raw) u).hk.ch.length := by rwa [mapCh_length]
  have htake : (mapCh c (chanTake raw) u).hkCh c = chanTake raw (u.hkCh c) := mapCh_same c _ u hlen
  have hbefore : u.hkCh c = s.hkCh c := coolSample_ch c c raw s
  have hfailed : (chanTake raw (u.hkCh c)).failed = (s.hkCh c).failed := congrArg (fun k => k.failed) hbefore
  obtain ⟨hval, hcool, hkeep, hbad⟩ := tempJudge_ch c (rawBad raw) (u.hkCh c) (mapCh c (chanTake raw) u) hlen'
  rw [htake] at hval hkeep
  rw [hfailed] at hkeep
  dsimp only
  rw [tempSample_judge]
  refine ⟨fun v hv => hval.trans (by rw [hv]; rfl), fun v hv h18 hhot => hcool.trans ?_, hkeep, fun hb => ?_⟩
  · show u.hk.cool = false
    have hu : u = s.mapHk fun h => { h with cool := false } := by
      show coolSample c raw s = _
      rw [hv]
      exact if_pos ⟨h18, hhot⟩
    rw [hu]
    rfl
  · cases hf : (s.hkCh c).failed with
    | true => exact hkeep hf
    | false => exact hbad ((congrArg (fun k => k.failed) hbefore).trans hf) hb

/-- R389: a supply input keeps the sequencer. -/
theorem sampled_supplySample (c : Nat) (v : Int) (s : State) : Sampled s (supplySample c v s) := by
  have hvset (s : State) : Sampled s (vsetRaise s) := ⟨rfl, rfl, rfl, rfl⟩
  have href (f : Bool → Bool) (s : State) : Sampled s (s.mapHk fun h => { h with refBad := f h.refBad }) :=
    ⟨rfl, rfl, rfl, rfl⟩
  have hrot (n : Nat) (k : HkChan) (s : State) : Sampled s (s.mapHk fun h => { h with rotCh := h.rotCh.set n k }) :=
    ⟨rfl, rfl, rfl, rfl⟩
  unfold supplySample
  dsimp only
  split
  · exact sampled_mapCh ..
  · next lo hi _ =>
    generalize supplyRun _ _ _ = q
    refine sampled_step (sampled_step (sampled_step ?_ ?_) (sampled_raise ..)) (hvset _)
    · exact sampled_ite ((hrot _ _ _).trans (sampled_mapCh ..)) (sampled_mapCh ..)
    · exact href
        (fun b => if !(decide (lo ≤ v) && decide (v ≤ hi)) then true else if q.1.goodRun = 3 then false else b) _

/-- R375: the sequencer converts the next channel and goes on to the one after. -/
theorem hkSample_spec (s : State) (hl : s.hk.ch.length = 32) (raw : HkRaw) (hr : s.hkRuns = true) (hn : s.hk.next < 32) :
    ∃ t, exec (.hkSample raw) s = .next t
    ∧ t.hk.next = (s.hk.next + 1) % 32 ∧ t.hk.round = s.hk.round
    ∧ t.hk.rot = (if s.hk.next = 31 then (s.hk.rot + 1) % 4 else s.hk.rot)
    ∧ (t.hkCh s.hk.next).stamp = s.clk.team
    ∧ (∀ v, s.hkValue s.hk.next raw = .value v → s.hk.next ≤ 20 → (t.hkCh s.hk.next).value = v)
    ∧ (∀ v, s.hkValue s.hk.next raw = .value v → s.hk.next < 18 → 2176 < v → t.hk.cool = false)
    ∧ (s.hk.next ≤ 20 → (s.hkCh s.hk.next).failed = true → (t.hkCh s.hk.next).failed = true)
    ∧ (∀ v, s.hkValue s.hk.next raw = .value v → s.hk.next ≤ 20 → (v < -880 ∨ 2800 < v) →
        (t.hkCh s.hk.next).failed = true) := by
  let c := s.hk.next
  let w := s.hkValue c raw
  let u := if c ≤ 20 then tempSample c w s else match w with
    | .value v => supplySample c v s
    | .openShort => s
  have hu : Sampled s u := by
    refine sampled_ite (sampled_tempSample ..) ?_
    obtain ⟨x, hx⟩ : ∃ x, x = w := ⟨_, rfl⟩
    rw [← hx]
    cases x with
    | value v => exact sampled_supplySample ..
    | openShort => exact .refl s
  let t := (mapCh c (fun ch => { ch with stamp := u.now }) u).mapHk fun h =>
    { h with next := (c + 1) % 32, rot := if c = 31 then (h.rot + 1) % 4 else h.rot }
  have hx : exec (.hkSample raw) s = .next t := by
    refine congrArg _ ((if_neg (by simp [hr])).trans ?_)
    rfl
  have hch : t.hkCh c = { u.hkCh c with stamp := u.now } :=
    mapCh_same c _ u (by rw [hu.length, hl]; exact hn)
  have htemp (h : c ≤ 20) : u = tempSample c w s := if_pos h
  obtain ⟨hval, hhot, hkeep, hbad⟩ := tempSample_ch c w s (by rw [hl]; exact hn)
  refine ⟨t, hx, rfl, hu.round, ?_, ?_, fun v hv h20 => ?_, fun v hv h18 hv' => ?_, fun h20 hf => ?_,
    fun v hv h20 hv' => ?_⟩
  · show (if c = 31 then (u.hk.rot + 1) % 4 else u.hk.rot) = _
    rw [hu.rot]
  · rw [hch]
    exact congrArg (fun k => k.team) hu.clk
  · rw [hch, htemp h20]
    exact hval v hv
  · show u.hk.cool = false
    have h18' : c < 18 := h18
    rw [htemp (by omega)]
    exact hhot v hv h18 hv'
  · rw [hch, htemp h20]
    exact hkeep hf
  · rw [hch, htemp h20]
    refine hbad ?_
    rw [show w = .value v from hv]
    simpa [rawBad] using hv'

/-! ### Rounds (R376, R380, R386, R387) -/

/-- What the plausibility of a round leaves: the factors, and a hold that runs. -/
structure RoundKept (s t : State) : Prop where
  round : t.hk.round = s.hk.round
  dG : t.pho.dG = s.pho.dG
  dq : t.pho.dq = s.pho.dq
  hold : s.hk.hold = true → t.hk.hold = true

theorem RoundKept.refl (s : State) : RoundKept s s := ⟨rfl, rfl, rfl, id⟩

theorem RoundKept.trans {s t u : State} (h : RoundKept s t) (h' : RoundKept t u) : RoundKept s u :=
  ⟨h'.round.trans h.round, h'.dG.trans h.dG, h'.dq.trans h.dq, fun hs => h'.hold (h.hold hs)⟩

theorem RoundKept.foldl {α : Type} (f : State → α → State) (h : ∀ s a, RoundKept s (f s a)) (l : List α) (s : State) :
    RoundKept s (l.foldl f s) := by
  induction l generalizing s with
  | nil => exact .refl s
  | cons a l ih => exact (h s a).trans (ih _)

theorem roundKept_raise (src : Nat) (d : List Byte) (s : State) : RoundKept s (raise src d s) := by
  obtain ⟨hk, hg, hq, -, -⟩ := raise_hk src d s
  exact ⟨by rw [hk], hg, hq, fun h => by rw [hk]; exact h⟩

theorem roundKept_mapCh (c : Nat) (f : HkChan → HkChan) (s : State) : RoundKept s (mapCh c f s) := ⟨rfl, rfl, rfl, id⟩

theorem roundKept_sensorFail (c : Nat) (last : Int) (s : State) : RoundKept s (sensorFail c last s) := by
  have hset : RoundKept s (sensorFailed c last s) := ⟨rfl, rfl, rfl, fun _ => rfl⟩
  exact hset.trans (roundKept_raise ..)

theorem roundKept_plausRound (s : State) : RoundKept s (plausRound s) := by
  unfold plausRound
  refine RoundKept.trans (.foldl _ (fun s c => ?_) _ _) (.foldl _ (fun s c => roundKept_sensorFail ..) _ _)
  split
  · exact roundKept_mapCh ..
  · exact roundKept_mapCh ..

theorem stepFactor_le (held : Bool) (old new : Nat) :
    stepFactor held old new ≤ old + 41 ∧ (held = true → stepFactor held old new ≤ old) := by
  unfold stepFactor
  split
  · exact ⟨by omega, fun _ => by omega⟩
  · split
    · exact ⟨by omega, fun _ => le_rfl⟩
    · next h => exact ⟨by omega, fun hh => absurd hh h⟩

/-- R380: the governor's factor rises by at most 41, and not at all under a hold. -/
theorem derateRound_spec (s : State) :
    (derateRound s).hk.round = s.hk.round ∧ (derateRound s).pho.dG ≤ s.pho.dG + 41
    ∧ (s.hk.hold = true → (derateRound s).pho.dG ≤ s.pho.dG) := by
  let held := s.hk.hold || s.hk.refBad
  obtain ⟨h41, hheld⟩ := stepFactor_le held s.pho.dG s.factors.1
  have hev (ch : BitVec 6) (t : State) :
      (if ch = 0 then t else derateEvent ch t).hk = t.hk ∧ (if ch = 0 then t else derateEvent ch t).pho.dG = t.pho.dG := by
    split
    · exact ⟨rfl, rfl⟩
    · have h : steady (derateEvent ch t) = steady t := steady_emit ..
      exact ⟨congrArg (fun x => x.hk) h, congrArg (fun x => x.pho.dG) h⟩
  unfold derateRound
  dsimp only
  rw [(hev _ _).1, (hev _ _).2]
  exact ⟨rfl, h41, fun h => hheld (by simp [held, h])⟩

theorem roundKept_headroomRound (l : List (BitVec 8 × Nat)) (s : State) : RoundKept s (headroomRound l s) := by
  have hhk (f : Hk → Hk) (hf : ∀ h, (f h).round = h.round ∧ (f h).hold = h.hold) (s : State) :
      RoundKept s (s.mapHk f) := ⟨(hf _).1, rfl, rfl, fun h => (hf _).2.trans h⟩
  have hvset (h : Nat) (s : State) : RoundKept s (vsetRound h s) := by
    unfold vsetRound
    dsimp only
    split
    · exact ⟨rfl, rfl, rfl, id⟩
    · split
      · exact ⟨rfl, rfl, rfl, id⟩
      · exact .refl s
  unfold headroomRound
  dsimp only
  refine RoundKept.trans (t := (spanCut s).mapHk fun k => { k with
    shownIn := [], tile40 := l.foldl (fun m e => bitPut m e.1.toNat (decide (headroomReport e.2 = 400))) k.tile40 })
    ⟨rfl, rfl, rfl, id⟩ ?_
  generalize ((spanCut s).mapHk _) = u
  split
  · exact ⟨rfl, rfl, rfl, id⟩
  · next e rest _ =>
    generalize rest.foldl _ _ = h
    have hloop : RoundKept u (if u.pwr.groom && u.hk.loop && !u.measuring then vsetRound h u else u) := by
      split
      · exact hvset ..
      · exact .refl u
    generalize (if u.pwr.groom && u.hk.loop && !u.measuring then vsetRound h u else u) = w at hloop
    have hlow (n : Nat) : RoundKept w (w.mapHk fun k => { k with lowRounds := min 3 n }) := ⟨rfl, rfl, rfl, id⟩
    have hraise (n : Nat) : RoundKept w (if n = 3 then raise fHeadroom [] (w.mapHk fun k => { k with lowRounds := min 3 n })
        else w.mapHk fun k => { k with lowRounds := min 3 n }) := by
      split
      · exact (hlow n).trans (roundKept_raise ..)
      · exact hlow n
    exact hloop.trans (hraise _)

theorem roundKept_hkLog (s : State) : RoundKept s (hkLog s) := by
  unfold hkLog
  split
  · exact .refl s
  · exact ⟨rfl, rfl, rfl, id⟩

theorem hkRoundEnd_spec (s : State) (l : List (BitVec 8 × Nat)) (hr : s.hkRuns = true) :
    ∃ t, exec (.hkRoundEnd l) s = .next t
      ∧ t.hk.round = s.hk.round + 1
      ∧ (s.pwr.groom = false → t.pho.dG = s.pho.dG ∧ t.pho.dq = s.pho.dq)
      ∧ t.pho.dG ≤ s.pho.dG + 41
      ∧ (s.hk.hold = true → t.pho.dG ≤ s.pho.dG) := by
  let u := s.mapHk fun h => { h with round := h.round + 1 }
  let w := if u.pwr.groom then derateRound (plausRound u) else u
  have hx : exec (.hkRoundEnd l) s = .next (hkLog (headroomRound l w)) := congrArg _ (if_neg (by simp [hr]))
  have hkept : RoundKept w (hkLog (headroomRound l w)) := (roundKept_headroomRound l w).trans (roundKept_hkLog _)
  have hp : RoundKept u (plausRound u) := roundKept_plausRound u
  obtain ⟨hround, h41, hheld⟩ := derateRound_spec (plausRound u)
  refine ⟨_, hx, ?_⟩
  rw [hkept.round, hkept.dG, hkept.dq]
  by_cases hg : s.pwr.groom = true
  · have hw : w = derateRound (plausRound u) := if_pos hg
    rw [hw]
    exact ⟨hround.trans hp.round, fun h => by simp [hg] at h, hp.dG ▸ h41, fun h => hp.dG ▸ hheld (hp.hold h)⟩
  · have hw : w = u := if_neg hg
    rw [hw]
    exact ⟨rfl, fun _ => ⟨rfl, rfl⟩, Nat.le_add_right .., fun _ => le_rfl⟩

/-! ### Learned offsets (R387) and the steps of VLED_ADJ -/

/-- R387: the offset that sensor `c` has learned after a round. -/
def learnedOffset (s : State) (c : Nat) : Int :=
  let n : Int := (neighbours c).length
  let d := Int.fdiv (n * (s.hkCh c).value * 64 - s.nbSum c * 64) n
  let o := (s.hkCh c).offset
  max (-6144) (min 6144 (o + Int.fdiv (d - o) 64))

theorem learnedFold (l : List Nat) (hd : l.Nodup) (s t : State) (ht : t.hk.ch.length = 32) (hl : ∀ c ∈ l, c < 32) :
    let u := l.foldl (fun t c => mapCh c (fun ch => { ch with offset := learnedOffset s c }) t) t
    u = { t with hk := u.hk }
    ∧ (∀ c ∈ l, u.hkCh c = { t.hkCh c with offset := learnedOffset s c }) ∧ ∀ c, c ∉ l → u.hkCh c = t.hkCh c := by
  induction l generalizing t with
  | nil => exact ⟨rfl, fun c hc => absurd hc (List.not_mem_nil), fun _ _ => rfl⟩
  | cons a l ih =>
    obtain ⟨ha, hd⟩ := List.nodup_cons.mp hd
    let v := mapCh a (fun ch => { ch with offset := learnedOffset s a }) t
    obtain ⟨heq, hin, hout⟩ := ih hd v ((mapCh_length ..).trans ht) fun c hc => hl c (List.mem_cons_of_mem _ hc)
    have hlt : a < t.hk.ch.length := by rw [ht]; exact hl a List.mem_cons_self
    refine ⟨heq, fun c hc => ?_, fun c hc => ?_⟩
    · obtain rfl | hc := List.mem_cons.mp hc
      · exact (hout c ha).trans (mapCh_same c _ t hlt)
      · have hne : c ≠ a := fun h => ha (h ▸ hc)
        refine (hin c hc).trans ?_
        rw [show v.hkCh c = t.hkCh c from mapCh_other hne _ t]
    · have hne : c ≠ a := fun h => hc (h ▸ List.mem_cons_self)
      exact (hout c fun h => hc (List.mem_cons_of_mem _ h)).trans (mapCh_other hne _ t)

theorem learnedOffsetUpdate_spec (s : State) (hl : s.hk.ch.length = 32) (hr : s.hkRuns = true) (hg : s.pwr.groom = true) :
    ∃ t, exec .learnedOffsetUpdate s = .next t ∧ t = { s with hk := t.hk }
    ∧ ∀ c, c < 32 →
      let ok := c < 18 ∧ (s.hkCh c).failed = false ∧ ∀ k ∈ neighbours c, (s.hkCh k).failed = false
      (ok → (t.hkCh c).offset = learnedOffset s c) ∧ (¬ ok → t.hkCh c = s.hkCh c) := by
  let live := (List.range 18).filter fun c => !(s.hkCh c).failed && (neighbours c).all fun k => !(s.hkCh k).failed
  have hx : exec .learnedOffsetUpdate s = .next
      (live.foldl (fun t c => mapCh c (fun ch => { ch with offset := learnedOffset s c }) t) s) :=
    congrArg _ (if_neg (by simp [hr, hg]))
  have hmem (c : Nat) : c ∈ live ↔
      c < 18 ∧ (s.hkCh c).failed = false ∧ ∀ k ∈ neighbours c, (s.hkCh k).failed = false := by
    simp [live, List.mem_filter]
  obtain ⟨heq, hin, hout⟩ := learnedFold live (List.nodup_range.filter _) s s hl fun c hc => by
    have := ((hmem c).mp hc).1
    omega
  refine ⟨_, hx, heq, fun c hc => ?_⟩
  intro ok
  exact ⟨fun h => by rw [hin c ((hmem c).mpr h)], fun h => hout c (mt (hmem c).mp h)⟩

/-- R383, R385: a comparator trips. -/
theorem tempTrip_spec (s : State) (c : Fin 18) (hv : s.pwr.vaon = true) (hst : s.pwr.mode ≠ .standby)
    (hoff : s.pwr.mode ≠ .off) (hz : s.hk.tripped = 0) :
    let recent := s.hk.trips.filter fun t => decide (s.clk.loc < t + 60000000000)
    ∃ t, exec (.tempTrip c) s = .next t ∧ t.hk.tripped.getLsbD c.val = true ∧ t.hk.cool = false
      ∧ .thermal ∈ t.arr.causes ∧ t.hk.latchOff = (s.hk.latchOff || decide (2 ≤ recent.length)) := by
  intro recent
  let u := darkAdd .thermal (s.mapHk fun h =>
    { h with tripped := bitPut 0 c.val true, cool := false, trips := recent ++ [s.clk.loc]
             latchOff := h.latchOff || decide (3 ≤ (recent ++ [s.clk.loc]).length) })
  let t := if u.collects then
      raise fTempShutdown (leBytes u.hk.tripped.toNat 3 ++ b1 u.tripCount) (causeArise s.causes u)
    else u
  have hx : exec (.tempTrip c) s = .next t :=
    congrArg _ ((if_neg (by simp [hv, hst, hoff])).trans (if_neg (by simpa using hz)))
  have hk : t.hk = u.hk := by
    dsimp only [t]
    split
    · exact (raise_hk ..).1.trans (congrArg (fun x => x.hk) (steady_causeArise s.causes u))
    · rfl
  have hin : DarkCause.thermal ∈ u.arr.causes := darkAdd_mem .thermal _
  have hmem : DarkCause.thermal ∈ t.arr.causes := by
    dsimp only [t]
    split
    · have hbefore : (causeArise s.causes u).arr.causes = u.arr.causes :=
        congrArg (fun a => a.causes) (causeArise_switches s.causes u)
      obtain ⟨-, -, -, ⟨-, -, h⟩ | ⟨-, -, h⟩⟩ := raiseMin_arr fTempShutdown 0
        (leBytes u.hk.tripped.toNat 3 ++ b1 u.tripCount) (causeArise s.causes u)
      · exact (h.trans hbefore).symm ▸ hin
      · exact h _ (hbefore.symm ▸ hin)
    · exact hin
  refine ⟨t, hx, ?_, ?_, hmem, ?_⟩
  · rw [hk]
    exact (bitPut_getLsbD _ _ _ _ c.isLt).trans (if_pos rfl)
  · rw [hk]
    rfl
  · rw [hk]
    show (s.hk.latchOff || decide (3 ≤ (recent ++ [s.clk.loc]).length)) = _
    rw [List.length_append, List.length_singleton]
    exact congrArg _ (decide_eq_decide.mpr (by omega))

/-- Settles O46. -/
theorem housekeepingEvents : Obligations.HousekeepingEvents := by
  intro s hl
  refine ⟨hkSample_spec s hl, hkRoundEnd_spec s, learnedOffsetUpdate_spec s hl, rfl, fun v hg hloop hm hr => ?_,
    fun h hg hr => ?_, tempTrip_spec s, fun h => congrArg _ (if_pos h), fun hc hoff => ?_, fun hc hoff => ?_⟩
  · have hgo : ¬ (!s.pwr.groom || !s.hk.loop || s.measuring || !s.hkRuns) = true := by simp [hg, hloop, hm, hr]
    refine ⟨fun h => congrArg _ ((if_neg hgo).trans (if_pos h)),
      fun h => congrArg _ ((if_neg hgo).trans ((if_neg (by omega)).trans (if_pos h))),
      fun h h' => congrArg _ ((if_neg hgo).trans ((if_neg (by omega)).trans (if_neg (by omega))))⟩
  · refine ⟨fun h450 => congrArg _ (if_neg ?_), fun h450 => congrArg _ (if_pos ?_)⟩
    · simp [hg, hr, h450]
    · simp [h450]
  · exact congrArg _ ((if_neg (by simp [hc])).trans (if_pos hoff))
  · have hx : exec .thermalRestart s = .next (thermalRelease (s.mapHk fun h => { h with tripped := 0, cool := true })) := by
      refine congrArg _ ((if_neg (by simp [hc])).trans (if_neg ?_))
      have : (s.mapHk fun h => { h with tripped := 0, cool := true }).hk.latchOff = false := hoff
      rw [this]
      exact Bool.false_ne_true
    obtain ⟨hk, hdark, -, hno⟩ := thermalRelease_effect (s.mapHk fun h => { h with tripped := 0, cool := true })
    exact ⟨_, hx, hk, hno, hdark⟩

end Sys2Proof.Laws
end

section
/-!
What lanes, ports and the tree of a team change, beside what a report changes, and what an abandoned entry into SLEEP or STANDBY
leaves of the safety inputs. Then the safety inputs themselves: O47.
-/
namespace Sys2Proof.Laws
open Sys2Proof.Machine Sys2Proof.Claims

/-- A state without its lanes, its place in the tree, what waits for random bytes and the last marks event. -/
def loosen (s : State) : State :=
  { s with
    lan := State.reset.lan, sec := { s.sec with waits := [] }, saf := { s.saf with lastMarks := (0, 0, 0) }
    flt := { s.flt with held := 0 }
    tm := { s.tm with dist := 0, parent := none } }

/-- A state without what a report, a lane, a port or the tree of the team may change. -/
abbrev calm (s : State) : State := loosen (steady s)

theorem calm_of_steady {s t : State} (h : steady t = steady s) : calm t = calm s := congrArg loosen h

@[simp] theorem calm_foldl {α : Type} (f : State → α → State) (l : List α) (s : State)
    (h : ∀ t a, calm (f t a) = calm t) : calm (l.foldl f s) = calm s := by
  induction l generalizing s with
  | nil => rfl
  | cons a l ih => rw [List.foldl_cons, ih, h]

@[simp] theorem calm_ite {c : Prop} {_ : Decidable c} (s t : State) :
    loosen (if c then s else t) = if c then loosen s else loosen t := apply_ite ..

@[simp] theorem draw_calm (s : State) : calm s.draw.2 = calm s := rfl
@[simp] theorem random_calm (n : Nat) (s : State) : calm (s.random n).2 = calm s := rfl
@[simp] theorem waits_calm (f : List TrngWait → List TrngWait) (s : State) :
    calm (s.mapSec fun c => { c with waits := f c.waits }) = calm s := rfl
@[simp] theorem lastMarks_calm (k : Nat × Half × Half) (s : State) :
    calm (s.mapSaf fun f => { f with lastMarks := k }) = calm s := rfl
@[simp] theorem heldSet_calm (src : Nat) (b : Bool) (s : State) : calm (heldSet src b s) = calm s := rfl
@[simp] theorem raiseOnce_calm (src : Nat) (d : List Byte) (s : State) : calm (raiseOnce src d s) = calm s := by
  unfold raiseOnce
  split <;> simp [calm]
@[simp] theorem relightStart_calm (s : State) : calm (relightStart s) = calm s := by
  unfold relightStart
  split <;> rfl
@[simp] theorem mapLane_calm (n : Nat) (f : Lane → Lane) (s : State) :
    calm (mapLane n f s) = calm s := by
  rfl
@[simp] theorem laneQuiet_calm (n : Nat) (s : State) :
    calm (laneQuiet n s) = calm s := by
  exact mapLane_calm ..
@[simp] theorem traceFault_calm (p : Fin 4) (reason : Nat) (s : State) :
    calm (traceFault p reason s) = calm s := by
  simp [calm, traceFault]
@[simp] theorem portBegin_calm (p : Fin 4) (s : State) :
    calm (portBegin p s) = calm s := by
  simp [calm, portBegin]
@[simp] theorem portStart_calm (p : Fin 4) (s : State) :
    calm (portStart p s) = calm s := by
  have hwait : calm (s.mapSec fun c =>
      { c with waits := if c.waits.contains (.port p.val) then c.waits else c.waits ++ [.port p.val] }) = calm s := rfl
  unfold portStart
  dsimp only
  split
  · rfl
  · split
    · exact traceFault_calm ..
    · split
      · exact portBegin_calm ..
      · exact hwait
@[simp] theorem helloOut_calm (p : Fin 4) (s : State) :
    calm (helloOut p s) = calm s := by
  simp [calm, helloOut]
@[simp] theorem helloAll_calm (s : State) :
    calm (helloAll s) = calm s := by
  simp [calm, helloAll]
@[simp] theorem treeSet_calm (parent : Option (Fin 4)) (dist : Nat) (s : State) :
    calm (treeSet parent dist s) = calm s := by
  unfold treeSet
  refine (calm_foldl _ allPorts (s.mapTm fun t => { t with parent := parent, dist := dist }) fun _ _ => ?_).trans ?_
  · rfl
  · rfl
@[simp] theorem treeLose_calm (s : State) :
    calm (treeLose s) = calm s := by
  unfold treeLose
  exact (treeSet_calm ..).trans (calm_foldl _ _ _ fun _ _ => rfl)
@[simp] theorem treeUpdate_calm (s : State) :
    calm (treeUpdate s) = calm s := by
  unfold treeUpdate
  (repeat' split) <;> simp [calm]
@[simp] theorem portDownOp_calm (p : Fin 4) (reason : Nat) (s : State) :
    calm (portDownOp p reason s) = calm s := by
  simp [calm, portDownOp]
@[simp] theorem portsSync_calm (s : State) :
    calm (portsSync s) = calm s := by
  simp [calm, portsSync]
@[simp] theorem powerEvent_calm (new prev abort abandoned : Nat) (s : State) :
    calm (powerEvent new prev abort abandoned s) = calm s := by
  simp [calm, powerEvent]
@[simp] theorem laneCount_calm (n : Nat) (s : State) :
    calm (laneCount n s) = calm s := by
  unfold laneCount
  dsimp only
  split <;> simp [calm]
@[simp] theorem laneRx_calm (n : Nat) (s : State) :
    calm (laneRx n s) = calm s := by
  unfold laneRx
  split <;> simp [calm]
@[simp] theorem laneTestStop_calm (n : Nat) (s : State) :
    calm (laneTestStop n s) = calm s := by
  unfold laneTestStop
  dsimp only
  (repeat' split) <;> simp [calm]
@[simp] theorem laneTestsStop_calm (s : State) :
    calm (laneTestsStop s) = calm s := by
  simp [calm, laneTestsStop]
@[simp] theorem wakeEvent_calm (time : Dword) (cause lane : Nat) (abandoned : Bool) (ms : Nat) (s : State) :
    calm (wakeEvent time cause lane abandoned ms s) = calm s := by
  simp [calm, wakeEvent]
@[simp] theorem marksEvent_calm (s : State) :
    calm (marksEvent s) = calm s := by
  simp [calm, marksEvent]

/-! ### What a wake leaves of the safety inputs -/

/-- The safety monitor without its last events. -/
abbrev inputs (s : State) : Saf := (calm s).saf

theorem inputs_of_calm {s t : State} (h : calm t = calm s) : inputs t = inputs s := congrArg State.saf h

@[simp] theorem inputs_ite {c : Prop} {_ : Decidable c} (s t : State) :
    (if c then s else t).saf = if c then s.saf else t.saf := apply_ite ..
@[simp] theorem mapPwr_inputs (f : Pwr → Pwr) (s : State) : inputs (s.mapPwr f) = inputs s := rfl
@[simp] theorem mapFrm_inputs (f : Machine.Frm → Machine.Frm) (s : State) : inputs (s.mapFrm f) = inputs s := rfl
@[simp] theorem armAt_inputs (frame : Word) (changes : List Change) (counted given : Bool) (s : State) :
    inputs (armAt frame changes counted given s) = inputs s := by
  simp [inputs, calm, armAt]
@[simp] theorem entryBegin_inputs (standby : Bool) (sub : Sub) (s : State) :
    inputs (entryBegin standby sub s) = inputs s := by
  simp [inputs, calm, entryBegin]
@[simp] theorem powerRequest_inputs (sub : Sub) (st : Byte) (s : State) :
    inputs (powerRequest sub st s) = inputs s := by
  simp [inputs, calm, powerRequest]
@[simp] theorem pendStart_inputs (s : State) :
    inputs (pendStart s) = inputs s := by
  unfold pendStart
  split <;> simp [inputs, calm]
@[simp] theorem wakeRecord_inputs (cause lane : Nat) (standby : Bool) (s : State) :
    inputs (wakeRecord cause lane standby s) = inputs s := by
  simp [inputs, calm, wakeRecord]
@[simp] theorem entryUndo_inputs (a : Nat) (prev : Mode) (s : State) :
    inputs (entryUndo a prev s) = inputs s := by
  simp [inputs, calm, entryUndo]
@[simp] theorem entryAbandon_inputs (cause lane : Nat) (e : PowerEntry) (s : State) :
    inputs (entryAbandon cause lane e s) = inputs s := by
  unfold entryAbandon
  dsimp only
  split <;> simp [inputs, calm]
@[simp] theorem wakeQualify_inputs (cause lane : Nat) (s : State) :
    inputs (wakeQualify cause lane s) = inputs s := by
  unfold wakeQualify
  (repeat' split) <;> simp [inputs, calm]

/-! ### The safety inputs (R335, R336) -/

theorem mapSin_inputs (n : Nat) (f : SinState → SinState) (s : State) :
    inputs (mapSin n f s) = { inputs s with sin := (inputs s).sin.modify n f } := rfl

theorem mapSin_same (n : Nat) (f : SinState → SinState) (s : State) (hn : n < s.saf.sin.length) :
    (mapSin n f s).sinAt n = f (s.sinAt n) := by
  simp [mapSin, State.mapSaf, State.sinAt, List.getD, hn]

theorem mapSin_other {n k : Nat} (hk : k ≠ n) (f : SinState → SinState) (s : State) :
    (mapSin n f s).sinAt k = s.sinAt k := by
  simp [mapSin, State.mapSaf, State.sinAt, List.getD, Ne.symm hk]

/-- From `s` to `t` the safety monitor changes input `n` alone, by `f`. -/
def SinBy (n : Nat) (f : SinState → SinState) (s t : State) : Prop := inputs t = inputs (mapSin n f s)

theorem SinBy.trans {n : Nat} {f g : SinState → SinState} {s t u : State} (h : SinBy n f s t) (h' : SinBy n g t u) :
    SinBy n (fun i => g (f i)) s u := by
  rw [SinBy, h', mapSin_inputs, h, mapSin_inputs, mapSin_inputs, List.modify_modify_eq]
  rfl

theorem sinBy_mapSin (n : Nat) (f : SinState → SinState) (s : State) : SinBy n f s (mapSin n f s) := rfl

/-- What follows keeps the inputs. -/
theorem SinBy.keep {n : Nat} {f : SinState → SinState} {s t u : State} (h : SinBy n f s t) (h' : inputs u = inputs t) :
    SinBy n f s u := h'.trans h

theorem SinBy.at_same {n : Nat} {f : SinState → SinState} {s t : State} (h : SinBy n f s t) (hn : n < s.saf.sin.length) :
    t.sinAt n = f (s.sinAt n) :=
  (congrArg (fun g => g.sin.getD n SinState.reset) h).trans (mapSin_same n f s hn)

theorem sinBy_ite {n : Nat} {f : SinState → SinState} {c : Prop} [Decidable c] {s t u : State} (h : SinBy n f s t)
    (h' : SinBy n f s u) : SinBy n f s (if c then t else u) := by
  split
  · exact h
  · exact h'

theorem sinDemand_by (n : Nat) (s : State) : SinBy n (fun i => { i with demand := true, clean := 0 }) s (sinDemand n s) := by
  refine sinBy_ite (sinBy_mapSin ..) ((sinBy_mapSin n _ s).keep ?_)
  rw [wakeQualify_inputs]
  exact inputs_of_calm ((marksEvent_calm _).trans (calm_of_steady (steady_calLeave _)))

theorem sinClear_by (n : Nat) (s : State) : SinBy n (fun i =>
    { i with demand := false, clean := 0, stuckDue := false, stuckOn := false, crossOn := false }) s (sinClear n s) := by
  refine (sinBy_mapSin n _ s).keep ?_
  rw [sinClear, wakeQualify_inputs]
  exact inputs_of_calm (marksEvent_calm _)

theorem sinStuck_by (n : Nat) (s : State) :
    SinBy n (fun i => { i with stuckOn := true, stuckDue := false }) s (sinStuck n s) :=
  sinBy_ite (sinBy_mapSin ..) ((sinBy_mapSin n _ s).keep (inputs_of_calm (calm_of_steady (steady_raise ..))))

theorem sinCross_by (n : Nat) (s : State) :
    SinBy n (fun i => { i with crossOn := true, stuckDue := false }) s (sinCross n s) :=
  sinBy_ite (sinBy_mapSin ..) ((sinBy_mapSin n _ s).keep (inputs_of_calm (calm_of_steady (steady_raise ..))))

theorem sinBy_refl (n : Nat) (s : State) : SinBy n id s s := by
  rw [SinBy, mapSin_inputs, List.modify_id]

/-- Table 14.2: the close of an input's own window; one that reads low, or has shown no low, is in demand. -/
theorem ownClose_by (n : Nat) (s : State) : ∃ f, SinBy n f s (ownClose n s)
    ∧ ((s.sinAt n).level = false ∨ (s.sinAt n).lowOwn = false → ∀ i, (f i).demand = true) := by
  unfold ownClose
  dsimp only
  split
  · exact ⟨_, sinDemand_by n s, fun _ _ => rfl⟩
  · next hlevel =>
    split
    · exact ⟨_, (sinDemand_by n s).trans (sinBy_mapSin n _ _), fun _ _ => rfl⟩
    · next hlow =>
      have hnot : ¬ ((s.sinAt n).level = false ∨ (s.sinAt n).lowOwn = false) := by
        simp only [Bool.not_eq_true', Bool.not_eq_false] at hlevel hlow
        simp [hlevel, hlow]
      generalize (if (s.sinAt n).outHigh then (s.sinAt n).clean + 1 else 0) = c
      split
      · exact ⟨_, sinClear_by n s, fun h => absurd h hnot⟩
      · exact ⟨_, sinBy_mapSin n _ s, fun h => absurd h hnot⟩

theorem otherClose_by (n : Nat) (s : State) : ∃ f, SinBy n f s (otherClose n s) := by
  unfold otherClose
  dsimp only
  split
  · exact ⟨_, (sinDemand_by n s).trans (sinCross_by n _)⟩
  · have hlow : ∃ f, SinBy n f s (if (s.sinAt n).level then s else sinDemand n s) := by
      split
      · exact ⟨_, sinBy_refl n s⟩
      · exact ⟨_, sinDemand_by n s⟩
    obtain ⟨f, hf⟩ := hlow
    split
    · exact ⟨_, hf.trans (sinStuck_by n _)⟩
    · exact ⟨f, hf⟩

/-- R336: the close of the window of TPO `x`, for input `n`. -/
def closeStep (x : Nat) (s : State) (n : Nat) : State :=
  match s.sinOwn n with
  | none => s
  | some o => if o = x then ownClose n s else otherClose n s

theorem closeStep_by (x n : Nat) (s : State) : ∃ f, SinBy n f s (closeStep x s n)
    ∧ (s.sinOwn n = some x → (s.sinAt n).level = false ∨ (s.sinAt n).lowOwn = false → ∀ i, (f i).demand = true)
    ∧ (s.sinOwn n = none → f = id) := by
  unfold closeStep
  split
  · next h => exact ⟨id, sinBy_refl n s, fun hx => by simp [h] at hx, fun _ => rfl⟩
  · next o h =>
    split
    · obtain ⟨f, hf, hd⟩ := ownClose_by n s
      exact ⟨f, hf, fun _ => hd, fun hx => by simp [h] at hx⟩
    · next hne =>
      obtain ⟨f, hf⟩ := otherClose_by n s
      exact ⟨f, hf, fun hx => absurd (Option.some.inj (h.symm.trans hx)) hne, fun hx => by simp [h] at hx⟩

theorem sinOwn_of_hall {s t : State} (h : t.saf.hall = s.saf.hall) (n : Nat) : t.sinOwn n = s.sinOwn n := by
  have hbyte : t.hallByte = s.hallByte := funext fun a => congrArg (fun l => cellGet 0 l a) h
  rw [State.sinOwn, hbyte]
  rfl

/-- What the closes of inputs 0 to `m - 1` have done. -/
structure Closed (x m : Nat) (s t : State) : Prop where
  length : t.saf.sin.length = s.saf.sin.length
  hall : t.saf.hall = s.saf.hall
  tpo : t.saf.tpo = s.saf.tpo
  win : t.saf.win = s.saf.win
  rest : ∀ n, m ≤ n → t.sinAt n = s.sinAt n
  free : ∀ n, s.sinOwn n = none → t.sinAt n = s.sinAt n
  demand : ∀ n, n < m → s.sinOwn n = some x → (s.sinAt n).level = false ∨ (s.sinAt n).lowOwn = false →
    (t.sinAt n).demand = true

theorem closeFold (x m : Nat) (s : State) (hm : m ≤ s.saf.sin.length) :
    Closed x m s ((List.range m).foldl (closeStep x) s) := by
  induction m with
  | zero => exact ⟨rfl, rfl, rfl, rfl, fun _ _ => rfl, fun _ _ => rfl, fun n hn => absurd hn (Nat.not_lt_zero n)⟩
  | succ m ih =>
    have hc := ih (by omega)
    rw [List.range_succ, List.foldl_append]
    generalize (List.range m).foldl (closeStep x) s = t at hc
    show Closed x (m + 1) s (closeStep x t m)
    obtain ⟨f, hby, hdem, hnone⟩ := closeStep_by x m t
    have hsame : (closeStep x t m).sinAt m = f (t.sinAt m) := hby.at_same (by rw [hc.length]; omega)
    have hother (k : Nat) (hk : k ≠ m) : (closeStep x t m).sinAt k = t.sinAt k :=
      (congrArg (fun g => g.sin.getD k SinState.reset) hby).trans (mapSin_other hk f t)
    have hown (n : Nat) : t.sinOwn n = s.sinOwn n := sinOwn_of_hall hc.hall n
    have hat : t.sinAt m = s.sinAt m := hc.rest m le_rfl
    refine ⟨?_, (congrArg (fun g => g.hall) hby).trans hc.hall, (congrArg (fun g => g.tpo) hby).trans hc.tpo,
      (congrArg (fun g => g.win) hby).trans hc.win, fun n hn => ?_, fun n hn => ?_, fun n hn ho hl => ?_⟩
    · refine (congrArg (fun g => g.sin.length) hby).trans ?_
      exact (List.length_modify ..).trans hc.length
    · exact (hother n (by omega)).trans (hc.rest n (by omega))
    · by_cases h : n = m
      · subst h
        rw [hsame, hnone ((hown n).trans hn)]
        exact hat
      · exact (hother n h).trans (hc.free n hn)
    · by_cases h : n = m
      · subst h
        rw [hsame]
        exact hdem ((hown n).trans ho) (hat.symm ▸ hl) _
      · rw [hother n h]
        exact hc.demand n (by omega) ho hl

/-- R335: a test pulse notes the level of each assigned input. -/
def pulseStep (x : Nat) (s : State) (n : Nat) : State :=
  match s.sinOwn n with
  | none => s
  | some o => mapSin n (fun i =>
      if o = x then { i with lowOwn := !i.level, outHigh := i.level }
      else { i with lowOther := !i.level, outHigh := i.level }) s

theorem pulseFold (x m : Nat) (s : State) (hm : m ≤ s.saf.sin.length) :
    let t := (List.range m).foldl (pulseStep x) s
    t = { s with saf := t.saf } ∧ t.saf = { s.saf with sin := t.saf.sin } ∧ t.saf.sin.length = s.saf.sin.length
    ∧ (∀ n, m ≤ n → t.sinAt n = s.sinAt n)
    ∧ ∀ n, n < m → s.sinOwn n = some x → (t.sinAt n).lowOwn = !(s.sinAt n).level := by
  induction m with
  | zero => exact ⟨rfl, rfl, rfl, fun _ _ => rfl, fun n hn => absurd hn (Nat.not_lt_zero n)⟩
  | succ m ih =>
    obtain ⟨hst, hsaf, hlen, hrest, hdone⟩ := ih (by omega)
    dsimp only
    rw [List.range_succ, List.foldl_append]
    generalize (List.range m).foldl (pulseStep x) s = t at hst hsaf hlen hrest hdone
    have hown (n : Nat) : t.sinOwn n = s.sinOwn n := sinOwn_of_hall (by rw [hsaf]) n
    have hstep : ∃ f, pulseStep x t m = mapSin m f t
        ∧ (t.sinOwn m = some x → ∀ i, (f i).lowOwn = !i.level) := by
      unfold pulseStep
      split
      · next h =>
        refine ⟨id, ?_, fun hx => by simp [h] at hx⟩
        simp only [mapSin, List.modify_id]
        rfl
      · next o h =>
        refine ⟨_, rfl, fun hx i => ?_⟩
        rw [if_pos (Option.some.inj (h.symm.trans hx))]
    obtain ⟨f, hf, hlow⟩ := hstep
    have hlast : [m].foldl (pulseStep x) t = mapSin m f t := hf
    rw [hlast]
    refine ⟨?_, ?_, (List.length_modify ..).trans hlen, fun n hn => ?_, fun n hn ho => ?_⟩
    · exact congrArg (fun u : State => { u with saf := (mapSin m f t).saf }) hst
    · exact congrArg (fun u : Saf => { u with sin := (mapSin m f t).saf.sin }) hsaf
    · exact (mapSin_other (by omega) f t).trans (hrest n (by omega))
    · by_cases h : n = m
      · subst h
        rw [mapSin_same n f t (by omega), hlow ((hown n).trans ho), hrest n le_rfl]
      · rw [mapSin_other h f t]
        exact hdone n (by omega) ho

/-- Settles O47. -/
theorem safetyInputs : Obligations.SafetyInputs := by
  intro s hl
  refine ⟨fun x hon hwin => ?_, fun x h => ?_, fun x hwin => ?_, fun n hv => ?_, fun n o hv hc ho hwin => ?_,
    fun ha he => ?_, fun h => ?_, fun f hti hacc => ?_, fun f hacc => ?_, fun hti hon hout => ?_⟩
  · let u := s.mapSaf fun f =>
      { f with tpo := bitPut f.tpo x.val false, tpoAt := f.tpoAt.set x.val s.clk.loc, win := bitPut f.win x.val true }
    have hx : exec (.tpoPulse x) s = .next ((List.range 4).foldl (pulseStep x.val) u) :=
      congrArg _ (if_neg (by simp [hon, hwin]))
    obtain ⟨hst, hsaf, -, -, hdone⟩ := pulseFold x.val 4 u (by show 4 ≤ s.saf.sin.length; omega)
    refine ⟨_, hx, hst, ?_, ?_, hdone⟩
    · rw [hsaf]
      exact (bitPut_getLsbD _ _ _ _ x.isLt).trans (if_pos rfl)
    · rw [hsaf]
      exact (bitPut_getLsbD _ _ _ _ x.isLt).trans (if_pos rfl)
  · refine congrArg _ (if_pos ?_)
    obtain h | h := h <;> simp [h]
  · let u := s.mapSaf fun f => { f with tpo := bitPut f.tpo x.val true, win := bitPut f.win x.val false }
    have hx : exec (.tpoWindowClose x) s = .next ((List.range 4).foldl (closeStep x.val) u) :=
      congrArg _ (if_neg (by simp [hwin]))
    have hclosed := closeFold x.val 4 u (by show 4 ≤ s.saf.sin.length; omega)
    refine ⟨_, hx, ?_, ?_, hclosed.demand, fun n _ => hclosed.free n⟩
    · rw [hclosed.tpo]
      exact (bitPut_getLsbD _ _ _ _ x.isLt).trans (if_pos rfl)
    · rw [hclosed.win]
      exact (bitPut_getLsbD _ _ _ _ x.isLt).trans (if_pos rfl)
  · have hx : exec (.sinEdge n true) s = .next (mapSin n.val (fun i => { i with level := true }) s) :=
      congrArg _ (if_neg (by simp [hv]))
    exact ⟨_, hx, rfl, mapSin_same n.val _ s (by rw [hl]; exact n.isLt)⟩
  · let u := mapSin n.val (fun i => { i with level := false }) s
    have hu : u.sinAt n.val = { s.sinAt n.val with level := false } :=
      mapSin_same n.val _ s (by rw [hl]; exact n.isLt)
    have hlow : sinLow n.val u = sinDemand n.val u := by
      have hown : u.sinOwn n.val = some o := ho
      simp only [sinLow, hown]
      exact if_pos hwin
    have hx : exec (.sinEdge n false) s = .next (sinDemand n.val u) := by
      refine congrArg _ ((if_neg (by simp [hv])).trans ((if_neg ?_).trans hlow))
      have hcol : u.collects = true := hc
      rw [hcol]
      decide
    have hat := (sinDemand_by n.val u).at_same
      (show n.val < (s.saf.sin.modify n.val _).length by rw [List.length_modify, hl]; exact n.isLt)
    refine ⟨_, hx, ?_, ?_⟩
    · rw [hat, hu]
    · rw [hat]
  · have hx : exec .heartbeatTimeout s = .next (raise fHostHeartbeat []
        (causeArise s.causes (s.mapSaf fun f => { f with hbExp := true }))) := congrArg _ (if_neg (by simp [ha, he]))
    refine ⟨_, hx, ?_⟩
    exact (congrArg (fun x => x.saf.hbExp) (steady_causeArise s.causes (s.mapSaf fun f => { f with hbExp := true }))).trans rfl
  · refine congrArg _ (if_pos ?_)
    obtain h | h := h <;> simp [h]
  · let u := s.mapSaf fun g => { g with canSel := s.canSelect f, canOut := false, canAt := s.clk.loc }
    have hgo : ¬ (!s.ticking || !s.canAccepts f) = true := by simp [hti, hacc]
    by_cases hnote : (s.canSelect f != s.saf.canSel || s.saf.canOut) = true
    · exact ⟨_, congrArg Host.Outcome.next ((if_neg hgo).trans (if_pos hnote)), rfl⟩
    · exact ⟨u, congrArg Host.Outcome.next ((if_neg hgo).trans (if_neg hnote)), rfl⟩
  · exact congrArg _ (if_pos (by simp [hacc]))
  · exact congrArg _ (if_neg (by simp [hti, hon, hout]))

end Sys2Proof.Laws
end

section
/-!
`POWER_STATE`: O25.
-/
namespace Sys2Proof.Laws
open Sys2Proof.Machine Sys2Proof.Claims

theorem pwr_of_calm {s t : State} (h : calm t = calm s) : t.pwr = s.pwr := by
  have hp : (calm t).pwr = (calm s).pwr := by rw [h]
  exact hp

/-! ### The end of the lane tests -/

/-- No test begins on a lane, and the lanes stay in number. -/
structure NoTestBegins (s t : State) : Prop where
  length : t.lan.l.length = s.lan.l.length
  test : ∀ k, (s.lane k).test = none → (t.lane k).test = none

theorem NoTestBegins.refl (s : State) : NoTestBegins s s := ⟨rfl, fun _ => id⟩

theorem NoTestBegins.trans {s t u : State} (h : NoTestBegins s t) (h' : NoTestBegins t u) : NoTestBegins s u :=
  ⟨h'.length.trans h.length, fun k hk => h'.test k (h.test k hk)⟩

theorem NoTestBegins.of_lan {s t : State} (h : t.lan = s.lan) : NoTestBegins s t :=
  ⟨by rw [h], fun k hk => by rw [State.lane, h]; exact hk⟩

theorem NoTestBegins.of_steady {s t : State} (h : steady t = steady s) : NoTestBegins s t :=
  .of_lan (congrArg (fun x => x.lan) h)

theorem noTestBegins_mapLane (n : Nat) (f : Lane → Lane) (s : State) (hf : ∀ l, l.test = none → (f l).test = none) :
    NoTestBegins s (mapLane n f s) := by
  refine ⟨mapLane_length .., fun k hk => ?_⟩
  by_cases h : k = n
  · subst h
    by_cases hlen : k < s.lan.l.length
    · rw [mapLane_lane k f s hlen]
      exact hf _ hk
    · have hsame : mapLane k f s = s := by
        show { s with lan := { s.lan with l := s.lan.l.modify k f } } = s
        rw [List.modify_eq_self (Nat.le_of_not_lt hlen)]
      rw [hsame]
      exact hk
  · rw [mapLane_lane_other h]
    exact hk

theorem noTestBegins_laneCount (n : Nat) (s : State) : NoTestBegins s (laneCount n s) := by
  unfold laneCount
  dsimp only
  split
  · exact .refl s
  · split
    · exact .refl s
    · have hdraw : NoTestBegins s s.draw.2.draw.2 := .of_lan rfl
      refine hdraw.trans (noTestBegins_mapLane n _ s.draw.2.draw.2 ?_)
      exact fun _ h => h

theorem noTestBegins_laneRx (n : Nat) (s : State) : NoTestBegins s (laneRx n s) := by
  unfold laneRx laneQuiet
  split
  · exact noTestBegins_mapLane n _ s fun _ h => h
  · exact noTestBegins_mapLane n _ s fun _ h => h

theorem noTestBegins_portStart (p : Fin 4) (s : State) : NoTestBegins s (portStart p s) := by
  unfold portStart
  dsimp only
  split
  · exact .refl s
  · split
    · exact .of_steady (steady_raise ..)
    · split
      · let u : State := { s with free := s.free + 16 + 1 }
        have hlane := noTestBegins_mapLane (s.portLane p) (fun l =>
          { l with sigDet := true, cdrLock := true, ctle := BitVec.ofNat 4 (Config.freePick (s.free + 16)) }) u fun _ h => h
        exact ⟨hlane.length, hlane.test⟩
      · exact .of_lan rfl

/-- R207: the stop of a lane's test. -/
theorem laneTestStop_spec (n : Nat) (s : State) (hn : n < s.lan.l.length) :
    NoTestBegins s (laneTestStop n s) ∧ ((laneTestStop n s).lane n).test = none := by
  unfold laneTestStop
  split
  · next h => exact ⟨.refl s, by simpa using h⟩
  · let u := laneCount n s
    let v := mapLane n (fun l => { l with test := none, prbsLock := false }) u
    have hu : NoTestBegins s u := noTestBegins_laneCount n s
    have hv : NoTestBegins u v := noTestBegins_mapLane n _ u fun _ _ => rfl
    have hnone : (v.lane n).test = none := by
      rw [show v.lane n = { u.lane n with test := none, prbsLock := false } from
        mapLane_lane n _ u (hu.length.symm ▸ hn)]
    have hw : NoTestBegins v (laneRx n v) := noTestBegins_laneRx n v
    dsimp only
    split
    · next p _ =>
      have hp := hw.trans (noTestBegins_portStart p (laneRx n v))
      exact ⟨(hu.trans hv).trans hp, hp.test n hnone⟩
    · exact ⟨(hu.trans hv).trans hw, hw.test n hnone⟩

/-- R207: after the stop of every lane test none runs on the eight lanes. -/
theorem laneTestsStop_test (s : State) (hl : s.lan.l.length = 8) (n : Nat) (hn : n < 8) :
    ((laneTestsStop s).lane n).test = none := by
  have hfold (m : Nat) (hm : m ≤ 8) : NoTestBegins s ((List.range m).foldl (fun s n => laneTestStop n s) s)
      ∧ ∀ k, k < m → (((List.range m).foldl (fun s n => laneTestStop n s) s).lane k).test = none := by
    induction m with
    | zero => exact ⟨.refl s, fun k hk => absurd hk (Nat.not_lt_zero k)⟩
    | succ m ih =>
      obtain ⟨hkept, hdone⟩ := ih (by omega)
      rw [List.range_succ, List.foldl_append]
      obtain ⟨hstep, hnone⟩ := laneTestStop_spec m _ (by rw [hkept.length]; omega)
      refine ⟨hkept.trans hstep, fun k hk => ?_⟩
      by_cases h : k = m
      · exact h ▸ hnone
      · exact hstep.test k (hdone k (by omega))
  exact (hfold 8 le_rfl).2 n hn

/-! ### The command -/

theorem exec_powerState {sub : Sub} {v : Byte} {s : State} (hr : Runs (.powerState sub v) s) :
    exec (.powerState sub v) s = .next (powerBody sub v (begun (.powerState sub v) s)) := ringCmd_runs _ hr

/-- R280: where no transition is in progress, a request in range is decided at once. -/
theorem powerBody_request (sub : Sub) (v : Byte) (s : State) (h1 : 1 ≤ v.toNat) (h4 : v.toNat ≤ 4)
    (he : s.pwr.entry = none) : powerBody sub v s = powerRequest sub v s := by
  have hrange : ¬ (v = 0 ∨ 4 < v.toNat) := by
    rintro (rfl | h)
    · exact absurd h1 (by decide)
    · omega
  rw [powerBody, if_neg hrange, he]
  rfl

theorem powerBody_pending (sub : Sub) (v : Byte) (s : State) (h1 : 1 ≤ v.toNat) (h4 : v.toNat ≤ 4)
    (he : s.pwr.entry ≠ none) : powerBody sub v s = pendPut v sub s := by
  have hrange : ¬ (v = 0 ∨ 4 < v.toNat) := by
    rintro (rfl | h)
    · exact absurd h1 (by decide)
    · omega
  rw [powerBody, if_neg hrange, if_pos (Option.isSome_iff_ne_none.mpr he)]

/-- R280: a request for SLEEP or STANDBY. -/
theorem powerRequest_low (sub : Sub) (v : Byte) (s : State) (h : v.toNat ≤ 2) : powerRequest sub v s =
    if s.entryRefused then finish 0x70 sub stWrongState 0 s
    else if s.pwr.wakeSeen = some s.clk.loc then finish 0x70 sub stAbortedByWake 0 s
    else entryBegin (v == 1) sub s := if_pos h

/-- R280: a request for IDLE or ACTIVE. -/
theorem powerRequest_high (sub : Sub) (v : Byte) (s : State) (h : 2 < v.toNat) : powerRequest sub v s =
    if s.pwr.mode == (if v == 3 then .idle else .active) && !s.movePending then finish 0x70 sub stOk 0 s
    else finish 0x70 sub stOkDeferred (BitVec.ofNat 64 (2 ^ 32 * s.nextTick.toNat))
      (armAt s.nextTick [.idle (v == 3)] false false s) := if_neg (by omega)

/-- Settles O25. -/
theorem powerStateCases : Obligations.PowerStateCases := by
  intro sub v s i hr b f
  have hx : exec i s = .next (powerBody sub v b) := exec_powerState hr
  have hb := begun_changes i s
  have hpwr : b.pwr = s.pwr := by rw [show b = begun i s from rfl, hb]
  have hclk : b.clk = s.clk := by rw [show b = begun i s from rfl, hb]
  have hlan : b.lan = s.lan := by rw [show b = begun i s from rfl, hb]
  have hlow (h : v = 1 ∨ v = 2) : 1 ≤ v.toNat ∧ v.toNat ≤ 2 := by
    obtain rfl | rfl := h <;> decide
  have hhigh (h : v = 3 ∨ v = 4) : 2 < v.toNat ∧ v.toNat ≤ 4 := by
    obtain rfl | rfl := h <;> decide
  have hentry (he : s.pwr.entry = none) : b.pwr.entry = none := hpwr ▸ he
  have hreq (h : v = 1 ∨ v = 2) (he : s.pwr.entry = none) : exec i s = .next
      (if b.entryRefused then finish 0x70 sub stWrongState 0 b
      else if b.pwr.wakeSeen = some b.clk.loc then finish 0x70 sub stAbortedByWake 0 b
      else entryBegin (v == 1) sub b) := by
    obtain ⟨h1, h2⟩ := hlow h
    rw [hx, powerBody_request sub v b h1 (by omega) (hentry he), powerRequest_low sub v b h2]
  have hmove (h : v = 3 ∨ v = 4) (he : s.pwr.entry = none) : exec i s = .next
      (if b.pwr.mode == (if v == 3 then .idle else .active) && !b.movePending then finish 0x70 sub stOk 0 b
      else finish 0x70 sub stOkDeferred (BitVec.ofNat 64 (2 ^ 32 * b.nextTick.toNat))
        (armAt b.nextTick [.idle (v == 3)] false false b)) := by
    obtain ⟨h2, h4⟩ := hhigh h
    rw [hx, powerBody_request sub v b (by omega) h4 (hentry he), powerRequest_high sub v b h2]
  refine ⟨fun h => hx.trans (congrArg _ (if_pos h)), fun h1 h4 he hp => ?_, fun u old h1 h4 he hp => ?_,
    fun h he href => ?_, fun h he href hw => ?_, fun h he href hw => ?_, fun he hm => ⟨fun h hmode => ?_, fun h hmode => ?_⟩,
    fun h he hcond => ?_⟩
  · rw [hx, powerBody_pending sub v b h1 h4 (hpwr ▸ he)]
    simp only [pendPut, hpwr, hp]
  · rw [hx, powerBody_pending sub v b h1 h4 (hpwr ▸ he)]
    simp only [pendPut, hpwr, hp]
  · exact (hreq h he).trans (congrArg _ (if_pos href))
  · exact (hreq h he).trans (congrArg _ ((if_neg (by simp [href])).trans (if_pos (by rw [hpwr, hclk]; exact hw))))
  · have hgo := (hreq h he).trans (congrArg _ ((if_neg (by simp [href])).trans (if_neg (by rw [hpwr, hclk]; exact hw))))
    let w := if (b.ring sub.ring.val).running.contains sub then b else keepRunning sub b
    have hw : steady w = steady b := by
      dsimp only [w]
      split
      · rfl
      · exact steady_keepRunning ..
    let u := w.mapPwr fun p => { p with entry := some ⟨v == 1, sub, p.mode, 0, false, w.clk.loc⟩ }
    have hu : entryBegin (v == 1) sub b = laneTestsStop u := rfl
    have hstop : (laneTestsStop u).pwr = u.pwr := pwr_of_calm (laneTestsStop_calm u)
    have hwp : w.pwr = s.pwr := (congrArg (fun x => x.pwr) hw).trans hpwr
    have hwc : w.clk = s.clk := (congrArg (fun x => x.clk) hw).trans hclk
    have hwl : w.lan = s.lan := (congrArg (fun x => x.lan) hw).trans hlan
    refine ⟨_, hgo, ?_, ?_, fun n hn hl => ?_⟩
    · rw [hu, hstop]
      exact congrArg some (by rw [hwp, hwc])
    · rw [hu, hstop]
      exact congrArg (fun p => p.mode) hwp
    · exact laneTestsStop_test u ((congrArg (fun x => x.l.length) hwl).trans hl) n hn
  · subst h
    exact (hmove (.inl rfl) he).trans (congrArg _ (if_pos (by rw [hpwr, hmode, hm]; rfl)))
  · subst h
    exact (hmove (.inr rfl) he).trans (congrArg _ (if_pos (by rw [hpwr, hmode, hm]; rfl)))
  · refine (hmove h he).trans (congrArg _ (if_neg fun hc => ?_))
    rw [Bool.and_eq_true, beq_iff_eq, hpwr] at hc
    obtain ⟨hmode, hpend⟩ := hc
    obtain hcond | hcond := hcond
    · simp [hcond] at hpend
    · refine hcond (hmode.trans ?_)
      obtain rfl | rfl := h <;> rfl

end Sys2Proof.Laws
end

section
/-!
Lane tests and eye scans: O33.
-/
namespace Sys2Proof.Laws
open Sys2Proof.Machine Sys2Proof.Claims

/-! ### What ports leave of the lanes -/

theorem lan_of_steady {s t : State} (h : steady t = steady s) : t.lan = s.lan := by
  have hl : (steady t).lan = (steady s).lan := by rw [h]
  exact hl

theorem foldl_lan {α : Type} (f : State → α → State) (h : ∀ s a, (f s a).lan = s.lan) (l : List α) (s : State) :
    (l.foldl f s).lan = s.lan := by
  induction l generalizing s with
  | nil => rfl
  | cons a l ih => exact (ih (f s a)).trans (h s a)

theorem treeSet_lan (parent : Option (Fin 4)) (dist : Nat) (s : State) : (treeSet parent dist s).lan = s.lan :=
  (foldl_lan _ (fun _ _ => rfl) allPorts (s.mapTm fun t => { t with parent := parent, dist := dist })).trans rfl

theorem treeLose_lan (s : State) : (treeLose s).lan = s.lan :=
  (treeSet_lan ..).trans (foldl_lan _ (fun _ _ => rfl) allPorts s)

theorem helloAll_lan (s : State) : (helloAll s).lan = s.lan := by
  refine foldl_lan _ (fun s p => ?_) allPorts s
  split
  · unfold helloOut
    split
    · rfl
    · rfl
  · rfl

theorem raiseOnce_lan (src : Nat) (d : List Byte) (s : State) : (raiseOnce src d s).lan = s.lan := by
  unfold raiseOnce
  split
  · rfl
  · exact (lan_of_steady (steady_raise src d (heldSet src true s))).trans rfl

theorem treeUpdate_lan (s : State) : (treeUpdate s).lan = s.lan := by
  have hello (c : Prop) [Decidable c] (u : State) (h : u.lan = s.lan) : (if c then u else helloAll u).lan = s.lan := by
    split
    · exact h
    · exact (helloAll_lan u).trans h
  have heldClear (u : State) : (heldSet fTeamCfg false u).lan = u.lan := rfl
  unfold treeUpdate
  split
  · rfl
  · dsimp only
    refine hello _ _ ?_
    split
    · exact treeSet_lan ..
    · split
      · exact treeLose_lan s
      · split
        · exact (raiseOnce_lan ..).trans (treeLose_lan s)
        · exact (heldClear _).trans (treeSet_lan ..)

/-- What a test writes on its lane. -/
def laneCore (l : Lane) : Option LaneTest × Word × Nat × Half × Bool :=
  (l.test, l.errCnt, l.bitCount, l.lockLoss, l.prbsLock)

/-- The tests of the lanes stay, with their counters. -/
structure CoresKept (s t : State) : Prop where
  length : t.lan.l.length = s.lan.l.length
  core : ∀ k, laneCore (t.lane k) = laneCore (s.lane k)

theorem CoresKept.refl (s : State) : CoresKept s s := ⟨rfl, fun _ => rfl⟩

theorem CoresKept.trans {s t u : State} (h : CoresKept s t) (h' : CoresKept t u) : CoresKept s u :=
  ⟨h'.length.trans h.length, fun k => (h'.core k).trans (h.core k)⟩

theorem CoresKept.of_lan {s t : State} (h : t.lan = s.lan) : CoresKept s t :=
  ⟨by rw [h], fun k => by rw [State.lane, h]; rfl⟩

theorem mapLane_beyond {n : Nat} (f : Lane → Lane) (s : State) (h : ¬ n < s.lan.l.length) : mapLane n f s = s := by
  show { s with lan := { s.lan with l := s.lan.l.modify n f } } = s
  rw [List.modify_eq_self (Nat.le_of_not_lt h)]

theorem coresKept_mapLane (n : Nat) (f : Lane → Lane) (s : State) (hf : ∀ l, laneCore (f l) = laneCore l) :
    CoresKept s (mapLane n f s) := by
  refine ⟨mapLane_length .., fun k => ?_⟩
  by_cases h : k = n
  · subst h
    by_cases hlen : k < s.lan.l.length
    · rw [mapLane_lane k f s hlen, hf]
    · rw [mapLane_beyond f s hlen]
  · rw [mapLane_lane_other h]

/-- R296: the start of a port touches its own lane alone, and no test. -/
theorem portStart_lanes (p : Fin 4) (s : State) :
    CoresKept s (portStart p s) ∧ ∀ k, k ≠ s.portLane p → (portStart p s).lane k = s.lane k := by
  unfold portStart
  dsimp only
  split
  · exact ⟨.refl s, fun _ _ => rfl⟩
  · split
    · have h := lan_of_steady (steady_raise fTraceLink (b1 p.val ++ b1 5 ++ b2 0
        ++ b4 (if 5 = 7 then 0 else (((s.port p).rxFcnt.getD 0).toNat))) s)
      exact ⟨.of_lan h, fun k _ => congrArg (fun x => x.l.getD k Lane.reset) h⟩
    · split
      · let u : State := { s with free := s.free + 16 + 1 }
        let f (l : Lane) : Lane :=
          { l with sigDet := true, cdrLock := true, ctle := BitVec.ofNat 4 (Config.freePick (s.free + 16)) }
        have hlan : (portBegin p s).lan = (mapLane (s.portLane p) f u).lan := rfl
        have hcore : CoresKept u (mapLane (s.portLane p) f u) := coresKept_mapLane _ f u fun _ => rfl
        refine ⟨CoresKept.trans ⟨hcore.length, hcore.core⟩ (.of_lan hlan), fun k hk => ?_⟩
        exact (congrArg (fun x => x.l.getD k Lane.reset) hlan).trans (mapLane_lane_other hk f u)
      · exact ⟨.of_lan rfl, fun _ _ => rfl⟩

theorem coresKept_portDownOp (p : Fin 4) (reason : Nat) (s : State) (h : reason ≠ 0) :
    CoresKept s (portDownOp p reason s) := by
  have hr : (reason = 0 && !s.laneTested (s.portLane p)) = false := by simp [h]
  unfold portDownOp
  simp only [hr, Bool.false_eq_true, if_false]
  split
  · exact .of_lan rfl
  · refine CoresKept.trans (.of_lan ?_) (portStart_lanes ..).1
    rw [treeUpdate_lan]
    split
    · refine (lan_of_steady (steady_stateFlood ..)).trans ?_
      split
      · exact lan_of_steady (steady_raise ..)
      · rfl
    · split
      · exact lan_of_steady (steady_raise ..)
      · rfl

/-! ### The lane tests (R204 to R207) -/

theorem laneRx_lanes (n : Nat) (s : State) :
    CoresKept s (laneRx n s) ∧ ∀ k, k ≠ n → (laneRx n s).lane k = s.lane k := by
  unfold laneRx laneQuiet
  split
  · exact ⟨coresKept_mapLane n _ s fun _ => rfl, fun k hk => mapLane_lane_other hk _ s⟩
  · exact ⟨coresKept_mapLane n _ s fun _ => rfl, fun k hk => mapLane_lane_other hk _ s⟩

theorem lanePort_lane {s : State} {n : Nat} {p : Fin 4} (h : s.lanePort n = some p) : s.portLane p = n := by
  have := List.find?_some h
  rw [Bool.and_eq_true, beq_iff_eq] at this
  exact this.2

/-- R207: the end of the test of lane `n` leaves the other lanes. -/
theorem laneTestStop_lanes (n : Nat) (s : State) (hn : n < s.lan.l.length) :
    let t := laneTestStop n s
    t.lan.l.length = s.lan.l.length ∧ (t.lane n).test = none
    ∧ ((s.lane n).test ≠ none → (t.lane n).prbsLock = false) ∧ ∀ k, k ≠ n → t.lane k = s.lane k := by
  intro t
  obtain ⟨hkept, hnone⟩ := laneTestStop_spec n s hn
  refine ⟨hkept.length, hnone, ?_⟩
  have ht : t = laneTestStop n s := rfl
  unfold laneTestStop at ht
  split at ht
  · next h =>
    rw [ht]
    exact ⟨fun hne => absurd (by simpa using h) hne, fun _ _ => rfl⟩
  · let u := laneCount n s
    obtain ⟨-, hulen, -, -, -, huother⟩ := laneCount_spec n s hn
    let v := mapLane n (fun l => { l with test := none, prbsLock := false }) u
    have hvn : v.lane n = { u.lane n with test := none, prbsLock := false } :=
      mapLane_lane n _ u (by show n < (laneCount n s).lan.l.length; omega)
    obtain ⟨hwcore, hwother⟩ := laneRx_lanes n v
    have hlock : ((laneRx n v).lane n).prbsLock = false := by
      have := congrArg (fun c => c.2.2.2.2) (hwcore.core n)
      exact this.trans (by rw [hvn]; rfl)
    have hrest (k : Nat) (hk : k ≠ n) : (laneRx n v).lane k = s.lane k :=
      (hwother k hk).trans ((mapLane_lane_other hk _ u).trans (huother k hk))
    dsimp only at ht
    split at ht
    · next p hp =>
      obtain ⟨hpcore, hpother⟩ := portStart_lanes p (laneRx n v)
      have hlane : (laneRx n v).portLane p = n := lanePort_lane hp
      rw [ht]
      refine ⟨fun _ => (congrArg (fun c => c.2.2.2.2) (hpcore.core n)).trans hlock, fun k hk => ?_⟩
      exact (hpother k (hlane.symm ▸ hk)).trans (hrest k hk)
    · rw [ht]
      exact ⟨fun _ => hlock, hrest⟩

/-- R207: the end of the tests of the lanes `l`. -/
theorem laneTestStop_fold (l : List Nat) (s : State) (hl : ∀ n ∈ l, n < s.lan.l.length) (k : Nat) :
    ((l.foldl (fun s n => laneTestStop n s) s).lane k).test = if k ∈ l then none else (s.lane k).test := by
  induction l generalizing s with
  | nil => simp
  | cons n l ih =>
    obtain ⟨hlen, hnone, -, hother⟩ := laneTestStop_lanes n s (hl n List.mem_cons_self)
    rw [List.foldl_cons, ih _ fun m hm => hlen.symm ▸ hl m (List.mem_cons_of_mem _ hm)]
    by_cases hk : k ∈ l
    · simp [hk]
    · by_cases h : k = n
      · subst h
        simp [hk, hnone]
      · simp [hk, h, hother k h]

/-- R205, R207: the start of a test on lane `n`. -/
theorem laneTestStart_lanes (e : LaneTest) (n : Nat) (s : State) (hn : n < s.lan.l.length) :
    let t := laneTestStart e n s
    t.lan.l.length = s.lan.l.length ∧ laneCore (t.lane n) = (some e, 0, 0, 0, false)
    ∧ ∀ k, k ≠ n → laneCore (t.lane k) = laneCore (s.lane k) := by
  let rx := testRx e (((s.lanePort n).map fun p => (s.port p).signal).getD (Config.freePick s.free % 2 == 1))
  let u : State := { s with free := s.free + 1 }
  let v := mapLane n (fun l =>
    { l with
      test := some e, errCnt := 0, bitCount := 0, bitsLo := 0, bitsHi := 0, lockLoss := 0, prbsLock := false
      sigDet := rx, cdrLock := rx }) u
  have hv : v.lan.l.length = s.lan.l.length := mapLane_length ..
  have hvn : laneCore (v.lane n) = (some e, 0, 0, 0, false) := congrArg laneCore (mapLane_lane n _ u hn)
  have hvk (k : Nat) (hk : k ≠ n) : v.lane k = s.lane k := mapLane_lane_other hk _ u
  have ht : laneTestStart e n s = match s.lanePort n with
    | some p => portDownOp p 6 v
    | none => v := rfl
  dsimp only
  rw [ht]
  cases s.lanePort n with
  | none => exact ⟨hv, hvn, fun k hk => congrArg laneCore (hvk k hk)⟩
  | some p =>
    have hp := coresKept_portDownOp p 6 v (by decide)
    exact ⟨hp.length.trans hv, (hp.core n).trans hvn, fun k hk => (hp.core k).trans (congrArg laneCore (hvk k hk))⟩

theorem laneTestStart_fold (e : LaneTest) (l : List Nat) (s : State) (hl : ∀ n ∈ l, n < s.lan.l.length) (k : Nat) :
    laneCore ((l.foldl (fun s n => laneTestStart e n s) s).lane k)
      = if k ∈ l then (some e, 0, 0, 0, false) else laneCore (s.lane k) := by
  induction l generalizing s with
  | nil => simp
  | cons n l ih =>
    obtain ⟨hlen, hcore, hother⟩ := laneTestStart_lanes e n s (hl n List.mem_cons_self)
    rw [List.foldl_cons, ih _ fun m hm => hlen.symm ▸ hl m (List.mem_cons_of_mem _ hm)]
    by_cases hk : k ∈ l
    · simp [hk]
    · by_cases h : k = n
      · subst h
        simp [hk, hcore]
      · simp [hk, h, hother k h]

end Sys2Proof.Laws
end

section
/-!
Lane tests and eye scans, their commands and events: O33.
-/
namespace Sys2Proof.Laws
open Sys2Proof.Machine Sys2Proof.Claims

@[simp] theorem begun_lan (i : Instr) (s : State) : (begun i s).lan = s.lan := by rw [begun_changes]

@[simp] theorem begun_lane (i : Instr) (s : State) (n : Nat) : (begun i s).lane n = s.lane n :=
  congrArg (fun x => x.l.getD n Lane.reset) (begun_lan i s)

theorem mem_lanesOf (m : Byte) (n : Nat) : n ∈ lanesOf m ↔ n < 8 ∧ m.getLsbD n = true := by simp [lanesOf]

theorem lanesOf_isEmpty (m : Byte) : (lanesOf m).isEmpty = true ↔ m = 0 := by
  rw [List.isEmpty_iff, List.eq_nil_iff_forall_not_mem]
  refine ⟨fun h => BitVec.eq_of_getLsbD_eq fun i hi => ?_, fun h n => by simp [mem_lanesOf, h]⟩
  have := h i
  rw [mem_lanesOf] at this
  simpa [hi] using this

theorem laneTested_iff (s : State) (n : Nat) : s.laneTested n = true ↔ (s.lane n).test ≠ none := by
  rw [← Option.isSome_iff_ne_none]
  exact Iff.rfl

/-- The bits of the mask that names the lanes of `l`. -/
theorem laneMask_bit (p : Nat → Bool) (m n : Nat) (hn : n < 64) :
    (BitVec.ofNat 64 ((((List.range m).filter p).map fun n => 2 ^ n).sum)).getLsbD n = true
      ↔ n < m ∧ p n = true := by
  have hsort : List.SortedLT ((List.range m).filter p) :=
    (List.pairwise_lt_range.sublist List.filter_sublist).sortedLT
  rw [BitVec.getLsbD_ofNat, decide_eq_true hn, Bool.true_and, ← Nat.mem_bitIndices,
    Nat.bitIndices_sum_map_two_pow hsort, List.mem_filter, List.mem_range]

theorem laneRefused_status {s : State} {force : Bool} {n : Nat} {st : Half} (h : s.laneRefused force n = some st) :
    st = stInUse ∨ st = stWrongState := by
  unfold State.laneRefused at h
  split at h
  · exact .inl (Option.some.inj h).symm
  · split at h
    · exact .inr (Option.some.inj h).symm
    · split at h
      · exact .inl (Option.some.inj h).symm
      · cases h

theorem linkStopOk_iff (o : LinkTestOps) : linkStopOk o = true
    ↔ o.pattern = 0 ∧ o.flags = 0 ∧ o.loopback = 0 ∧ o.rate = 0 ∧ o.duration = 0 := by
  simp [linkStopOk, and_assoc]

theorem linkStartOk_iff (o : LinkTestOps) : linkStartOk o = true
    ↔ o.pattern.toNat ≤ 5 ∧ o.flags.toNat ≤ 15 ∧ o.loopback.toNat ≤ 3 ∧ o.rate.toNat ≤ 5
      ∧ ¬ ((o.flags.getLsbD 0 = true ∨ o.flags.getLsbD 1 = true) ∧ o.pattern = 0)
      ∧ ¬ (o.loopback = 3 ∧ o.flags.getLsbD 0 = true) := by
  simp [linkStartOk, and_assoc]
  grind

theorem exec_linkTest {sub : Sub} {o : LinkTestOps} {s : State} (hr : Runs (.linkTest sub o) s) :
    exec (.linkTest sub o) s = .next (linkTestBody sub o (begun (.linkTest sub o) s)) := ringCmd_runs _ hr

/-- `LINK_TEST`, a stop (R207, R288). -/
theorem linkTest_stop {sub : Sub} {o : LinkTestOps} {b : State} (hlen : b.lan.l.length = 8) (hl : o.lanes ≠ 0)
    (ha : o.action = 0) (hok : linkStopOk o = true) :
    ∃ t res, linkTestBody sub o b = finish 0x98 sub stOk res t
      ∧ (∀ n, n < 64 → (res.getLsbD n = true ↔ (n < 8 ∧ o.lanes.getLsbD n = true) ∧ (b.lane n).test ≠ none))
      ∧ ∀ n, n < 8 → (t.lane n).test = if o.lanes.getLsbD n then none else (b.lane n).test := by
  let run := (lanesOf o.lanes).filter fun n => b.laneTested n
  have hgo : ¬ ((lanesOf o.lanes).isEmpty = true ∨ 1 < o.action.toNat) := by
    rw [lanesOf_isEmpty, ha]
    exact fun h => h.elim hl (by decide)
  refine ⟨run.foldl (fun s n => laneTestStop n s) b, BitVec.ofNat 64 (run.map fun n => 2 ^ n).sum, ?_, fun n hn => ?_,
    fun n hn => ?_⟩
  · unfold linkTestBody
    dsimp only
    rw [if_neg hgo, if_pos ha, if_neg (by simp [hok])]
  · have hrun : run = (List.range 8).filter fun n => b.laneTested n && o.lanes.getLsbD n := List.filter_filter ..
    rw [hrun, laneMask_bit _ 8 n hn, Bool.and_eq_true, laneTested_iff]
    tauto
  · rw [laneTestStop_fold run b (fun m hm => by
      have := ((mem_lanesOf ..).1 (List.mem_of_mem_filter hm)).1
      omega)]
    have hmem : n ∈ run ↔ o.lanes.getLsbD n = true ∧ (b.lane n).test ≠ none := by
      rw [List.mem_filter, mem_lanesOf, laneTested_iff]
      tauto
    by_cases hn : o.lanes.getLsbD n = true
    · rw [if_pos hn]
      split
      · rfl
      · next h => exact Classical.byContradiction fun hne => h (hmem.2 ⟨hn, hne⟩)
    · rw [if_neg hn, if_neg fun h => hn (hmem.1 h).1]

/-- `LINK_TEST`, a start (R203 to R207, R288). -/
theorem linkTest_start {sub : Sub} {o : LinkTestOps} {b : State} (hl : o.lanes ≠ 0) (ha : o.action = 1)
    (hok : linkStartOk o = true) :
    linkTestBody sub o b = match ((lanesOf o.lanes).filterMap (b.laneRefused (o.flags.getLsbD 3))).head? with
      | some st => finish 0x98 sub st 0 b
      | none => finish 0x98 sub stOk (o.lanes.zeroExtend 64)
          ((lanesOf o.lanes).foldl (fun s n => laneTestStart (testOf o) n s) b) := by
  have hgo : ¬ ((lanesOf o.lanes).isEmpty = true ∨ 1 < o.action.toNat) := by
    rw [lanesOf_isEmpty, ha]
    exact fun h => h.elim hl (by decide)
  exact (if_neg hgo).trans ((if_neg (by rw [ha]; decide)).trans (if_neg (by simp [hok])))

theorem linkTest_clauses (sub : Sub) (s : State) (hlen : s.lan.l.length = 8) (o : LinkTestOps)
    (hr : Runs (.linkTest sub o) s) :
    let i : Instr := .linkTest sub o
    let b := begun i s
    let named (n : Nat) : Prop := n < 8 ∧ o.lanes.getLsbD n = true
    let force := o.flags.getLsbD 3
    (o.lanes = 0 ∨ 1 < o.action.toNat → exec i s = .next (finish 0x98 sub stBadOperand 0 b))
    ∧ (o.lanes ≠ 0 → o.action = 0 → ¬ linkStopOk o → exec i s = .next (finish 0x98 sub stBadOperand 0 b))
    ∧ (o.lanes ≠ 0 → o.action = 0 → linkStopOk o → ∃ t res, exec i s = .next (finish 0x98 sub stOk res t)
        ∧ (∀ n, n < 64 → (res.getLsbD n = true ↔ named n ∧ (s.lane n).test ≠ none))
        ∧ ∀ n, n < 8 → (t.lane n).test = (if o.lanes.getLsbD n then none else (s.lane n).test))
    ∧ (o.lanes ≠ 0 → o.action = 1 → ¬ linkStartOk o → exec i s = .next (finish 0x98 sub stBadOperand 0 b))
    ∧ (o.lanes ≠ 0 → o.action = 1 → linkStartOk o → (∃ n, named n ∧ b.laneRefused force n ≠ none) →
        ∃ st, exec i s = .next (finish 0x98 sub st 0 b) ∧ (st = stInUse ∨ st = stWrongState))
    ∧ (o.lanes ≠ 0 → o.action = 1 → linkStartOk o → (∀ n, named n → b.laneRefused force n = none) →
        ∃ t, exec i s = .next (finish 0x98 sub stOk (o.lanes.zeroExtend 64) t)
          ∧ ∀ n, named n → (t.lane n).test = some (testOf o) ∧ (t.lane n).errCnt = 0 ∧ (t.lane n).bitCount = 0
              ∧ (t.lane n).lockLoss = 0 ∧ (t.lane n).prbsLock = false) := by
  intro i b named force
  have hx : exec i s = .next (linkTestBody sub o b) := exec_linkTest hr
  have hblen : b.lan.l.length = 8 := (congrArg (fun x => x.l.length) (begun_lan i s)).trans hlen
  have hlane (n : Nat) : b.lane n = s.lane n := begun_lane i s n
  have hgo (hl : o.lanes ≠ 0) (ha : ¬ 1 < o.action.toNat) :
      ¬ ((lanesOf o.lanes).isEmpty = true ∨ 1 < o.action.toNat) := by
    rw [lanesOf_isEmpty]
    exact fun h => h.elim hl ha
  rw [hx]
  refine ⟨fun h => congrArg Host.Outcome.next (if_pos (by rw [lanesOf_isEmpty]; exact h)), fun hl ha hok => ?_,
    fun hl ha hok => ?_, fun hl ha hok => ?_, fun hl ha hok hbad => ?_, fun hl ha hok hgood => ?_⟩
  · exact congrArg Host.Outcome.next ((if_neg (hgo hl (by rw [ha]; decide))).trans
      ((if_pos ha).trans (if_pos (by simpa using hok))))
  · obtain ⟨t, res, hb, hres, ht⟩ := linkTest_stop (sub := sub) hblen hl ha hok
    refine ⟨t, res, congrArg Host.Outcome.next hb, fun n hn => ?_, fun n hn => ?_⟩
    · rw [← hlane]
      exact hres n hn
    · rw [← hlane]
      exact ht n hn
  · exact congrArg Host.Outcome.next ((if_neg (hgo hl (by rw [ha]; decide))).trans
      ((if_neg (by rw [ha]; decide)).trans (if_pos (by simpa using hok))))
  · rw [linkTest_start hl ha hok]
    obtain ⟨n, hn, hne⟩ := hbad
    obtain ⟨st, hst⟩ := Option.ne_none_iff_exists'.1 hne
    have hmem : st ∈ (lanesOf o.lanes).filterMap (b.laneRefused force) :=
      List.mem_filterMap.2 ⟨n, (mem_lanesOf ..).2 hn, hst⟩
    cases hh : ((lanesOf o.lanes).filterMap (b.laneRefused force)).head? with
    | none =>
      rw [List.head?_eq_none_iff] at hh
      rw [hh] at hmem
      cases hmem
    | some st' =>
      obtain ⟨m, -, hm⟩ := List.mem_filterMap.1 (List.mem_of_head? hh)
      exact ⟨st', rfl, laneRefused_status hm⟩
  · rw [linkTest_start hl ha hok]
    have hnil : (lanesOf o.lanes).filterMap (b.laneRefused force) = [] :=
      List.filterMap_eq_nil_iff.2 fun n hn => hgood n ((mem_lanesOf ..).1 hn)
    rw [hnil]
    refine ⟨_, rfl, fun n hn => ?_⟩
    have hfold := laneTestStart_fold (testOf o) (lanesOf o.lanes) b
      (fun m hm => by have := ((mem_lanesOf ..).1 hm).1; omega) n
    rw [if_pos ((mem_lanesOf ..).2 hn)] at hfold
    exact ⟨congrArg (fun c => c.1) hfold, congrArg (fun c => c.2.1) hfold, congrArg (fun c => c.2.2.1) hfold,
      congrArg (fun c => c.2.2.2.1) hfold, congrArg (fun c => c.2.2.2.2) hfold⟩

/-! ### `EYE_SCAN` -/

theorem exec_eyeScan {sub : Sub} {lane form : Byte} {h : Half} {off : Word} {s : State}
    (hr : Runs (.eyeScan sub lane form h off) s) :
    exec (.eyeScan sub lane form h off) s
      = .next (eyeScanBody sub lane form h off (begun (.eyeScan sub lane form h off) s)) := ringCmd_runs _ hr

/-- Where a scan may put its results (R289). -/
def EyePlaced (form : Byte) (h : Half) (off : Word) (b : State) : Prop :=
  (form = 0 ∧ h = 0 ∧ off = 0)
  ∨ (form = 1 ∧ off.toNat % 64 = 0 ∧ ∃ g, b.handle h = some g ∧ off.toNat + 16256 ≤ g.size)

theorem eyeScan_placed {sub : Sub} {lane form : Byte} {h : Half} {off : Word} {b : State} (hl : lane.toNat ≤ 7)
    (hp : EyePlaced form h off b) :
    eyeScanBody sub lane form h off b = eyeStart sub lane.toNat (form == 1) h off.toNat b := by
  unfold eyeScanBody
  obtain ⟨rfl, rfl, rfl⟩ | ⟨rfl, hoff, g, hg, hsize⟩ := hp
  · exact (if_neg fun h => h.elim (Nat.not_lt.2 hl) (by decide)).trans
      ((if_pos rfl).trans (if_neg (by decide)))
  · refine (if_neg fun h => h.elim (Nat.not_lt.2 hl) (by decide)).trans ((if_neg (by decide)).trans ?_)
    rw [hg]
    exact if_neg fun h => h.elim (absurd hoff) (Nat.not_lt.2 hsize)

theorem eyeScan_clauses (sub : Sub) (lane form : Byte) (h : Half) (off : Word) (s : State)
    (hr : Runs (.eyeScan sub lane form h off) s) :
    let i : Instr := .eyeScan sub lane form h off
    let b := begun i s
    let quick := form = 0 ∧ h = 0 ∧ off = 0
    (7 < lane.toNat ∨ 1 < form.toNat ∨ (form = 0 ∧ ¬ quick) → exec i s = .next (finish 0x99 sub stBadOperand 0 b))
    ∧ (lane.toNat ≤ 7 → form = 1 → b.handle h = none → exec i s = .next (finish 0x99 sub stBadHandle 0 b))
    ∧ (∀ g, lane.toNat ≤ 7 → form = 1 → b.handle h = some g → (off.toNat % 64 ≠ 0 ∨ g.size < off.toNat + 16256) →
        exec i s = .next (finish 0x99 sub stBadOperand 0 b))
    ∧ (lane.toNat ≤ 7 → EyePlaced form h off b → (s.lane lane.toNat).cdrLock = false →
        exec i s = .next (finish 0x99 sub stWrongState 0 b))
    ∧ (lane.toNat ≤ 7 → EyePlaced form h off b → (s.lane lane.toNat).cdrLock = true →
        (s.lane lane.toNat).scan ≠ none → exec i s = .next (finish 0x99 sub stBusy 0 b))
    ∧ (lane.toNat ≤ 7 → EyePlaced form h off b → (s.lane lane.toNat).cdrLock = true →
        (s.lane lane.toNat).scan = none →
        exec i s = .next (keepRunning sub ((mapLane lane.toNat
          (fun l => { l with scan := some ⟨b.pool.nextMove, sub, form == 1, h, off.toNat⟩ }) b).mapPool
            fun p => { p with nextMove := p.nextMove + 1 }))) := by
  intro i b quick
  have hx : exec i s = .next (eyeScanBody sub lane form h off b) := exec_eyeScan hr
  have hlane : b.lane lane.toNat = s.lane lane.toNat := begun_lane i s _
  have hform (hl : lane.toNat ≤ 7) (hf : form = 1) (u : State) (hu : (match b.handle h with
      | none => finish 0x99 sub stBadHandle 0 b
      | some g =>
        if off.toNat % 64 ≠ 0 ∨ g.size < off.toNat + eyeBytes then finish 0x99 sub stBadOperand 0 b
        else eyeStart sub lane.toNat true h off.toNat b) = u) : eyeScanBody sub lane form h off b = u := by
    rw [← hu, hf]
    exact (if_neg fun h => h.elim (Nat.not_lt.2 hl) (by decide)).trans (if_neg (by decide))
  rw [hx]
  refine ⟨fun hbad => congrArg Host.Outcome.next ?_, fun hl hf hh => congrArg Host.Outcome.next ?_,
    fun g hl hf hg hbad => congrArg Host.Outcome.next ?_, fun hl hp hlock => congrArg Host.Outcome.next ?_,
    fun hl hp hlock hscan => congrArg Host.Outcome.next ?_, fun hl hp hlock hscan => congrArg Host.Outcome.next ?_⟩
  · by_cases hrange : 7 < lane.toNat ∨ 1 < form.toNat
    · exact if_pos hrange
    · obtain ⟨hf, hq⟩ : form = 0 ∧ ¬ quick := by tauto
      have hne : h ≠ 0 ∨ off ≠ 0 := by
        by_contra hcon
        rw [not_or, not_not, not_not] at hcon
        exact hq ⟨hf, hcon⟩
      exact (if_neg hrange).trans ((if_pos hf).trans (if_pos hne))
  · exact hform hl hf _ (by rw [hh])
  · exact hform hl hf _ (by rw [hg]; exact if_pos hbad)
  · rw [eyeScan_placed hl hp]
    exact if_pos (by rw [hlane, hlock]; rfl)
  · rw [eyeScan_placed hl hp]
    exact (if_neg (by rw [hlane, hlock]; decide)).trans (if_pos (by rw [hlane]; exact Option.isSome_iff_ne_none.2 hscan))
  · rw [eyeScan_placed hl hp]
    exact (if_neg (by rw [hlane, hlock]; decide)).trans (if_neg (by rw [hlane, hscan]; decide))

/-! ### The checker (R204) -/

theorem prbsErrors_length (code : Nat) (invert locked : Bool) (line past : List Bool) :
    (prbsErrors code invert locked past line).length = line.length := by
  induction line generalizing past with
  | nil => rfl
  | cons x rest ih => exact congrArg (· + 1) (ih _)

theorem receives_length (t : LaneTest) (k n : Nat) (past : List Bool) : (t.receives k n past).length ≤ n := by
  unfold LaneTest.receives
  dsimp only
  split
  · rw [List.length_zipWith, List.length_map, List.length_range]
    exact Nat.min_le_right ..
  · rw [List.length_map, List.length_range]

theorem errors_le (t : LaneTest) (k n : Nat) : t.errors k n ≤ n :=
  (List.length_filter_le ..).trans ((prbsErrors_length ..).le.trans (receives_length ..))

/-- R204, R205: no more errors are counted than bits. -/
theorem laneCount_errors (n : Nat) (s : State) (hn : n < s.lan.l.length) :
    let t := laneCount n s
    (s.lane n).bitCount ≤ (t.lane n).bitCount ∧ (t.lane n).lockLoss = (s.lane n).lockLoss
    ∧ (t.lane n).errCnt.toNat - (s.lane n).errCnt.toNat
        ≤ (t.lane n).bitCount / 10000 - (s.lane n).bitCount / 10000 := by
  intro t
  have ht : t = laneCount n s := rfl
  unfold laneCount at ht
  dsimp only at ht
  split at ht
  · simp [ht]
  · next e he =>
    split at ht
    · simp [ht]
    · have hdraw (f : Lane → Lane) : (mapLane n f s.draw.2.draw.2).lane n = f (s.lane n) :=
        mapLane_lane n f s.draw.2.draw.2 hn
      rw [ht, hdraw]
      have herr := errors_le e s.draw.1
        (((s.lane n).bitCount + (s.clk.loc - (s.lane n).since) * rateBits (s.laneRate n)) / 10000
          - (s.lane n).bitCount / 10000)
      have hlt := (s.lane n).errCnt.isLt
      refine ⟨Nat.le_add_right .., rfl, ?_⟩
      simp only [BitVec.toNat_ofNat]
      omega

theorem halfSaturates (h : Half) :
    (if h = 0xFFFF then h else h + 1 : Half).toNat = min 0xFFFF (h.toNat + 1) := by
  split
  · next hm => rw [hm]; rfl
  · bv_omega

theorem prbsLockLoss_clause (n : Fin 8) (s : State) (hlen : s.lan.l.length = 8) (h : (s.lane n.val).prbsLock = true) :
    ∃ t, exec (.prbsLockLoss n) s = .next t
      ∧ (t.lane n.val).prbsLock = false
      ∧ (t.lane n.val).lockLoss.toNat = min 0xFFFF ((s.lane n.val).lockLoss.toNat + 1)
      ∧ (s.lane n.val).errCnt.toNat ≤ (t.lane n.val).errCnt.toNat ∧ (s.lane n.val).bitCount ≤ (t.lane n.val).bitCount
      ∧ (t.lane n.val).errCnt.toNat - (s.lane n.val).errCnt.toNat
          ≤ (t.lane n.val).bitCount / 10000 - (s.lane n.val).bitCount / 10000
      ∧ ∀ k, k < 8 → k ≠ n.val → t.lane k = s.lane k := by
  have hn : n.val < s.lan.l.length := hlen.symm ▸ n.isLt
  obtain ⟨-, hclen, herr, -, -, hother⟩ := laneCount_spec n.val s hn
  obtain ⟨hbits, hloss, hrate⟩ := laneCount_errors n.val s hn
  let u := mapLane n.val (fun l =>
    { l with prbsLock := false, lockLoss := if l.lockLoss = 0xFFFF then l.lockLoss else l.lockLoss + 1 })
    (laneCount n.val s)
  have hx : exec (.prbsLockLoss n) s = .next u := congrArg Host.Outcome.next (if_neg (by rw [h]; decide))
  have hun := mapLane_lane n.val (fun l : Lane =>
    { l with prbsLock := false, lockLoss := if l.lockLoss = 0xFFFF then l.lockLoss else l.lockLoss + 1 })
    (laneCount n.val s) (by rw [hclen]; exact hn)
  refine ⟨u, hx, ?_⟩
  rw [hun]
  refine ⟨rfl, ?_, herr, hbits, hrate, fun k _ hk => (mapLane_lane_other hk _ _).trans (hother k hk)⟩
  rw [← hloss]
  exact halfSaturates _

/-! ### The end of a scan (R208) -/

/-- A point of a line of counts is open. -/
def Seen (l : List Half) (k : Nat) : Prop := (l.getD k 0).toNat < 16

theorem takeWhile_length_gt {α : Type} (p : α → Bool) (l : List α) (m : Nat) (hm : m < l.length)
    (h : ∀ i, i ≤ m → ∀ hi : i < l.length, p l[i] = true) : m < (l.takeWhile p).length := by
  induction l generalizing m with
  | nil => cases hm
  | cons a l ih =>
    have ha : p a = true := h 0 (Nat.zero_le m) (Nat.zero_lt_succ _)
    rw [List.takeWhile_cons_of_pos ha]
    cases m with
    | zero => exact Nat.zero_lt_succ _
    | succ m =>
      exact Nat.succ_lt_succ (ih m (Nat.lt_of_succ_lt_succ hm) fun i hi hil =>
        h (i + 1) (Nat.succ_le_succ hi) (Nat.succ_lt_succ hil))

theorem seen_pointOpen {l : List Half} {k : Nat} (hk : k < l.length) :
    pointOpen ((l.map BitVec.toNat)[k]'(by rw [List.length_map]; exact hk)) = true ↔ Seen l k := by
  rw [Seen, pointOpen, decide_eq_true_eq, List.getElem_map, List.getD_eq_getElem _ _ hk]

/-- R208: the span of open points through the centre `c`. -/
theorem openSpan_spec (l : List Half) (c : Nat) (hc : c < l.length) :
    let w := openSpan (l.map BitVec.toNat) c
    w ≤ l.length ∧ (w = 0 ↔ ¬ Seen l c)
    ∧ ∀ k, k < l.length → (∀ i, min k c ≤ i → i ≤ max k c → Seen l i) → max k c - min k c < w := by
  intro w
  have hlen : (l.map BitVec.toNat).length = l.length := List.length_map ..
  have hget : (l.map BitVec.toNat).getD c 16 = (l.map BitVec.toNat)[c] := List.getD_eq_getElem _ _ (hlen.symm ▸ hc)
  have hcentre : pointOpen ((l.map BitVec.toNat).getD c 16) = true ↔ Seen l c := by rw [hget, seen_pointOpen hc]
  by_cases hs : Seen l c
  · have hw : w = (((l.map BitVec.toNat).drop c).takeWhile pointOpen).length
        + ((((l.map BitVec.toNat).take c).reverse).takeWhile pointOpen).length :=
      if_neg (by rw [hcentre.2 hs]; decide)
    have hup := ((l.map BitVec.toNat).drop c).takeWhile_sublist pointOpen |>.length_le
    have hdown := ((l.map BitVec.toNat).take c).reverse.takeWhile_sublist pointOpen |>.length_le
    simp only [List.length_drop, List.length_reverse, List.length_take, hlen] at hup hdown
    have hright (m : Nat) (hm : c + m < l.length) (h : ∀ i, c ≤ i → i ≤ c + m → Seen l i) :
        m < (((l.map BitVec.toNat).drop c).takeWhile pointOpen).length := by
      refine takeWhile_length_gt _ _ m (by rw [List.length_drop, hlen]; omega) fun i hi hil => ?_
      rw [List.getElem_drop]
      exact (seen_pointOpen (by omega)).2 (h _ (Nat.le_add_right ..) (Nat.add_le_add_left hi _))
    have hleft (m : Nat) (hm : m < c) (h : ∀ i, c - 1 - m ≤ i → i ≤ c → Seen l i) :
        m < ((((l.map BitVec.toNat).take c).reverse).takeWhile pointOpen).length := by
      refine takeWhile_length_gt _ _ m (by rw [List.length_reverse, List.length_take, hlen]; omega) fun i hi hil => ?_
      rw [List.getElem_reverse, List.getElem_take]
      simp only [List.length_take, hlen]
      exact (seen_pointOpen (by omega)).2 (h _ (by omega) (by omega))
    have hpos := hright 0 hc fun i h1 h2 => (Nat.le_antisymm h1 h2 : c = i) ▸ hs
    refine ⟨by omega, ⟨fun h => by omega, fun h => absurd hs h⟩, fun k hk hall => ?_⟩
    obtain hkc | hkc := Nat.lt_or_ge k c
    · have := hleft (c - 1 - k) (by omega) fun i h1 h2 => hall i (by omega) (by omega)
      omega
    · have := hright (k - c) (by omega) fun i h1 h2 => hall i (by omega) (by omega)
      omega
  · have hw : w = 0 := if_pos (by simpa using mt hcentre.1 hs)
    refine ⟨by omega, ⟨fun _ => hs, fun _ => hw⟩, fun k _ hall => absurd (hall c ?_ ?_) hs⟩
    · exact Nat.min_le_right ..
    · exact Nat.le_max_right ..

/-- R208: the end of a quick eye. -/
theorem quickEye_clause (n : Fin 8) (s : State) (e : EyeScan) (across upright : List Half)
    (hscan : (s.lane n.val).scan = some e) (hfull : e.full = false) (ha : across.length = 64)
    (hu : upright.length = 127) :
    ∃ w h, exec (.eyeScanDone n (.quick across upright)) s = .next
      (finish 0x99 e.sub stOk (BitVec.ofNat 64 (w + 256 * h)) (mapLane n.val (fun l =>
        { l with scan := none, eyeW := BitVec.ofNat 7 w, eyeH := BitVec.ofNat 7 h, eyeValid := true }) s))
      ∧ w ≤ 64 ∧ h ≤ 127 ∧ (w = 0 ↔ ¬ Seen across 32) ∧ (h = 0 ↔ ¬ Seen upright 63)
      ∧ (∀ k, k < 64 → (∀ i, min k 32 ≤ i → i ≤ max k 32 → Seen across i) → max k 32 - min k 32 < w)
      ∧ (∀ k, k < 127 → (∀ i, min k 63 ≤ i → i ≤ max k 63 → Seen upright i) → max k 63 - min k 63 < h) := by
  have hwide := openSpan_spec across 32 (by omega)
  have hhigh := openSpan_spec upright 63 (by omega)
  rw [ha] at hwide
  rw [hu] at hhigh
  have htake (l : List Half) (m : Nat) (hl : l.length = m) : (l.map BitVec.toNat).take m = l.map BitVec.toNat :=
    List.take_of_length_le (by rw [List.length_map, hl])
  refine ⟨openSpan (across.map BitVec.toNat) 32, openSpan (upright.map BitVec.toNat) 63, ?_, hwide.1, hhigh.1,
    hwide.2.1, hhigh.2.1, hwide.2.2, hhigh.2.2⟩
  refine congrArg Host.Outcome.next ?_
  rw [hscan]
  dsimp only
  rw [hfull, if_neg (by simp)]
  show eyeQuick n.val e across upright (mapLane n.val (fun l => { l with scan := none }) s) = _
  unfold eyeQuick eyeOf
  rw [htake across 64 ha, htake upright 127 hu]
  exact congrArg (finish 0x99 e.sub stOk _) (mapLane_mapLane ..)

/-- R208: the end of a full scan. -/
theorem fullEye_clause (n : Fin 8) (s : State) (e : EyeScan) (counts : List Half) (g : Handle)
    (hscan : (s.lane n.val).scan = some e) (hfull : e.full = true) (hg : s.handleAny e.handle = some g) :
    (s.writeBehind e.id e.sub e.handle e.offset 16256 = true → exec (.eyeScanDone n (.full counts)) s = .next s)
    ∧ (s.writeBehind e.id e.sub e.handle e.offset 16256 = false →
      exec (.eyeScanDone n (.full counts)) s = .next (finish 0x99 e.sub stOk 0
        (poolWrite g 16257 e.offset (padTo 16256 (counts.flatMap fun c => leBytes c.toNat 2))
          (mapLane n.val (fun l => { l with scan := none }) s)))) := by
  refine ⟨fun hb => congrArg Host.Outcome.next ?_, fun hb => congrArg Host.Outcome.next ?_⟩
  · rw [hscan]
    exact if_pos (by rw [hfull]; exact hb)
  · rw [hscan]
    refine (if_neg (by rw [hfull]; exact (Bool.eq_false_iff.1 hb))).trans ?_
    rw [hfull]
    have hg' : (mapLane n.val (fun l => { l with scan := none }) s).handleAny e.handle = some g := hg
    dsimp only
    unfold eyeFull
    rw [hg']
    rfl

theorem linkTestEnd_clause (n : Fin 8) (s : State) (hlen : s.lan.l.length = 8) (t : LaneTest)
    (ht : (s.lane n.val).test = some t) (hd : t.duration ≠ 0) :
    ∃ u, exec (.linkTestEnd n) s = .next u ∧ (u.lane n.val).test = none ∧ (u.lane n.val).prbsLock = false
      ∧ ∀ k, k < 8 → k ≠ n.val → u.lane k = s.lane k := by
  obtain ⟨-, hnone, hlock, hother⟩ := laneTestStop_lanes n.val s (hlen.symm ▸ n.isLt)
  refine ⟨laneTestStop n.val s, ?_, hnone, hlock (by rw [ht]; exact Option.some_ne_none t), fun k _ => hother k⟩
  refine congrArg Host.Outcome.next ?_
  rw [ht]
  exact if_neg hd

theorem prbsLock_clauses (n : Fin 8) (s : State) :
    (∀ t, (s.lane n.val).test = some t → t.checker = true → (s.lane n.val).prbsLock = false →
      exec (.prbsLock n) s = .next (mapLane n.val (fun l =>
        { l with
          prbsLock := true, since := s.clk.loc
          sigDet := l.sigDet || t.loopback != 2, cdrLock := l.cdrLock || t.loopback != 2 }) s))
    ∧ ((s.lane n.val).prbsLock = true ∨ (∀ t, (s.lane n.val).test = some t → t.checker = false) →
      exec (.prbsLock n) s = .next s) := by
  refine ⟨fun t ht hc hl => congrArg Host.Outcome.next ?_, fun h => congrArg Host.Outcome.next ?_⟩
  · rw [ht]
    exact if_pos (by rw [hc, hl]; rfl)
  · cases ht : (s.lane n.val).test with
    | none => rfl
    | some t =>
      refine if_neg ?_
      obtain hl | hc := h
      · simp [hl]
      · simp [hc t ht]

/-- Settles O33: the operands decide what a lane test or a scan does; the lanes fold one by one, and the events act on
their own lane. -/
theorem lanes : Obligations.Lanes := by
  refine ⟨fun sub s hlen => ⟨?_, ?_⟩, ?_⟩
  · intro o i hr b named force stopOk startOk
    have hc := linkTest_clauses sub s hlen o hr
    dsimp only at hc
    rw [linkStopOk_iff, linkStartOk_iff] at hc
    exact hc
  · intro lane form h off i hr b quick placed
    exact eyeScan_clauses sub lane form h off s hr
  · intro n s hlen l
    refine ⟨(prbsLock_clauses n s).1, (prbsLock_clauses n s).2, prbsLockLoss_clause n s hlen,
      linkTestEnd_clause n s hlen, fun t ht hd => congrArg Host.Outcome.next ?_, fun e across upright hscan hfull ha hu =>
        quickEye_clause n s e across upright hscan hfull ha hu, fun e counts g => fullEye_clause n s e counts g⟩
    have hl : (s.lane n.val).test = some t := ht
    rw [hl]
    exact if_pos hd

end Sys2Proof.Laws
end

section
/-!
The entry of a ring command reads back as the command: O57.
-/
namespace Sys2Proof.Laws
open Sys2Proof.Machine Sys2Proof.Claims

/-! ### The fields of an entry, by their width -/

/-- A field of an entry: its place, its width and what it holds. -/
inductive Field where
  | f8 (k : Nat) (v : Byte)
  | f16 (k : Nat) (v : Half)
  | f32 (k : Nat) (v : Word)
  | f64 (k : Nat) (v : Dword)
  | f128 (k : Nat) (v : BitVec 128)

/-- Place, length in bytes and value. -/
def Field.triple : Field → Nat × Nat × Nat
  | .f8 k v => (k, 1, v.toNat)
  | .f16 k v => (k, 2, v.toNat)
  | .f32 k v => (k, 4, v.toNat)
  | .f64 k v => (k, 8, v.toNat)
  | .f128 k v => (k, 16, v.toNat)

/-- The field stands in the entry. -/
def Field.Read (e : BitVec 512) : Field → Prop
  | .f8 k v => e8 e k = v
  | .f16 k v => e16 e k = v
  | .f32 k v => e32 e k = v
  | .f64 k v => e64 e k = v
  | .f128 k v => BitVec.ofNat 128 (e.toNat / 2 ^ (8 * k)) = v

def Field.pos (f : Field) : Nat := f.triple.1
/-- The first byte behind the field. -/
def Field.next (f : Field) : Nat := f.triple.1 + f.triple.2.1
/-- The operand of Table 10.4 that the field is. -/
def Field.op (f : Field) : Nat × Nat := (f.triple.1, f.triple.2.2)

/-- Fields one behind the other, from byte `k` to below byte `m`. -/
def Laid (k m : Nat) : List Field → Prop
  | [] => k ≤ m
  | f :: l => k ≤ f.pos ∧ Laid f.next m l

/-- The fields of a list of values, each `w` bytes. -/
def placed {α : Type} (w : Nat) (f : Nat → α → Field) (k : Nat) : List α → List Field
  | [] => []
  | a :: l => f k a :: placed w f (k + w) l

theorem Field.bound (f : Field) : f.triple.2.2 < 2 ^ (8 * f.triple.2.1) := by
  cases f <;> exact BitVec.isLt _

theorem ofNat_of_mod {w a b : Nat} (v : BitVec w) (h : a % 2 ^ w = b) (hb : b = v.toNat) : BitVec.ofNat w a = v := by
  apply BitVec.eq_of_toNat_eq
  rw [BitVec.toNat_ofNat, h, hb]

theorem Field.read_of (e : BitVec 512) (f : Field)
    (h : e.toNat / 2 ^ (8 * f.triple.1) % 2 ^ (8 * f.triple.2.1) = f.triple.2.2) : f.Read e := by
  cases f <;> exact ofNat_of_mod _ h rfl

theorem Laid.bounds {k m : Nat} {l : List Field} (h : Laid k m l) : ∀ f ∈ l, k ≤ f.pos ∧ f.next ≤ m := by
  have hle {k : Nat} {l : List Field} (h : Laid k m l) : k ≤ m := by
    induction l generalizing k with
    | nil => exact h
    | cons f l ih => exact h.1.trans ((Nat.le_add_right ..).trans (ih h.2))
  induction l generalizing k with
  | nil => exact fun f hf => by cases hf
  | cons g l ih =>
    intro f hf
    obtain rfl | hf := List.mem_cons.1 hf
    · exact ⟨h.1, hle h.2⟩
    · obtain ⟨hlo, hhi⟩ := ih h.2 f hf
      exact ⟨h.1.trans ((Nat.le_add_right ..).trans hlo), hhi⟩

theorem Laid.fieldsOk {k m : Nat} {l : List Field} (h : Laid k m l) : FieldsOk k (l.map Field.triple) := by
  refine ⟨?_, fun t ht => ?_⟩
  · induction l generalizing k with
    | nil => exact .nil
    | cons g l ih =>
      refine List.pairwise_cons.2 ⟨fun t ht => ?_, ih h.2⟩
      obtain ⟨f, hf, rfl⟩ := List.mem_map.1 ht
      exact (h.2.bounds f hf).1
  · obtain ⟨f, hf, rfl⟩ := List.mem_map.1 ht
    exact ⟨(h.bounds f hf).1, f.bound⟩

/-- An operand of an entry is read back at its place and in its width. -/
theorem entry_reads (p : Spelled) (l : List Field) (hop : p.row.op < 256) (hl : p.ops.Perm (l.map Field.op))
    (h : Laid 16 64 l) : ∀ f ∈ l, f.Read p.entry := by
  intro f hf
  have hperm : p.ops.Perm ((l.map Field.triple).map fun t => (t.1, t.2.2)) := by
    rw [List.map_map]
    exact hl
  exact f.read_of p.entry
    (entry_field p (l.map Field.triple) hop hperm h.fieldsOk (List.mem_map_of_mem hf) (h.bounds f hf).2)

theorem laid_append {k n m : Nat} {a b : List Field} (ha : Laid k n a) (hb : Laid n m b) : Laid k m (a ++ b) := by
  induction a generalizing k with
  | nil =>
    cases b with
    | nil => exact Nat.le_trans ha hb
    | cons f b => exact ⟨Nat.le_trans ha hb.1, hb.2⟩
  | cons f a ih => exact ⟨ha.1, ih ha.2⟩

theorem laid_placed {α : Type} {w : Nat} {f : Nat → α → Field} (hpos : ∀ k a, (f k a).pos = k)
    (hnext : ∀ k a, (f k a).next = k + w) (k : Nat) (l : List α) : Laid k (k + w * l.length) (placed w f k l) := by
  induction l generalizing k with
  | nil => exact Nat.le_refl k
  | cons a l ih =>
    refine ⟨(hpos k a).ge, ?_⟩
    rw [hnext, List.length_cons, show k + w * (l.length + 1) = k + w + w * l.length by ring]
    exact ih (k + w)

theorem placed_read {α : Type} (w : Nat) (f : Nat → α → Field) (e : BitVec 512) (g : Nat → α)
    (hg : ∀ k a, (f k a).Read e → g k = a) (k : Nat) (l : List α) (h : ∀ x ∈ placed w f k l, x.Read e) :
    (List.range l.length).map (fun i => g (k + w * i)) = l := by
  induction l generalizing k with
  | nil => rfl
  | cons a l ih =>
    rw [List.length_cons, List.range_succ_eq_map, List.map_cons, List.map_map]
    refine congrArg₂ _ (hg k a (h _ List.mem_cons_self))
      (Eq.trans ?_ (ih (k + w) fun x hx => h x (List.mem_cons_of_mem _ hx)))
    refine List.map_congr_left fun i _ => ?_
    rw [Function.comp_apply, show k + w * (i + 1) = k + w + w * i by ring]

theorem placed_op {w : Nat} {α : Type} (f : Nat → α → Field) (v : α → Nat) (hf : ∀ k a, (f k a).op = (k, v a)) (k j : Nat)
    (l : List α) :
    (placed w f (k + w * j) l).map Field.op = (l.zipIdx j).map fun e => (k + w * e.2, v e.1) := by
  induction l generalizing j with
  | nil => rfl
  | cons a l ih =>
    rw [placed, List.map_cons, hf, List.zipIdx_cons, List.map_cons, ← ih (j + 1),
      show k + w * (j + 1) = k + w * j + w by ring]

/-! ### The operands of the ring commands -/

/-- Tables of chapters 11 and 12: the operands of a ring command, in the order of their places. -/
def operands : Instr → List Field
  | .echo _ v => [.f64 16 v]
  | .ident _ d => [.f64 24 d]
  | .poolAlloc _ n c f => [.f16 16 n, .f8 18 c, .f8 19 f]
  | .poolFree _ h => [.f16 16 h]
  | .poolQuery _ h d => [.f16 16 h, .f64 24 d]
  | .copyIn _ h o a n => [.f16 16 h, .f32 20 o, .f64 24 a, .f32 32 n]
  | .copyOut _ h o a n => [.f16 16 h, .f32 20 o, .f64 24 a, .f32 32 n]
  | .fill _ h o n w p => [.f16 16 h, .f32 20 o, .f32 32 n, .f8 36 w, .f64 40 p]
  | .surfaceDefine _ i d =>
    [.f16 16 i, .f16 32 d.handle, .f32 36 d.offset, .f16 40 d.width, .f16 42 d.height, .f8 44 d.format,
      .f8 45 d.layout, .f32 48 d.pitch, .f32 52 d.size, .f16 56 d.wR, .f16 58 d.wG, .f16 60 d.wB, .f16 62 d.yConst]
  | .surfaceRetire _ i => [.f16 16 i]
  | .layerSet _ (.params l o) =>
    [.f8 16 l, .f8 17 0, .f16 20 o.surface, .f16 22 o.srcX, .f16 24 o.srcY, .f16 26 o.srcW, .f16 28 o.srcH,
      .f16 30 o.dstX, .f16 32 o.dstY, .f16 34 o.dstW, .f16 36 o.dstH, .f8 38 o.predec, .f8 39 o.coef, .f8 40 o.blend,
      .f8 41 o.notReady, .f8 42 o.streaming, .f16 44 o.alpha, .f16 46 o.s0Y, .f16 48 o.glareSafe]
  | .layerSet _ (.coefs n h o) => [.f8 17 1, .f8 18 n, .f16 20 h, .f32 24 o]
  | .layerSet _ (.order m l) => [.f8 17 2, .f8 20 m] ++ placed 1 .f8 21 l
  | .layerSet _ (.bad f) => [.f8 17 f]
  | .layerPost _ o =>
    [.f8 16 o.layer, .f16 18 o.surface, .f16 20 o.srcX, .f16 22 o.srcY, .f16 24 o.srcW, .f16 26 o.srcH,
      .f8 28 o.fence.valid, .f8 29 o.fence.ring, .f32 32 o.fence.seq]
  | .shapesPost _ h o n f => [.f16 16 h, .f32 20 o, .f8 24 n, .f8 28 f.valid, .f8 29 f.ring, .f32 32 f.seq]
  | .captureSet _ i t m => [.f16 16 i, .f8 18 t, .f8 19 m]
  | .sceneCommit _ f => [.f32 60 f]
  | .sceneQuery _ w d => [.f8 16 w, .f64 24 d]
  | .timingSet _ o =>
    [.f16 16 o.mask, .f32 20 o.pNom, .f16 24 o.tGuard, .f32 28 o.leadFix, .f8 32 o.scan, .f8 33 o.events,
      .f16 34 o.rowMatch, .f32 60 o.frame]
  | .syncSet _ o =>
    [.f16 16 o.mask, .f8 18 o.source, .f8 19 o.edge, .f8 20 o.ms, .f8 21 o.ns, .f32 24 o.phase, .f8 28 o.foEnable,
      .f8 29 o.foDiv, .f8 30 o.foCam, .f16 32 o.foWidth, .f32 36 o.foOffset, .f32 60 o.frame]
  | .pwmSet _ o => [.f16 16 o.mask, .f8 18 o.n, .f8 19 o.dither, .f16 20 o.k, .f16 22 o.oCam, .f32 60 o.frame]
  | .curbSet _ o => [.f16 16 o.mask, .f16 20 o.iLimit, .f16 22 o.hT, .f32 60 o.frame]
  | .derateSet _ o => [.f16 16 o.mask, .f8 18 o.mode, .f16 20 o.knee, .f16 22 o.tZero, .f32 60 o.frame]
  | .cutoffSet _ o =>
    [.f16 16 o.mask, .f8 18 o.side, .f8 19 o.count, .f16 20 o.limit, .f16 24 o.handle, .f32 28 o.offset,
      .f32 60 o.frame]
  | .probeSet _ e f => [.f8 16 e, .f32 60 f]
  | .pixmapRead _ o => [.f16 16 o.firstRow, .f16 18 o.rows, .f64 24 o.dest, .f64 32 o.summary]
  | .neighbourFillSet _ f t => [.f8 16 f, .f32 60 t]
  | .hallmarkSelect _ m a f => [.f16 16 m, .f16 18 a, .f32 60 f]
  | .fallbackSet _ o => [.f16 16 o.mask, .f8 18 o.dflt, .f8 19 o.force, .f16 20 o.hb, .f32 60 o.frame]
  | .canListenSet _ o =>
    [.f16 16 o.mask, .f8 18 o.mode, .f8 19 o.sa, .f32 20 (o.pgn.zeroExtend 32), .f16 24 o.timeout]
      ++ (placed 4 .f32 28 o.rules ++ [.f32 60 o.frame])
  | .roadMode _ m v f => [.f16 16 m, .f8 18 v, .f32 60 f]
  | .teamConfig _ o =>
    [.f16 16 o.mask, .f8 18 o.role, .f8 19 o.backup]
      ++ (placed 2 .f16 20 o.groups ++ [.f8 28 o.ports, .f8 29 o.gen, .f32 60 o.frame])
  | .teamStatus _ d => [.f64 24 d]
  | .teamPair _ k => [.f128 16 k]
  | .timeSet _ m v => [.f8 16 m, .f64 24 v]
  | .timeQuery _ d => [.f64 24 d]
  | .powerState _ v => [.f8 16 v]
  | .calRun _ p l => [.f8 16 p, .f16 20 l]
  | .calLoadMap _ h o => [.f16 16 h, .f32 20 o]
  | .calRead _ w o d n => [.f8 16 w, .f32 20 o, .f64 24 d, .f32 32 n]
  | .updateOpen _ n => [.f32 20 n]
  | .updateWrite _ o h n _ => [.f32 20 o, .f64 24 h, .f32 32 n]
  | .authLogin _ o _ => [.f8 16 o.mode, .f16 18 o.operator, .f8 20 o.pwLen] ++ placed 1 .f8 24 o.password
  | .protectedWrite _ i v => [.f16 16 i, .f32 20 v]
  | .passwordSet _ l n o h _ => [.f8 16 l, .f8 17 n, .f16 18 o, .f64 24 h]
  | .logRead _ l f d n => [.f8 16 l, .f32 20 f, .f64 24 d, .f32 32 n]
  | .logArchive _ u => [.f32 20 u]
  | .settingsRead _ w o d n => [.f8 16 w, .f32 20 o, .f64 24 d, .f32 32 n]
  | .settingsWrite _ f l v => [.f16 16 f, .f8 18 l] ++ placed 1 .f8 20 v
  | .linkTest _ o =>
    [.f8 16 o.lanes, .f8 17 o.action, .f8 18 o.pattern, .f8 19 o.flags, .f8 20 o.loopback, .f8 21 o.rate,
      .f32 24 o.duration]
  | .eyeScan _ l f h o => [.f8 16 l, .f8 17 f, .f16 18 h, .f32 20 o]
  | .faultRead _ d => [.f64 24 d]
  | .faultAck _ v => [.f8 16 v]
  | _ => []

theorem take_of_wf {α : Type} {l : List α} {n : Nat} (h : (l.length == n) = true) : l.take n = l :=
  List.take_of_length_le (beq_iff_eq.1 h).le

theorem placed_f8 (k : Nat) (l : List Byte) : (placed 1 .f8 k l).map Field.op = listAt k l := by
  have h := placed_op (w := 1) .f8 (fun v : Byte => v.toNat) (fun _ _ => rfl) k 0 l
  rw [Nat.mul_zero, Nat.add_zero] at h
  rw [h]
  simp only [Nat.one_mul]
  rfl

theorem operands_perm {i : Instr} {p : Spelled} (hp : spelled i = some p) (hw : i.wf = true) :
    p.ops.Perm ((operands i).map Field.op) := by
  cases i with
  | layerSet b f =>
    cases f with
    | order m l =>
      cases hp
      rw [take_of_wf hw]
      exact .of_eq (congrArg (_ :: _ :: ·) (placed_f8 21 l).symm)
    | _ =>
      cases hp
      exact .refl _
  | canListenSet b o =>
    cases hp
    have h := placed_op (w := 4) .f32 (fun v : Word => v.toNat) (fun _ _ => rfl) 28 0 o.rules
    rw [operands, List.map_append, List.map_append, h, take_of_wf hw]
    exact List.Perm.append_left (_ :: _ :: _ :: _ :: _ :: []) (List.perm_append_comm (l₁ := [_]))
  | teamConfig b o =>
    cases hp
    have h := placed_op (w := 2) .f16 (fun v : Half => v.toNat) (fun _ _ => rfl) 20 0 o.groups
    rw [operands, List.map_append, List.map_append, h, take_of_wf hw]
    exact List.Perm.append_left (_ :: _ :: _ :: []) (List.perm_append_comm (l₁ := [_, _, _]))
  | authLogin b o d =>
    cases hp
    rw [take_of_wf hw]
    exact .of_eq (congrArg (_ :: _ :: _ :: ·) (placed_f8 24 o.password).symm)
  | settingsWrite b f l v =>
    cases hp
    rw [take_of_wf hw]
    exact .of_eq (congrArg (_ :: _ :: ·) (placed_f8 20 v).symm)
  | _ => cases hp <;> exact .refl _

theorem laid_mono {k m n : Nat} {l : List Field} (h : Laid k m l) (hn : m ≤ n) : Laid k n l := by
  rw [← List.append_nil l]
  exact laid_append h hn

theorem laid_f8 {k n m : Nat} {l : List Byte} (hl : (l.length == n) = true) (hn : k + n ≤ m) :
    Laid k m (placed 1 .f8 k l) := by
  refine laid_mono (laid_placed (fun _ _ => rfl) (fun _ _ => rfl) k l) ?_
  rw [beq_iff_eq.1 hl]
  omega

/-- The operands of Tables 11.1 and 12.1 follow one another from byte 16 to the end of the entry. -/
theorem operands_laid {i : Instr} (hw : i.wf = true) : Laid 16 64 (operands i) := by
  cases i with
  | layerSet b f =>
    cases f with
    | order m l =>
      refine laid_append (n := 21) ?_ (laid_f8 hw (by decide))
      simp [Laid, Field.pos, Field.next, Field.triple]
    | _ => simp [operands, Laid, Field.pos, Field.next, Field.triple]
  | canListenSet b o =>
    have h := laid_placed (w := 4) (f := .f32) (fun _ _ => rfl) (fun _ _ => rfl) 28 o.rules
    rw [beq_iff_eq.1 hw] at h
    refine laid_append (n := 28) ?_ (laid_append h ?_)
    · simp [Laid, Field.pos, Field.next, Field.triple]
    · simp [Laid, Field.pos, Field.next, Field.triple]
  | teamConfig b o =>
    have h := laid_placed (w := 2) (f := .f16) (fun _ _ => rfl) (fun _ _ => rfl) 20 o.groups
    rw [beq_iff_eq.1 hw] at h
    refine laid_append (n := 20) ?_ (laid_append h ?_)
    · simp [Laid, Field.pos, Field.next, Field.triple]
    · simp [Laid, Field.pos, Field.next, Field.triple]
  | authLogin b o d =>
    refine laid_append (n := 24) ?_ (laid_f8 hw (by decide))
    simp [Laid, Field.pos, Field.next, Field.triple]
  | settingsWrite b f l v =>
    refine laid_append (n := 20) ?_ (laid_f8 hw (by decide))
    simp [Laid, Field.pos, Field.next, Field.triple]
  | _ => simp [operands, Laid, Field.pos, Field.next, Field.triple]

theorem entryOp_entry {i : Instr} {p : Spelled} (hp : spelled i = some p) : entryOp p.entry = p.row.op := by
  obtain ⟨hop, hops⟩ := entry_statement i p hp
  have h := entry_op p hop fun e he => (hops e he).1
  rw [← h, entryOp, e8, BitVec.toNat_ofNat]
  norm_num

theorem eList_f8 {e : BitVec 512} {k n : Nat} {l : List Byte} (hl : (l.length == n) = true)
    (h : ∀ x ∈ placed 1 .f8 k l, x.Read e) : eList e k n = l := by
  rw [← placed_read 1 .f8 e (e8 e) (fun _ _ h => h) k l h, beq_iff_eq.1 hl]
  simp only [Nat.one_mul]
  rfl

/-- The operands of an entry are those of its command. -/
theorem decode_entry {i : Instr} {p : Spelled} (d : HostRead) (hp : spelled i = some p) (hw : i.wf = true)
    (hd : toldByHost i = none ∨ toldByHost i = some d) : decodeEntry p.sub d p.entry = some i := by
  have hop := entryOp_entry hp
  have hread : ∀ f ∈ operands i, f.Read p.entry :=
    entry_reads p (operands i) (entry_statement i p hp).1 (operands_perm hp hw) (operands_laid hw)
  generalize p.entry = e at hop hread
  cases i with
  | canListenSet b o =>
    cases hp
    simp only [operands, List.forall_mem_append] at hread
    obtain ⟨hhead, hrules, htail⟩ := hread
    have hlist := placed_read 4 .f32 e (e32 e) (fun _ _ h => h) 28 o.rules hrules
    rw [beq_iff_eq.1 hw] at hlist
    have hpgn : BitVec.ofNat 24 (o.pgn.toNat % 4294967296) = o.pgn := by
      apply BitVec.eq_of_toNat_eq
      rw [BitVec.toNat_ofNat]
      omega
    simp only [List.forall_mem_cons, Field.Read] at hhead htail
    simp [decodeEntry, hop, rowAny, entryService, hhead, htail, hlist, hpgn]
  | teamConfig b o =>
    cases hp
    simp only [operands, List.forall_mem_append] at hread
    obtain ⟨hhead, hgroups, htail⟩ := hread
    have hlist := placed_read 2 .f16 e (e16 e) (fun _ _ h => h) 20 o.groups hgroups
    rw [beq_iff_eq.1 hw] at hlist
    simp only [List.forall_mem_cons, Field.Read] at hhead htail
    simp [decodeEntry, hop, rowAny, entryService, hhead, htail, hlist]
  | authLogin b o data =>
    cases hp
    simp only [operands, List.forall_mem_append] at hread
    obtain ⟨hhead, hbytes⟩ := hread
    simp only [List.forall_mem_cons, Field.Read] at hhead
    simp only [toldByHost, reduceCtorEq, Option.some.injEq, false_or] at hd
    simp [decodeEntry, hop, rowAdm, entryService, hhead, eList_f8 hw hbytes, hd]
  | settingsWrite b f l v =>
    cases hp
    simp only [operands, List.forall_mem_append] at hread
    obtain ⟨hhead, hbytes⟩ := hread
    simp only [List.forall_mem_cons, Field.Read] at hhead
    simp [decodeEntry, hop, rowAdm, entryService, hhead, eList_f8 hw hbytes]
  | layerSet b f =>
    cases f with
    | order m l =>
      cases hp
      simp only [operands, List.forall_mem_append] at hread
      obtain ⟨hhead, hbytes⟩ := hread
      simp only [List.forall_mem_cons, Field.Read] at hhead
      simp [decodeEntry, hop, rowAny, entryPicture, entryLayer, hhead, eList_f8 hw hbytes]
    | bad f =>
      cases hp
      simp only [operands, List.forall_mem_cons, Field.Read] at hread
      have hform : 2 < f.toNat := of_decide_eq_true hw
      have hlayer : entryLayer e = .bad f := by
        unfold entryLayer
        rw [hread.1]
        split
        · omega
        · omega
        · omega
        · rfl
      simp [decodeEntry, hop, rowAny, entryPicture, hlayer]
    | _ =>
      cases hp
      simp only [operands, List.forall_mem_cons, Field.Read] at hread
      simp [decodeEntry, hop, rowAny, entryPicture, entryLayer, hread]
  | teamPair b k =>
    cases hp
    have hkey : BitVec.ofNat 128 (e.toNat / 2 ^ (8 * 16)) = k := hread (.f128 16 k) List.mem_cons_self
    have hop' : entryOp e = 0x62 := hop
    simp only [decodeEntry, hop', entryService]
    exact (if_neg (by decide)).trans (congrArg (fun k => some (Instr.teamPair b k)) hkey)
  | _ =>
    cases hp <;>
    · simp only [operands, List.forall_mem_cons, Field.Read] at hread
      simp only [toldByHost, reduceCtorEq, Option.some.injEq, false_or, true_or] at hd
      simp [decodeEntry, hop, rowAny, rowAdm, entryPicture, entryService, entryDesc, entryFence, hread, hd]

theorem fieldBits_wf {i : Instr} (hw : i.wf = true) :
    fieldBitsOk i = true := by
  cases i with
  | surfaceDefine b n d => exact hw
  | _ => rfl

theorem flag_le (b : Bool) : flag b ≤ 1 := by cases b <;> decide

theorem entry_bit {e : BitVec 512} {k : Nat} {b : Bool} (h : e.toNat / 2 ^ k % 2 = flag b) : e.getLsbD k = b := by
  rw [← BitVec.testBit_toNat, Nat.testBit_eq_decide_div_mod_eq, h]
  cases b <;> rfl

/-- Table 10.4: the head of an entry reads back. -/
theorem entrySub_entry {p : Spelled} (hop : p.row.op < 256) (hops : ∀ e ∈ p.ops, 16 ≤ e.1) :
    entryWord0Ok p.entry = true
    ∧ entrySub p.sub.ring p.sub.gap p.sub.origin p.entry = { p.sub with reply := .due } := by
  have hhead := entry_head p hop hops
  have hflags : Sub.flags p.sub
      = flag p.sub.ioc + 2 * flag p.sub.fence + 4 * flag p.sub.atTick + 8 * flag p.sub.barrier := rfl
  have hioc := flag_le p.sub.ioc
  have hfence := flag_le p.sub.fence
  have htick := flag_le p.sub.atTick
  have hbarrier := flag_le p.sub.barrier
  have htarget := p.sub.target.isLt
  have hseq := p.sub.seq.isLt
  have htag := p.sub.tag.isLt
  norm_num at hhead htarget hseq htag
  generalize p.entry = e at hhead
  have hnum {w a : Nat} {v : BitVec w} (h : a % 2 ^ w = v.toNat) : BitVec.ofNat w a = v := ofNat_of_mod v h rfl
  refine ⟨?_, ?_⟩
  · rw [entryWord0Ok, Bool.and_eq_true, beq_iff_eq, beq_iff_eq]
    omega
  · have h1 : e32 e 4 = p.sub.seq := hnum (by norm_num; omega)
    have h2 : e64 e 8 = p.sub.tag := hnum (by norm_num; omega)
    have h3 : BitVec.ofNat 11 (e.toNat / 2 ^ 16) = p.sub.target := hnum (by norm_num; omega)
    have h4 : e.getLsbD 8 = p.sub.ioc := entry_bit (by norm_num; omega)
    have h5 : e.getLsbD 9 = p.sub.fence := entry_bit (by norm_num; omega)
    have h6 : e.getLsbD 10 = p.sub.atTick := entry_bit (by norm_num; omega)
    have h7 : e.getLsbD 11 = p.sub.barrier := entry_bit (by norm_num; omega)
    rw [entrySub, h1, h2, h3, h4, h5, h6, h7]

/-- Settles O57: the operands lie one behind the other in their places, so each is read back, and the head is what the
low 128 bits of the entry hold. -/
theorem entryRoundTrip : Obligations.EntryRoundTrip := by
  intro i p d hp hw hd
  obtain ⟨hop, hops⟩ := entry_statement i p hp
  obtain ⟨hword, hsub⟩ := entrySub_entry hop fun e he => (hops e he).1
  refine ⟨hsub, ?_⟩
  unfold entryRead
  rw [if_neg (by rw [hword]; decide), decode_entry d hp hw hd]
  exact if_pos (by rw [hp, fieldBits_wf hw]; simp)

end Sys2Proof.Laws
end

section
/-!
A ring command that waits, and one that goes on to another engine: O5.
-/
namespace Sys2Proof.Laws
open Sys2Proof.Machine Sys2Proof.Claims

/-! ### What a ring command waits for -/

theorem serves_iff (s : State) (p : Spelled) : s.serves p = true ↔
    (s.pwr.ready = true ∧ s.pwr.farrier = true)
    ∧ (s.pwr.mode = .idle ∨ s.pwr.mode = .active ∨ (s.pwr.mode = .halter ∧ p.sub.ring.val = 0))
    ∧ (s.pwr.entry = none ∨ p.row.op = 0x70)
    ∧ (p.sub.origin = none →
        (s.ring p.sub.ring.val).enabled = true ∧ s.cqRoom p.sub.ring.val = true ∧ s.fenceMet p.sub = true)
    ∧ (p.sub.origin ≠ none → s.tm.isMember = true) := by
  unfold State.serves
  cases p.sub.origin <;> cases s.pwr.mode <;> simp [and_assoc]

theorem waits_clauses (i : Instr) (p : Spelled) (s : State) (hp : spelled i = some p) :
    (s.pwr.ready = false → exec i s = .next s)
    ∧ (s.pwr.farrier = false → exec i s = .next s)
    ∧ (s.pwr.mode = .sleep → exec i s = .next s)
    ∧ (s.pwr.mode = .halter → p.sub.ring ≠ 0 → exec i s = .next s)
    ∧ (s.pwr.entry ≠ none → p.row.op ≠ 0x70 → exec i s = .next s)
    ∧ (p.sub.origin = none →
        ((s.ring p.sub.ring.val).enabled = false → exec i s = .next s)
        ∧ (let r := s.ring p.sub.ring.val
           let size := bits (s.cfg (ringReg p.sub.ring.val 0x10)) 16 13
           size ≤ (r.cqTail + size - r.cqHead) % size + r.running.length + r.held.length + 1 → exec i s = .next s)
        ∧ (p.sub.fence = true → (s.ring p.sub.ring.val).running ≠ [] → exec i s = .next s)
        ∧ (p.sub.barrier = true → (s.ring p.sub.ring.val).held ≠ [] → exec i s = .next s))
    ∧ (p.sub.origin ≠ none → s.tm.isMember = false → exec i s = .next s) := by
  have waits (h : ¬ s.serves p = true) : exec i s = .next s := exec_waits i p s hp (Bool.eq_false_iff.2 h)
  simp only [serves_iff] at waits
  refine ⟨fun h => waits ?_, fun h => waits ?_, fun h => waits ?_, fun h hr => waits ?_, fun h hop => waits ?_,
    fun ho => ⟨fun h => waits ?_, fun h => waits ?_, fun h hrun => waits ?_, fun h hheld => waits ?_⟩,
    fun ho h => waits ?_⟩
  · rintro ⟨⟨hready, -⟩, -⟩
    simp [h] at hready
  · rintro ⟨⟨-, hfarrier⟩, -⟩
    simp [h] at hfarrier
  · rintro ⟨-, hmode, -⟩
    simp [h] at hmode
  · rintro ⟨-, hmode, -⟩
    simp only [h, reduceCtorEq, true_and, false_or] at hmode
    exact hr (Fin.ext hmode)
  · rintro ⟨-, -, hentry, -⟩
    exact hentry.elim h hop
  · rintro ⟨-, -, -, hown, -⟩
    simp [h] at hown
    exact absurd ho hown
  · rintro ⟨-, -, -, hown, -⟩
    have hroom := of_decide_eq_true (hown ho).2.1
    exact absurd hroom (Nat.not_lt.2 h)
  · rintro ⟨-, -, -, hown, -⟩
    have hmet := (hown ho).2.2
    simp [State.fenceMet, h, hrun] at hmet
  · rintro ⟨-, -, -, hown, -⟩
    have hmet := (hown ho).2.2
    simp [State.fenceMet, h, hheld] at hmet
  · rintro ⟨-, -, -, -, hmember⟩
    simp [h] at hmember
    exact ho hmember

/-! ### A command that goes on -/

theorem startWindow_own {p : Spelled} (s : State) (ho : p.sub.origin = none) :
    ∃ r, startWindow p s = { s with rng := r } := by
  unfold startWindow
  rw [ho]
  exact ⟨_, rfl⟩

theorem exec_forwards {i : Instr} {p : Spelled} {s : State} {body : State → State} (hring : exec i s = ringCmd i body s)
    (hp : spelled i = some p) (hs : s.serves p = true) (hc : s.entryCheck p = none) (hn : s.namesSelf p.sub = false) :
    exec i s = .next (forwardOut p (hostAnswer i) body (startWindow p s)) := by
  rw [hring, ringCmd_starts body hp hs]
  refine congrArg Host.Outcome.next ?_
  simp only [ringStart, startWindow_entryCheck, hc, startWindow_namesSelf, hn]
  rfl

/-- R321, R327: an engine that the lead has marked as excluded from commands. -/
def Excluded (s : State) (t : BitVec 11) : Prop :=
  groupTarget t = false ∧ ∃ m ∈ s.tm.members, m.id.toNat = t.toNat ∧ m.state.getLsbD 5 = true

theorem leadRefuses_none_targets {s : State} {k : Nat} {t : BitVec 11} (h : s.targetsOf k t = []) :
    s.leadRefuses k t = some stUnreachable := by simp [State.leadRefuses, h]

theorem leadRefuses_excluded {s : State} {k : Nat} {t : BitVec 11} (h : s.targetsOf k t ≠ []) (hx : Excluded s t) :
    s.leadRefuses k t = some stVersion := by
  obtain ⟨hg, m, hm, hid, hst⟩ := hx
  have hany : s.tm.members.any (fun m => m.id.toNat == t.toNat && m.state.getLsbD 5) = true :=
    List.any_eq_true.2 ⟨m, hm, by simp [hid, hst]⟩
  unfold State.leadRefuses
  rw [if_neg (by simpa using h), if_pos (by rw [hg, hany]; rfl)]

theorem leadRefuses_none {s : State} {k : Nat} {t : BitVec 11} (h : s.targetsOf k t ≠ []) (hx : ¬ Excluded s t) :
    s.leadRefuses k t = none := by
  unfold State.leadRefuses
  rw [if_neg (by simpa using h), if_neg]
  rw [Bool.and_eq_true, List.any_eq_true]
  rintro ⟨hg, m, hm, hb⟩
  rw [Bool.and_eq_true, beq_iff_eq] at hb
  exact hx ⟨by simpa using hg, m, hm, hb.1, hb.2⟩

/-- The state in which the lead takes the targets of a command: which members a group has is a free choice. -/
def leadDrawn (b : Sub) (s : State) : State := if groupTarget b.target = true then s.draw.2 else s

theorem leadDrawn_tm (b : Sub) (s : State) : (leadDrawn b s).tm = s.tm := by
  unfold leadDrawn
  split <;> rfl

/-- The command that the lead keeps as forwarded. -/
def leadKept (b : Sub) (entry : BitVec 512) (targets : List (BitVec 10)) (s : State) : State :=
  keepRunning b (s.mapTm fun m =>
    { m with fwds := m.fwds ++ [⟨b, entry, groupTarget b.target, targets.map fun x => (x, .waiting 1)⟩] })

theorem leadForward_start {k : Nat} {b : Sub} {entry : BitVec 512} {body : State → State} {s : State}
    (h : ¬ (groupTarget b.target = true ∧ entry.toNat % 256 = 0x38)) :
    leadForward k b entry body s = leadStart k b entry body (leadDrawn b s) := by
  refine if_neg ?_
  simp only [Bool.and_eq_true, beq_iff_eq]
  exact fun hc => h hc.1

/-- R321: the CMD with which the lead sends the command of an own ring down the tree. -/
def leadCmd (b : Sub) (entry : BitVec 512) (s : State) : TFrame :=
  .cmd b.target ⟨s.engineId.zeroExtend 16, BitVec.ofNat 8 b.ring.val, false, entry⟩

theorem leadStart_spec {k : Nat} {b : Sub} {entry : BitVec 512} {body : State → State} {s : State}
    (ho : b.origin = none) (h : s.leadRefuses k b.target = none) :
    let targets := s.targetsOf k b.target
    let v := leadKept b entry targets s
    let w := if targets.all (· = s.engineId) then v else sendDown (leadCmd b entry s) v
    leadStart k b entry body s = if s.engineId ∈ targets then body w else w := by
  intro targets v w
  have hv : v.engineId = s.engineId := by
    show (keepRunning b _).engineId = s.engineId
    unfold keepRunning
    rw [ho]
    rfl
  have hw : (if (targets.filter fun x => x != s.engineId).isEmpty then v
      else cmdDown ⟨b, entry, groupTarget b.target, targets.map fun x => (x, .waiting 1)⟩ false b.target v) = w := by
    have hall : (targets.filter fun x => x != s.engineId).isEmpty = targets.all (· = s.engineId) := by
      rw [Bool.eq_iff_iff, List.isEmpty_iff, List.filter_eq_nil_iff, List.all_eq_true]
      simp
    rw [hall]
    refine ite_congr rfl (fun _ => rfl) fun _ => ?_
    unfold cmdDown leadCmd
    rw [ho, hv]
    rfl
  have hwid : w.engineId = s.engineId := by
    have hsend : (sendDown (leadCmd b entry s) v).engineId = v.engineId :=
      congrArg (fun x => x.tm.id.getD 0x3FF) (steady_sendDown (leadCmd b entry s) v)
    dsimp only [w]
    split
    · exact hv
    · exact hsend.trans hv
  have hgo : leadStart k b entry body s = if targets.contains s.engineId then body w else w := by
    rw [← hwid, ← hw]
    unfold leadStart
    dsimp only
    rw [h]
    rfl
  rw [hgo]
  exact ite_congr (propext List.contains_iff_mem) (fun _ => rfl) fun _ => rfl

theorem entry_op_mod {i : Instr} {p : Spelled} (hp : spelled i = some p) : p.entry.toNat % 256 = p.row.op := by
  obtain ⟨hop, hops⟩ := entry_statement i p hp
  exact entry_op p hop fun e he => (hops e he).1

theorem forwardOut_leads {p : Spelled} {s : State} (d : HostRead) (body : State → State) (ho : p.sub.origin = none)
    (hm : s.tm.isMember = true) (hd : s.tm.divergent = false ∨ groupTarget p.sub.target = false)
    (hfull : (startWindow p s).serveFull p.entry = false) (hl : s.tm.leading = true) :
    let t := startWindow p s
    forwardOut p d body t =
      if (s.leadRefuses s.free p.sub.target).isSome then leadForward s.free p.sub p.entry (runHere p body) t
      else originServe p.sub p.entry d (leadForward s.free p.sub p.entry (runHere p body) t) := by
  have hdiv : (s.tm.divergent && groupTarget p.sub.target) = false := by
    obtain h | h := hd
    · rw [h]
      rfl
    · rw [h, Bool.and_false]
  obtain ⟨r, hr⟩ := startWindow_own s ho
  have ht : (startWindow p s).tm = s.tm ∧ (startWindow p s).free = s.free
      ∧ (startWindow p s).leadRefuses s.free p.sub.target = s.leadRefuses s.free p.sub.target := by
    rw [hr]
    exact ⟨rfl, rfl, rfl⟩
  unfold forwardOut
  dsimp only
  rw [ht.1, ht.2.1, ht.2.2, hm, hl, hfull, hdiv]
  exact (if_neg (by decide)).trans ((if_neg (by decide)).trans ((if_neg (by decide)).trans (if_pos rfl)))

/-- R321: a command of an own ring on the lead. -/
theorem lead_clauses {i : Instr} {p : Spelled} {s : State} {body : State → State} (hring : ∀ t, exec i t = ringCmd i body t)
    (hp : spelled i = some p) (hs : s.serves p = true) (hc : s.entryCheck p = none) (ho : p.sub.origin = none)
    (hn : s.namesSelf p.sub = false) (hm : s.tm.isMember = true)
    (hd : s.tm.divergent = false ∨ groupTarget p.sub.target = false)
    (hfull : (startWindow p s).serveFull p.entry = false) (hl : s.tm.leading = true)
    (h38 : ¬ (groupTarget p.sub.target = true ∧ p.row.op = 0x38)) :
    let u := leadDrawn p.sub (startWindow p s)
    let targets := s.targetsOf s.free p.sub.target
    let v := leadKept p.sub p.entry targets u
    (targets = [] → exec i s = .next (finish p.row.op p.sub stUnreachable 0 u))
    ∧ (targets ≠ [] → Excluded s p.sub.target → exec i s = .next (finish p.row.op p.sub stVersion 0 u))
    ∧ (targets ≠ [] → ¬ Excluded s p.sub.target → s.engineId ∉ targets →
        exec i s = .next (originServe p.sub p.entry (hostAnswer i) (sendDown (leadCmd p.sub p.entry s) v)))
    ∧ (i = .nop p.sub → ¬ Excluded s p.sub.target → s.engineId ∈ targets →
        exec i s = .next (finish 0x00 p.sub stOk 0
          (if targets.all (· = s.engineId) then v else sendDown (leadCmd p.sub p.entry s) v))) := by
  intro u targets v
  have hmod := entry_op_mod hp
  have hdiv : (s.tm.divergent && groupTarget p.sub.target) = false := by
    obtain h | h := hd
    · rw [h]
      rfl
    · rw [h, Bool.and_false]
  obtain ⟨r, hr⟩ := startWindow_own s ho
  have hu : u = leadDrawn p.sub { s with rng := r } := congrArg (leadDrawn p.sub) hr
  have hutargets (k : Nat) : u.targetsOf k p.sub.target = s.targetsOf k p.sub.target := by
    rw [hu]
    unfold leadDrawn
    split <;> rfl
  have huid : u.engineId = s.engineId := by
    rw [hu]
    unfold leadDrawn
    split <;> rfl
  have hurefuses : u.leadRefuses s.free p.sub.target = s.leadRefuses s.free p.sub.target := by
    rw [hu]
    unfold leadDrawn
    split <;> rfl
  have hforward (body : State → State) (hring : ∀ t, exec i t = ringCmd i body t) : exec i s = .next
      (if (s.leadRefuses s.free p.sub.target).isSome then leadStart s.free p.sub p.entry (runHere p body) u
       else originServe p.sub p.entry (hostAnswer i) (leadStart s.free p.sub p.entry (runHere p body) u)) := by
    rw [exec_forwards (hring s) hp hs hc hn]
    refine congrArg Host.Outcome.next ?_
    have hstart : leadForward s.free p.sub p.entry (runHere p body) (startWindow p s)
        = leadStart s.free p.sub p.entry (runHere p body) u := leadForward_start (by rw [hmod]; exact h38)
    rw [← hstart]
    exact forwardOut_leads _ body ho hm hd hfull hl
  have hrefused (st : Half) (h : s.leadRefuses s.free p.sub.target = some st) :
      exec i s = .next (finish p.row.op p.sub st 0 u) := by
    rw [hforward body hring, h]
    refine congrArg Host.Outcome.next ?_
    show leadStart s.free p.sub p.entry (runHere p body) u = _
    unfold leadStart
    dsimp only
    rw [hurefuses, h, ← hmod]
  have hgoes (h : s.leadRefuses s.free p.sub.target = none) (body : State → State)
      (hring : ∀ t, exec i t = ringCmd i body t) :
      let w := if targets.all (· = s.engineId) then v else sendDown (leadCmd p.sub p.entry s) v
      exec i s = .next (originServe p.sub p.entry (hostAnswer i)
        (if s.engineId ∈ targets then runHere p body w else w)) := by
    have hspec := leadStart_spec (body := runHere p body) (entry := p.entry) ho (hurefuses.trans h)
    rw [hutargets, huid] at hspec
    have hcmd : leadCmd p.sub p.entry u = leadCmd p.sub p.entry s := by
      unfold leadCmd
      rw [huid]
    rw [hcmd] at hspec
    rw [hforward body hring, h]
    exact congrArg (fun x => Host.Outcome.next (originServe p.sub p.entry (hostAnswer i) x)) hspec
  refine ⟨fun h => hrefused _ (leadRefuses_none_targets h), fun h hx => hrefused _ (leadRefuses_excluded h hx),
    fun h hx hself => ?_, fun hi hx hself => ?_⟩
  · rw [hgoes (leadRefuses_none h hx) body hring, if_neg hself, if_neg]
    rw [List.all_eq_true]
    intro hall
    obtain ⟨a, ha⟩ := List.exists_mem_of_ne_nil _ h
    have : a = s.engineId := by simpa using hall a ha
    exact hself (this ▸ ha)
  · have hnone := leadRefuses_none (List.ne_nil_of_mem hself) hx
    have hrow : p.row = ⟨0x00, .any, false, false, false, true⟩ :=
      congrArg Spelled.row (Option.some.inj ((congrArg spelled hi).symm.trans hp)).symm
    have hreads (t : State) : originServe p.sub p.entry (hostAnswer i) t = t := by
      have hop : entryOp p.entry = 0 := by rw [entryOp_entry hp, hrow]
      refine if_pos ?_
      unfold entryReads
      rw [hop]
      rfl
    rw [hgoes hnone (finish 0x00 p.sub stOk 0) (by rw [hi]; exact fun _ => rfl), hreads, if_pos hself]
    refine congrArg Host.Outcome.next ?_
    have hhere (w : State) (hw : w.tm.divergent = s.tm.divergent) :
        runHere p (finish 0x00 p.sub stOk 0) w = finish 0x00 p.sub stOk 0 w := by
      unfold runHere
      rw [hw, hdiv, ho, hrow]
      exact (if_neg (by decide)).trans ((if_neg (by simp)).trans (if_pos rfl))
    have hv : v.tm.divergent = s.tm.divergent := by
      show (keepRunning p.sub _).tm.divergent = s.tm.divergent
      unfold keepRunning
      rw [ho]
      exact (congrArg (fun x => x.divergent) (leadDrawn_tm p.sub (startWindow p s))).trans (by rw [hr])
    refine hhere _ ?_
    split
    · exact hv
    · exact (congrArg (fun x => x.tm.divergent) (steady_sendDown (leadCmd p.sub p.entry s) v)).trans hv

/-! ### `TIMING_SET` of a team's P_NOM (R320) -/

theorem entryTiming_entry {p : Spelled} {o : TimingOps} (hp : spelled (.timingSet p.sub o) = some p) :
    entryTiming p.entry = o := by
  have hdec := decode_entry (.ok []) hp rfl (.inl rfl)
  have hop : entryOp p.entry = 0x38 := by
    rw [entryOp_entry hp]
    cases p
    cases hp
    rfl
  unfold decodeEntry entryPicture at hdec
  rw [hop] at hdec
  exact congrArg (fun x => match x with | some (Instr.timingSet _ o) => o | _ => entryTiming p.entry) hdec

/-- What a settled command of an own ring leaves. -/
theorem fwdSettle_own (f : Forward) (s : State) (ho : f.sub.origin = none) :
    let w := fwdSettle f s
    w.tm.members = s.tm.members ∧ w.tm.teamP = s.tm.teamP ∧ w.frm = s.frm ∧ w.trc = s.trc := by
  intro w
  have hw : w = fwdSettle f s := rfl
  unfold fwdSettle at hw
  dsimp only at hw
  rw [ho] at hw
  split at hw
  · rw [hw]
    dsimp only
    rw [ownDone_frame]
    exact ⟨rfl, rfl, rfl, rfl⟩
  · rw [hw]
    exact ⟨rfl, rfl, rfl, rfl⟩

theorem leadRefuse_own (b : Sub) (entry : BitVec 512) (targets bad : List (BitVec 10)) (st : Half) (s : State)
    (ho : b.origin = none) :
    let w := leadRefuse b entry targets bad st s
    w.tm.members = s.tm.members ∧ w.tm.teamP = s.tm.teamP ∧ w.frm = s.frm ∧ w.trc = s.trc := by
  intro w
  have h (f : Forward) (hf : f.sub = b) (x : State) (hx : x.tm.members = s.tm.members ∧ x.tm.teamP = s.tm.teamP
      ∧ x.frm = s.frm ∧ x.trc = s.trc) : (fwdSettle f x).tm.members = s.tm.members
      ∧ (fwdSettle f x).tm.teamP = s.tm.teamP ∧ (fwdSettle f x).frm = s.frm ∧ (fwdSettle f x).trc = s.trc := by
    obtain ⟨h1, h2, h3, h4⟩ := fwdSettle_own f x (by rw [hf]; exact ho)
    obtain ⟨k1, k2, k3, k4⟩ := hx
    exact ⟨h1.trans k1, h2.trans k2, h3.trans k3, h4.trans k4⟩
  refine h _ rfl _ ?_
  unfold keepRunning
  rw [ho]
  exact ⟨rfl, rfl, rfl, rfl⟩

theorem timing_clauses {p : Spelled} {s : State} {o : TimingOps} (hp : spelled (.timingSet p.sub o) = some p)
    (hs : s.serves p = true) (hc : s.entryCheck p = none) (ho : p.sub.origin = none) (hn : s.namesSelf p.sub = false)
    (hm : s.tm.isMember = true) (hd : s.tm.divergent = false ∨ groupTarget p.sub.target = false)
    (hl : s.tm.leading = true) (hg : groupTarget p.sub.target = true) (hmask : o.mask = 1)
    (hbad : (startWindow p s).leadTimingBad p.sub o = none) (ht : s.targetsOf s.free p.sub.target ≠ []) :
    let first := s.tm.tickNo.toNat + 3
    let named := (s.tm.tickNo + (o.frame - s.frm.frame).zeroExtend 64).toNat
    (s.leadTooLong o.pNom.toNat = [] → ∃ w, exec (.timingSet p.sub o) s = .next w ∧ w.tm.members = s.tm.members
      ∧ w.tm.teamP = s.tm.teamP
          ++ [(BitVec.ofNat 64 (if p.sub.atTick then max (first % 2 ^ 64) named else first), o.pNom.toNat)]
      ∧ w.frm = s.frm ∧ w.trc = s.trc)
    ∧ (s.leadTooLong o.pNom.toNat ≠ [] → ∃ w, exec (.timingSet p.sub o) s = .next w ∧ w.tm.teamP = s.tm.teamP
      ∧ w.frm = s.frm ∧ w.trc = s.trc) := by
  intro first named
  have hop : p.row.op = 0x38 := by
    cases p
    cases hp
    rfl
  have hreads : entryReads p.entry = 0 := by
    have hop : entryOp p.entry = 0x38 := by rw [entryOp_entry hp, hop]
    unfold entryReads
    rw [hop]
    rfl
  have hbit : entryField p.entry 16 2 % 2 = 1 := by
    have hmask : (e16 p.entry 16).toNat = 1 := by
      have h : (entryTiming p.entry).mask = 1 := by rw [entryTiming_entry hp, hmask]
      exact congrArg BitVec.toNat h
    rw [e16, BitVec.toNat_ofNat] at hmask
    unfold entryField
    rw [hmask]
  obtain ⟨r, hr⟩ := startWindow_own s ho
  have hfull : (startWindow p s).serveFull p.entry = false := by
    unfold State.serveFull
    rw [hreads]
    rfl
  have hserve (d : HostRead) (t : State) : originServe p.sub p.entry d t = t := if_pos hreads
  let u : State := (startWindow p s).draw.2
  have hu : u = ({ s with rng := r } : State).draw.2 := congrArg (fun x => x.draw.2) hr
  obtain ⟨body, hx⟩ : ∃ body, exec (.timingSet p.sub o) s = .next (leadTiming s.free p.sub p.entry body u) := by
    refine ⟨runHere p (timingBody p.sub o), ?_⟩
    rw [exec_forwards (body := timingBody p.sub o) rfl hp hs hc hn, forwardOut_leads _ _ ho hm hd hfull hl]
    simp only [hserve, ite_self]
    refine congrArg Host.Outcome.next ?_
    unfold leadForward
    dsimp only
    rw [hg, entry_op_mod hp, hop, hbit]
    rfl
  have hutargets : u.targetsOf s.free p.sub.target = s.targetsOf s.free p.sub.target := by
    rw [hu]
    rfl
  have hubad : u.leadTimingBad p.sub o = none := by
    rw [← hbad, hu, hr]
    rfl
  have hulong (n : Nat) : u.leadTooLong n = s.leadTooLong n := by
    rw [hu]
    rfl
  have hutm : u.tm = s.tm ∧ u.frm = s.frm ∧ u.trc = s.trc := by
    rw [hu]
    exact ⟨rfl, rfl, rfl⟩
  have hgo : leadTiming s.free p.sub p.entry body u =
      if !(s.leadTooLong o.pNom.toNat).isEmpty then
        leadRefuse p.sub p.entry (s.targetsOf s.free p.sub.target
          ++ (s.leadTooLong o.pNom.toNat).filter fun x => !(s.targetsOf s.free p.sub.target).contains x)
          (s.leadTooLong o.pNom.toNat) stBudget u
      else
        let tick := if p.sub.atTick then max u.schedulable.toNat (u.tickOf o.frame).toNat else u.schedulable.toNat
        leadRefuse p.sub p.entry (s.targetsOf s.free p.sub.target) [] stOk
          (u.mapTm fun m => { m with teamP := m.teamP ++ [(BitVec.ofNat 64 tick, o.pNom.toNat)] }) := by
    unfold leadTiming
    dsimp only
    rw [hutargets, entryTiming_entry hp, hubad, hulong, hmask]
    exact if_neg (by simpa using ht)
  refine ⟨fun h => ⟨_, hx, ?_⟩, fun h => ⟨_, hx, ?_⟩⟩
  · rw [hgo, h]
    let tick := if p.sub.atTick then max u.schedulable.toNat (u.tickOf o.frame).toNat else u.schedulable.toNat
    obtain ⟨h1, h2, h3, h4⟩ := leadRefuse_own p.sub p.entry (s.targetsOf s.free p.sub.target) [] stOk
      (u.mapTm fun m => { m with teamP := m.teamP ++ [(BitVec.ofNat 64 tick, o.pNom.toNat)] }) ho
    have htick : BitVec.ofNat 64 tick
        = BitVec.ofNat 64 (if p.sub.atTick then max (first % 2 ^ 64) named else first) := by
      have hfirst : u.schedulable.toNat = first % 2 ^ 64 := by
        rw [State.schedulable, hutm.1]
        exact BitVec.toNat_add ..
      have hnamed : (u.tickOf o.frame).toNat = named := by rw [State.tickOf, hutm.1, hutm.2.1]
      dsimp only [tick]
      rw [hfirst, hnamed]
      split
      · rfl
      · apply BitVec.eq_of_toNat_eq
        rw [BitVec.toNat_ofNat, BitVec.toNat_ofNat, Nat.mod_mod]
    have hteam : u.tm.teamP ++ [(BitVec.ofNat 64 tick, o.pNom.toNat)] = s.tm.teamP
        ++ [(BitVec.ofNat 64 (if p.sub.atTick then max (first % 2 ^ 64) named else first), o.pNom.toNat)] := by
      rw [htick, hutm.1]
    exact ⟨h1.trans (congrArg (fun x => x.members) hutm.1), h2.trans hteam, h3.trans hutm.2.1, h4.trans hutm.2.2⟩
  · rw [hgo, if_pos (by simpa using h)]
    obtain ⟨-, h2, h3, h4⟩ := leadRefuse_own p.sub p.entry (s.targetsOf s.free p.sub.target
      ++ (s.leadTooLong o.pNom.toNat).filter fun x => !(s.targetsOf s.free p.sub.target).contains x)
      (s.leadTooLong o.pNom.toNat) stBudget u ho
    exact ⟨h2.trans (congrArg (fun x => x.teamP) hutm.1), h3.trans hutm.2.1, h4.trans hutm.2.2⟩

theorem sendUp_parent {q : Fin 4} {s : State} (f : TFrame) (h : s.tm.parent = some q) : sendUp f s = portSend q f s := by
  unfold sendUp
  rw [h]

/-- Settles O5: the order of the tests before a command starts, and what `forwardOut` does with one for another engine. -/
theorem entryWaitsOrGoesOn : Obligations.EntryWaitsOrGoesOn := by
  refine ⟨fun i p s hp => waits_clauses i p s hp, fun i p s hp hs hc ho hn => ?_⟩
  intro t
  obtain ⟨body, hring, -, -⟩ := exec_ringBody i p hp
  have hx : exec i s = .next (forwardOut p (hostAnswer i) body t) := exec_forwards (hring s) hp hs hc hn
  obtain ⟨r, hr⟩ := startWindow_own s ho
  have htm : t.tm = s.tm ∧ t.engineId = s.engineId := by
    show (startWindow p s).tm = _ ∧ (startWindow p s).engineId = _
    rw [hr]
    exact ⟨rfl, rfl⟩
  refine ⟨fun hm => ?_, fun hm hd hg => ?_, fun hm hd => ?_⟩
  · rw [hx]
    exact congrArg Host.Outcome.next (if_pos (by rw [htm.1, hm]; rfl))
  · rw [hx]
    exact congrArg Host.Outcome.next
      ((if_neg (by rw [htm.1, hm]; decide)).trans (if_pos (by rw [htm.1, hd, hg]; rfl)))
  · have hdiv : (s.tm.divergent && groupTarget p.sub.target) = false := by
      obtain h | h := hd
      · rw [h]
        rfl
      · rw [h, Bool.and_false]
    have hout : forwardOut p (hostAnswer i) body t = if t.serveFull p.entry then finish p.row.op p.sub stNoSpace 0 t
        else if s.tm.leading then
          (if (t.leadRefuses t.free p.sub.target).isSome then leadForward t.free p.sub p.entry (runHere p body) t
           else originServe p.sub p.entry (hostAnswer i) (leadForward t.free p.sub p.entry (runHere p body) t))
        else match s.tm.parent with
          | none => finish p.row.op p.sub stUnreachable 0 t
          | some _ =>
            originServe p.sub p.entry (hostAnswer i) <|
            sendUp (.cmd 0x400 ⟨t.engineId.zeroExtend 16, BitVec.ofNat 8 p.sub.ring.val, false, p.entry⟩)
              (keepRunning p.sub (t.mapTm fun m =>
                { m with fwds := m.fwds ++ [⟨p.sub, p.entry, false, [(s.tm.lead.getD 0x3FF, .waiting 1)]⟩] })) := by
      rw [← htm.1]
      exact (if_neg (by rw [htm.1, hm]; decide)).trans (if_neg (by rw [htm.1, hdiv]; decide))
    rw [hx, hout]
    refine ⟨fun hf => ?_, fun hf hl hpar => ?_, fun q hf hl hpar => ?_, fun hf hl h38 => ?_,
      fun o hi hl hg hmask hbad ht => ?_⟩
    · exact congrArg Host.Outcome.next (if_pos hf)
    · rw [if_neg (by rw [hf]; decide), if_neg (by rw [hl]; decide), hpar]
    · rw [if_neg (by rw [hf]; decide), if_neg (by rw [hl]; decide), hpar, htm.2]
      refine congrArg (fun x => Host.Outcome.next (originServe p.sub p.entry (hostAnswer i) x)) ?_
      have hq (f : Machine.Team → Machine.Team) (hf : (f t.tm).parent = t.tm.parent) :
          (keepRunning p.sub (t.mapTm f)).tm.parent = some q := by
        unfold keepRunning
        rw [ho]
        exact hf.trans ((congrArg (fun x => x.parent) htm.1).trans hpar)
      exact sendUp_parent _ (hq _ rfl)
    · rw [← hout, ← hx]
      exact lead_clauses hring hp hs hc ho hn hm hd hf hl h38
    · rw [← hout, ← hx]
      subst hi
      exact timing_clauses hp hs hc ho hn hm hd hl hg hmask hbad ht

end Sys2Proof.Laws
end

section
/-!
A report changes nothing of the frame's timing where no fallback fill can take the place of the composition: before the cut-off
and from the guard on.
-/
namespace Sys2Proof.Laws
open Sys2Proof.Machine Sys2Proof.Claims

/-- The frame's timing, where a fallback fill can take no place in it. -/
def still (s : State) : Option Machine.Frm := if s.frm.cutDone && !s.frm.blank then none else some s.frm

theorem still_frm {s t : State} (h : still t = still s) (hs : s.frm.cutDone = false ∨ s.frm.blank = true) : t.frm = s.frm := by
  have hcond : (s.frm.cutDone && !s.frm.blank) = false := by
    obtain h | h := hs <;> simp [h]
  unfold still at h
  rw [hcond] at h
  split at h
  · cases h
  · exact Option.some.inj h

/-- A choice between two states. -/
@[simp] theorem still_ite {c : Prop} {_ : Decidable c} (s t : State) :
    still (if c then s else t) = if c then still s else still t := apply_ite ..

/-- A loop of steps that each keep it. -/
@[simp] theorem foldl_still {α : Type} (f : State → α → State) (l : List α) (s : State)
    (h : ∀ t a, still (f t a) = still t) : still (l.foldl f s) = still s := by
  induction l generalizing s with
  | nil => rfl
  | cons a l ih => rw [List.foldl_cons, ih, h]

@[simp] theorem mapClk_still (f : Clk → Clk) (s : State) : still (s.mapClk f) = still s := rfl
@[simp] theorem mapPwr_still (f : Pwr → Pwr) (s : State) : still (s.mapPwr f) = still s := rfl
@[simp] theorem mapBus_still (f : Bus → Bus) (s : State) : still (s.mapBus f) = still s := rfl
@[simp] theorem mapReg_still (f : Reg → Reg) (s : State) : still (s.mapReg f) = still s := rfl
@[simp] theorem mapRng_still (f : Rngs → Rngs) (s : State) : still (s.mapRng f) = still s := rfl
@[simp] theorem mapLg_still (f : Machine.Log → Machine.Log) (s : State) : still (s.mapLg f) = still s := rfl
@[simp] theorem mapFlt_still (f : Flt → Flt) (s : State) : still (s.mapFlt f) = still s := rfl
@[simp] theorem mapPool_still (f : Pool → Pool) (s : State) : still (s.mapPool f) = still s := rfl
@[simp] theorem mapScn_still (f : Scn → Scn) (s : State) : still (s.mapScn f) = still s := rfl
@[simp] theorem mapPho_still (f : Pho → Pho) (s : State) : still (s.mapPho f) = still s := rfl
@[simp] theorem mapArr_still (f : Arr → Arr) (s : State) : still (s.mapArr f) = still s := rfl
@[simp] theorem mapHlt_still (f : Hlt → Hlt) (s : State) : still (s.mapHlt f) = still s := rfl
@[simp] theorem mapSaf_still (f : Saf → Saf) (s : State) : still (s.mapSaf f) = still s := rfl
@[simp] theorem mapHk_still (f : Hk → Hk) (s : State) : still (s.mapHk f) = still s := rfl
@[simp] theorem mapCal_still (f : Cal → Cal) (s : State) : still (s.mapCal f) = still s := rfl
@[simp] theorem mapSec_still (f : Sec → Sec) (s : State) : still (s.mapSec f) = still s := rfl
@[simp] theorem mapTm_still (f : Machine.Team → Machine.Team) (s : State) : still (s.mapTm f) = still s := rfl
@[simp] theorem mapTrc_still (f : Trc → Trc) (s : State) : still (s.mapTrc f) = still s := rfl
@[simp] theorem mapRing_still (n : Nat) (f : Ring → Ring) (s : State) : still (mapRing n f s) = still s := rfl
@[simp] theorem mapPort_still (p : Fin 4) (f : Port → Port) (s : State) : still (mapPort p f s) = still s := rfl
@[simp] theorem mapOrigin_still (o : BitVec 10) (r : Nat) (f : OriginWindow → OriginWindow) (s : State) :
    still (mapOrigin o r f s) = still s := rfl
@[simp] theorem portEmit_still (p : Fin 4) (r : Word) (b : Bool) (f : TFrame) (s : State) :
    still (portEmit p r b f s) = still s := rfl
@[simp] theorem logAdd_still (k c : Nat) (t : Dword) (d : List Byte) (s : State) : still (logAdd k c t d s) = still s := rfl
@[simp] theorem logCompletion_still (op : Nat) (o : Option (BitVec 10)) (c : Completion) (s : State) :
    still (logCompletion op o c s) = still s := rfl
@[simp] theorem portSend_still (p : Fin 4) (f : TFrame) (s : State) : still (portSend p f s) = still s := by
  simp [portSend]
@[simp] theorem flood_still (b : Bool) (e : Option (Fin 4)) (f : TFrame) (s : State) :
    still (flood b e f s) = still s := by
  simp [flood]
@[simp] theorem sendDown_still (f : TFrame) (s : State) : still (sendDown f s) = still s := flood_still ..
@[simp] theorem sendUp_still (f : TFrame) (s : State) : still (sendUp f s) = still s := by
  unfold sendUp
  split <;> simp
@[simp] theorem cmdDown_still (f : Forward) (b : Bool) (t : BitVec 11) (s : State) :
    still (cmdDown f b t s) = still s := by
  simp [cmdDown]
@[simp] theorem busSend_still (o : BusOut) (s : State) : still (busSend o s) = still s := rfl
@[simp] theorem msixSend_still (v : Nat) (s : State) : still (msixSend v s) = still s := by
  simp [msixSend]
@[simp] theorem intCause_still (c : Nat) (s : State) : still (intCause c s) = still s := by
  simp [intCause]
@[simp] theorem eqModCheck_still (s : State) : still (eqModCheck s) = still s := by
  simp [eqModCheck]
@[simp] theorem eqWrite_still (e : Event) (s : State) : still (eqWrite e s) = still s := by
  simp [eqWrite]
@[simp] theorem forwardEvent_still (e : Event) (s : State) : still (forwardEvent e s) = still s := by
  simp [forwardEvent]
@[simp] theorem emitAt_still (t : Dword) (c : Nat) (d : List Byte) (s : State) : still (emitAt t c d s) = still s := by
  simp [emitAt]
@[simp] theorem emit_still (c : Nat) (d : List Byte) (s : State) : still (emit c d s) = still s := emitAt_still ..
@[simp] theorem cqModCheck_still (n : Nat) (s : State) : still (cqModCheck n s) = still s := by
  simp [cqModCheck]
@[simp] theorem cqWrite_still (op : Nat) (ioc : Bool) (c : Completion) (s : State) :
    still (cqWrite op ioc c s) = still s := by
  simp [cqWrite]
@[simp] theorem heldRelease_still (op n : Nat) (ioc : Bool) (seq : Word) (s : State) :
    still (heldRelease op n ioc seq s) = still s := by
  unfold heldRelease
  dsimp only
  split <;> simp
@[simp] theorem mutedDone_still (op : Nat) (sub : Sub) (st : Half) (res t : Dword) (s : State) :
    still (mutedDone op sub st res t s) = still s := by
  simp [mutedDone]
@[simp] theorem ownDone_still (op : Nat) (sub : Sub) (st : Half) (res t : Dword) (s : State) :
    still (ownDone op sub st res t s) = still s := by
  simp [ownDone]
@[simp] theorem cplSend_still (op : Nat) (o : BitVec 10) (d r : Bool) (a : List (BitVec 10)) (c : Completion) (s : State) :
    still (cplSend op o d r a c s) = still s := by
  unfold cplSend
  dsimp only
  split <;> simp
@[simp] theorem fwdSettle_still (f : Forward) (s : State) : still (fwdSettle f s) = still s := by
  unfold fwdSettle
  dsimp only
  split
  · split <;> simp
  · simp
@[simp] theorem fwdMark_still (f : Option Forward) (e : BitVec 10) (g : TargetState → TargetState) (s : State) :
    still (fwdMark f e g s) = still s := by
  unfold fwdMark
  split <;> simp
@[simp] theorem fwdTarget_still (o : Option (BitVec 10)) (r : Nat) (q : Word) (e : BitVec 10) (g : TargetState → TargetState)
    (s : State) : still (fwdTarget o r q e g s) = still s := by
  simp [fwdTarget]
@[simp] theorem otherDone_still (op : Nat) (sub : Sub) (o : BitVec 10) (st : Half) (res t : Dword) (s : State) :
    still (otherDone op sub o st res t s) = still s := by
  simp [otherDone]
@[simp] theorem finishAt_still (op : Nat) (sub : Sub) (st : Half) (res t : Dword) (s : State) :
    still (finishAt op sub st res t s) = still s := by
  unfold finishAt
  dsimp only
  split
  · simp
  · split <;> simp
@[simp] theorem finish_still (op : Nat) (sub : Sub) (st : Half) (res : Dword) (s : State) :
    still (finish op sub st res s) = still s := finishAt_still ..

@[simp] theorem fillInstead_still (m : Bool) (s : State) : still (fillInstead m s) = still s := by
  unfold fillInstead
  split
  · rfl
  · split
    · next h =>
      simp only [Bool.and_eq_true, Bool.not_eq_true'] at h
      obtain ⟨⟨⟨hcut, -⟩, hblank⟩, -⟩ := h
      have hs : still s = none := if_pos (by rw [hcut, hblank]; rfl)
      rw [hs]
      exact if_pos (by
        show (s.frm.cutDone && !s.frm.blank) = true
        rw [hcut, hblank]
        rfl)
    · rfl

@[simp] theorem calAbort_still (s : State) : still (calAbort s) = still s := by
  unfold calAbort
  split <;> simp
@[simp] theorem calLeave_still (s : State) : still (calLeave s) = still s := by simp [calLeave]
@[simp] theorem safetyEmit_still (f : Word) (st scene : Nat) (m : BitVec 12) (s : State) :
    still (safetyEmit f st scene m s) = still s := by simp [safetyEmit]
@[simp] theorem safetyEvent_still (f : Word) (st scene : Nat) (m : BitVec 12) (s : State) :
    still (safetyEvent f st scene m s) = still s := by simp [safetyEvent]
@[simp] theorem stateFlood_still (k : Nat) (d : List Byte) (s : State) : still (stateFlood k d s) = still s := by
  simp [stateFlood]
@[simp] theorem safetyNote_still (b : BitVec 12) (s : State) : still (safetyNote b s) = still s := by
  simp [safetyNote]
@[simp] theorem causeArise_still (b : BitVec 12) (s : State) : still (causeArise b s) = still s := by
  simp [causeArise]
@[simp] theorem spanCut_still (s : State) : still (spanCut s) = still s := by simp [spanCut]
@[simp] theorem tilesOpen_still (m : BitVec 256) (s : State) : still (tilesOpen m s) = still s := rfl
@[simp] theorem darkAdd_still (c : DarkCause) (s : State) : still (darkAdd c s) = still s := rfl
@[simp] theorem latchSet_still (src sev : Nat) (s : State) : still (latchSet src sev s) = still s := by simp [latchSet]
@[simp] theorem latchFirst_still (src sev : Nat) (t : Dword) (s : State) : still (latchFirst src sev t s) = still s := rfl
@[simp] theorem pinAssert_still (s : State) : still (pinAssert s) = still s := by simp [pinAssert]
@[simp] theorem raiseMin_still (src m : Nat) (d : List Byte) (s : State) : still (raiseMin src m d s) = still s := by
  simp [raiseMin]
@[simp] theorem raise_still (src : Nat) (d : List Byte) (s : State) : still (raise src d s) = still s := raiseMin_still ..
@[simp] theorem raiseAll_still (l : List Raise) (s : State) : still (raiseAll l s) = still s := by
  simp [raiseAll]
@[simp] theorem raised_still (q : List Raise × State) : still (raised q) = still q.2 := by
  simp [raised]
@[simp] theorem heldSet_still (src : Nat) (b : Bool) (s : State) : still (heldSet src b s) = still s := rfl
@[simp] theorem raiseOnce_still (src : Nat) (d : List Byte) (s : State) : still (raiseOnce src d s) = still s := by
  unfold raiseOnce
  split <;> simp
@[simp] theorem helloOut_still (p : Fin 4) (s : State) :
    still (helloOut p s) = still s := by
  simp [helloOut]
@[simp] theorem helloAll_still (s : State) :
    still (helloAll s) = still s := by
  simp [helloAll]
@[simp] theorem treeSet_still (parent : Option (Fin 4)) (dist : Nat) (s : State) :
    still (treeSet parent dist s) = still s := by
  unfold treeSet
  refine (foldl_still _ allPorts (s.mapTm fun t => { t with parent := parent, dist := dist }) fun _ _ => ?_).trans ?_
  · rfl
  · rfl
@[simp] theorem treeLose_still (s : State) :
    still (treeLose s) = still s := by
  unfold treeLose
  exact (treeSet_still ..).trans (foldl_still _ _ _ fun _ _ => rfl)
@[simp] theorem treeUpdate_still (s : State) :
    still (treeUpdate s) = still s := by
  unfold treeUpdate
  (repeat' split) <;> simp
@[simp] theorem marksEvent_still (s : State) :
    still (marksEvent s) = still s := by
  simp [marksEvent]

end Sys2Proof.Laws
end

section
/-!
What a tick does to the numbers that it shows, to the parameters, to the armed changes and to the registers, step by step.
-/
namespace Sys2Proof.Laws
open Sys2Proof.Machine Sys2Proof.Claims

/-- What a tick numbers, shows and applies. -/
structure TickView where
  frame : Word
  ticked : Bool
  tickLoc : Nat
  shown : Option Shown
  skips : Nat
  cutDone : Bool
  blank : Bool
  armed : List ArmedCmd
  params : Params
  sets : List ArmedSet
  force : List (Nat × Word)
  teamP : List (Dword × Nat)
  rowsA : List (Nat × List Half)
  rowsS : List (Nat × List Half)
  crcA : List (Nat × Word)
  curb : Nat
  tickTime : Dword
  tickFrame : Word

def view (s : State) : TickView :=
  { frame := s.frm.frame, ticked := s.frm.ticked, tickLoc := s.frm.tickLoc, shown := s.frm.shown, skips := s.frm.skips
    cutDone := s.frm.cutDone, blank := s.frm.blank, armed := s.frm.armed, params := s.frm.params, sets := s.reg.sets
    force := s.reg.force, teamP := s.tm.teamP, rowsA := s.arr.a, rowsS := s.arr.s, crcA := s.arr.crcA, curb := s.pho.curb
    tickTime := s.clk.tickTime, tickFrame := s.clk.tickFrame }

theorem view_of_calm {s t : State} (h : calm t = calm s) : view t = view s := by
  have hv (u : State) : view (calm u) = view u := rfl
  rw [← hv t, h, hv]

theorem view_of_steady {s t : State} (h : steady t = steady s) : view t = view s := view_of_calm (calm_of_steady h)

/-- A choice between two states. -/
@[simp] theorem ite_view {c : Prop} {_ : Decidable c} (s t : State) :
    view (if c then s else t) = if c then view s else view t := apply_ite ..
@[simp] theorem snd_ite_view {α : Type} {c : Prop} {_ : Decidable c} (s t : α × State) :
    view (if c then s else t).2 = if c then view s.2 else view t.2 := by split <;> rfl

/-- A loop of steps that each keep it. -/
@[simp] theorem foldl_view {α : Type} (f : State → α → State) (l : List α) (s : State)
    (h : ∀ t a, view (f t a) = view t) : view (l.foldl f s) = view s := by
  induction l generalizing s with
  | nil => rfl
  | cons a l ih => rw [List.foldl_cons, ih, h]
@[simp] theorem foldl_snd_view {α β : Type} (f : β × State → α → β × State) (l : List α) (q : β × State)
    (h : ∀ t a, view (f t a).2 = view t.2) : view (l.foldl f q).2 = view q.2 := by
  induction l generalizing q with
  | nil => rfl
  | cons a l ih => rw [List.foldl_cons, ih, h]

@[simp] theorem mapPwr_view (f : Pwr → Pwr) (s : State) : view (s.mapPwr f) = view s := rfl
@[simp] theorem mapBus_view (f : Bus → Bus) (s : State) : view (s.mapBus f) = view s := rfl
@[simp] theorem mapRng_view (f : Rngs → Rngs) (s : State) : view (s.mapRng f) = view s := rfl
@[simp] theorem mapLg_view (f : Machine.Log → Machine.Log) (s : State) : view (s.mapLg f) = view s := rfl
@[simp] theorem mapFlt_view (f : Flt → Flt) (s : State) : view (s.mapFlt f) = view s := rfl
@[simp] theorem mapPool_view (f : Pool → Pool) (s : State) : view (s.mapPool f) = view s := rfl
@[simp] theorem mapScn_view (f : Scn → Scn) (s : State) : view (s.mapScn f) = view s := rfl
@[simp] theorem mapHlt_view (f : Hlt → Hlt) (s : State) : view (s.mapHlt f) = view s := rfl
@[simp] theorem mapSaf_view (f : Saf → Saf) (s : State) : view (s.mapSaf f) = view s := rfl
@[simp] theorem mapHk_view (f : Hk → Hk) (s : State) : view (s.mapHk f) = view s := rfl
@[simp] theorem mapCal_view (f : Cal → Cal) (s : State) : view (s.mapCal f) = view s := rfl
@[simp] theorem mapSec_view (f : Sec → Sec) (s : State) : view (s.mapSec f) = view s := rfl
@[simp] theorem mapLan_view (f : Lan → Lan) (s : State) : view (s.mapLan f) = view s := rfl
@[simp] theorem mapTrc_view (f : Trc → Trc) (s : State) : view (s.mapTrc f) = view s := rfl

/-- A group of which a field is viewed keeps it when its update does. -/
@[simp] theorem mapFrm_view (f : Machine.Frm → Machine.Frm) (s : State) (h1 : ∀ x, (f x).frame = x.frame)
    (h2 : ∀ x, (f x).ticked = x.ticked) (h3 : ∀ x, (f x).tickLoc = x.tickLoc) (h4 : ∀ x, (f x).shown = x.shown)
    (h5 : ∀ x, (f x).skips = x.skips) (h6 : ∀ x, (f x).cutDone = x.cutDone) (h7 : ∀ x, (f x).blank = x.blank)
    (h8 : ∀ x, (f x).armed = x.armed) (h9 : ∀ x, (f x).params = x.params) : view (s.mapFrm f) = view s := by
  simp [view, h1, h2, h3, h4, h5, h6, h7, h8, h9]
@[simp] theorem mapArr_view (f : Arr → Arr) (s : State) (ha : ∀ x, (f x).a = x.a) (hs : ∀ x, (f x).s = x.s)
    (hc : ∀ x, (f x).crcA = x.crcA) : view (s.mapArr f) = view s := by simp [view, ha, hs, hc]
@[simp] theorem mapReg_view (f : Reg → Reg) (s : State) (hs : ∀ x, (f x).sets = x.sets) (hf : ∀ x, (f x).force = x.force) :
    view (s.mapReg f) = view s := by simp [view, hs, hf]
@[simp] theorem mapTm_view (f : Machine.Team → Machine.Team) (s : State) (h : ∀ x, (f x).teamP = x.teamP) :
    view (s.mapTm f) = view s := by simp [view, h]
@[simp] theorem mapPho_view (f : Pho → Pho) (s : State) (h : ∀ x, (f x).curb = x.curb) : view (s.mapPho f) = view s := by
  simp [view, h]
@[simp] theorem mapClk_view (f : Clk → Clk) (s : State) (ht : ∀ x, (f x).tickTime = x.tickTime)
    (hf : ∀ x, (f x).tickFrame = x.tickFrame) : view (s.mapClk f) = view s := by simp [view, ht, hf]
@[simp] theorem draw_view (s : State) : view s.draw.2 = view s := rfl

@[simp] theorem mapRing_view (n : Nat) (f : Ring → Ring) (s : State) :
    view (mapRing n f s) = view s := view_of_steady (steady_mapRing ..)
@[simp] theorem mapPort_view (p : Fin 4) (f : Port → Port) (s : State) :
    view (mapPort p f s) = view s := view_of_steady (steady_mapPort ..)
@[simp] theorem portSend_view (p : Fin 4) (f : TFrame) (s : State) :
    view (portSend p f s) = view s := view_of_steady (steady_portSend ..)
@[simp] theorem flood_view (b : Bool) (e : Option (Fin 4)) (f : TFrame) (s : State) :
    view (flood b e f s) = view s := view_of_steady (steady_flood ..)
@[simp] theorem sendDown_view (f : TFrame) (s : State) :
    view (sendDown f s) = view s := view_of_steady (steady_sendDown ..)
@[simp] theorem sendUp_view (f : TFrame) (s : State) :
    view (sendUp f s) = view s := view_of_steady (steady_sendUp ..)
@[simp] theorem msixSend_view (v : Nat) (s : State) :
    view (msixSend v s) = view s := view_of_steady (steady_msixSend ..)
@[simp] theorem intCause_view (c : Nat) (s : State) :
    view (intCause c s) = view s := view_of_steady (steady_intCause ..)
@[simp] theorem eqModCheck_view (s : State) :
    view (eqModCheck s) = view s := view_of_steady (steady_eqModCheck ..)
@[simp] theorem cqModCheck_view (n : Nat) (s : State) :
    view (cqModCheck n s) = view s := view_of_steady (steady_cqModCheck ..)
@[simp] theorem emitAt_view (t : Dword) (c : Nat) (d : List Byte) (s : State) :
    view (emitAt t c d s) = view s := view_of_steady (steady_emitAt ..)
@[simp] theorem emit_view (c : Nat) (d : List Byte) (s : State) :
    view (emit c d s) = view s := view_of_steady (steady_emit ..)
@[simp] theorem finish_view (op : Nat) (sub : Sub) (st : Half) (res : Dword) (s : State) :
    view (finish op sub st res s) = view s := view_of_steady (steady_finish ..)
@[simp] theorem postsFresh_view (s : State) :
    view (postsFresh s) = view s := view_of_steady (steady_postsFresh ..)
@[simp] theorem clearWrite_view (s : State) :
    view (clearWrite s) = view s := view_of_steady (steady_clearWrite ..)
@[simp] theorem fillInstead_view (m : Bool) (s : State) :
    view (fillInstead m s) = view s := view_of_steady (steady_fillInstead ..)
@[simp] theorem calAbort_view (s : State) :
    view (calAbort s) = view s := view_of_steady (steady_calAbort ..)
@[simp] theorem safetyEmit_view (f : Word) (st scene : Nat) (m : BitVec 12) (s : State) :
    view (safetyEmit f st scene m s) = view s := view_of_steady (steady_safetyEmit ..)
@[simp] theorem safetyEvent_view (f : Word) (st scene : Nat) (m : BitVec 12) (s : State) :
    view (safetyEvent f st scene m s) = view s := view_of_steady (steady_safetyEvent ..)
@[simp] theorem stateFlood_view (k : Nat) (d : List Byte) (s : State) :
    view (stateFlood k d s) = view s := view_of_steady (steady_stateFlood ..)
@[simp] theorem safetyNote_view (b : BitVec 12) (s : State) :
    view (safetyNote b s) = view s := view_of_steady (steady_safetyNote ..)
@[simp] theorem causeArise_view (b : BitVec 12) (s : State) :
    view (causeArise b s) = view s := view_of_steady (steady_causeArise ..)
@[simp] theorem spanCut_view (s : State) :
    view (spanCut s) = view s := view_of_steady (steady_spanCut ..)
@[simp] theorem tilesOpen_view (m : BitVec 256) (s : State) :
    view (tilesOpen m s) = view s := view_of_steady (steady_tilesOpen ..)
@[simp] theorem darkAdd_view (c : DarkCause) (s : State) :
    view (darkAdd c s) = view s := view_of_steady (steady_darkAdd ..)
@[simp] theorem raiseMin_view (src m : Nat) (d : List Byte) (s : State) :
    view (raiseMin src m d s) = view s := view_of_steady (steady_raiseMin ..)
@[simp] theorem raise_view (src : Nat) (d : List Byte) (s : State) :
    view (raise src d s) = view s := view_of_steady (steady_raise ..)
@[simp] theorem raiseAll_view (l : List Raise) (s : State) :
    view (raiseAll l s) = view s := view_of_steady (steady_raiseAll ..)
@[simp] theorem raised_view (q : List Raise × State) :
    view (raised q) = view q.2 := view_of_steady (steady_raised ..)
@[simp] theorem raiseOnce_view (src : Nat) (d : List Byte) (s : State) :
    view (raiseOnce src d s) = view s := view_of_calm (raiseOnce_calm ..)
@[simp] theorem helloAll_view (s : State) :
    view (helloAll s) = view s := view_of_calm (helloAll_calm ..)
@[simp] theorem treeSet_view (parent : Option (Fin 4)) (dist : Nat) (s : State) :
    view (treeSet parent dist s) = view s := view_of_calm (treeSet_calm ..)
@[simp] theorem treeLose_view (s : State) :
    view (treeLose s) = view s := view_of_calm (treeLose_calm ..)
@[simp] theorem treeUpdate_view (s : State) :
    view (treeUpdate s) = view s := view_of_calm (treeUpdate_calm ..)
@[simp] theorem portsSync_view (s : State) :
    view (portsSync s) = view s := view_of_calm (portsSync_calm ..)
@[simp] theorem powerEvent_view (new prev abort abandoned : Nat) (s : State) :
    view (powerEvent new prev abort abandoned s) = view s := view_of_calm (powerEvent_calm ..)
@[simp] theorem marksEvent_view (s : State) :
    view (marksEvent s) = view s := view_of_calm (marksEvent_calm ..)
@[simp] theorem frameMem_view (src unit kind layer : Nat) (frame : Word) (q : List Raise × State) :
    view (frameMem src unit kind layer frame q).2 = view q.2 := rfl
@[simp] theorem cfgTouch_view (sh lo : Bool) (s : State) : view (cfgTouch sh lo s) = view s := rfl
@[simp] theorem touchChanges_view (l : List Change) (s : State) : view (touchChanges l s) = view s := rfl
@[simp] theorem mapSubs_view (f : Sub → Sub) (s : State) : view (s.mapSubs f) = view s := rfl
@[simp] theorem regAccess_view (off kind bar be : Nat) (s : State) : view (regAccess off kind bar be s) = view s := raise_view ..
@[simp] theorem waitRaise_view (src : Nat) (data : List Byte) (q : List Raise × State) :
    view (waitRaise src data q).2 = view q.2 := by
  simp [waitRaise]
@[simp] theorem frameCe_view (kind layer : Nat) (frame : Word) (units : List Nat) (q : List Raise × State) :
    view (frameCe kind layer frame units q).2 = view q.2 :=
  (foldl_snd_view (fun q u => frameMem fMemCe (unitOf u) kind layer frame q) _ _ fun _ _ => rfl).trans rfl
@[simp] theorem memberEvent_view (id : BitVec 10) (change dist : Nat) (state quality : Byte) (path : Dword) (s : State) :
    view (memberEvent id change dist state quality path s) = view s := by
  simp [memberEvent]
@[simp] theorem selfEvent_view (change : Nat) (s : State) :
    view (selfEvent change s) = view s := by
  simp [selfEvent]
@[simp] theorem leadEvent_view (new prev : Option (BitVec 10)) (term frame : Word) (reason : Nat) (s : State) :
    view (leadEvent new prev term frame reason s) = view s := by
  simp [leadEvent]
@[simp] theorem memberUpdate_view (s : State) :
    view (memberUpdate s) = view s := by
  simp [memberUpdate]
@[simp] theorem missTick_view (s : State) :
    view (missTick s) = view s := by
  simp [missTick]
@[simp] theorem takeOver_view (s : State) :
    view (takeOver s) = view s := by
  simp [takeOver, Clk.undisciplined]
@[simp] theorem announceHandback_view (s : State) :
    view (announceHandback s) = view s := by
  unfold announceHandback
  (repeat' split) <;> simp
@[simp] theorem settleSend_view (s : State) :
    view (settleSend s) = view s := by
  simp [settleSend]
@[simp] theorem stateTick_view (s : State) :
    view (stateTick s) = view s := by
  simp [stateTick]
@[simp] theorem stateEnd_view (s : State) :
    view (stateEnd s) = view s := by
  simp [stateEnd]
@[simp] theorem ringEnable_view (n : Nat) (s : State) :
    view (ringEnable n s) = view s := by
  simp [ringEnable]
@[simp] theorem ringDisable_view (n : Nat) (s : State) :
    view (ringDisable n s) = view s := by
  simp [ringDisable]
@[simp] theorem ringsSync_view (s : State) :
    view (ringsSync s) = view s := by
  simp [ringsSync]
@[simp] theorem groupRefuse_view (g : Nat) (s : State) :
    view (groupRefuse g s) = view s := by
  simp [groupRefuse]
@[simp] theorem modeMove_view (idle : Bool) (s : State) :
    view (modeMove idle s) = view s := by
  unfold modeMove
  split <;> simp
@[simp] theorem canRestart_view (before : State) (s : State) :
    view (canRestart before s) = view s := by
  simp [canRestart]
@[simp] theorem curbLoad_view (t s : State) : view (curbLoad t s) = view t := rfl
@[simp] theorem frameEvent_view (bit code : Nat) (data : List Byte) (s : State) :
    view (frameEvent bit code data s) = view s := by
  simp [frameEvent]
@[simp] theorem firmMeet_view (q : List Raise × State) :
    view (firmMeet q).2 = view q.2 :=
  (foldl_snd_view (fun q u => frameMem fMemUe u 9 0 0 (q.1, q.2.mapPool fun p => { p with mapUe := p.mapUe ++ [u] }))
    _ _ fun _ _ => rfl).trans (frameCe_view ..)
@[simp] theorem bar_view (w : BarWhy) (s : State) :
    view (bar w s) = view s := by
  simp [bar]
@[simp] theorem vledEarly_view (c : CompSet) (s : State) :
    view (vledEarly c s) = view s := by
  simp [vledEarly]
@[simp] theorem composeDoneOp_view (c : CompSet) (s : State) :
    view (composeDoneOp c s) = view s := by
  simp [composeDoneOp]
@[simp] theorem fixFrame_view (c : CompSet) (s : State) :
    view (fixFrame c s) = view s := by
  simp [fixFrame]
@[simp] theorem underrun_view (s : State) :
    view (underrun s) = view s := by
  simp [underrun]
@[simp] theorem divisionResidue_view (c : CompSet) (s : State) :
    view (divisionResidue c s) = view s := by
  simp [divisionResidue]
@[simp] theorem doneFirst_view (s : State) :
    view (doneFirst s) = view s := by
  unfold doneFirst
  split <;> simp
@[simp] theorem stuckIsolate_view (x y : Nat) (s : State) :
    view (stuckIsolate x y s) = view s := by
  simp [stuckIsolate]
@[simp] theorem stuckTick_view (s : State) :
    view (stuckTick s) = view s := by
  simp [stuckTick]
@[simp] theorem pixRaise_view (frame : Word) (new : PixelFault → List Nat) (s : State) :
    view (pixRaise frame new s).2 = view s := by
  simp [pixRaise]
@[simp] theorem markTick_view (i : Nat) (q : List Raise × State) :
    view (markTick i q).2 = view q.2 := by
  simp [markTick]
@[simp] theorem marksTick_view (q : List Raise × State) :
    view (marksTick q).2 = view q.2 := by
  simp [marksTick]
@[simp] theorem healthAfter_view (frame : Word) (new : PixelFault → List Nat) (s : State) :
    view (healthAfter frame new s).2 = view s := by
  simp [healthAfter]
@[simp] theorem fsyncUsed_view (s : State) :
    view (fsyncUsed s) = view s := by
  simp [fsyncUsed]
@[simp] theorem calTake_view (c : CompSet) (s : State) :
    view (calTake c s) = view s := by
  unfold calTake
  split <;> simp
@[simp] theorem governorTick_view (s : State) :
    view (governorTick s).2 = view s := by
  simp [governorTick]
@[simp] theorem isolRelease_view (s : State) :
    view (isolRelease s) = view s := by
  simp [isolRelease]
@[simp] theorem captureTick_view (frame : Word) (swap : Bool) (s0 s : State) :
    view (captureTick frame swap s0 s) = view s := by
  unfold captureTick
  split <;> simp
@[simp] theorem srcTick_view (s : State) :
    view (srcTick s) = view s := by
  simp [srcTick]
@[simp] theorem lenTick_view (old s : State) :
    view (lenTick old s) = view s := by
  simp [lenTick]
@[simp] theorem pwmTick_view (src : TickSource) (s : State) : view (pwmTick src s) = view s := by
  unfold pwmTick
  dsimp only
  rw [mapFrm_view]
  · simp
  all_goals
    intro f
    split <;> rfl
@[simp] theorem rampTick_view (bad : List (BitVec 8)) (frame : Word) (s : State) :
    view (rampTick bad frame s).2 = view s := by
  simp [rampTick]
@[simp] theorem marksAtTick_view (old : Option Shown) (s : State) :
    view (marksAtTick old s) = view s := by
  simp [marksAtTick]
@[simp] theorem safetyAtTick_view (s : State) :
    view (safetyAtTick s) = view s := by
  unfold safetyAtTick
  (repeat' split) <;> simp
@[simp] theorem calStartTick_view (c : Option CompSet) (swap : Bool) (s : State) :
    view (calStartTick c swap s) = view s := by
  unfold calStartTick
  split <;> simp
@[simp] theorem teamTick_view (s : State) :
    view (teamTick s) = view s := by
  simp [teamTick]
@[simp] theorem tickEvent_view (swap armed : Bool) (s : State) :
    view (tickEvent swap armed s) = view s := by
  simp [tickEvent]
@[simp] theorem usesTick_view (s : State) :
    view (usesTick s) = view s := by
  simp [usesTick]
@[simp] theorem returnBlocks_view (h : Handle) (s : State) :
    view (returnBlocks h s) = view s := by
  simp [returnBlocks]

@[simp] theorem mapHandle_view (slot : Nat) (f : Handle → Handle) (s : State) :
    view (mapHandle slot f s) = view s := by
  simp [mapHandle]
@[simp] theorem freeNow_view (h : Handle) (s : State) :
    view (freeNow h s) = view s := by
  simp [freeNow]
@[simp] theorem freeingTick_view (s : State) :
    view (freeingTick s) = view s := by
  simp [freeingTick]

end Sys2Proof.Laws
end

section
/-!
The tick: what its steps do to the numbers, to the shown frame and to the frame that is built next. O42.
-/
namespace Sys2Proof.Laws
open Sys2Proof.Machine Sys2Proof.Claims

/-! ### Steps that leave the frame's timing -/

@[simp] theorem snd_ite_still {α : Type} {c : Prop} {_ : Decidable c} (s t : α × State) :
    still (if c then s else t).2 = if c then still s.2 else still t.2 := by split <;> rfl
@[simp] theorem foldl_snd_still {α β : Type} (f : β × State → α → β × State) (l : List α) (q : β × State)
    (h : ∀ t a, still (f t a).2 = still t.2) : still (l.foldl f q).2 = still q.2 := by
  induction l generalizing q with
  | nil => rfl
  | cons a l ih => rw [List.foldl_cons, ih, h]
@[simp] theorem regAccess_still (off kind bar be : Nat) (s : State) : still (regAccess off kind bar be s) = still s := raise_still ..
@[simp] theorem waitRaise_still (src : Nat) (data : List Byte) (q : List Raise × State) :
    still (waitRaise src data q).2 = still q.2 := by
  simp [waitRaise]
@[simp] theorem frameMem_still (src unit kind layer : Nat) (frame : Word) (q : List Raise × State) :
    still (frameMem src unit kind layer frame q).2 = still q.2 := rfl
@[simp] theorem frameCe_still (kind layer : Nat) (frame : Word) (units : List Nat) (q : List Raise × State) :
    still (frameCe kind layer frame units q).2 = still q.2 :=
  (foldl_snd_still (fun q u => frameMem fMemCe (unitOf u) kind layer frame q) _ _ fun _ _ => rfl).trans rfl
@[simp] theorem memberEvent_still (id : BitVec 10) (change dist : Nat) (state quality : Byte) (path : Dword) (s : State) :
    still (memberEvent id change dist state quality path s) = still s := by
  simp [memberEvent]
@[simp] theorem selfEvent_still (change : Nat) (s : State) :
    still (selfEvent change s) = still s := by
  simp [selfEvent]
@[simp] theorem leadEvent_still (new prev : Option (BitVec 10)) (term frame : Word) (reason : Nat) (s : State) :
    still (leadEvent new prev term frame reason s) = still s := by
  simp [leadEvent]
@[simp] theorem takeOver_still (s : State) :
    still (takeOver s) = still s := by
  simp [takeOver]
@[simp] theorem announceHandback_still (s : State) :
    still (announceHandback s) = still s := by
  unfold announceHandback
  (repeat' split) <;> simp
@[simp] theorem settleSend_still (s : State) :
    still (settleSend s) = still s := by
  simp [settleSend]
@[simp] theorem stateTick_still (s : State) :
    still (stateTick s) = still s := by
  simp [stateTick]
@[simp] theorem stateEnd_still (s : State) :
    still (stateEnd s) = still s := by
  simp [stateEnd]
@[simp] theorem frameEvent_still (bit code : Nat) (data : List Byte) (s : State) :
    still (frameEvent bit code data s) = still s := by
  simp [frameEvent]
@[simp] theorem firmMeet_still (q : List Raise × State) :
    still (firmMeet q).2 = still q.2 :=
  (foldl_snd_still (fun q u => frameMem fMemUe u 9 0 0 (q.1, q.2.mapPool fun p => { p with mapUe := p.mapUe ++ [u] }))
    _ _ fun _ _ => rfl).trans (frameCe_still ..)
@[simp] theorem stuckIsolate_still (x y : Nat) (s : State) :
    still (stuckIsolate x y s) = still s := by
  simp [stuckIsolate]
@[simp] theorem stuckTick_still (s : State) :
    still (stuckTick s) = still s := by
  simp [stuckTick]
@[simp] theorem pixRaise_still (frame : Word) (new : PixelFault → List Nat) (s : State) :
    still (pixRaise frame new s).2 = still s := by
  simp [pixRaise]
@[simp] theorem markTick_still (i : Nat) (q : List Raise × State) :
    still (markTick i q).2 = still q.2 := by
  simp [markTick]
@[simp] theorem marksTick_still (q : List Raise × State) :
    still (marksTick q).2 = still q.2 := by
  simp [marksTick]
@[simp] theorem healthAfter_still (frame : Word) (new : PixelFault → List Nat) (s : State) :
    still (healthAfter frame new s).2 = still s := by
  simp [healthAfter]
@[simp] theorem governorTick_still (s : State) :
    still (governorTick s).2 = still s := by
  simp [governorTick]
@[simp] theorem captureTick_still (frame : Word) (swap : Bool) (s0 s : State) :
    still (captureTick frame swap s0 s) = still s := by
  unfold captureTick
  split <;> simp
@[simp] theorem rampTick_still (bad : List (BitVec 8)) (frame : Word) (s : State) :
    still (rampTick bad frame s).2 = still s := by
  simp [rampTick]
@[simp] theorem marksAtTick_still (old : Option Shown) (s : State) :
    still (marksAtTick old s) = still s := by
  simp [marksAtTick]
@[simp] theorem safetyAtTick_still (s : State) :
    still (safetyAtTick s) = still s := by
  unfold safetyAtTick
  (repeat' split) <;> simp
@[simp] theorem calStartTick_still (c : Option CompSet) (swap : Bool) (s : State) :
    still (calStartTick c swap s) = still s := by
  unfold calStartTick
  split <;> simp
@[simp] theorem tickEvent_still (swap armed : Bool) (s : State) :
    still (tickEvent swap armed s) = still s := by
  simp [tickEvent]
@[simp] theorem usesTick_still (s : State) :
    still (usesTick s) = still s := by
  simp [usesTick]
@[simp] theorem returnBlocks_still (h : Handle) (s : State) :
    still (returnBlocks h s) = still s := by
  simp [returnBlocks]
@[simp] theorem mapHandle_still (slot : Nat) (f : Handle → Handle) (s : State) :
    still (mapHandle slot f s) = still s := by
  simp [mapHandle]
@[simp] theorem freeNow_still (h : Handle) (s : State) :
    still (freeNow h s) = still s := by
  simp [freeNow]
@[simp] theorem freeingTick_still (s : State) :
    still (freeingTick s) = still s := by
  simp [freeingTick]

/-! ### The steps of a tick -/

/-- What the frame, the array, the photometry, the clocks and the registers hold, and the team's tick and schedule. -/
def body (s : State) : Machine.Frm × Arr × Pho × Clk × Reg × Dword × List (Dword × Nat) × List SchedEntry :=
  (s.frm, s.arr, s.pho, s.clk, s.reg, s.tm.tickNo, s.tm.teamP, s.tm.entries)

theorem view_of_body {s t : State} (h : body t = body s) : view t = view s := by
  simp only [body, Prod.mk.injEq] at h
  obtain ⟨h1, h2, h3, h4, h5, -, h7, -⟩ := h
  unfold view
  rw [h1, h2, h3, h4, h5, h7]

theorem body_foldl_snd {α β : Type} (f : β × State → α → β × State) (l : List α) (q : β × State)
    (h : ∀ t a, body (f t a).2 = body t.2) : body (l.foldl f q).2 = body q.2 := by
  induction l generalizing q with
  | nil => rfl
  | cons a l ih => rw [List.foldl_cons, ih, h]

theorem pixMeet_body (frame : Word) (inside : Nat → Bool) (q : List Raise × State) :
    body (pixMeet frame inside q).2 = body q.2 :=
  (body_foldl_snd (fun q u => frameMem fMemUe u 3 0 frame q) _ _ fun _ _ => rfl).trans
    (body_foldl_snd (fun q u => frameMem fMemCe (unitOf u) 3 0 frame q) _ _ fun _ _ => rfl)

/-- The health of the pixels, and a schedule that did not come, touch none of these. -/
theorem healthTick_body (frame : Word) (s : State) : body (healthTick frame (missTick s)).2.2 = body s := by
  have hmiss : body (missTick s) = body s := by
    unfold missTick
    split <;> rfl
  refine Eq.trans ?_ hmiss
  generalize missTick s = t
  unfold healthTick
  split
  · rfl
  · exact pixMeet_body frame inPixmap ([], _)

theorem guardOp_view (b : Bool) (s : State) : view (guardOp b s) = { view s with blank := true } := by
  have hblank (t : State) : view (t.mapFrm fun f => { f with blank := true }) = { view t with blank := true } := rfl
  unfold guardOp
  dsimp only
  (repeat' split) <;> simp [hblank]

/-- What a tick shows of the frame that was written. -/
def shownNow (c : CompSet) (d : Decision) (s : State) : Shown :=
  { frame := c.frame, fallback := d.fallback, scene := d.scene, causes := d.causes, demanded := d.demanded
    added := if d.fallback then 0 else d.added, road := d.road, geom := d.geom, limit := d.limit
    iPred := iPred (s.pho.aH + s.pho.aN) c.n, iLimit := c.iLimit, surfs := s.usedSurfs d }

theorem swapOp_view (c : CompSet) (d : Decision) (s : State) :
    ∃ h, (h.frame = c.frame ∧ h.fallback = d.fallback ∧ h.scene = d.scene ∧ h.demanded = d.demanded ∧ h.road = d.road)
      ∧ view (swapOp c d s) =
        { view s with rowsA := s.arr.s, crcA := s.arr.crcS, curb := s.pho.fixed, skips := 0, shown := some h } := by
  let X : State :=
    let u := s.mapHk fun h => { h with shownIn := h.shownIn ++ [(s.cDiag, s.arr.a)] }
    let u := u.mapArr fun a => { a with a := a.s, crcA := a.crcS, trims := c.trims, q := c.q, aT := u.pho.aTile }
    curbLoad (u.mapPho fun p => { p with curb := p.fixed, alpha := p.nextAlpha }) u
  refine ⟨shownNow c d s, ⟨rfl, rfl, rfl, rfl, rfl⟩, ?_⟩
  have hX : view (calTake c X) = view X := calTake_view c X
  refine Eq.trans (b := { view (calTake c X) with skips := 0, shown := some (shownNow c d s) }) rfl ?_
  rw [hX]
  rfl

theorem skipOp_view (s : State) :
    view (skipOp s) = { view s with
      skips := if s.frm.sleepTicks = true ∨ (s.frm.dec.map Decision.skipRep).getD false = true then s.frm.skips
        else s.frm.skips + 1 } := by
  unfold skipOp
  split
  · next h => rw [if_pos (.inl h)]; rfl
  · next h =>
    dsimp only
    split
    · next hd =>
      rw [if_pos (.inr hd)]
      exact (mapFrm_view _ _ (fun _ => rfl) (fun _ => rfl) (fun _ => rfl) (fun _ => rfl) (fun _ => rfl) (fun _ => rfl)
        (fun _ => rfl) (fun _ => rfl) fun _ => rfl).trans (postsFresh_view s)
    · next hd =>
      rw [if_neg (by rintro (h' | h'); exacts [h h', hd h'])]
      exact (causeArise_view ..).trans rfl

theorem numberTick_view (f : Word) (s : State) :
    view (numberTick f s) = { view s with
      frame := f, ticked := true, tickLoc := s.clk.loc, tickTime := s.clk.team, tickFrame := f } := rfl

theorem periodReset_view (s : State) : view (periodReset s) = { view s with cutDone := false, blank := false } := rfl

/-- The numbers of a tick, without what its changes touch. -/
def TickView.face (v : TickView) : TickView :=
  { v with armed := [], params := State.reset.frm.params, sets := [], force := [], teamP := [] }

/-- What a tick shows, beside what its changes touch. -/
abbrev face (s : State) : TickView := (view s).face

theorem face_of_view {s t : State} (h : view t = view s) : face t = face s := congrArg TickView.face h

theorem face_foldl {α : Type} (f : State → α → State) (l : List α) (s : State) (h : ∀ t a, face (f t a) = face t) :
    face (l.foldl f s) = face s := by
  induction l generalizing s with
  | nil => rfl
  | cons a l ih => exact (ih (f s a)).trans (h s a)

theorem roleChange_view (r : Role) (s : State) : view (roleChange r s) = { view s with teamP := [] } := by
  unfold roleChange
  cases r with
  | alone =>
    dsimp only
    refine (mapClk_view _ _ (fun x => by split <;> rfl) fun x => by split <;> rfl).trans ?_
    split
    · exact (selfEvent_view ..).trans rfl
    · rfl
  | lead =>
    refine (helloAll_view _).trans ((memberUpdate_view _).trans ((leadEvent_view ..).trans ?_))
    exact (mapClk_view _ _ (fun x => by split <;> rfl) fun x => by split <;> rfl).trans rfl
  | follower =>
    refine (helloAll_view _).trans ((memberUpdate_view _).trans ?_)
    exact (mapClk_view _ _ (fun x => by split <;> rfl) fun x => by split <;> rfl).trans rfl

theorem changeEffect_face (before : State) (c : Change) (s : State) : face (changeEffect before c s) = face s := by
  unfold changeEffect
  split
  · exact face_of_view (modeMove_view ..)
  · exact face_of_view (canRestart_view ..)
  · exact face_of_view (canRestart_view ..)
  · split
    · rfl
    · exact (face_of_view (portsSync_view ..)).trans ((congrArg TickView.face (roleChange_view ..)).trans rfl)
  · exact face_of_view (portsSync_view ..)
  · exact face_of_view (causeArise_view ..)
  · split <;> rfl
  · rfl

theorem applyChanges_face (l : List Change) (s : State) : face (applyChanges l s) = face s :=
  (face_of_view (touchChanges_view ..)).trans
    (face_foldl _ l s fun t c => (changeEffect_face t c _).trans rfl)

theorem applySet_face (g : Nat) (values : List (Nat × Word)) (s : State) : face (applySet g values s) = face s := by
  have htouch (b : Bool) : face (cfgTouch false b (mergeAll s g values)) = face s := rfl
  unfold applySet
  dsimp only
  split
  · exact face_of_view (groupRefuse_view g s)
  · split
    · exact (face_of_view (ringsSync_view _)).trans (htouch _)
    · split
      · have hint : view (intRecheck s (cfgTouch false (!values.isEmpty) (mergeAll s g values)))
            = view (cfgTouch false (!values.isEmpty) (mergeAll s g values)) := by
          unfold intRecheck
          dsimp only
          split
          · exact msixSend_view ..
          · rfl
        exact (face_of_view ((eqModCheck_view _).trans
          ((foldl_view _ _ _ fun t n => cqModCheck_view n t).trans hint))).trans (htouch _)
      · split
        · exact (face_of_view (mapArr_view _ _ (fun _ => rfl) (fun _ => rfl) fun _ => rfl)).trans
            ((face_of_view (tilesOpen_view ..)).trans (htouch _))
        · exact htouch _

theorem applyTick_face (f : Word) (swap : Bool) (s : State) : face (applyTick f swap s) = face s := by
  unfold applyTick
  dsimp only
  refine (face_foldl _ _ _ fun t e => ?_).trans rfl
  cases e with
  | regs a => exact applySet_face ..
  | cmd c => exact applyChanges_face ..

theorem nomFollow_face (s : State) : face (nomFollow s) = face s := by
  unfold nomFollow
  split
  · rfl
  · split
    · split <;> rfl
    · rfl

theorem nomLead_face (s : State) : face (nomLead s) = face s := by
  unfold nomLead
  dsimp only
  split
  · rfl
  · split <;> rfl

theorem syncEntry_face (s : State) : face (syncEntry s) = face s := by
  unfold syncEntry
  split
  · rfl
  · split
    · rfl
    · dsimp only
      split
      · exact (face_of_view (selfEvent_view ..)).trans rfl
      · rfl

/-! ### The parts of a tick -/

/-- The guard, where the tick comes before it. -/
def tickGuard (s : State) : State := if s.frm.blank then s else guardOp false s

/-- The swap, or what stands in its place. -/
def tickSwap (swap : Bool) (c : Option CompSet) (d : Option Decision) (s : State) : State :=
  match swap, c, d with
  | true, some c, some d => swapOp c d s
  | _, _, _ => skipOp s

/-- The changes due at the tick, and the period that it starts; `old` is numbered already. -/
def tickApply (f : Word) (swap : Bool) (old : State) : State :=
  let s := applyTick f swap old
  let s := if swap then isolRelease s else s
  pwmTick old.frm.src (syncEntry (lenTick old (nomLead (nomFollow s))))

/-- What a tick tells and raises once the next period is set, and the team's part. -/
def tickTell (rampBad : List (BitVec 8)) (f : Word) (swap armed : Bool) (new : PixelFault → List Nat) (mem : List Raise)
    (pre s : State) : State :=
  let s := tickEvent swap armed s
  let s := captureTick f swap pre s
  let (gov, s) := if swap then governorTick s else ([], s)
  let (ramp, s) := rampTick rampBad f s
  let (pix, s) := healthAfter f new s
  let (firm, s) := firmMeet ([], s)
  let s := raiseAll (mem ++ gov ++ ramp ++ pix ++ firm) s
  let s := calStartTick pre.frm.comp swap s
  let s := teamTick s
  let s := marksAtTick pre.frm.shown (safetyAtTick s)
  let s := usesTick (stateEnd s)
  if swap then freeingTick s else s

/-- The swap of a tick is not skipped. -/
def tickSwaps (s : State) : Bool := s.frameGood && !s.frm.under && !s.frm.sleepTicks

theorem tickOp_parts (bad : List (BitVec 8)) (s0 : State) :
    let g := tickGuard s0
    let f := g.nextFrame
    let h := healthTick f (missTick g)
    let w := tickSwap (tickSwaps g) g.frm.comp g.frm.dec h.2.2
    tickOp bad s0 = tickTell bad f (tickSwaps g) (!(w.armedDue f (tickSwaps g)).isEmpty) h.1 h.2.1 g
      (periodReset (tickApply f (tickSwaps g) (numberTick f w))) := rfl

theorem tickTell_view (rampBad : List (BitVec 8)) (f : Word) (swap armed : Bool) (new : PixelFault → List Nat)
    (mem : List Raise) (pre s : State) : view (tickTell rampBad f swap armed new mem pre s) = view s := by
  simp [tickTell]

/-- No composition has begun in the period. -/
structure Unbuilt (f : Machine.Frm) : Prop where
  cutDone : f.cutDone = false
  compOn : f.compOn = false
  rows : f.rows = 0
  dec : f.dec = none
  comp : f.comp = none

theorem Unbuilt.of_still {s t : State} (hs : Unbuilt s.frm) (h : still t = still s) : Unbuilt t.frm :=
  (still_frm h (.inl hs.cutDone)).symm ▸ hs

theorem srcTick_unbuilt (s : State) (hs : Unbuilt s.frm) : Unbuilt (srcTick s).frm := by
  obtain ⟨h1, h2, h3, h4, h5⟩ := hs
  unfold srcTick
  dsimp only
  split
  · exact ⟨h1, h2, h3, h4, h5⟩
  · exact ⟨h1, h2, h3, h4, h5⟩

theorem teamTick_unbuilt (s : State) (hs : Unbuilt s.frm) : Unbuilt (teamTick s).frm := by
  unfold teamTick
  dsimp only
  refine Unbuilt.of_still (srcTick_unbuilt _ ?_)
    ((settleSend_still _).trans ((causeArise_still ..).trans (stateTick_still _)))
  have htake := Unbuilt.of_still hs ((takeOver_still (s.mapTm fun t =>
    { t with
      evSent := 0, divergent := t.divergent && !t.divOut, divOut := false
      members := t.members.map fun m => { m with missed := m.missed + 1 }
      entries := t.entries.filter fun e => decide (t.tickNo.toNat ≤ e.tick.toNat + 1) })).trans rfl)
  obtain ⟨h1, h2, h3, h4, h5⟩ := htake
  exact ⟨h1, h2, h3, h4, h5⟩

theorem tickTell_unbuilt (rampBad : List (BitVec 8)) (f : Word) (swap armed : Bool) (new : PixelFault → List Nat)
    (mem : List Raise) (pre s : State) (hs : Unbuilt s.frm) :
    Unbuilt (tickTell rampBad f swap armed new mem pre s).frm := by
  unfold tickTell
  dsimp only
  have hend (t : State) (ht : Unbuilt t.frm) :
      Unbuilt (if swap then freeingTick (usesTick (stateEnd (marksAtTick pre.frm.shown (safetyAtTick t))))
        else usesTick (stateEnd (marksAtTick pre.frm.shown (safetyAtTick t)))).frm :=
    ht.of_still (by simp)
  refine hend _ (teamTick_unbuilt _ (hs.of_still ?_))
  simp

theorem tickApply_face (f : Word) (swap : Bool) (old : State) : face (tickApply f swap old) = face old := by
  have hiso : face (if swap then isolRelease (applyTick f swap old) else applyTick f swap old) = face old := by
    split
    · exact (face_of_view (isolRelease_view _)).trans (applyTick_face ..)
    · exact applyTick_face ..
  exact (face_of_view (pwmTick_view ..)).trans ((syncEntry_face _).trans ((face_of_view (lenTick_view ..)).trans
    ((nomLead_face _).trans ((nomFollow_face _).trans hiso))))

theorem tickGuard_view (s : State) : view (tickGuard s) = { view s with blank := true } := by
  unfold tickGuard
  split
  · next h =>
    show view s = _
    rw [show ({ view s with blank := true } : TickView) = { view s with blank := s.frm.blank } by rw [h]]
    rfl
  · exact guardOp_view ..

theorem tickSwap_skips {swap : Bool} {c : Option CompSet} {d : Option Decision} (h : swap = false) (s : State) :
    tickSwap swap c d s = skipOp s := by
  subst h
  rfl

theorem tickEnd_face (bad : List (BitVec 8)) (f : Word) (swap armed : Bool) (new : PixelFault → List Nat) (mem : List Raise)
    (pre w : State) :
    face (tickTell bad f swap armed new mem pre (periodReset (tickApply f swap (numberTick f w)))) = { face w with
      frame := f, ticked := true, tickLoc := w.clk.loc, tickTime := w.clk.team, tickFrame := f, cutDone := false
      blank := false } := by
  have key (t a n : State) (h1 : view t = view (periodReset a)) (h2 : face a = face n) :
      face t = { face n with cutDone := false, blank := false } :=
    (face_of_view h1).trans (congrArg (fun v : TickView => { v with cutDone := false, blank := false }) h2)
  refine (key _ _ _ (tickTell_view ..) (tickApply_face ..)).trans ?_
  rw [face, numberTick_view]
  rfl

/-- The numbers of a tick, and what neither a swap nor a skip changes. -/
theorem tickOp_face (bad : List (BitVec 8)) (s : State) :
    let g := tickGuard s
    let w := tickSwap (tickSwaps g) g.frm.comp g.frm.dec (healthTick g.nextFrame (missTick g)).2.2
    face (tickOp bad s) = { face w with
      frame := g.nextFrame, ticked := true, tickLoc := w.clk.loc, tickTime := w.clk.team, tickFrame := g.nextFrame
      cutDone := false, blank := false } := by
  intro g w
  rw [tickOp_parts]
  exact tickEnd_face ..

/-! ### Time and number before the tick's own step -/

/-- The clocks, the number of the team's tick and the schedule. -/
def clockNo (s : State) : Clk × Dword × List SchedEntry := (s.clk, s.tm.tickNo, s.tm.entries)

theorem clockNo_of_steady {s t : State} (h : steady t = steady s) : clockNo t = clockNo s :=
  congrArg (fun u => (u.clk, u.tm.tickNo, u.tm.entries)) h

@[simp] theorem clockNo_ite {c : Prop} {_ : Decidable c} (s t : State) :
    clockNo (if c then s else t) = if c then clockNo s else clockNo t := apply_ite ..

@[simp] theorem frameEvent_clockNo (bit code : Nat) (data : List Byte) (s : State) :
    clockNo (frameEvent bit code data s) = clockNo s := by
  unfold frameEvent
  split
  · exact clockNo_of_steady (steady_emit ..)
  · rfl

@[simp] theorem vledEarly_clockNo (c : CompSet) (s : State) : clockNo (vledEarly c s) = clockNo s := by
  unfold vledEarly
  dsimp only
  (repeat' split) <;> rfl

@[simp] theorem doneFirst_clockNo (s : State) : clockNo (doneFirst s) = clockNo s := by
  unfold doneFirst composeDoneOp
  split
  · split
    · exact (vledEarly_clockNo ..).trans (frameEvent_clockNo ..)
    · rfl
  · rfl

@[simp] theorem underrun_clockNo (s : State) : clockNo (underrun s) = clockNo s :=
  (clockNo_of_steady (steady_raiseMin ..)).trans ((clockNo_of_steady (steady_emit ..)).trans rfl)

@[simp] theorem divisionResidue_clockNo (c : CompSet) (s : State) : clockNo (divisionResidue c s) = clockNo s :=
  (show clockNo (divisionResidue c s) = clockNo (raise fPipeResidue (b1 7 ++ b1 0 ++ b2 (Config.freePick s.free)
    ++ b2 0xFFFF ++ b2 0 ++ b4 c.frame.toNat) s.draw.2) from rfl).trans (clockNo_of_steady (steady_raise ..))

theorem guardOp_clockNo (b : Bool) (s : State) : clockNo (guardOp b s) = clockNo s := by
  have hblank : clockNo ((doneFirst s).mapFrm fun f => { f with blank := true }) = clockNo s := doneFirst_clockNo s
  have hfix (c : CompSet) (t : State) : clockNo (fixFrame c t) = clockNo t := rfl
  unfold guardOp
  dsimp only
  (repeat' split) <;> simp [hblank, hfix]

theorem tickGuard_clockNo (s : State) : clockNo (tickGuard s) = clockNo s := by
  unfold tickGuard
  split
  · rfl
  · exact guardOp_clockNo ..

theorem tickGuard_nextFrame (s : State) : (tickGuard s).nextFrame = s.nextFrame := by
  have hno : (tickGuard s).tm.tickNo = s.tm.tickNo := congrArg (fun c => c.2.1) (tickGuard_clockNo s)
  have hticked : (tickGuard s).frm.ticked = s.frm.ticked := congrArg TickView.ticked (tickGuard_view s)
  unfold State.nextFrame
  rw [hno, hticked]

theorem skipOp_clockNo (s : State) : clockNo (skipOp s) = clockNo s := by
  have hfresh : clockNo (postsFresh s) = clockNo s := clockNo_of_steady (steady_postsFresh s)
  unfold skipOp
  split
  · rfl
  · dsimp only
    split
    · exact hfresh
    · exact (clockNo_of_steady (steady_causeArise ..)).trans hfresh

theorem calTake_clockNo (c : CompSet) (s : State) : clockNo (calTake c s) = clockNo s := by
  unfold calTake
  split
  · split <;> rfl
  · rfl

theorem swapOp_clockNo (c : CompSet) (d : Decision) (s : State) : clockNo (swapOp c d s) = clockNo s := by
  have hhk (f : Hk → Hk) (t : State) : clockNo (t.mapHk f) = clockNo t := rfl
  have harr (f : Arr → Arr) (t : State) : clockNo (t.mapArr f) = clockNo t := rfl
  have hpho (f : Pho → Pho) (t : State) : clockNo (t.mapPho f) = clockNo t := rfl
  have hfrm (f : Machine.Frm → Machine.Frm) (t : State) : clockNo (t.mapFrm f) = clockNo t := rfl
  have hscn (f : Scn → Scn) (t : State) : clockNo (t.mapScn f) = clockNo t := rfl
  have hhlt (f : Hlt → Hlt) (t : State) : clockNo (t.mapHlt f) = clockNo t := rfl
  have hcal (f : Cal → Cal) (t : State) : clockNo (t.mapCal f) = clockNo t := rfl
  unfold swapOp curbLoad
  simp only [hhk, harr, hpho, hfrm, hscn, hhlt, hcal, calTake_clockNo]

theorem tickSwap_clockNo (swap : Bool) (c : Option CompSet) (d : Option Decision) (s : State) :
    clockNo (tickSwap swap c d s) = clockNo s := by
  unfold tickSwap
  split
  · exact swapOp_clockNo ..
  · exact skipOp_clockNo s

theorem tickSwap_rowsS (swap : Bool) (c : Option CompSet) (d : Option Decision) (s : State) :
    (view (tickSwap swap c d s)).rowsS = (view s).rowsS := by
  unfold tickSwap
  split
  · next c d =>
    obtain ⟨h, -, hv⟩ := swapOp_view c d s
    exact (congrArg TickView.rowsS hv).trans rfl
  · exact (congrArg TickView.rowsS (skipOp_view s)).trans rfl

theorem clockNo_of_body {s t : State} (h : body t = body s) : clockNo t = clockNo s :=
  congrArg (fun b => (b.2.2.2.1, b.2.2.2.2.2.1, b.2.2.2.2.2.2.2)) h

theorem tickSwap_guard_clockNo (s : State) :
    let g := tickGuard s
    clockNo (tickSwap (tickSwaps g) g.frm.comp g.frm.dec (healthTick g.nextFrame (missTick g)).2.2) = clockNo s :=
  (tickSwap_clockNo ..).trans ((clockNo_of_body (healthTick_body ..)).trans (tickGuard_clockNo s))

/-- Settles O42: the numbers are set once, the swap or the skip decides what is shown, and neither the changes that apply at
the tick nor what it raises touches either. -/
theorem tickShowsOrSkips : Obligations.TickShowsOrSkips := by
  intro bad s htick i shows
  let g := tickGuard s
  let w := tickSwap (tickSwaps g) g.frm.comp g.frm.dec (healthTick g.nextFrame (missTick g)).2.2
  refine ⟨tickOp bad s, congrArg Host.Outcome.next (if_pos htick), ?_⟩
  have hface := tickOp_face bad s
  dsimp only at hface
  have hbody := healthTick_body g.nextFrame g
  have hclock : clockNo w = clockNo s := tickSwap_guard_clockNo s
  have hclk : w.clk = s.clk := congrArg Prod.fst hclock
  have hnext : g.nextFrame = s.nextFrame := tickGuard_nextFrame s
  have hunbuilt : Unbuilt (tickOp bad s).frm := by
    rw [tickOp_parts]
    exact tickTell_unbuilt _ _ _ _ _ _ _ _ ⟨rfl, rfl, rfl, rfl, rfl⟩
  refine ⟨(congrArg TickView.frame hface).trans hnext, congrArg TickView.ticked hface,
    (congrArg TickView.tickLoc hface).trans (congrArg Clk.loc hclk),
    (congrArg TickView.tickTime hface).trans (congrArg Clk.team hclk), (congrArg TickView.tickFrame hface).trans hnext,
    hunbuilt.cutDone, congrArg TickView.blank hface, hunbuilt.compOn, hunbuilt.rows, hunbuilt.dec, hunbuilt.comp, ?_, ?_, ?_⟩
  · refine (congrArg TickView.rowsS hface).trans ((tickSwap_rowsS ..).trans ?_)
    exact (congrArg TickView.rowsS (view_of_body hbody)).trans (congrArg TickView.rowsS (tickGuard_view s))
  · intro c d hblank hshows hc hd
    obtain ⟨hgood, hunder, hsleep⟩ := hshows
    have hg : g = s := if_pos hblank
    have hswap : tickSwaps g = true := by
      rw [hg, tickSwaps, hgood, hunder, hsleep]
      rfl
    let u := (healthTick g.nextFrame (missTick g)).2.2
    have hw : w = swapOp c d u := by
      show tickSwap (tickSwaps g) g.frm.comp g.frm.dec u = _
      rw [hswap, hg, hc, hd]
      rfl
    obtain ⟨x, ⟨h1, h2, h3, h4, h5⟩, hv⟩ := swapOp_view c d u
    rw [← hw] at hv
    have hu : body u = body s := hbody.trans (congrArg body hg)
    have harr : u.arr = s.arr := congrArg (fun b => b.2.1) hu
    have hpho : u.pho = s.pho := congrArg (fun b => b.2.2.1) hu
    refine ⟨(congrArg TickView.rowsA hface).trans ((congrArg TickView.rowsA hv).trans (congrArg Arr.s harr)),
      (congrArg TickView.crcA hface).trans ((congrArg TickView.crcA hv).trans (congrArg Arr.crcS harr)),
      (congrArg TickView.curb hface).trans ((congrArg TickView.curb hv).trans (congrArg Pho.fixed hpho)),
      (congrArg TickView.skips hface).trans (congrArg TickView.skips hv), x,
      (congrArg TickView.shown hface).trans (congrArg TickView.shown hv), h1, h2, h3, h4, h5⟩
  · intro hblank hshows
    have hg : g = s := if_pos hblank
    have hswap : tickSwaps g = false := by
      rw [hg]
      refine Bool.eq_false_iff.2 fun h => hshows ?_
      simpa [tickSwaps, and_assoc] using h
    let u := (healthTick g.nextFrame (missTick g)).2.2
    have hw : w = skipOp u := tickSwap_skips hswap u
    have hv := skipOp_view u
    rw [← hw] at hv
    have hu : body u = body s := hbody.trans (congrArg body hg)
    have hview : view u = view s := view_of_body hu
    have hfrm : u.frm = s.frm := congrArg Prod.fst hu
    refine ⟨(congrArg TickView.rowsA hface).trans ((congrArg TickView.rowsA hv).trans (congrArg TickView.rowsA hview)),
      (congrArg TickView.crcA hface).trans ((congrArg TickView.crcA hv).trans (congrArg TickView.crcA hview)),
      (congrArg TickView.shown hface).trans ((congrArg TickView.shown hv).trans (congrArg TickView.shown hview)),
      (congrArg TickView.curb hface).trans ((congrArg TickView.curb hv).trans (congrArg TickView.curb hview)),
      fun hsleep hrep => (congrArg TickView.skips hface).trans ((congrArg TickView.skips hv).trans ?_)⟩
    refine (if_neg ?_).trans (congrArg (fun f => f.skips + 1) hfrm)
    rw [hfrm, hsleep]
    cases hdec : s.frm.dec with
    | none => simp
    | some d => simp [hrep d hdec]

end Sys2Proof.Laws
end

section
/-!
The changes that a tick applies, in the order of their arming: O22.
-/
namespace Sys2Proof.Laws
open Sys2Proof.Machine Sys2Proof.Claims

/-! ### One change, one set -/

/-- What the changes of a tick act on. -/
structure Plan where
  params : Params
  armed : List ArmedCmd
  sets : List ArmedSet
  force : List (Nat × Word)
  teamP : List (Dword × Nat)
  tickNo : Dword
  entries : List SchedEntry

def plan (s : State) : Plan :=
  ⟨s.frm.params, s.frm.armed, s.reg.sets, s.reg.force, s.tm.teamP, s.tm.tickNo, s.tm.entries⟩

theorem plan_of_calm {s t : State} (h : calm t = calm s) : plan t = plan s := by
  have hp (u : State) : plan (calm u) = plan u := rfl
  rw [← hp t, h, hp]

theorem plan_of_steady {s t : State} (h : steady t = steady s) : plan t = plan s := plan_of_calm (calm_of_steady h)

/-- The schedule is dropped with a role, else kept: an empty one stays empty, with the P_NOM of the team. -/
structure Applied (p q : Plan) : Prop where
  armed : q.armed = p.armed
  sets : q.sets = p.sets
  force : q.force = p.force
  teamP : p.teamP = [] → q.teamP = []
  entries : p.entries = [] → q.entries = []

theorem Applied.refl (p : Plan) : Applied p p := ⟨rfl, rfl, rfl, id, id⟩

theorem Applied.trans {p q r : Plan} (h : Applied p q) (h' : Applied q r) : Applied p r :=
  ⟨h'.armed.trans h.armed, h'.sets.trans h.sets, h'.force.trans h.force, fun e => h'.teamP (h.teamP e),
    fun e => h'.entries (h.entries e)⟩

theorem plan_foldl {α : Type} (f : State → α → State) (l : List α) (s : State) (h : ∀ t a, plan (f t a) = plan t) :
    plan (l.foldl f s) = plan s := by
  induction l generalizing s with
  | nil => rfl
  | cons a l ih => exact (ih (f s a)).trans (h s a)

theorem roleChange_plan (r : Role) (s : State) :
    plan (roleChange r s) = { plan s with teamP := [], entries := [] } := by
  have hself (n : Nat) (t : State) : plan (selfEvent n t) = plan t := plan_of_steady (by simp [selfEvent, memberEvent])
  have hmember (t : State) : plan (memberUpdate t) = plan t := by
    unfold memberUpdate
    dsimp only
    split
    · rfl
    · exact (hself ..).trans rfl
  have hhello (t : State) : plan (helloAll t) = plan t := plan_of_calm (helloAll_calm t)
  have hlead (a b : Option (BitVec 10)) (c d : Word) (e : Nat) (t : State) : plan (leadEvent a b c d e t) = plan t :=
    plan_of_steady (steady_emit ..)
  unfold roleChange
  cases r with
  | alone =>
    dsimp only
    split
    · exact (hself ..).trans rfl
    · rfl
  | lead => exact (hhello _).trans ((hmember _).trans ((hlead ..).trans rfl))
  | follower => exact (hhello _).trans ((hmember _).trans rfl)

theorem changeEffect_applied (before : State) (c : Change) (s : State) :
    Applied (plan s) (plan (changeEffect before c s)) ∧ (plan (changeEffect before c s)).params = s.frm.params := by
  have same {t : State} (h : plan t = plan s) : Applied (plan s) (plan t) ∧ (plan t).params = s.frm.params := by
    rw [h]
    exact ⟨.refl _, rfl⟩
  have hports (t : State) : plan (portsSync t) = plan t := plan_of_calm (portsSync_calm t)
  unfold changeEffect
  split
  · refine same ?_
    unfold modeMove
    split
    · exact (plan_of_calm (powerEvent_calm ..)).trans rfl
    · exact (plan_of_calm (powerEvent_calm ..)).trans rfl
    · rfl
  · refine same ?_
    unfold canRestart
    dsimp only
    split <;> rfl
  · refine same ?_
    unfold canRestart
    dsimp only
    split <;> rfl
  · split
    · exact same rfl
    · rw [hports, roleChange_plan]
      exact ⟨⟨rfl, rfl, rfl, fun _ => rfl, fun _ => rfl⟩, rfl⟩
  · exact same (hports s)
  · exact same (plan_of_steady (steady_causeArise ..))
  · refine same ?_
    split <;> rfl
  · exact same rfl

theorem applyChange_applied (c : Change) (s : State) :
    Applied (plan s) (plan (applyChange c s)) ∧ (plan (applyChange c s)).params = s.frm.params.apply c := by
  obtain ⟨h, hp⟩ := changeEffect_applied s c (s.mapFrm fun f => { f with params := f.params.apply c })
  exact ⟨⟨h.armed, h.sets, h.force, h.teamP, h.entries⟩, hp⟩

theorem applyChanges_applied (l : List Change) (s : State) :
    Applied (plan s) (plan (applyChanges l s)) ∧ (plan (applyChanges l s)).params = l.foldl Params.apply s.frm.params := by
  have hfold : Applied (plan s) (plan (l.foldl (fun s c => applyChange c s) s))
      ∧ (plan (l.foldl (fun s c => applyChange c s) s)).params = l.foldl Params.apply s.frm.params := by
    induction l generalizing s with
    | nil => exact ⟨.refl _, rfl⟩
    | cons c l ih =>
      obtain ⟨h1, hp1⟩ := applyChange_applied c s
      obtain ⟨h2, hp2⟩ := ih (applyChange c s)
      refine ⟨h1.trans h2, hp2.trans ?_⟩
      rw [List.foldl_cons]
      exact congrArg (fun p => l.foldl Params.apply p) hp1
  exact hfold

theorem intSync_plan (b u : State) :
    plan (eqModCheck ((List.range 16).foldl (fun s n => cqModCheck n s) (intRecheck b u))) = plan u := by
  have hint : plan (intRecheck b u) = plan u := by
    unfold intRecheck
    dsimp only
    split
    · exact plan_of_steady (steady_msixSend ..)
    · rfl
  exact (plan_of_steady (steady_eqModCheck _)).trans
    ((plan_foldl _ _ _ fun t n => plan_of_steady (steady_cqModCheck n t)).trans hint)

theorem applySet_plan (g : Nat) (values : List (Nat × Word)) (s : State) :
    plan (applySet g values s) = { plan s with force := (applySet g values s).reg.force } := by
  have hrings (u : State) : plan (ringsSync u) = plan u := by
    have hone (t : State) (n : Nat) : plan (if t.sqSize n != 0 && !(t.ring n).enabled then ringEnable n t
        else if !(t.sqSize n != 0) && (t.ring n).enabled then ringDisable n t else t) = plan t := by
      split
      · rfl
      · split <;> rfl
    exact (plan_foldl _ _ _ hone).trans rfl
  have htouch (b : Bool) : plan (cfgTouch false b (mergeAll s g values))
      = { plan s with force := (cfgTouch false b (mergeAll s g values)).reg.force } := rfl
  have key {t u : State} (ht : plan t = plan u) (hu : plan u = { plan s with force := u.reg.force }) :
      plan t = { plan s with force := t.reg.force } := by
    have hf : t.reg.force = u.reg.force := congrArg Plan.force ht
    rw [ht, hu, hf]
  unfold applySet
  dsimp only
  split
  · exact key (plan_of_steady (steady_raise ..)) rfl
  · split
    · exact key (hrings _) (htouch _)
    · split
      · exact key (intSync_plan ..) (htouch _)
      · split
        · exact key (u := cfgTouch false (!values.isEmpty) (mergeAll s g values)) rfl (htouch _)
        · exact htouch _

theorem applySet_force {g : Nat} (hg : g ≠ 0 ∧ g ≠ 5 ∧ g ≠ 6) (values : List (Nat × Word)) (s : State) :
    (applySet g values s).reg.force = (mergeAll s g values).reg.force := by
  obtain ⟨h0, h5, h6⟩ := hg
  have hok : groupOk s (mergeAll s g values) g = true := by
    unfold groupOk
    rw [if_neg h0, if_neg h6]
  unfold applySet
  dsimp only
  rw [hok, if_neg (by decide), if_neg h0, if_neg h5]
  split
  · exact congrArg Plan.force (intSync_plan s (cfgTouch false (!values.isEmpty) (mergeAll s g values)))
  · rfl

/-! ### The changes of a tick -/

/-- One armed change. -/
def applyArmed (s : State) (e : Armed) : State :=
  match e with
  | .regs a => applySet a.group a.values s
  | .cmd c => applyChanges c.changes s

theorem mergeAll_force {s t : State} (h : t.reg.force = s.reg.force) (g : Nat) (values : List (Nat × Word)) :
    (mergeAll t g values).reg.force = (mergeAll s g values).reg.force := by
  have hcfg (o : Nat) : t.cfg o = s.cfg o := by rw [State.cfg, State.cfg, h]
  have hmerge (o : Nat) : mergeReg t g values o = mergeReg s g values o := by
    unfold mergeReg
    rw [hcfg]
  show values.foldl (fun l e => regPut l e.1 (mergeReg t g values e.1)) t.reg.force
    = values.foldl (fun l e => regPut l e.1 (mergeReg s g values e.1)) s.reg.force
  rw [h]
  simp only [hmerge]

/-- The merged registers of the sets, in the order of their strobes. -/
def mergedBy (as : List ArmedSet) (s : State) : State := as.foldl (fun u a => mergeAll u a.group a.values) s

theorem mergedBy_force {s t : State} (h : t.reg.force = s.reg.force) (as : List ArmedSet) :
    (mergedBy as t).reg.force = (mergedBy as s).reg.force := by
  induction as generalizing s t with
  | nil => exact h
  | cons a as ih => exact ih (mergeAll_force h a.group a.values)

/-- What the sets `as` and the changes `cs` make of a state. -/
structure AppliedBy (as : List ArmedSet) (cs : List ArmedCmd) (s t : State) : Prop where
  armed : t.frm.armed = s.frm.armed
  sets : t.reg.sets = s.reg.sets
  params : t.frm.params = (cs.flatMap ArmedCmd.changes).foldl Params.apply s.frm.params
  teamP : s.tm.teamP = [] → t.tm.teamP = []
  entries : s.tm.entries = [] → t.tm.entries = []
  tickNo : cs = [] → t.tm.tickNo = s.tm.tickNo ∧ t.tm.teamP = s.tm.teamP
  force : (∀ a ∈ as, a.group ≠ 0 ∧ a.group ≠ 5 ∧ a.group ≠ 6) → t.reg.force = (mergedBy as s).reg.force

theorem appliedBy_refl (s : State) : AppliedBy [] [] s s :=
  ⟨rfl, rfl, rfl, id, id, fun _ => ⟨rfl, rfl⟩, fun _ => rfl⟩

theorem AppliedBy.set {as : List ArmedSet} {cs : List ArmedCmd} {a : ArmedSet} {s t : State}
    (h : AppliedBy as cs (applyArmed s (.regs a)) t) : AppliedBy (a :: as) cs s t := by
  have hp : plan (applyArmed s (.regs a)) = { plan s with force := (applyArmed s (.regs a)).reg.force } := applySet_plan ..
  obtain ⟨h1, h2, h3, h4, h5, h6, h7⟩ := h
  refine ⟨h1.trans (congrArg Plan.armed hp), h2.trans (congrArg Plan.sets hp), ?_,
    fun e => h4 ((congrArg Plan.teamP hp).trans e), fun e => h5 ((congrArg Plan.entries hp).trans e), fun e =>
      ⟨(h6 e).1.trans (congrArg Plan.tickNo hp), (h6 e).2.trans (congrArg Plan.teamP hp)⟩, fun hg => ?_⟩
  · rw [h3]
    exact congrArg (fun p => (cs.flatMap ArmedCmd.changes).foldl Params.apply p) (congrArg Plan.params hp)
  · rw [h7 fun b hb => hg b (List.mem_cons_of_mem a hb)]
    exact mergedBy_force (applySet_force (hg a List.mem_cons_self) a.values s) as

theorem AppliedBy.cmd {as : List ArmedSet} {cs : List ArmedCmd} {c : ArmedCmd} {s t : State}
    (h : AppliedBy as cs (applyArmed s (.cmd c)) t) : AppliedBy as (c :: cs) s t := by
  obtain ⟨⟨ha, hs, hf, ht, he⟩, hp⟩ : Applied (plan s) (plan (applyArmed s (.cmd c)))
    ∧ (plan (applyArmed s (.cmd c))).params = c.changes.foldl Params.apply s.frm.params := applyChanges_applied ..
  obtain ⟨h1, h2, h3, h4, h5, h6, h7⟩ := h
  refine ⟨h1.trans ha, h2.trans hs, ?_, fun e => h4 (ht e), fun e => h5 (he e), fun e => (List.cons_ne_nil c cs e).elim,
    fun hg => (h7 hg).trans (mergedBy_force hf as)⟩
  rw [h3, List.flatMap_cons, List.foldl_append]
  exact congrArg (fun p => (cs.flatMap ArmedCmd.changes).foldl Params.apply p) hp

theorem appliedBy_sets (as : List ArmedSet) (s : State) : AppliedBy as [] s ((as.map Armed.regs).foldl applyArmed s) := by
  induction as generalizing s with
  | nil => exact appliedBy_refl s
  | cons a as ih => exact (ih _).set

theorem appliedBy_cmds (cs : List ArmedCmd) (s : State) : AppliedBy [] cs s ((cs.map Armed.cmd).foldl applyArmed s) := by
  induction cs generalizing s with
  | nil => exact appliedBy_refl s
  | cons c cs ih => exact (ih _).cmd

/-- The two lists are merged by the order of their arming, each in its own order. -/
theorem appliedBy_merge (n : Nat) (as : List ArmedSet) (cs : List ArmedCmd) (s : State) (h : as.length + cs.length ≤ n) :
    AppliedBy as cs s ((mergeArmed n as cs).foldl applyArmed s) := by
  induction n generalizing as cs s with
  | zero =>
    obtain ⟨ha, hc⟩ : as.length = 0 ∧ cs.length = 0 := by omega
    rw [List.length_eq_zero_iff] at ha hc
    subst ha hc
    exact appliedBy_refl s
  | succ n ih =>
    cases as with
    | nil => exact appliedBy_cmds cs s
    | cons a as =>
      cases cs with
      | nil => exact appliedBy_sets (a :: as) s
      | cons c cs =>
        rw [List.length_cons, List.length_cons] at h
        rw [mergeArmed]
        split
        · exact (ih as (c :: cs) _ (by rw [List.length_cons]; omega)).set
        · exact (ih (a :: as) cs _ (by rw [List.length_cons]; omega)).cmd

/-! ### The tick -/

theorem nomFollow_none {s : State} (h : s.tm.entries = []) : nomFollow s = s := by
  unfold nomFollow
  split
  · rfl
  · rw [h]
    rfl

theorem syncEntry_none {s : State} (h : s.tm.entries = []) : syncEntry s = s := by
  have hready : s.syncReady = false := by
    unfold State.syncReady
    rw [h]
    simp
  unfold syncEntry
  rw [hready]
  rfl

theorem nomAt_none {s : State} {n : Dword} (h : ∀ e ∈ s.tm.teamP, n.toNat < e.1.toNat) :
    s.nomAt n = s.frm.params.pNom := by
  have hfold (l : List (Dword × Nat)) (hl : ∀ e ∈ l, n.toNat < e.1.toNat) :
      l.foldl (fun (m : Option (Dword × Nat)) e =>
        if n.toNat < e.1.toNat then m
        else match m with
          | none => some e
          | some b => if b.1.toNat ≤ e.1.toNat then some e else m) none = none := by
    induction l with
    | nil => rfl
    | cons e l ih =>
      rw [List.foldl_cons, if_pos (hl e List.mem_cons_self)]
      exact ih fun x hx => hl x (List.mem_cons_of_mem e hx)
  exact congrArg (fun m : Option (Dword × Nat) => (m.map Prod.snd).getD s.frm.params.pNom) (hfold s.tm.teamP h)

/-- R320: the P_NOM of the team that is due at the tick. -/
theorem nomLead_plan (s : State) :
    plan (nomLead s) = { plan s with
      params := { s.frm.params with pNom := s.nomAt s.tm.tickNo }
      teamP := s.tm.teamP.filter fun e => decide (s.tm.tickNo.toNat < e.1.toNat) } := by
  unfold nomLead
  dsimp only
  split
  · next h =>
    have hnone : ∀ e ∈ s.tm.teamP, s.tm.tickNo.toNat < e.1.toNat := by
      simpa [List.filter_eq_nil_iff] using h
    rw [nomAt_none hnone, List.filter_eq_self.2 fun e he => decide_eq_true (hnone e he)]
    rfl
  · split
    · next h =>
      have hnom : s.nomAt s.tm.tickNo = s.frm.params.pNom := h
      have hparams : ({ s.frm.params with pNom := s.nomAt s.tm.tickNo } : Params) = s.frm.params := by rw [hnom]
      rw [hparams]
      rfl
    · rfl

theorem lenTick_tm (old s : State) : (lenTick old s).tm = s.tm := by
  have hsrc (t : State) : (srcTick t).tm = t.tm := by
    unfold srcTick
    dsimp only
    split <;> rfl
  have hused (c : Prop) [Decidable c] (t : State) : (if c then fsyncUsed t else t).tm = t.tm := by
    split <;> rfl
  unfold lenTick
  dsimp only
  rw [hsrc, hused]
  exact (hused ..).trans rfl

theorem applyTick_by (f : Word) (swap : Bool) (s : State) : ∃ u,
    u.frm.armed = s.frm.armed.filter (fun c => !c.due f) ∧ u.reg.sets = s.reg.sets.filter (fun a => !s.setDue f swap a)
    ∧ u.frm.params = s.frm.params ∧ u.tm = s.tm ∧ u.reg.force = s.reg.force
    ∧ AppliedBy (s.reg.sets.filter (s.setDue f swap)) (s.frm.armed.filter (ArmedCmd.due f)) u (applyTick f swap s) := by
  let as := s.reg.sets.filter (s.setDue f swap)
  let cs := s.frm.armed.filter (ArmedCmd.due f)
  let u : State := (s.mapReg fun r => { r with sets := r.sets.filter fun a => !s.setDue f swap a }).mapFrm fun x =>
    { x with armed := x.armed.filter fun c => !c.due f }
  refine ⟨u, rfl, rfl, rfl, rfl, rfl, ?_⟩
  have h := appliedBy_merge (as.length + cs.length) as cs u (Nat.le_refl _)
  exact h

theorem AppliedBy.nomAt {as : List ArmedSet} {s t : State} (h : AppliedBy as [] s t) (n : Dword) : t.nomAt n = s.nomAt n := by
  unfold State.nomAt
  rw [(h.tickNo rfl).2, h.params]
  rfl

/-- What the changes of a tick leave, where the team has no schedule. -/
theorem tickApply_plan (f : Word) (swap : Bool) (old : State) (he : (applyTick f swap old).tm.entries = []) :
    let a := applyTick f swap old
    let v := view (tickApply f swap old)
    v.armed = a.frm.armed ∧ v.sets = a.reg.sets ∧ v.force = a.reg.force
    ∧ v.params = { a.frm.params with pNom := a.nomAt a.tm.tickNo }
    ∧ v.teamP = a.tm.teamP.filter fun e => decide (a.tm.tickNo.toNat < e.1.toNat) := by
  intro a v
  let b := if swap then isolRelease a else a
  have hb : plan b = plan a ∧ b.nomAt = a.nomAt := by
    dsimp only [b]
    split
    · exact ⟨rfl, rfl⟩
    · exact ⟨rfl, rfl⟩
  have hbe : b.tm.entries = [] := (congrArg Plan.entries hb.1).trans he
  have hfollow : nomFollow b = b := nomFollow_none hbe
  have hlead := nomLead_plan b
  have hlen : (lenTick old (nomLead b)).tm.entries = [] := by
    rw [lenTick_tm]
    exact (congrArg Plan.entries hlead).trans hbe
  have hv : v = view (nomLead b) := by
    show view (pwmTick old.frm.src (syncEntry (lenTick old (nomLead (nomFollow b))))) = _
    rw [hfollow, syncEntry_none hlen, pwmTick_view, lenTick_view]
  have hno : b.tm.tickNo = a.tm.tickNo := congrArg Plan.tickNo hb.1
  have hparams : b.frm.params = a.frm.params := congrArg Plan.params hb.1
  rw [hv]
  refine ⟨(congrArg Plan.armed hlead).trans (congrArg Plan.armed hb.1), (congrArg Plan.sets hlead).trans (congrArg Plan.sets hb.1),
    (congrArg Plan.force hlead).trans (congrArg Plan.force hb.1), (congrArg Plan.params hlead).trans ?_,
    (congrArg Plan.teamP hlead).trans ?_⟩
  · rw [hb.2, hno, hparams]
  · show b.tm.teamP.filter (fun e => decide (b.tm.tickNo.toNat < e.1.toNat)) = _
    rw [hno, show b.tm.teamP = a.tm.teamP from congrArg Plan.teamP hb.1]

theorem tickSwap_plan (swap : Bool) (c : Option CompSet) (d : Option Decision) (s : State) :
    let v := view (tickSwap swap c d s)
    v.armed = s.frm.armed ∧ v.sets = s.reg.sets ∧ v.force = s.reg.force ∧ v.params = s.frm.params
    ∧ v.teamP = s.tm.teamP ∧ v.ticked = s.frm.ticked := by
  intro v
  have hv : v = view (tickSwap swap c d s) := rfl
  unfold tickSwap at hv
  split at hv
  · next c d =>
    obtain ⟨h, -, hs⟩ := swapOp_view c d s
    rw [hv, hs]
    exact ⟨rfl, rfl, rfl, rfl, rfl, rfl⟩
  · rw [hv, skipOp_view s]
    exact ⟨rfl, rfl, rfl, rfl, rfl, rfl⟩

/-- The state whose changes a tick applies has the plan of the state before it, one tick on. -/
theorem tickNumbered_plan (s : State) (ht : s.frm.ticked = true) :
    let g := tickGuard s
    let w := tickSwap (tickSwaps g) g.frm.comp g.frm.dec (healthTick g.nextFrame (missTick g)).2.2
    plan (numberTick s.nextFrame w) = { plan s with tickNo := s.tm.tickNo + 1 } := by
  intro g w
  have hview : view (healthTick g.nextFrame (missTick g)).2.2 = { view s with blank := true } :=
    (view_of_body (healthTick_body ..)).trans (tickGuard_view s)
  obtain ⟨h1, h2, h3, h4, h5, h6⟩ := tickSwap_plan (tickSwaps g) g.frm.comp g.frm.dec (healthTick g.nextFrame (missTick g)).2.2
  have hclock : clockNo w = clockNo s := tickSwap_guard_clockNo s
  have hno : w.tm.tickNo = s.tm.tickNo := congrArg (fun c => c.2.1) hclock
  have hentries : w.tm.entries = s.tm.entries := congrArg (fun c => c.2.2) hclock
  have hticked : w.frm.ticked = true := (h6.trans (congrArg TickView.ticked hview)).trans ht
  have hnumber : (numberTick s.nextFrame w).tm.tickNo = s.tm.tickNo + 1 := (if_pos hticked).trans (by rw [hno])
  have e1 : w.frm.armed = s.frm.armed := h1.trans (congrArg TickView.armed hview)
  have e2 : w.reg.sets = s.reg.sets := h2.trans (congrArg TickView.sets hview)
  have e3 : w.reg.force = s.reg.force := h3.trans (congrArg TickView.force hview)
  have e4 : w.frm.params = s.frm.params := h4.trans (congrArg TickView.params hview)
  have e5 : w.tm.teamP = s.tm.teamP := h5.trans (congrArg TickView.teamP hview)
  show Plan.mk w.frm.params w.frm.armed w.reg.sets w.reg.force w.tm.teamP _ w.tm.entries = _
  rw [hnumber, e1, e2, e3, e4, e5, hentries]
  rfl

/-- A tick applies its changes to a state with the plan of the one before it, one tick on. -/
theorem tickOp_applies (bad : List (BitVec 8)) (s : State) (ht : s.frm.ticked = true) :
    ∃ swap n, plan n = { plan s with tickNo := s.tm.tickNo + 1 }
      ∧ view (tickOp bad s) = { view (tickApply s.nextFrame swap n) with cutDone := false, blank := false } := by
  refine ⟨tickSwaps (tickGuard s), numberTick s.nextFrame (tickSwap (tickSwaps (tickGuard s)) (tickGuard s).frm.comp
    (tickGuard s).frm.dec (healthTick (tickGuard s).nextFrame (missTick (tickGuard s))).2.2), tickNumbered_plan s ht, ?_⟩
  rw [tickOp_parts, tickTell_view, periodReset_view, tickGuard_nextFrame s]

theorem setDue_of_group {s : State} {f : Word} {swap : Bool} {l : List ArmedSet}
    (hg : ∀ a ∈ l.filter (fun a => a.whenTo == .tick && decide ((f - a.target.truncate 32).toNat < 2 ^ 31)),
      a.group ≠ 0 ∧ a.group ≠ 5 ∧ a.group ≠ 6) {a : ArmedSet} (ha : a ∈ l) :
    s.setDue f swap a = (a.whenTo == .tick && decide ((f - a.target.truncate 32).toNat < 2 ^ 31)) := by
  unfold State.setDue
  cases hd : (a.whenTo == .tick && decide ((f - a.target.truncate 32).toNat < 2 ^ 31)) with
  | false => rfl
  | true =>
    have h5 := (hg a (List.mem_filter.2 ⟨ha, hd⟩)).2.1
    simp [h5]

theorem view_clauses (s : State) :
    (∀ l m : List ArmedCmd, s.frm.armed = l ++ m → s.tm.teamP = [] →
      s.view = (m.flatMap ArmedCmd.changes).foldl Params.apply
        ((l.flatMap ArmedCmd.changes).foldl Params.apply s.frm.params))
    ∧ ∀ (e : Dword × Nat) (l : List (Dword × Nat)), s.tm.teamP = l ++ [e] →
      s.view = { (s.frm.armed.flatMap ArmedCmd.changes).foldl Params.apply s.frm.params with pNom := e.2 } := by
  refine ⟨fun l m h hteam => ?_, fun e l h => ?_⟩
  · unfold State.view
    rw [h, hteam, List.flatMap_append, List.foldl_append]
    rfl
  · unfold State.view
    rw [h, List.getLast?_append]
    rfl

/-- Settles O22: the two lists of armed changes are merged by their order and applied one by one; the rest of the tick leaves
the parameters, the registers and what stays armed. -/
theorem changesApplyInOrder : Obligations.ChangesApplyInOrder := by
  refine ⟨fun bad s htick hentries => ?_, fun s a h hteam => ?_, fun s l m => (view_clauses s).1 l m,
    fun s e l => (view_clauses s).2 e l, fun p v w => ⟨rfl, rfl, rfl, rfl⟩⟩
  · intro f due now sets
    have hticked : s.frm.ticked = true := by
      rw [State.ticking, Bool.and_eq_true] at htick
      exact htick.1
    obtain ⟨swap, n, hn, hview⟩ := tickOp_applies bad s hticked
    obtain ⟨u, ha, hs, hp, ht, hf, hby⟩ := applyTick_by s.nextFrame swap n
    obtain ⟨h1, h2, h3, h4, h5⟩ := tickApply_plan s.nextFrame swap n
      (hby.entries ((congrArg Machine.Team.entries ht).trans ((congrArg Plan.entries hn).trans hentries)))
    have hnarmed : n.frm.armed = s.frm.armed := congrArg Plan.armed hn
    have hnsets : n.reg.sets = s.reg.sets := congrArg Plan.sets hn
    have hnparams : u.frm.params = s.frm.params := hp.trans (congrArg Plan.params hn)
    have hnteam : u.tm.teamP = s.tm.teamP := (congrArg Machine.Team.teamP ht).trans (congrArg Plan.teamP hn)
    have hnno : u.tm.tickNo = s.tm.tickNo + 1 := (congrArg Machine.Team.tickNo ht).trans (congrArg Plan.tickNo hn)
    have hnforce : u.reg.force = s.reg.force := hf.trans (congrArg Plan.force hn)
    rw [hnarmed] at ha hby
    rw [hnsets] at hs hby
    refine ⟨tickOp bad s, congrArg Host.Outcome.next (if_pos htick), ?_⟩
    generalize tickOp bad s = t at hview
    generalize view (tickApply s.nextFrame swap n) = v at hview h1 h2 h3 h4 h5
    generalize applyTick s.nextFrame swap n = c at hby h1 h2 h3 h4 h5
    refine ⟨(congrArg TickView.armed hview).trans (h1.trans (hby.armed.trans ha)), fun hteam => ?_, fun hnow => ?_,
      fun hg => ?_⟩
    · refine (congrArg TickView.params hview).trans (h4.trans ?_)
      have hteamA := hby.teamP (hnteam.trans hteam)
      rw [nomAt_none (by rw [hteamA]; exact fun e he => by cases he)]
      exact hby.params.trans (by rw [hnparams]; rfl)
    · have hdue : s.frm.armed.filter (ArmedCmd.due s.nextFrame) = [] := hnow
      rw [hdue] at hby
      obtain ⟨hno, hteam⟩ := hby.tickNo rfl
      have hnom (k : Dword) : u.nomAt k = s.nomAt k := by
        unfold State.nomAt
        rw [hnteam, hnparams]
      refine ⟨(congrArg TickView.params hview).trans (h4.trans ?_), (congrArg TickView.teamP hview).trans (h5.trans ?_)⟩
      · rw [hby.nomAt, hno, hnno, hnom, hby.params, hnparams]
        rfl
      · rw [hno, hteam, hnno, hnteam]
    · have hsets : s.reg.sets.filter (n.setDue s.nextFrame swap) = sets :=
        List.filter_congr fun a ha => setDue_of_group hg ha
      rw [hsets] at hby
      refine ⟨fun o => ?_, (congrArg TickView.sets hview).trans (h2.trans (hby.sets.trans (hs.trans ?_)))⟩
      · have hforce : t.reg.force = (mergedBy sets s).reg.force :=
          (congrArg TickView.force hview).trans (h3.trans ((hby.force hg).trans (mergedBy_force hnforce sets)))
        show (alGet t.reg.force o).getD (regReset o) = (alGet (mergedBy sets s).reg.force o).getD (regReset o)
        rw [hforce]
      · refine List.filter_congr fun a ha => congrArg (!·) ?_
        rw [setDue_of_group hg ha, Bool.eq_iff_iff, List.contains_iff_mem, List.mem_filter]
        exact ⟨fun h => ⟨ha, h⟩, fun h => h.2⟩
  · have hview := (view_clauses s).1 [] [a] h hteam
    rw [hview]
    simp

end Sys2Proof.Laws
end


section
/-!
R300 to R302: a frame that arrives on an UP port in its turn does what its body says; R311 to R313: team time.
-/
namespace Sys2Proof.Laws
open Sys2Proof.Machine Sys2Proof.Claims

/-! ### A port after a change of one port -/

theorem mapPort_port (p : Fin 4) (f : Port → Port) (s : State) (h : s.trc.ports.length = 4) :
    (mapPort p f s).port p = f (s.port p) := by
  have hp : p.val < s.trc.ports.length := by omega
  simp [mapPort, State.port, List.getD_eq_getElem?_getD, hp]

theorem mapPort_port_other {p q : Fin 4} (h : q ≠ p) (f : Port → Port) (s : State) :
    (mapPort p f s).port q = s.port q := by
  have hne : p.val ≠ q.val := fun e => h (Fin.ext e.symm)
  simp [mapPort, State.port, List.getD_eq_getElem?_getD, hne]

@[simp] theorem mapPort_length (p : Fin 4) (f : Port → Port) (s : State) :
    (mapPort p f s).trc.ports.length = s.trc.ports.length := List.length_modify ..

/-! ### Arrival -/

/-- With nothing in the replay buffer there is nothing to acknowledge. -/
theorem rackTake_empty {p : Fin 4} {s : State} (h : (s.port p).replay = []) (r : Word) : rackTake p r s = s := by
  unfold rackTake
  simp [h]

/-- Table 13.2, step 5: an UP port has been verified. -/
theorem portVerified_up {p : Fin 4} {s : State} (h : (s.port p).state = .up) : portVerified p s = s :=
  if_neg (by simp [h])

/-- R300: a fresh unreliable frame on an UP port does what its body says. -/
theorem portRx_arrives {p : Fin 4} {h : FrameHdr} {s : State} (hl : s.trc.ports.length = 4) (ha : Arrives p h s)
    (body : State → State) : portRx p h false body s = body (arrived p h s) := by
  obtain ⟨hup, hfresh, hreplay, hnak⟩ := ha
  have hempty : ((arrived p h s).port p).replay = [] := by
    rw [arrived, mapPort_port p _ s hl]
    exact hreplay
  unfold portRx
  dsimp only
  rw [if_neg (by simp [hup]), if_neg (by simp [hfresh]), show mapPort p _ s = arrived p h s from rfl,
    rackTake_empty hempty, hnak]
  rfl

/-- R302: the next reliable frame on an UP port does what its body says. -/
theorem portRx_arrivesNext {p : Fin 4} {h : FrameHdr} {s : State} (hl : s.trc.ports.length = 4)
    (ha : ArrivesNext p h s) (body : State → State) : portRx p h true body s = body (arrivedNext p h s) := by
  obtain ⟨⟨hup, hfresh, hreplay, hnak⟩, hnext⟩ := ha
  have hport : (arrived p h s).port p = { s.port p with rxFcnt := some h.fcnt } := mapPort_port p _ s hl
  have htwo : mapPort p (fun q => { q with rxNext := q.rxNext + 1, ackDue := true }) (arrived p h s) =
      arrivedNext p h s := by
    simp only [arrived, arrivedNext, mapPort, State.mapTrc, List.modify_modify_eq]
    rfl
  unfold portRx
  dsimp only
  rw [if_neg (by simp [hup]), if_neg (by simp [hfresh]), show mapPort p _ s = arrived p h s from rfl,
    rackTake_empty (by rw [hport]; exact hreplay), hnak,
    if_neg (show ¬ false = true by decide), if_neg (show ¬ (!true) = true by decide),
    if_pos (by rw [hport]; exact hnext), htwo]

theorem keyedRx_up {p : Fin 4} {h : FrameHdr} {s : State} (hup : (s.port p).state = .up) (r : Bool)
    (body : State → State) : keyedRx p h r body s = portRx p h r body s := by
  unfold keyedRx
  rw [portVerified_up hup, ite_self]

theorem keyedRx_arrives {p : Fin 4} {h : FrameHdr} {s : State} (hl : s.trc.ports.length = 4) (ha : Arrives p h s)
    (body : State → State) : keyedRx p h false body s = body (arrived p h s) :=
  (keyedRx_up ha.1 ..).trans (portRx_arrives hl ha body)

theorem keyedRx_arrivesNext {p : Fin 4} {h : FrameHdr} {s : State} (hl : s.trc.ports.length = 4)
    (ha : ArrivesNext p h s) (body : State → State) : keyedRx p h true body s = body (arrivedNext p h s) :=
  (keyedRx_up ha.1.1 ..).trans (portRx_arrivesNext hl ha body)

theorem treeRx_arrives {p : Fin 4} {h : FrameHdr} {s : State} (hl : s.trc.ports.length = 4) (ha : Arrives p h s)
    (hs : (s.port p).standby = false) (body : State → State) : treeRx p h false body s = body (arrived p h s) := by
  refine (keyedRx_arrives hl ha _).trans (if_neg ?_)
  rw [arrived, mapPort_port p _ s hl]
  simp [hs]

theorem treeRx_arrivesNext {p : Fin 4} {h : FrameHdr} {s : State} (hl : s.trc.ports.length = 4)
    (ha : ArrivesNext p h s) (hs : (s.port p).standby = false) (body : State → State) :
    treeRx p h true body s = body (arrivedNext p h s) := by
  refine (keyedRx_arrivesNext hl ha _).trans (if_neg ?_)
  rw [arrivedNext, mapPort_port p _ s hl]
  simp [hs]

/-! ### Team time -/

/-- R407: the application of a set of registers is no TIME_SYNC. -/
theorem applySet_heard (g : Nat) (v : List (Nat × Word)) (s : State) : (applySet g v s).tm.heard = s.tm.heard := by
  have hof {s t : State} (h : steady t = steady s) : t.tm.heard = s.tm.heard := congrArg (fun x => x.tm.heard) h
  have hrings (u : State) : (ringsSync u).tm.heard = u.tm.heard := by
    have hfold (l : List Nat) (t : State) : (l.foldl (fun s n =>
        let on := s.sqSize n != 0
        if on && !(s.ring n).enabled then ringEnable n s
        else if !on && (s.ring n).enabled then ringDisable n s
        else s) t).tm.heard = t.tm.heard := by
      induction l generalizing t with
      | nil => rfl
      | cons n l ih =>
        rw [List.foldl_cons, ih]
        dsimp only
        split
        · rfl
        · split <;> rfl
    exact hfold _ u
  unfold applySet
  dsimp only
  split
  · exact hof (s := s.mapReg fun r => { r with refused := bitPut r.refused g true }) (steady_raise ..)
  · split
    · exact hrings _
    · split
      · refine (hof (s := cfgTouch false (!v.isEmpty) (mergeAll s g v)) ?_).trans rfl
        rw [steady_eqModCheck, steady_foldl _ _ _ fun _ _ => steady_cqModCheck .., steady_intRecheck]
      · split <;> rfl

/-- R408: nor are the sets whose instant team time has reached. -/
theorem dueAtTime_heard (s : State) : (dueAtTime s).tm.heard = s.tm.heard := by
  have hfold (l : List ArmedSet) (t : State) :
      (l.foldl (fun s a => applySet a.group a.values s) t).tm.heard = t.tm.heard := by
    induction l generalizing t with
    | nil => rfl
    | cons a l ih => rw [List.foldl_cons, ih, applySet_heard]
  exact hfold _ _

/-- R310: a step of team time is no TIME_SYNC. -/
theorem timeJump_heard (d : Int) (cause : Nat) (s : State) : (timeJump d cause s).tm.heard = s.tm.heard :=
  (dueAtTime_heard _).trans (congrArg (fun x => x.tm.heard) (steady_emit ..))

/-- R313: leaving tick sync. -/
theorem leaveSync_spec (s : State) : (leaveSync s).clk = s.clk.undisciplined ∧ (leaveSync s).tm.heard = s.tm.heard
    ∧ (leaveSync s).tm.tickSync = false ∧ (leaveSync s).tm.leftSync = true := by
  let u := (raise fTeamTime [] s).mapTm fun t => { t with tickSync := false, leftSync := true, good := 0 }
  have h : steady (leaveSync s) = steady (u.mapClk Clk.undisciplined) := selfEvent_steady ..
  have hr : steady (raise fTeamTime [] s) = steady s := steady_raise ..
  have hclk : u.clk = s.clk := congrArg (fun x => x.clk) hr
  have hheard : u.tm.heard = s.tm.heard := congrArg (fun x => x.tm.heard) hr
  refine ⟨(congrArg (fun x => x.clk) h).trans (congrArg Clk.undisciplined hclk), ?_, ?_, ?_⟩
  · exact (congrArg (fun x => x.tm.heard) h).trans hheard
  · exact congrArg (fun x => x.tm.tickSync) h
  · exact congrArg (fun x => x.tm.leftSync) h

/-- R313: what the servo takes from an offset before it acts on it. -/
def measured (d : Int) (s : State) : State :=
  { s with
    clk := { s.clk with offset := d }
    tm := { s.tm with
      heard := true
      settled := decide (d.natAbs ≤ s.precision)
      good := if d.natAbs ≤ 50 then s.tm.good + 1 else 0 } }

theorem timeServo_eq (d : Int) (s : State) : timeServo d s =
    if s.tm.tickSync then (if 500 < d.natAbs then leaveSync (measured d s) else (measured d s).mapClk (Clk.slewBy (-d)))
    else if 1000 < d.natAbs then
      timeJump (-d) 2 ((measured d s).mapClk fun c => { c.undisciplined with ptmAt := c.loc })
    else (measured d s).mapClk (Clk.slewBy (-d)) := rfl

/-- R313: the servo. -/
theorem timeServo_spec (d : Int) (s : State) :
    let t := timeServo d s
    t.clk.offset = d ∧ t.tm.heard = true
    ∧ (d.natAbs ≤ 500 → t.clk.team = s.clk.team ∧ t.clk.slew = -d ∧ t.tm.tickSync = s.tm.tickSync
        ∧ t.clk.holdAt = none ∧ t.clk.rate = -d ∧ t.clk.rateOver = s.clk.loc - s.clk.ptmAt)
    ∧ (s.tm.tickSync = true → 500 < d.natAbs → t.tm.tickSync = false ∧ t.tm.leftSync = true ∧ t.clk.slew = 0)
    ∧ (s.tm.tickSync = false → 1000 < d.natAbs → t.clk.team = s.clk.team + BitVec.ofInt 64 (-d) ∧ t.clk.slew = 0)
    ∧ (s.tm.tickSync = false → 500 < d.natAbs → d.natAbs ≤ 1000 → t.clk.team = s.clk.team ∧ t.clk.slew = -d) := by
  dsimp only
  rw [timeServo_eq]
  cases hsync : s.tm.tickSync with
  | true =>
    rw [if_pos rfl]
    by_cases hd : 500 < d.natAbs
    · rw [if_pos hd]
      obtain ⟨hclk, hheard, hout, hleft⟩ := leaveSync_spec (measured d s)
      refine ⟨by rw [hclk]; rfl, hheard, fun h => by omega, fun _ _ => ⟨hout, hleft, by rw [hclk]; rfl⟩, ?_, ?_⟩ <;>
        exact fun h => absurd h (by decide)
    · rw [if_neg hd]
      exact ⟨rfl, rfl, fun _ => ⟨rfl, rfl, hsync, rfl, rfl, rfl⟩, fun _ h => absurd h hd, fun h => absurd h (by decide),
        fun h => absurd h (by decide)⟩
  | false =>
    rw [if_neg (by decide)]
    by_cases hd : 1000 < d.natAbs
    · rw [if_pos hd]
      have hclk := timeJump_clk (-d) 2 ((measured d s).mapClk fun c => { c.undisciplined with ptmAt := c.loc })
      have hheard := timeJump_heard (-d) 2 ((measured d s).mapClk fun c => { c.undisciplined with ptmAt := c.loc })
      refine ⟨by rw [hclk]; rfl, hheard, fun h => by omega, fun h => absurd h (by decide),
        fun _ _ => ⟨by rw [hclk]; rfl, by rw [hclk]⟩, fun _ _ h => by omega⟩
    · rw [if_neg hd]
      exact ⟨rfl, rfl, fun _ => ⟨rfl, rfl, hsync, rfl, rfl, rfl⟩, fun h => absurd h (by decide), fun _ h => absurd h hd,
        fun _ _ _ => ⟨rfl, rfl⟩⟩

theorem portEmit_other {p q : Fin 4} (h : p ≠ q) (r : Word) (b : Bool) (f : TFrame) (s : State) :
    (portEmit q r b f s).port p = s.port p := mapPort_port_other h _ _

/-- R301: a port that sends leaves the others. -/
theorem portSend_other {p q : Fin 4} (h : p ≠ q) (f : TFrame) (s : State) : (portSend q f s).port p = s.port p := by
  unfold portSend
  dsimp only
  split
  · rfl
  · split
    · exact portEmit_other h ..
    · split
      · exact (mapPort_port_other h ..).trans (portEmit_other h ..)
      · exact mapPort_port_other h ..

/-- R305: a relay leaves everything but the trace links, and the port that the frame came by. -/
theorem relayDown_spec (p : Fin 4) (f : TFrame) (s : State) :
    ∃ c, relayDown p f s = { s with trc := c } ∧ ({ s with trc := c } : State).port p = s.port p := by
  unfold relayDown
  generalize allPorts = l
  induction l generalizing s with
  | nil => exact ⟨s.trc, rfl, rfl⟩
  | cons q l ih =>
    rw [List.foldl_cons]
    split
    · exact ih s
    · next hq =>
      have hne : p ≠ q := fun h => hq (by simp [h])
      obtain ⟨c, hc, hport⟩ := ih (portSend q f s)
      refine ⟨c, ?_, ?_⟩
      · rw [hc, portSend_frame]
      · have hsame : (portSend q f s).port p = s.port p := portSend_other hne f s
        rw [← hsame, ← hport]
        rfl

/-- Settles O50. -/
theorem teamTimeFrames : Obligations.TeamTimeFrames := by
  intro p h s hl q
  have hnow : (arrived p h s).now = s.clk.team := rfl
  have hport : (arrived p h s).port p = { s.port p with rxFcnt := some h.fcnt } := mapPort_port p _ s hl
  refine ⟨fun hup => ?_, fun n ha => ?_, fun n t1 t2 t3 ha ht => ?_, fun pl ha hst hlead hact hpar hcore => ?_,
    fun hlead hmem hcore => ?_, fun hact => ?_, fun hact => ?_⟩
  · exact congrArg Host.Outcome.next (if_neg (by simp [q, hup]))
  · exact congrArg Host.Outcome.next (keyedRx_arrives hl ha _)
  · refine congrArg Host.Outcome.next ((keyedRx_arrives hl ha _).trans ?_)
    have ht' : ((arrived p h s).port p).delayT1 = some (n, t1) := by rw [hport]; exact ht
    simp only [ht', if_pos]
    rfl
  · intro lead d
    obtain ⟨c, hc, hcp⟩ := relayDown_spec p (.timeSync { pl with
      correction := pl.correction + BitVec.ofNat 64 (65536 * ((arrived p h s).port p).delay), hops := pl.hops + 1 })
      (arrived p h s)
    have hdelay : (relayTime p pl (arrived p h s)).port p = { s.port p with rxFcnt := some h.fcnt } := by
      rw [relayTime, hc, hcp, hport]
    have hcalc : ((relayTime p pl (arrived p h s)).now
        - leadTimeAt pl ((relayTime p pl (arrived p h s)).port p).delay).toInt = d := by
      rw [hdelay, relayTime, hc]
      rfl
    have hcore' : (relayTime p pl (arrived p h s)).teamCore = true := by
      rw [relayTime, hc]
      exact hcore
    have hx : exec (.timeSync p h pl) s = .next (timeServo d (relayTime p pl (arrived p h s))) := by
      refine congrArg Host.Outcome.next ((treeRx_arrives hl ha hst _).trans ?_)
      refine (if_neg (by simp [arrived, mapPort, hlead])).trans ((if_neg ?_).trans ((if_pos hcore').trans (by rw [hcalc])))
      have hact' : (arrived p h s).actsFollower = true := hact
      have hpar' : (arrived p h s).tm.parent = some p := hpar
      simp [hact', hpar']
    have hclk : (relayTime p pl (arrived p h s)).clk = s.clk := by rw [relayTime, hc]; rfl
    have htm : (relayTime p pl (arrived p h s)).tm = s.tm := by rw [relayTime, hc]; rfl
    obtain ⟨hoff, hheard, hslow, hleave, hjump, hslew⟩ := timeServo_spec d (relayTime p pl (arrived p h s))
    rw [hclk, htm] at *
    refine ⟨_, hx, hoff, hheard, hslow, hleave, fun h1 h2 => ?_, hslew⟩
    obtain ⟨hteam, hs⟩ := hjump h1 h2
    refine ⟨hteam.trans ?_, hs⟩
    rw [BitVec.ofInt_neg, BitVec.ofInt_toInt]
    simp
  · exact congrArg Host.Outcome.next (if_pos (by simp [hlead, hmem, hcore]))
  · exact congrArg Host.Outcome.next (if_neg (by simp [hact]))
  · refine congrArg Host.Outcome.next ((if_pos hact).trans ?_)
    show (if s.teamCore then _ else _) = _
    cases s.teamCore <;> rfl

end Sys2Proof.Laws
end


section
/-!
What a report, a frame that is sent and the tree of the team leave of the ports: the life of a port (O49).
-/
namespace Sys2Proof.Laws
open Sys2Proof.Machine Sys2Proof.Claims

/-! ### A port without what it sends -/

/-- A port without its numbering and its buffers while it is UP; a port that is not UP sends nothing. -/
def link (q : Port) : Port :=
  if q.state = .up then { q with txFcnt := 0, txRseq := 0, ackDue := false, replay := [], queue := [] } else q

def links (s : State) : List Port := s.trc.ports.map link

theorem links_port {s t : State} (h : links t = links s) (p : Fin 4) : link (t.port p) = link (s.port p) := by
  have hport (u : State) : link (u.port p) = (links u).getD p.val Port.reset := by
    simp [State.port, links, List.getD_eq_getElem?_getD, List.getElem?_map]
    cases u.trc.ports[p.val]? <;> rfl
  rw [hport, hport, h]

theorem links_length {s t : State} (h : links t = links s) : t.trc.ports.length = s.trc.ports.length := by
  have := congrArg List.length h
  simpa [links] using this

/-- A choice between two states. -/
@[simp] theorem links_ite {c : Prop} {_ : Decidable c} (s t : State) :
    links (if c then s else t) = if c then links s else links t := apply_ite ..

/-- A loop of steps that each keep it. -/
@[simp] theorem links_foldl {α : Type} (f : State → α → State) (l : List α) (s : State)
    (h : ∀ t a, links (f t a) = links t) : links (l.foldl f s) = links s := by
  induction l generalizing s with
  | nil => rfl
  | cons a l ih => rw [List.foldl_cons, ih, h]

/-- A change of one port that its link does not see. -/
theorem links_mapPort (p : Fin 4) (f : Port → Port) (s : State) (h : link (f (s.port p)) = link (s.port p)) :
    links (mapPort p f s) = links s := by
  refine List.ext_getElem? fun i => ?_
  simp only [links, mapPort, State.mapTrc, List.getElem?_map, List.getElem?_modify]
  by_cases hi : p.val = i
  · subst hi
    cases hq : s.trc.ports[p.val]? with
    | none => rfl
    | some q =>
      have hport : s.port p = q := by simp [State.port, List.getD_eq_getElem?_getD, hq]
      rw [hport] at h
      simpa using h
  · simp [hi]

theorem portEmit_links {p : Fin 4} {s : State} (h : (s.port p).state = .up) (r : Word) (b : Bool) (f : TFrame) :
    links (portEmit p r b f s) = links s := by
  refine (links_mapPort p _ (s.mapTrc _) ?_).trans rfl
  have hup : ((s.mapTrc fun t => { t with out := t.out ++
    [⟨p.val, (s.port p).txFcnt, r, (s.port p).rxNext, b, f, s.wire p.val (s.port p) r b f⟩] }).port p).state = .up := h
  simp [link, hup]

@[simp] theorem portSend_links (p : Fin 4) (f : TFrame) (s : State) : links (portSend p f s) = links s := by
  unfold portSend
  dsimp only
  split
  · rfl
  · next hup =>
    have hup : (s.port p).state = .up := not_not.mp hup
    have hkeep (q : Port) (hq : q.state = .up) (l : List (Word × TFrame)) (r : Word) :
        link { q with replay := l, txRseq := r } = link q := by simp [link, hq]
    split
    · exact portEmit_links hup ..
    · split
      · have he := portEmit_links hup (s.port p).txRseq false f
        refine (links_mapPort p _ _ (hkeep _ ?_ _ _)).trans he
        have := links_port he p
        by_contra hne
        rw [link, if_neg hne, link, if_pos hup] at this
        rw [this] at hne
        exact hne hup
      · exact links_mapPort p _ s (by simp [link, hup])

/-! ### Reports -/

@[simp] theorem mapClk_links (f : Clk → Clk) (s : State) : links (s.mapClk f) = links s := rfl
@[simp] theorem mapArr_links (f : Arr → Arr) (s : State) : links (s.mapArr f) = links s := rfl
@[simp] theorem mapHlt_links (f : Hlt → Hlt) (s : State) : links (s.mapHlt f) = links s := rfl
@[simp] theorem mapBus_links (f : Bus → Bus) (s : State) : links (s.mapBus f) = links s := rfl
@[simp] theorem mapReg_links (f : Reg → Reg) (s : State) : links (s.mapReg f) = links s := rfl
@[simp] theorem mapRng_links (f : Rngs → Rngs) (s : State) : links (s.mapRng f) = links s := rfl
@[simp] theorem mapTm_links (f : Machine.Team → Machine.Team) (s : State) : links (s.mapTm f) = links s := rfl
@[simp] theorem mapSaf_links (f : Saf → Saf) (s : State) : links (s.mapSaf f) = links s := rfl
@[simp] theorem mapCal_links (f : Cal → Cal) (s : State) : links (s.mapCal f) = links s := rfl
@[simp] theorem mapScn_links (f : Scn → Scn) (s : State) : links (s.mapScn f) = links s := rfl
@[simp] theorem mapFrm_links (f : Machine.Frm → Machine.Frm) (s : State) : links (s.mapFrm f) = links s := rfl
@[simp] theorem mapFlt_links (f : Flt → Flt) (s : State) : links (s.mapFlt f) = links s := rfl
@[simp] theorem mapRing_links (n : Nat) (f : Ring → Ring) (s : State) : links (mapRing n f s) = links s := rfl
@[simp] theorem mapOrigin_links (o : BitVec 10) (r : Nat) (f : OriginWindow → OriginWindow) (s : State) :
    links (mapOrigin o r f s) = links s := rfl
@[simp] theorem logAdd_links (k c : Nat) (t : Dword) (d : List Byte) (s : State) :
    links (logAdd k c t d s) = links s := rfl
@[simp] theorem logCompletion_links (op : Nat) (o : Option (BitVec 10)) (c : Completion) (s : State) :
    links (logCompletion op o c s) = links s := rfl

@[simp] theorem flood_links (b : Bool) (e : Option (Fin 4)) (f : TFrame) (s : State) :
    links (flood b e f s) = links s := by
  simp [flood]
@[simp] theorem sendDown_links (f : TFrame) (s : State) : links (sendDown f s) = links s := flood_links ..
@[simp] theorem sendUp_links (f : TFrame) (s : State) : links (sendUp f s) = links s := by
  unfold sendUp
  split <;> simp

@[simp] theorem busSend_links (o : BusOut) (s : State) : links (busSend o s) = links s := rfl
@[simp] theorem msixSend_links (v : Nat) (s : State) : links (msixSend v s) = links s := by
  simp [msixSend]
@[simp] theorem intCause_links (c : Nat) (s : State) : links (intCause c s) = links s := by
  simp [intCause]
@[simp] theorem eqModCheck_links (s : State) : links (eqModCheck s) = links s := by
  simp [eqModCheck]
@[simp] theorem eqWrite_links (e : Event) (s : State) : links (eqWrite e s) = links s := by
  simp [eqWrite]
@[simp] theorem forwardEvent_links (e : Event) (s : State) : links (forwardEvent e s) = links s := by
  simp [forwardEvent]
@[simp] theorem emitAt_links (t : Dword) (c : Nat) (d : List Byte) (s : State) : links (emitAt t c d s) = links s := by
  simp [emitAt]
@[simp] theorem emit_links (c : Nat) (d : List Byte) (s : State) : links (emit c d s) = links s := emitAt_links ..

@[simp] theorem cqModCheck_links (n : Nat) (s : State) : links (cqModCheck n s) = links s := by
  simp [cqModCheck]
@[simp] theorem cqWrite_links (op : Nat) (ioc : Bool) (c : Completion) (s : State) :
    links (cqWrite op ioc c s) = links s := by
  simp [cqWrite]
@[simp] theorem heldRelease_links (op n : Nat) (ioc : Bool) (seq : Word) (s : State) :
    links (heldRelease op n ioc seq s) = links s := by
  unfold heldRelease
  dsimp only
  split <;> simp
@[simp] theorem mutedDone_links (op : Nat) (sub : Sub) (st : Half) (res t : Dword) (s : State) :
    links (mutedDone op sub st res t s) = links s := by
  simp [mutedDone]
@[simp] theorem ownDone_links (op : Nat) (sub : Sub) (st : Half) (res t : Dword) (s : State) :
    links (ownDone op sub st res t s) = links s := by
  simp [ownDone]
@[simp] theorem cplSend_links (op : Nat) (o : BitVec 10) (d r : Bool) (a : List (BitVec 10)) (c : Completion) (s : State) :
    links (cplSend op o d r a c s) = links s := by
  unfold cplSend
  dsimp only
  split <;> simp
@[simp] theorem fwdSettle_links (f : Forward) (s : State) : links (fwdSettle f s) = links s := by
  unfold fwdSettle
  dsimp only
  split
  · split <;> simp
  · simp
@[simp] theorem fwdMark_links (f : Option Forward) (e : BitVec 10) (g : TargetState → TargetState) (s : State) :
    links (fwdMark f e g s) = links s := by
  unfold fwdMark
  split <;> simp
@[simp] theorem fwdTarget_links (o : Option (BitVec 10)) (r : Nat) (q : Word) (e : BitVec 10) (g : TargetState → TargetState)
    (s : State) : links (fwdTarget o r q e g s) = links s := by
  simp [fwdTarget]
@[simp] theorem otherDone_links (op : Nat) (sub : Sub) (o : BitVec 10) (st : Half) (res t : Dword) (s : State) :
    links (otherDone op sub o st res t s) = links s := by
  simp [otherDone]

@[simp] theorem finishAt_links (op : Nat) (sub : Sub) (st : Half) (res t : Dword) (s : State) :
    links (finishAt op sub st res t s) = links s := by
  unfold finishAt
  dsimp only
  split
  · simp
  · split <;> simp
@[simp] theorem finish_links (op : Nat) (sub : Sub) (st : Half) (res : Dword) (s : State) :
    links (finish op sub st res s) = links s := finishAt_links ..

@[simp] theorem clearWrite_links (s : State) : links (clearWrite s) = links s := rfl
@[simp] theorem postsFresh_links (s : State) : links (postsFresh s) = links s := by simp [postsFresh]
theorem writeNext_links (d : Option Decision) (c : Option CompSet) (b : Bool) (n : Nat) (s : State) :
    links (s.mapFrm fun f => { f with dec := d, comp := c, compOn := b, compStart := n }) = links s := rfl
@[simp] theorem fillInstead_links (m : Bool) (s : State) : links (fillInstead m s) = links s := by
  unfold fillInstead
  split
  · rfl
  · split
    · exact (writeNext_links ..).trans ((clearWrite_links _).trans (postsFresh_links s))
    · rfl
@[simp] theorem calAbort_links (s : State) : links (calAbort s) = links s := by
  unfold calAbort
  split <;> simp
@[simp] theorem calLeave_links (s : State) : links (calLeave s) = links s := by simp [calLeave]
@[simp] theorem safetyEmit_links (f : Word) (st scene : Nat) (m : BitVec 12) (s : State) :
    links (safetyEmit f st scene m s) = links s := by simp [safetyEmit]
@[simp] theorem stateFlood_links (k : Nat) (d : List Byte) (s : State) : links (stateFlood k d s) = links s := by
  simp [stateFlood]
@[simp] theorem safetyNote_links (b : BitVec 12) (s : State) : links (safetyNote b s) = links s := by
  simp [safetyNote]
@[simp] theorem causeArise_links (b : BitVec 12) (s : State) : links (causeArise b s) = links s := by
  simp [causeArise]

@[simp] theorem spanCut_links (s : State) : links (spanCut s) = links s := by simp [spanCut]
@[simp] theorem tilesOpen_links (m : BitVec 256) (s : State) : links (tilesOpen m s) = links s := rfl
@[simp] theorem darkAdd_links (c : DarkCause) (s : State) : links (darkAdd c s) = links s := rfl
@[simp] theorem latchSet_links (src sev : Nat) (s : State) : links (latchSet src sev s) = links s := rfl
@[simp] theorem raiseMin_links (src m : Nat) (d : List Byte) (s : State) : links (raiseMin src m d s) = links s := by
  simp [raiseMin, latchFirst, pinAssert]
@[simp] theorem raise_links (src : Nat) (d : List Byte) (s : State) : links (raise src d s) = links s := raiseMin_links ..
@[simp] theorem heldSet_links (src : Nat) (b : Bool) (s : State) : links (heldSet src b s) = links s := rfl
@[simp] theorem raiseOnce_links (src : Nat) (d : List Byte) (s : State) : links (raiseOnce src d s) = links s := by
  simp [raiseOnce]

@[simp] theorem memberEvent_links (id : BitVec 10) (change dist : Nat) (state quality : Byte) (path : Dword) (s : State) :
    links (memberEvent id change dist state quality path s) = links s := by
  simp [memberEvent]
@[simp] theorem selfEvent_links (change : Nat) (s : State) :
    links (selfEvent change s) = links s := by
  simp [selfEvent]
@[simp] theorem leadEvent_links (new prev : Option (BitVec 10)) (term frame : Word) (reason : Nat) (s : State) :
    links (leadEvent new prev term frame reason s) = links s := by
  simp [leadEvent]
@[simp] theorem memberUpdate_links (s : State) :
    links (memberUpdate s) = links s := by
  simp [memberUpdate]
@[simp] theorem excludeCheck_links (s : State) :
    links (excludeCheck s) = links s := by
  simp [excludeCheck]

end Sys2Proof.Laws
end


section
/-!
The life of a trace port: signal, HELLO, repetition, failures and disabling (O49).
-/
namespace Sys2Proof.Laws
open Sys2Proof.Machine Sys2Proof.Claims

/-! ### A port without what the tree makes of it -/

/-- A port without its place in the tree and what its peer says of it. -/
def tidy (q : Port) : Port := { q with standby := false, child := false, peer := none, cut := false }

def ends (s : State) : List Port := (links s).map tidy

theorem ends_of_links {s t : State} (h : links t = links s) : ends t = ends s := congrArg (List.map tidy) h

theorem ends_port {s t : State} (h : ends t = ends s) (p : Fin 4) :
    tidy (link (t.port p)) = tidy (link (s.port p)) := by
  have hport (u : State) : tidy (link (u.port p)) = (ends u).getD p.val Port.reset := by
    simp [State.port, ends, links, List.getD_eq_getElem?_getD, List.getElem?_map]
    cases u.trc.ports[p.val]? <;> rfl
  rw [hport, hport, h]

/-- What a report and the tree keep of a port. -/
theorem ends_keeps {s t : State} (h : ends t = ends s) (p : Fin 4) :
    (t.port p).state = (s.port p).state ∧ (t.port p).rxFcnt = (s.port p).rxFcnt ∧ (t.port p).signal = (s.port p).signal
    ∧ ((s.port p).state ≠ .up → (t.port p).replay = (s.port p).replay ∧ (t.port p).queue = (s.port p).queue) := by
  have hp := ends_port h p
  have hstate (q : Port) : (tidy (link q)).state = q.state := by unfold link tidy; split <;> rfl
  have hst : (t.port p).state = (s.port p).state := by rw [← hstate, hp, hstate]
  have hfc (q : Port) : (tidy (link q)).rxFcnt = q.rxFcnt := by unfold link tidy; split <;> rfl
  have hsig (q : Port) : (tidy (link q)).signal = q.signal := by unfold link tidy; split <;> rfl
  refine ⟨hst, by rw [← hfc, hp, hfc], by rw [← hsig, hp, hsig], fun hdown => ?_⟩
  rw [link, if_neg (by rw [hst]; exact hdown), link, if_neg hdown] at hp
  have hreplay : (tidy (t.port p)).replay = (tidy (s.port p)).replay := by rw [hp]
  have hqueue : (tidy (t.port p)).queue = (tidy (s.port p)).queue := by rw [hp]
  exact ⟨hreplay, hqueue⟩

theorem ends_length {s t : State} (h : ends t = ends s) : t.trc.ports.length = s.trc.ports.length := by
  have := congrArg List.length h
  simpa [ends, links] using this

@[simp] theorem ends_ite {c : Prop} {_ : Decidable c} (s t : State) :
    ends (if c then s else t) = if c then ends s else ends t := apply_ite ..

@[simp] theorem ends_foldl {α : Type} (f : State → α → State) (l : List α) (s : State)
    (h : ∀ t a, ends (f t a) = ends t) : ends (l.foldl f s) = ends s := by
  induction l generalizing s with
  | nil => rfl
  | cons a l ih => rw [List.foldl_cons, ih, h]

/-- A change of a port's place in the tree, or of what is known of its peer. -/
theorem ends_mapPort (p : Fin 4) (f : Port → Port) (s : State) (h : ∀ q, tidy (link (f q)) = tidy (link q)) :
    ends (mapPort p f s) = ends s := by
  refine List.ext_getElem? fun i => ?_
  simp only [ends, links, mapPort, State.mapTrc, List.getElem?_map, List.getElem?_modify]
  by_cases hi : p.val = i
  · subst hi
    cases s.trc.ports[p.val]? with
    | none => rfl
    | some q => simpa using h q
  · simp [hi]

@[simp] theorem treeSet_ends (parent : Option (Fin 4)) (dist : Nat) (s : State) : ends (treeSet parent dist s) = ends s := by
  refine (ends_foldl _ allPorts (s.mapTm fun t => { t with parent := parent, dist := dist }) fun _ _ => ?_).trans rfl
  refine ends_mapPort _ _ _ fun q => ?_
  unfold link tidy
  dsimp only
  split <;> rfl

@[simp] theorem treeLose_ends (s : State) : ends (treeLose s) = ends s := by
  have hpeer (q : Port) (x : Option HelloPl) : tidy (link { q with peer := x }) = tidy (link q) := by
    unfold link tidy
    split <;> rfl
  refine (treeSet_ends ..).trans (ends_foldl _ _ _ fun _ _ => ends_mapPort _ _ _ fun q => ?_)
  split
  · exact hpeer ..
  · rfl

@[simp] theorem helloAll_ends (s : State) : ends (helloAll s) = ends s := by
  refine ends_foldl _ _ _ fun t p => ?_
  split
  · next hup =>
    have hout : helloOut p t = portEmit p 0 false (.hello (t.helloOf p)) t := if_neg (by rw [hup]; decide)
    rw [hout]
    exact ends_of_links (portEmit_links hup ..)
  · rfl

@[simp] theorem treeUpdate_ends (s : State) : ends (treeUpdate s) = ends s := by
  have hraise (u : State) : ends (raiseOnce fTeamCfg [] u) = ends u := ends_of_links (raiseOnce_links ..)
  have hheld (u : State) : ends (heldSet fTeamCfg false u) = ends u := rfl
  unfold treeUpdate
  dsimp only
  split
  · rfl
  · rw [ends_ite, helloAll_ends, ite_self]
    split
    · exact treeSet_ends ..
    · split
      · exact treeLose_ends ..
      · split
        · exact (hraise _).trans (treeLose_ends _)
        · exact (hheld _).trans (treeSet_ends ..)

theorem leadEvent_ends (new prev : Option (BitVec 10)) (term frame : Word) (reason : Nat) (s : State) :
    ends (leadEvent new prev term frame reason s) = ends s := ends_of_links (leadEvent_links ..)

@[simp] theorem followLead_ends (id : BitVec 10) (term : Word) (frame : Option Word) (reason : Nat) (s : State) :
    ends (followLead id term frame reason s) = ends s := by
  unfold followLead
  refine (treeUpdate_ends _).trans ((ends_of_links (memberUpdate_links _)).trans ?_)
  split
  · exact leadEvent_ends ..
  · rfl

@[simp] theorem leadHeard_ends (id : BitVec 10) (term : Word) (frame : Option Word) (s : State) :
    ends (leadHeard id term frame s) = ends s := by
  have hraise (u : State) : ends (raise fTeamCfg [] u) = ends u := ends_of_links (raise_links ..)
  simp [leadHeard, hraise]

/-- R305, R307, R327: what a HELLO says leaves the session of its port. -/
@[simp] theorem helloNote_ends (p : Fin 4) (pl : HelloPl) (s : State) : ends (helloNote p pl s) = ends s := by
  have hcheck (u : State) : ends (excludeCheck u) = ends u := ends_of_links (excludeCheck_links _)
  have hpeer : ends (mapPort p (fun q => { q with peer := some pl }) s) = ends s :=
    ends_mapPort _ _ _ fun q => by unfold link tidy; split <;> rfl
  simp [helloNote, hcheck, hpeer]

/-! ### The start of a port -/

theorem portBegin_port (p : Fin 4) (s : State) (hl : s.trc.ports.length = 4) :
    ∃ n, (portBegin p s).port p = { Port.reset with
      state := .starting, signal := (s.port p).signal, ownNonce := n, delays := [], discards := (s.port p).discards
      cut := (s.port p).cut } := by
  exact ⟨_, mapPort_port p _ _ hl⟩

/-- Table 13.2: a start leaves the port not UP, with nothing to send. -/
theorem portStart_idle (p : Fin 4) (s : State) (hl : s.trc.ports.length = 4) (hs : (s.port p).state ≠ .up)
    (hr : (s.port p).replay = []) (hq : (s.port p).queue = []) :
    ((portStart p s).port p).state ≠ .up ∧ ((portStart p s).port p).replay = [] ∧ ((portStart p s).port p).queue = [] := by
  unfold portStart
  dsimp only
  split
  · exact ⟨hs, hr, hq⟩
  · split
    · have hlinks : ends (traceFault p 5 s) = ends s := ends_of_links (raise_links ..)
      obtain ⟨hstate, -, -, hidle⟩ := ends_keeps hlinks p
      obtain ⟨hreplay, hqueue⟩ := hidle hs
      exact ⟨hstate ▸ hs, hreplay.trans hr, hqueue.trans hq⟩
    · split
      · obtain ⟨n, hport⟩ := portBegin_port p s hl
        rw [hport]
        exact ⟨by simp, rfl, rfl⟩
      · exact ⟨hs, hr, hq⟩

/-! ### Port down (R303) -/

/-- R303: what a port that goes down keeps. -/
def downPort (reason : Nat) (carried : Bool) (q : Port) : Port :=
  { Port.reset with
    signal := q.signal && reason != 1
    discards := q.discards
    cut := reason != 0 && (carried || q.cut) }

/-- R303, R308: what a port that goes down raises, and tells the team. -/
def downTold (p : Fin 4) (r : Nat) (q : Port) (s : State) : State :=
  let s := if (q.state == .up || r == 6) && r != 0 then
      raise fTraceLink (b1 p.val ++ b1 r ++ b2 0 ++ b4 ((q.rxFcnt.getD 0).toNat)) s
    else s
  if q.state == .up && !q.standby then stateFlood 1 [] s else s

theorem downTold_links (p : Fin 4) (r : Nat) (q : Port) (s : State) : links (downTold p r q s) = links s := by
  simp [downTold]

theorem downTold_steady (p : Fin 4) (r : Nat) (q : Port) (s : State) : steady (downTold p r q s) = steady s := by
  simp [downTold]

/-- R303: a port goes down, and starts again where it may. -/
theorem portDownOp_spec (p : Fin 4) (r : Nat) (s : State) (hl : s.trc.ports.length = 4) :
    ∃ u, (u.port p).state = .down ∧ (u.port p).replay = [] ∧ (u.port p).queue = []
      ∧ (u.port p).signal = ((s.port p).signal && r != 1) ∧ u.portOn p = s.portOn p ∧ u.trc.ports.length = 4
      ∧ (portDownOp p r s = u ∨ portDownOp p r s = portStart p u) := by
  let s0 := if r = 0 && !s.laneTested (s.portLane p) then laneQuiet (s.portLane p) s else s
  let carried := (s.port p).state == .up && !(s.port p).standby
  let s1 := mapPort p (downPort r carried) s0
  have htrc : s0.trc = s.trc := by
    unfold s0
    split <;> rfl
  have hcalm : calm s1 = calm s := by
    refine (calm_of_steady (steady_mapPort ..)).trans ?_
    unfold s0
    split
    · exact laneQuiet_calm ..
    · rfl
  have hport : s1.port p = downPort r carried (s.port p) := by
    refine (mapPort_port p _ s0 (by rw [htrc]; exact hl)).trans (congrArg (downPort r carried) ?_)
    unfold State.port
    rw [htrc]
  have hlen : s1.trc.ports.length = 4 := (mapPort_length ..).trans (by rw [htrc]; exact hl)
  have hon {u : State} (h : calm u = calm s1) : u.portOn p = s.portOn p := by
    have hall : calm u = calm s := h.trans hcalm
    have hmode : u.pwr.mode = s.pwr.mode := congrArg (fun x => x.pwr.mode) hall
    have hparams : u.frm.params = s.frm.params := congrArg (fun x => x.frm.params) hall
    unfold State.portOn
    rw [hmode, hparams]
  have hof {u : State} (he : ends u = ends s1) (hc : calm u = calm s1) : (u.port p).state = .down ∧ (u.port p).replay = []
      ∧ (u.port p).queue = [] ∧ (u.port p).signal = ((s.port p).signal && r != 1) ∧ u.portOn p = s.portOn p
      ∧ u.trc.ports.length = 4 := by
    obtain ⟨hstate, -, hsignal, hidle⟩ := ends_keeps he p
    rw [hport] at hstate hsignal hidle
    obtain ⟨hreplay, hqueue⟩ := hidle (by simp [downPort, Port.reset])
    exact ⟨hstate, hreplay, hqueue, hsignal, hon hc, (ends_length he).trans hlen⟩
  have hop : portDownOp p r s =
      if (s.port p).state == .down then s1 else portStart p (treeUpdate (downTold p r (s.port p) s1)) := by
    unfold portDownOp
    rfl
  rw [hop]
  split
  · obtain ⟨hst, hre, hqu, hsig, hpo, hle⟩ := hof (u := s1) rfl rfl
    exact ⟨s1, hst, hre, hqu, hsig, hpo, hle, .inl rfl⟩
  · obtain ⟨hst, hre, hqu, hsig, hpo, hle⟩ := hof (u := treeUpdate (downTold p r (s.port p) s1))
      ((treeUpdate_ends _).trans (ends_of_links (downTold_links ..)))
      ((treeUpdate_calm _).trans (calm_of_steady (downTold_steady ..)))
    exact ⟨_, hst, hre, hqu, hsig, hpo, hle, .inr rfl⟩

/-! ### Repetition -/

/-- R302: a run of repetitions puts one frame on the lane for each, and leaves the port's buffers. -/
theorem repeats_spec (p : Fin 4) (l : List (Word × TFrame)) (s : State) (hl : s.trc.ports.length = 4) :
    let t := l.foldl (fun s e => portEmit p e.1 true e.2 s) s
    (t.port p).retries = (s.port p).retries ∧ (t.port p).replay = (s.port p).replay
      ∧ (t.port p).state = (s.port p).state ∧ t.trc.out.length = s.trc.out.length + l.length := by
  induction l generalizing s with
  | nil => exact ⟨rfl, rfl, rfl, rfl⟩
  | cons e l ih =>
    obtain ⟨hretries, hreplay, hstate, hout⟩ := ih (portEmit p e.1 true e.2 s) ((mapPort_length ..).trans hl)
    have hport : (portEmit p e.1 true e.2 s).port p = { s.port p with txFcnt := (s.port p).txFcnt + 1, ackDue := false } :=
      mapPort_port p _ _ hl
    rw [hport] at hretries hreplay hstate
    refine ⟨hretries, hreplay, hstate, hout.trans ?_⟩
    have hone : (portEmit p e.1 true e.2 s).trc.out.length = s.trc.out.length + 1 := by
      simp [portEmit, mapPort]
    rw [hone, List.length_cons]
    omega

theorem queuePump_links (p : Fin 4) (s : State) (hup : (s.port p).state = .up) : links (queuePump p s) = links s := by
  have hempty : links (mapPort p (fun q => { q with queue := [] }) s) = links s :=
    links_mapPort p _ s (by simp [link, hup])
  exact (links_foldl _ _ _ fun _ _ => portSend_links ..).trans hempty

/-- R301: an acknowledgement, with what it lets go on, leaves the port UP. -/
theorem rackTake_up (p : Fin 4) (r : Word) (s : State) (hl : s.trc.ports.length = 4) (hup : (s.port p).state = .up) :
    ((rackTake p r s).port p).state = .up ∧ ((rackTake p r s).port p).rxFcnt = (s.port p).rxFcnt := by
  unfold rackTake
  dsimp only
  split
  · let u := mapPort p (fun q =>
      { q with replay := q.replay.filter (fun e => !rseqBefore e.1 r), acked := r, retries := 0 }) s
    have hport : u.port p = { s.port p with
        replay := (s.port p).replay.filter (fun e => !rseqBefore e.1 r), acked := r, retries := 0 } := mapPort_port p _ s hl
    have hu : (u.port p).state = .up := by rw [hport]; exact hup
    obtain ⟨hstate, hfcnt, -, -⟩ := ends_keeps (ends_of_links (queuePump_links p u hu)) p
    exact ⟨hstate.trans hu, hfcnt.trans (by rw [hport])⟩
  · exact ⟨hup, rfl⟩

/-- Table 13.2, step 5: the first frame under the session keys brings the port UP. -/
theorem verified_up (p : Fin 4) (h : FrameHdr) (s : State) (hl : s.trc.ports.length = 4)
    (hst : (s.port p).state = .starting) (ha : (s.port p).answered = true) (hf : (s.port p).fresh h.fcnt = true)
    (hnak : h.nak = false) :
    ∃ t, exec (.acknak p h) s = .next t ∧ (t.port p).state = .up ∧ (t.port p).rxFcnt = some h.fcnt := by
  let u := mapPort p (fun q => { q with state := .up, heard := true }) s
  have hu : u.port p = { s.port p with state := .up, heard := true } := mapPort_port p _ s hl
  have hv : ∃ v, portVerified p s = v ∧ ends v = ends u := by
    refine ⟨_, rfl, ?_⟩
    unfold portVerified
    rw [if_pos (by simp [hst, ha])]
    dsimp only
    split
    · exact helloNote_ends ..
    · rfl
  obtain ⟨v, hv, hends⟩ := hv
  obtain ⟨hstate, hfcnt, -, -⟩ := ends_keeps hends p
  rw [hu] at hstate hfcnt
  have hfresh : (v.port p).fresh h.fcnt = true := by
    unfold Port.fresh at hf ⊢
    rw [hfcnt]
    exact hf
  let w := mapPort p (fun q => { q with rxFcnt := some h.fcnt }) v
  have hlv : v.trc.ports.length = 4 := (ends_length hends).trans ((mapPort_length ..).trans hl)
  have hw : w.port p = { v.port p with rxFcnt := some h.fcnt } := mapPort_port p _ v hlv
  obtain ⟨hup, hrx⟩ := rackTake_up p h.rack w ((mapPort_length ..).trans hlv) (by rw [hw]; exact hstate)
  refine ⟨rackTake p h.rack w, congrArg Host.Outcome.next ?_, hup, hrx.trans (by rw [hw])⟩
  unfold keyedRx portRx
  rw [if_pos hf, hv]
  dsimp only
  rw [if_neg (by simp [hstate]), if_neg (by simp [hfresh]), hnak]
  rfl

/-- R296: signal starts an enabled port that is down, and locks its receiver. -/
theorem portSignal_spec (p : Fin 4) (s : State) (hl : s.trc.ports.length = 4) (hv : s.pwr.vaon = true)
    (hm : s.pwr.mode = .active) (ho : s.portOn p = true) (hd : (s.port p).state = .down)
    (ht : s.laneTested (s.portLane p) = false) (hk : s.lockSet = false) (hr : s.pwr.trngOk = true) :
    ∃ t, exec (.portSignalDetect p) s = .next t
      ∧ (t.port p).state = .starting ∧ (t.port p).signal = true ∧ (t.port p).discards = (s.port p).discards
      ∧ (s.lan.l.length = 8 → (t.lane (s.portLane p)).sigDet = true ∧ (t.lane (s.portLane p)).cdrLock = true)
      ∧ ∀ r, r ≠ p → t.port r = s.port r := by
  let u := mapPort p (fun q => { q with signal := true }) s
  let v := mapLane (s.portLane p) (fun l => { l with sigDet := true, cdrLock := true }) u
  have hup : u.port p = { s.port p with signal := true } := mapPort_port p _ s hl
  have hvp : v.port p = { s.port p with signal := true } := hup
  have htest : v.laneTested (v.portLane p) = false := by
    have hkeep : (v.lan.l.getD (s.portLane p) Lane.reset).test = (s.lan.l.getD (s.portLane p) Lane.reset).test := by
      show ((s.lan.l.modify (s.portLane p) _).getD _ _).test = _
      rw [List.getD_eq_getElem?_getD, List.getD_eq_getElem?_getD, List.getElem?_modify]
      simp only [if_true]
      cases s.lan.l[s.portLane p]? <;> rfl
    exact (congrArg Option.isSome hkeep).trans ht
  have hx : exec (.portSignalDetect p) s = .next (portBegin p v) := by
    refine congrArg Host.Outcome.next ((if_neg (by simp [hv, hm, ho])).trans ?_)
    show portStart p v = portBegin p v
    have hon : v.portOn p = true := ho
    have hmode : v.pwr.mode = .active := hm
    unfold portStart
    dsimp only
    rw [if_neg (by simp [hon, hvp, hd, htest, hmode]), if_neg (by simp [show v.lockSet = false from hk]),
      if_pos (show v.pwr.trngOk = true from hr)]
  have hlv : v.trc.ports.length = 4 := (mapPort_length ..).trans hl
  obtain ⟨n, hport⟩ := portBegin_port p v hlv
  rw [hvp] at hport
  refine ⟨_, hx, by rw [hport], by rw [hport], by rw [hport], fun hlan => ?_, fun r hne => ?_⟩
  · have hlane : s.portLane p < 8 := by
      unfold State.portLane
      split <;> omega
    have hb : (portBegin p v).lane (s.portLane p) = { v.lane (s.portLane p) with
        sigDet := true, cdrLock := true
        ctle := BitVec.ofNat 4 (Config.freePick (v.random 16).2.draw.1) } :=
      mapLane_lane (s.portLane p) _ _ (by show _ < (s.lan.l.modify _ _).length; rw [List.length_modify, hlan]; exact hlane)
    rw [hb]
    exact ⟨rfl, rfl⟩
  · exact (mapPort_port_other hne _ _).trans (mapPort_port_other hne _ s)

/-- R296, R297: a HELLO on a port that starts is answered, and gives both ends their keys. -/
theorem helloStart_spec (p : Fin 4) (s : State) (hl : s.trc.ports.length = 4) (h : FrameHdr) (pl : HelloPl)
    (hc : s.teamCore = true) (hs : (s.port p).state = .starting) (hf : (s.port p).fresh h.fcnt = true) :
    ∃ t, exec (.hello p h pl) s = .next t
      ∧ (t.port p).state = .starting ∧ (t.port p).answered = true ∧ (t.port p).peer = some pl
      ∧ (t.port p).rxFcnt = some h.fcnt
      ∧ t.trc.out.map Sent.frame = s.trc.out.map Sent.frame ++ [.hello (s.helloOf p)]
      ∧ ((t.port p).txKey, (t.port p).rxKey) = sessionKeys s.sec.teamKey (s.port p).ownNonce pl.nonce := by
  let u := mapPort p (fun q => { q with rxFcnt := some h.fcnt }) s
  have hu : u.port p = { s.port p with rxFcnt := some h.fcnt } := mapPort_port p _ s hl
  let k := sessionKeys u.sec.teamKey (u.port p).ownNonce pl.nonce
  let v := mapPort p (fun q => { q with peer := some pl, txKey := k.1, rxKey := k.2, keyed := true }) u
  have hlu : u.trc.ports.length = 4 := (mapPort_length ..).trans hl
  have hlv : v.trc.ports.length = 4 := (mapPort_length ..).trans hlu
  have hv : v.port p = { s.port p with
      rxFcnt := some h.fcnt, peer := some pl, txKey := k.1, rxKey := k.2, keyed := true } := by
    refine (mapPort_port p _ u hlu).trans ?_
    rw [hu]
  have hout : helloOut p v = portEmit p 0 false (.hello (v.helloOf p)) v := if_neg (by rw [hv, hs]; decide)
  have hemit : (portEmit p 0 false (.hello (v.helloOf p)) v).port p =
      { v.port p with txFcnt := (v.port p).txFcnt + 1, ackDue := false } := mapPort_port p _ _ hlv
  have hlast : (mapPort p (fun q => { q with answered := true }) (portEmit p 0 false (.hello (v.helloOf p)) v)).port p =
      { s.port p with
        rxFcnt := some h.fcnt, peer := some pl, txKey := k.1, rxKey := k.2, keyed := true
        txFcnt := (s.port p).txFcnt + 1, ackDue := false, answered := true } := by
    rw [mapPort_port p (fun q => { q with answered := true }) (portEmit p 0 false (.hello (v.helloOf p)) v)
      ((mapPort_length ..).trans hlv), hemit, hv]
  have hhello : v.helloOf p = s.helloOf p := by
    have hnonce : (v.port p).ownNonce = (s.port p).ownNonce := by rw [hv]
    unfold State.helloOf
    rw [hnonce]
    rfl
  have hx : exec (.hello p h pl) s = .next
      (mapPort p (fun q => { q with answered := true }) (portEmit p 0 false (.hello (v.helloOf p)) v)) := by
    refine congrArg Host.Outcome.next ((if_neg (by simp [hc])).trans ?_)
    rw [hs]
    refine (if_pos hf).trans ?_
    show mapPort p _ (helloOut p v) = _
    rw [hout]
  refine ⟨_, hx, by rw [hlast, hs], by rw [hlast], by rw [hlast], by rw [hlast], ?_, ?_⟩
  · rw [hhello]
    exact List.map_append ..
  · rw [hlast]
    show (k.1, k.2) = _
    unfold k
    rw [hu]
    rfl

/-- Settles O49. -/
theorem portLife : Obligations.PortLife := by
  intro p s hl
  dsimp only
  have hdown (r : Nat) : ∃ t, portDownOp p r s = t ∧ (t.port p).state ≠ .up ∧ (t.port p).replay = []
      ∧ (t.port p).queue = [] := by
    obtain ⟨u, hstate, hreplay, hqueue, -, -, hlen, ht⟩ := portDownOp_spec p r s hl
    have hne : (u.port p).state ≠ .up := by rw [hstate]; decide
    rcases ht with ht | ht
    · exact ⟨u, ht, hne, hreplay, hqueue⟩
    · exact ⟨_, ht, portStart_idle p u hlen hne hreplay hqueue⟩
  refine ⟨portSignal_spec p s hl, fun h => ?_, fun hs ha hc => ?_, fun h pl hc hs hf => helloStart_spec p s hl h pl hc hs hf,
    fun h hs ha hf _ hn => verified_up p h s hl hs ha hf hn, fun h hs ha => ?_,
    fun h ha => congrArg Host.Outcome.next (keyedRx_arrives hl ha _), fun h => ?_, fun hup hr => ?_, fun hup hne hlt => ?_,
    fun hup hne hle => ?_, fun r hr hup => ?_, fun ho hs => ?_, ?_, fun why r hup hwhy => ?_, fun why r hs => ?_⟩
  · refine congrArg Host.Outcome.next (if_neg ?_)
    rcases h with h | h <;> simp [h]
  · have hx : exec (.helloSend p) s = .next (portEmit p 0 false (.hello (s.helloOf p)) s) :=
      congrArg Host.Outcome.next ((if_pos (by simp [hs, ha, hc])).trans
        (if_neg (by simp [hs])))
    exact ⟨_, hx, rfl⟩
  · refine congrArg Host.Outcome.next ?_
    have hv : portVerified p s = s := if_neg (by simp [ha])
    unfold keyedRx
    rw [hv, ite_self]
    exact if_pos (by simp [hs])
  · refine congrArg Host.Outcome.next (if_pos ?_)
    rcases h with h | h <;> simp [h]
  · exact congrArg Host.Outcome.next ((if_pos (by simp [hup])).trans
      (if_pos (by simp [hr])))
  · let u := mapPort p (fun q => { q with retries := q.retries + 1 }) s
    have hu : u.port p = { s.port p with retries := (s.port p).retries + 1 } := mapPort_port p _ s hl
    have hx : exec (.retransmitTimeout p) s = .next ((s.port p).replay.foldl (fun s e => portEmit p e.1 true e.2 s) u) :=
      congrArg Host.Outcome.next ((if_pos (by simp [hup])).trans
        ((if_neg (by simp [hne])).trans (if_neg (Nat.not_le.mpr hlt))))
    obtain ⟨hretries, hreplay, hstate, hout⟩ := repeats_spec p (s.port p).replay u ((mapPort_length ..).trans hl)
    rw [hu] at hretries hreplay hstate
    exact ⟨_, hx, hretries, hreplay, hstate.trans hup, hout⟩
  · obtain ⟨t, ht, hs, -, -⟩ := hdown 3
    have hx : exec (.retransmitTimeout p) s = .next t :=
      congrArg Host.Outcome.next ((if_pos (by simp [hup])).trans
        ((if_neg (by simp [hne])).trans ((if_pos hle).trans ht)))
    exact ⟨t, hx, hs⟩
  · obtain ⟨t, ht, hspec⟩ := hdown r.toNat
    have hx : exec (.portDown p r) s = .next t := by
      refine congrArg Host.Outcome.next (Eq.trans ?_ ht)
      have hup' : (s.port p).state = .up := hup
      rcases hr with rfl | rfl | rfl <;> exact if_pos (by simp [hup'])
    exact ⟨t, hx, hspec⟩
  · obtain ⟨u, hstate, -, -, -, hon, -, ht⟩ := portDownOp_spec p 0 s hl
    have hx : exec (.portDown p 0) s = .next (portDownOp p 0 s) := congrArg Host.Outcome.next (if_neg (by simp [ho]))
    refine ⟨_, hx, ?_⟩
    rcases ht with ht | ht
    · rw [ht, hstate]
    · have hidle : portStart p u = u := if_pos (by simp [hon, ho])
      rw [ht, hidle, hstate]
  · obtain ⟨u, hstate, -, -, hsig, -, -, ht⟩ := portDownOp_spec p 1 (laneLost p s) hl
    have hsig : (u.port p).signal = false := by rw [hsig]; simp
    have hx : exec (.portDown p 1) s = .next (portDownOp p 1 (laneLost p s)) := rfl
    refine ⟨_, hx, ?_⟩
    rcases ht with ht | ht
    · rw [ht]
      exact ⟨hstate, hsig⟩
    · have hidle : portStart p u = u := if_pos (by simp [hsig])
      rw [ht, hidle]
      exact ⟨hstate, hsig⟩
  · let u := mapPort p (fun q => { q with discards := q.discards + 1 }) s
    have hu : u.port p = { s.port p with discards := (s.port p).discards + 1 } := mapPort_port p _ s hl
    have hx : exec (.traceFrameDiscarded p why r) s = .next (if r then nakSend p u else u) := by
      refine congrArg Host.Outcome.next ((if_neg (by simp [hup])).trans ?_)
      refine (if_neg (by simp [hwhy])).trans ?_
      show (if r && (s.port p).state == .up then nakSend p u else u) = _
      rw [show (s.port p).state = .up from hup]
      simp
    refine ⟨_, hx, ?_⟩
    cases r with
    | true =>
      have hemit : (nakSend p u).port p = { u.port p with txFcnt := (u.port p).txFcnt + 1, ackDue := false } :=
        mapPort_port p _ _ ((mapPort_length ..).trans hl)
      refine ⟨?_, ?_, fun _ => ?_, fun h => absurd h (by decide)⟩
      · rw [if_pos rfl, hemit, hu]
      · rw [if_pos rfl, hemit, hu]
        exact hup
      · show s.trc.out ++ [⟨p.val, (u.port p).txFcnt, 0, (u.port p).rxNext, false, .acknak true,
          u.wire p.val (u.port p) 0 false (.acknak true)⟩] = _
        rw [hu]
        rfl
    | false =>
      refine ⟨?_, ?_, fun h => absurd h (by decide), fun _ => rfl⟩
      · show (u.port p).discards = _
        rw [hu]
      · show (u.port p).state = _
        rw [hu]
        exact hup
  · exact congrArg Host.Outcome.next (if_pos (by simp [hs]))

end Sys2Proof.Laws
end


section
/-!
What the members of a team tell each other: SCHEDULE, DIGEST, STATE and ENUM (O51).
-/
namespace Sys2Proof.Laws
open Sys2Proof.Machine Sys2Proof.Claims

/-! ### SCHEDULE -/

/-- R317, R318: what a schedule of the lead in force leaves with a follower. -/
def Scheduled (pl : SchedulePl) (s t : State) : Prop :=
  t.tm.gotSched = true ∧ t.tm.leadCrc = pl.sharedCrc ∧ t.tm.policy = pl.policy.toNat ∧ t.tm.lead = s.tm.lead
  ∧ t.tm.entries = s.tm.entries.filter (fun e => decide (e.tick.toNat < pl.tick.toNat)) ++ schedEntries pl

theorem Scheduled.of_steady {pl : SchedulePl} {s t u : State} (h : Scheduled pl s t) (hu : steady u = steady t) :
    Scheduled pl s u := by
  have hteam : (steady u).tm = (steady t).tm := by rw [hu]
  obtain ⟨hgot, hcrc, hpolicy, hlead, hentries⟩ := h
  exact ⟨(congrArg (fun m : Machine.Team => m.gotSched) hteam).trans hgot,
    (congrArg (fun m : Machine.Team => m.leadCrc) hteam).trans hcrc,
    (congrArg (fun m : Machine.Team => m.policy) hteam).trans hpolicy,
    (congrArg (fun m : Machine.Team => m.lead) hteam).trans hlead,
    (congrArg (fun m : Machine.Team => m.entries) hteam).trans hentries⟩

theorem leadNews_team (pl : SchedulePl) (s : State) :
    (leadNews pl s).tm.lead = s.tm.lead ∧ (leadNews pl s).tm.entries = s.tm.entries := by
  unfold leadNews
  split
  · next prev reason _ =>
    have h : steady (leadEvent s.tm.lead prev pl.term (pl.tick.truncate 32) reason
        (s.mapTm fun t => { t with evLead := none })) = steady (s.mapTm fun t => { t with evLead := none }) := steady_emit ..
    exact ⟨congrArg (fun x => x.tm.lead) h, congrArg (fun x => x.tm.entries) h⟩
  · exact ⟨rfl, rfl⟩

/-- R327: the comparison of the shared configuration concerns its own counts only. -/
theorem sharedCompare_lead (crc own : Word) (t : Machine.Team) (b : Bool) :
    (sharedCompare crc t own b).lead = t.lead ∧ (sharedCompare crc t own b).entries = t.entries := by
  unfold sharedCompare
  split
  · exact ⟨rfl, rfl⟩
  · split <;> exact ⟨rfl, rfl⟩

theorem scheduleNote_spec (pl : SchedulePl) (s : State) : Scheduled pl s (scheduleNote pl s) := by
  obtain ⟨hlead, hentries⟩ := leadNews_team pl s.draw.2
  obtain ⟨hl, he⟩ := sharedCompare_lead pl.sharedCrc (leadNews pl s.draw.2).reg.refS (leadNews pl s.draw.2).tm
    ((leadNews pl s.draw.2).reg.staleS || Config.leadStale s.draw.1)
  refine ⟨rfl, rfl, rfl, hl.trans hlead, ?_⟩
  exact congrArg (fun l : List SchedEntry => l.filter (fun e => decide (e.tick.toNat < pl.tick.toNat)) ++ schedEntries pl)
    (he.trans hentries)

/-- R327: the exclusion concerns itself only, and tick sync. -/
theorem scheduled_excludeCheck {pl : SchedulePl} {s t : State} (h : Scheduled pl s t) : Scheduled pl s (excludeCheck t) := by
  have hset (b c : Bool) : Scheduled pl s (t.mapTm fun m => { m with excluded := b, tickSync := c }) := h
  unfold excludeCheck
  dsimp only
  split
  · exact h
  · split
    · exact (hset _ _).of_steady ((selfEvent_steady ..).trans (steady_raise ..))
    · exact hset _ _

/-! ### STATE -/

theorem portsMap_spec (f : Port → Port) (hf : f Port.reset = Port.reset) (l : List (Fin 4)) (hn : l.Nodup) (s : State) :
    let t := l.foldl (fun s p => mapPort p f s) s
    (∀ r, r ∈ l → t.port r = f (s.port r)) ∧ (∀ r, r ∉ l → t.port r = s.port r) ∧ t.tm = s.tm := by
  induction l generalizing s with
  | nil => exact ⟨fun _ h => absurd h (List.not_mem_nil), fun _ _ => rfl, rfl⟩
  | cons p l ih =>
    obtain ⟨hp, hl⟩ := List.nodup_cons.mp hn
    obtain ⟨hin, hout, htm⟩ := ih hl (mapPort p f s)
    have hself : (mapPort p f s).port p = f (s.port p) := by
      simp only [mapPort, State.port, State.mapTrc, List.getD_eq_getElem?_getD, List.getElem?_modify]
      cases s.trc.ports[p.val]? <;> simp [hf]
    refine ⟨fun r hr => ?_, fun r hr => ?_, htm⟩
    · by_cases hrp : r = p
      · subst hrp
        exact (hout _ hp).trans hself
      · have hrl : r ∈ l := (List.mem_cons.mp hr).resolve_left hrp
        exact (hin r hrl).trans (congrArg f (mapPort_port_other hrp f s))
    · have hrp : r ≠ p := fun h => hr (h ▸ List.mem_cons_self)
      exact (hout r fun h => hr (List.mem_cons_of_mem _ h)).trans (mapPort_port_other hrp f s)

theorem mem_allPorts (p : Fin 4) : p ∈ allPorts := by
  fin_cases p <;> decide

/-- R308: a heal ends every block. -/
theorem unblock_standby (s : State) (r : Fin 4) : ((unblock s).port r).standby = false := by
  obtain ⟨hin, -, -⟩ := portsMap_spec (fun q => if q.standby then { q with standby := false, child := true } else q) rfl
    allPorts (by decide) s
  refine (congrArg Port.standby (hin r (mem_allPorts r))).trans ?_
  cases h : (s.port r).standby <;> simp [h]

theorem unblock_tm (s : State) : (unblock s).tm = s.tm :=
  (portsMap_spec (fun q => if q.standby then { q with standby := false, child := true } else q) rfl
    allPorts (by decide) s).2.2

/-- R308, R328: what a STATE frame of each kind does on this engine. -/
theorem stateNote_spec (pl : StatePl) (s : State) :
    let t := stateNote pl s
    t.tm.seen = s.tm.seen
    ∧ (pl.kind = 1 → ∀ r, (t.port r).standby = false)
    ∧ (pl.kind = 2 → s.tm.isMember = true → s.followsState pl.data = true →
        t.tm.stPend = s.tm.stPend ++ [(pl.engine.truncate 10, true, s.nextTick)])
    ∧ (pl.kind = 3 → s.tm.isMember = true →
        t.tm.stPend = s.tm.stPend ++ [(pl.engine.truncate 10, false, s.nextTick)]) := by
  let u := if s.tm.leading && (pl.kind = 2 || pl.kind = 3) then s.mapTm fun t =>
      { t with members := t.members.map fun m =>
        if m.id = pl.engine.truncate 10 then { m with groups := stateGroups pl.data } else m }
    else s
  obtain ⟨l, hu⟩ : ∃ l, u = s.mapTm fun t => { t with members := l } := by
    unfold u
    split
    · exact ⟨_, rfl⟩
    · exact ⟨s.tm.members, rfl⟩
  have hfollows : u.followsState pl.data = s.followsState pl.data := by rw [hu]; rfl
  have hnote : stateNote pl s = match pl.kind.toNat with
    | 1 => unblock u
    | 2 => if u.tm.isMember && u.followsState pl.data then
        u.mapTm fun t => { t with stPend := t.stPend ++ [(pl.engine.truncate 10, true, u.nextTick)] }
      else u
    | 3 => if u.tm.isMember then
        u.mapTm fun t => { t with stPend := t.stPend ++ [(pl.engine.truncate 10, false, u.nextTick)] } else u
    | _ => u := rfl
  dsimp only
  refine ⟨?_, fun hk r => ?_, fun hk hm hf => ?_, fun hk hm => ?_⟩
  · have hseen : u.tm.seen = s.tm.seen := by rw [hu]; rfl
    rw [hnote]
    split
    · rw [unblock_tm, hseen]
    · split <;> exact hseen
    · split <;> exact hseen
    · exact hseen
  · have h1 : pl.kind.toNat = 1 := by rw [hk]; rfl
    rw [hnote, h1]
    exact unblock_standby u r
  · have h2 : pl.kind.toNat = 2 := by rw [hk]; rfl
    have hmem : u.tm.isMember = true := by rw [hu]; exact hm
    rw [hnote, h2]
    refine (congrArg (fun x : State => x.tm.stPend) (if_pos (by simp [hmem, hfollows, hf]))).trans ?_
    rw [hu]
    rfl
  · have h3 : pl.kind.toNat = 3 := by rw [hk]; rfl
    have hmem : u.tm.isMember = true := by rw [hu]; exact hm
    rw [hnote, h3]
    refine (congrArg (fun x : State => x.tm.stPend) (if_pos hmem)).trans ?_
    rw [hu]
    rfl

/-! ### ENUM -/

/-- R306: the request goes on by the trace links alone. -/
theorem enumDown_frame (path : Dword) (d : Nat) (ingress : Option (Fin 4)) (s : State) :
    ∃ c, enumDown path d ingress s = { s with trc := c } := by
  unfold enumDown
  generalize allPorts = l
  induction l generalizing s with
  | nil => exact ⟨s.trc, rfl⟩
  | cons p l ih =>
    rw [List.foldl_cons]
    split
    · exact ih s
    · obtain ⟨c, hc⟩ := ih (portSend p (.enum (.request (pathVia path d p))) s)
      exact ⟨c, by rw [hc, portSend_frame]⟩

theorem memberUpdate_id (s : State) : (memberUpdate s).tm.id = s.tm.id := by
  unfold memberUpdate
  dsimp only
  split
  · rfl
  · exact congrArg (fun x => x.tm.id) (selfEvent_steady ..)

/-- R306: an engine takes the ID that the lead has assigned. -/
theorem enumOwn_id (id : BitVec 10) (s : State) : (enumOwn id s).tm.id = some id := by
  unfold enumOwn
  split
  · next h => exact (memberUpdate_id s).trans h
  · exact (congrArg (fun x => x.tm.id) (selfEvent_steady ..)).trans (memberUpdate_id _)

/-- R306: a request from the parent tells the engine its port path. -/
theorem enumRequest_path (p : Fin 4) (path : Dword) (s : State) (hp : s.tm.parent = some p) :
    (enumBody p (.request path) s).tm.path = path := by
  have htree : (treeUpdate (s.mapTm fun t => { t with path := path })).tm.path = path :=
    congrArg (fun x => x.tm.path) (treeUpdate_calm (s.mapTm fun t => { t with path := path }))
  refine (congrArg (fun x : State => x.tm.path) (if_neg (by simp [hp]))).trans ?_
  generalize treeUpdate (s.mapTm fun t => { t with path := path }) = u at htree
  obtain ⟨c, hc⟩ := enumDown_frame path u.tm.dist (some p) u
  rw [hc]
  split
  · rw [sendUp_frame]
    exact htree
  · exact htree

/-! ### DIGEST -/

/-- R326, R327: the lead takes the digest of a member. -/
theorem digestTake_members (d : DigestPl) (m : Member) (s : State)
    (hm : s.tm.members.find? (fun m => m.id.toNat == d.engine.toNat) = some m) :
    (digestTake d s).tm.members = s.tm.members.map fun x => if x.id = m.id then m.withDigest d else x := by
  let u := s.mapTm fun t => { t with members := t.members.map fun x => if x.id = m.id then m.withDigest d else x }
  have hsteady : steady (digestTake d s) = steady u := by
    unfold digestTake
    rw [hm]
    dsimp only
    refine (steady_foldl _ _ _ fun t c => steady_emit ..).trans ?_
    split
    · exact steady_raise ..
    · rfl
  exact congrArg (fun x => x.tm.members) hsteady

/-- Settles O51. -/
theorem teamFrames : Obligations.TeamFrames := by
  intro p h s hl
  dsimp only
  have hparent : (arrivedNext p h s).tm = s.tm := rfl
  refine ⟨fun pl ha hst hlead hact hcore hex hl1 hterm hno => ?_, fun d m ha hst hlead hcore hm => ?_,
    fun d ha hst hlead hpar => ?_, fun pl ha => ⟨fun hseen => ?_, fun hseen hself => ?_⟩, fun r ha hst hlead => ?_,
    fun path ha hst hpar => ?_, fun id ha hst hpar hcore hdist => ?_, fun hlead hcore => ?_⟩
  · let a := arrived p h s
    let u := excludeCheck (scheduleNote pl a)
    obtain ⟨c, hc, -⟩ := relayDown_spec p (.schedule pl) u
    have hx : exec (.schedule p h pl) s = .next (relayDown p (.schedule pl) u) := by
      refine congrArg Host.Outcome.next ((treeRx_arrives hl ha hst _).trans ?_)
      have htake : scheduleTake p pl a = scheduleNote pl a :=
        if_pos (by simp [show a.tm = s.tm from rfl, hterm, hno, hl1])
      refine (if_neg (by simp [arrived, mapPort, hlead])).trans ((if_neg ?_).trans ?_)
      · simp [show (arrived p h s).actsFollower = true from hact]
      · show relayDown p (.schedule pl) (if a.teamCore && !a.tm.excluded then excludeCheck (scheduleTake p pl a) else a) = _
        rw [if_pos (by simp [show a.teamCore = true from hcore, show a.tm.excluded = false from hex]), htake]
    obtain ⟨hgot, hcrc, hpolicy, hleads, hentries⟩ := scheduled_excludeCheck (scheduleNote_spec pl a)
    refine ⟨_, hx, ?_⟩
    rw [hc]
    refine ⟨hgot, hcrc, hpolicy, hleads, hentries.trans (congrArg (s.tm.entries.filter _ ++ ·) ?_)⟩
    simp [schedEntries]
  · have hx : exec (.digest p h d) s = .next (digestTake d (arrived p h s)) :=
      congrArg Host.Outcome.next ((treeRx_arrives hl ha hst _).trans
        ((if_pos hlead).trans (if_pos hcore)))
    exact ⟨_, hx, digestTake_members d m _ hm⟩
  · exact congrArg Host.Outcome.next ((treeRx_arrives hl ha hst _).trans
      ((if_neg (by simp [arrived, mapPort, hlead])).trans (if_neg hpar)))
  · refine congrArg Host.Outcome.next ((keyedRx_arrivesNext hl ha _).trans (if_pos ?_))
    exact Bool.or_eq_true_iff.mpr (.inr (List.elem_eq_true_of_mem hseen))
  · let key : BitVec 10 × Byte × Dword := (pl.engine.truncate 10, pl.kind, pl.time)
    let u := (arrivedNext p h s).mapTm fun t => { t with seen := (key :: t.seen).take 64 }
    have hx : exec (.state p h pl) s = .next (stateNote pl (flood true (some p) (.state pl) u)) := by
      refine congrArg Host.Outcome.next ((keyedRx_arrivesNext hl ha _).trans (if_neg ?_))
      rw [Bool.or_eq_true_iff, decide_eq_true_iff]
      rintro (hid | hin)
      · exact hself hid
      · exact hseen (List.mem_of_elem_eq_true hin)
    obtain ⟨hs, hheal, hon, hoff⟩ := stateNote_spec pl (flood true (some p) (.state pl) u)
    rw [flood_frame] at hs hon hoff
    rw [flood_frame] at hx hheal
    exact ⟨_, hx, hs, hheal, fun hk hm hf => hon hk hm hf, fun hk hm => hoff hk hm⟩
  · exact congrArg Host.Outcome.next ((treeRx_arrivesNext hl ha hst _).trans (if_neg (by simp [hparent, hlead])))
  · have hx : exec (.enum p h (.request path)) s = .next (enumBody p (.request path) (arrivedNext p h s)) :=
      congrArg Host.Outcome.next (treeRx_arrivesNext hl ha hst _)
    exact ⟨_, hx, enumRequest_path p path _ hpar⟩
  · have hx : exec (.enum p h (.reply s.tm.path (BitVec.ofNat 8 s.tm.dist) id)) s =
        .next (enumOwn id (arrivedNext p h s)) := by
      refine congrArg Host.Outcome.next ((treeRx_arrivesNext hl ha hst _).trans ?_)
      refine (if_neg (by simp [hparent, hpar])).trans ((if_pos ?_).trans (if_pos hcore))
      simp [hparent, Nat.mod_eq_of_lt hdist]
    exact ⟨_, hx, enumOwn_id id _⟩
  · obtain ⟨c, hc⟩ := enumDown_frame 0 0 none (s.mapTm fun t =>
      { t with members := t.members.map fun m => { m with seen := false, fresh := false } })
    have hx : exec .enumeration s = .next (enumDown 0 0 none (s.mapTm fun t =>
        { t with members := t.members.map fun m => { m with seen := false, fresh := false } })) :=
      congrArg Host.Outcome.next (if_pos (by simp [hlead, hcore]))
    exact ⟨_, hx, by rw [hc]; rfl⟩

end Sys2Proof.Laws
end


section
/-!
The timers and decisions of a team: repetition, lost members, DIVERGENT, the loss of the lead and its handback (O53).
-/
namespace Sys2Proof.Laws
open Sys2Proof.Machine Sys2Proof.Claims

/-- Table 10.4: the opcode of an entry. -/
theorem entryOp_eq (e : BitVec 512) : entryOp e = e.toNat % 256 := by
  simp [entryOp, e8]

/-! ### Repetition of a forwarded command (R322, R324) -/

/-- R323: a single forwarded command is known by its sub whatever becomes of its completion. -/
theorem fwd_single {f : Forward} {s : State} (hf : s.tm.fwds = [f]) :
    s.fwd f.sub.origin f.sub.ring.val f.sub.seq = some f := by
  have hby (r : Reply) : s.fwdBy f.sub.origin f.sub.ring.val f.sub.seq r = if f.sub.reply = r then some f else none := by
    unfold State.fwdBy
    rw [hf]
    by_cases h : f.sub.reply = r
    · simp [h]
    · simp [h]
  unfold State.fwd
  rw [hby, hby, hby]
  cases h : f.sub.reply <;> rfl

/-- R323: the one forwarded command, changed and not yet answered by all. -/
theorem fwdSettle_open {f g : Forward} {s : State} (hf : s.tm.fwds = [f]) (hg : g.sub = f.sub)
    (ho : (g.targets.all fun t => t.2.isFinal) = false) :
    fwdSettle g s = { s with tm := { s.tm with fwds := [g] } } := by
  unfold fwdSettle
  dsimp only
  rw [if_neg (by simp [ho])]
  simp only [State.mapTm, hf, hg]
  simp

/-- R323: the one forwarded command, answered by all: it is complete, and leaves. -/
theorem fwdSettle_done {f g : Forward} {s : State} (hf : s.tm.fwds = [f]) (hg : g.sub = f.sub)
    (ho : (g.targets.all fun t => t.2.isFinal) = true) :
    fwdSettle g s =
      let streams := s.tm.streams.filter fun x =>
        !(x.out && x.fin.isNone && f.sub.origin.isNone && x.number == f.sub.seq)
      let u : State := { s with tm := { s.tm with fwds := [], streams := streams } }
      let c := combine g s.clk.team
      match f.sub.origin with
      | none => ownDone (entryOp g.entry) f.sub c.1 c.2.1 c.2.2 u
      | some o =>
        cplSend (entryOp g.entry) o false false
          ((g.targets.filter fun x => x.1 != s.engineId && x.2 != .unreachable).map Prod.fst)
          ⟨f.sub.seq, c.1, BitVec.ofNat 8 f.sub.ring.val, false, f.sub.gap, f.sub.tag, c.2.2, c.2.1⟩ u := by
  unfold fwdSettle
  dsimp only
  rw [if_pos ho]
  simp only [State.mapTm, hf, hg]
  simp only [List.map_cons, List.map_nil, beq_self_eq_true, Bool.and_self, if_true, List.filter_cons, bne_self_eq_false,
    Bool.false_eq_true, if_false, List.filter_nil, ← entryOp_eq]
  cases f.sub.origin <;> rfl

theorem cplSend_fwds (op : Nat) (o : BitVec 10) (d r : Bool) (acks : List (BitVec 10)) (c : Completion) (s : State) :
    (cplSend op o d r acks c s).tm.fwds = s.tm.fwds := by
  unfold cplSend
  dsimp only
  split
  · rw [sendDown, flood_frame]
    rfl
  · rw [sendUp_frame]
    rfl

/-- R323: what becomes of the one forwarded command when one of its targets answers. -/
theorem fwdTarget_single {f : Forward} {s : State} (hf : s.tm.fwds = [f]) (eng : BitVec 10)
    (g : TargetState → TargetState) :
    fwdTarget f.sub.origin f.sub.ring.val f.sub.seq eng g s =
      fwdSettle { f with targets := f.targets.map fun t => if t.1 = eng && !t.2.isFinal then (t.1, g t.2) else t } s := by
  unfold fwdTarget fwdMark
  rw [fwd_single hf]

/-- R322, R324: a target that has not acknowledged its command. -/
theorem cmdRetry_waits {f : Forward} {s : State} {target : BitVec 10} {k : Nat} (hf : s.tm.fwds = [f])
    (ht : f.targets = [(target, .waiting k)]) :
    exec (.cmdRetryTimer f.sub.ring f.sub.seq target) s = .next
      (if 8 ≤ k then fwdSettle { f with targets := [(target, .unreachable)] } s
        else
          let u : State := { s with tm := { s.tm with fwds := [{ f with targets := [(target, .waiting (k + 1))] }] } }
          if s.tm.leading then cmdDown f true (target.zeroExtend 11) u
          else sendUp (.cmd 0x400 ⟨s.engineId.zeroExtend 16, BitVec.ofNat 8 f.sub.ring.val, true, f.entry⟩) u) := by
  have hgone : fwdTarget f.sub.origin f.sub.ring.val f.sub.seq target (fun _ => .unreachable) s =
      fwdSettle { f with targets := [(target, .unreachable)] } s := by
    rw [fwdTarget_single hf, ht]
    simp [TargetState.isFinal]
  have hagain : fwdTarget f.sub.origin f.sub.ring.val f.sub.seq target (fun _ => .waiting (k + 1)) s =
      { s with tm := { s.tm with fwds := [{ f with targets := [(target, .waiting (k + 1))] }] } } := by
    rw [fwdTarget_single hf, ht]
    refine (congrArg (fun l => fwdSettle { f with targets := l } s) ?_).trans (fwdSettle_open hf rfl ?_)
    · simp [TargetState.isFinal]
    · simp [TargetState.isFinal]
  refine congrArg Host.Outcome.next ?_
  rw [hf]
  simp [ht, hgone, hagain]
  rfl

theorem cmdRetry_spec {f : Forward} {s : State} {target : BitVec 10} {k : Nat} (hf : s.tm.fwds = [f])
    (ht : f.targets = [(target, .waiting k)]) :
    (k < 8 → ∃ t, exec (.cmdRetryTimer f.sub.ring f.sub.seq target) s = .next t
      ∧ ∃ g, t.tm.fwds = [g] ∧ g.targets = [(target, .waiting (k + 1))] ∧ t.rng = s.rng)
    ∧ (8 ≤ k → ∃ t, exec (.cmdRetryTimer f.sub.ring f.sub.seq target) s = .next t ∧ t.tm.fwds = []) := by
  rw [cmdRetry_waits hf ht]
  refine ⟨fun hk => ⟨_, rfl, { f with targets := [(target, .waiting (k + 1))] }, ?_⟩, fun hk => ⟨_, rfl, ?_⟩⟩
  · rw [if_neg (Nat.not_le.mpr hk)]
    dsimp only
    split
    · rw [cmdDown, sendDown, flood_frame]
      exact ⟨rfl, rfl, rfl⟩
    · rw [sendUp_frame]
      exact ⟨rfl, rfl, rfl⟩
  · rw [if_pos hk, fwdSettle_done (g := { f with targets := [(target, .unreachable)] }) hf rfl rfl]
    dsimp only
    split
    · rw [ownDone_frame]
    · exact cplSend_fwds ..

/-! ### Members, DIVERGENT, the lead (R326, R327, R329, R330) -/

/-- R326: a member without digests leaves. -/
theorem memberGone_members (m : Member) (s : State) :
    (memberGone m s).tm.members = s.tm.members.filter fun x => x.id != m.id := by
  have h : steady (memberGone m s) = steady (s.mapTm fun t => { t with members := t.members.filter fun x => x.id != m.id }) := by
    refine (steady_foldl _ _ _ fun t f => ?_).trans (steady_emit ..)
    split
    · exact steady_fwdTarget ..
    · rfl
  exact congrArg (fun x => x.tm.members) h

/-- Bits that are put one after another. -/
theorem bitsFold_getLsbD {w : Nat} (l : List Bool) (n k : Nat) (m : BitVec w) (hk : k < w) :
    ((l.zipIdx n).foldl (fun m e => bitPut m e.2 e.1) m).getLsbD k =
      if n ≤ k then (l[k - n]?).getD (m.getLsbD k) else m.getLsbD k := by
  induction l generalizing n m with
  | nil => simp
  | cons b l ih =>
    rw [List.zipIdx_cons, List.foldl_cons, ih, bitPut_getLsbD _ _ _ _ hk]
    by_cases hn : n < k
    · have hsub : k - n = (k - (n + 1)) + 1 := by omega
      rw [if_pos (show n + 1 ≤ k by omega), if_pos (show n ≤ k by omega), if_neg (by omega), hsub,
        List.getElem?_cons_succ]
    · rw [if_neg (show ¬ n + 1 ≤ k by omega)]
      by_cases he : k = n
      · subst he
        simp
      · rw [if_neg he, if_neg (show ¬ n ≤ k by omega)]

theorem causes_divergent (s : State) : s.causes.getLsbD 6 = s.tm.divergent :=
  (bitsFold_getLsbD _ 0 6 0 (by decide)).trans rfl

/-- R330: what a lead that hands over becomes before it reports. -/
def handedOver (l : BitVec 10) (s : State) : State :=
  { s with
    tm := { s.tm with
      leading := false, lead := some l, term := s.tm.term + 1, handback := none, confLead := none, members := []
      entries := s.ownEntries, tickSync := true, missed := 0, gotSched := true, dist := 65535 }
    clk := { s.clk.undisciplined with disc := .team }
    frm := { s.frm with src := .team, nextLen := none, nextStr := false } }

/-- R330: what the engine that takes over becomes before it reports. -/
def takenOver (l : BitVec 10) (s : State) : State :=
  { s with
    tm := { s.tm with
      leading := true, lead := some l, term := s.tm.term + 1, handback := none, confLead := none, members := []
      parent := none, dist := 0, divergent := false, divOut := false, mism := 0, agree := 0, missed := 0 }
    clk := { s.clk.undisciplined with disc := .freeRun }
    frm := { s.frm with nextLen := some s.frm.params.pNom, nextStr := false } }

theorem handbackTo_eq (l : BitVec 10) (s : State) : handbackTo l s =
    let report (u : State) := leadEvent (some l) s.tm.lead (s.tm.term + 1) (s.tm.tickNo.truncate 32 + 2) 2 u
    if s.tm.leading then treeUpdate (report (handedOver l s))
    else if s.tm.id = some l then settleSend (treeUpdate (srcTick (helloAll (report (takenOver l s)))))
    else report (s.mapTm fun t => { t with lead := some l, term := s.tm.term + 1, handback := none }) := rfl

/-- R330: the lead that a handback names, under the next term; a lead that hands over follows, an engine that takes over
leads. -/
theorem handbackTo_spec (l : BitVec 10) (s : State) :
    let t := handbackTo l s
    t.tm.lead = some l ∧ t.tm.term = s.tm.term + 1
    ∧ (s.tm.leading = true → t.tm.leading = false ∧ t.clk.disc = .team)
    ∧ (s.tm.leading = false → s.tm.id = some l → t.tm.leading = true ∧ t.clk.disc = .freeRun) := by
  have hkeep {u v : State} (h : calm u = calm v) : u.tm.lead = v.tm.lead ∧ u.tm.term = v.tm.term
      ∧ u.tm.leading = v.tm.leading ∧ u.clk = v.clk :=
    ⟨congrArg (fun x => x.tm.lead) h, congrArg (fun x => x.tm.term) h, congrArg (fun x => x.tm.leading) h,
      congrArg (fun x => x.clk) h⟩
  have hlead (new prev : Option (BitVec 10)) (term first : Word) (k : Nat) (u : State) :
      calm (leadEvent new prev term first k u) = calm u := calm_of_steady (steady_emit ..)
  have htree (new prev : Option (BitVec 10)) (term first : Word) (k : Nat) (u : State) :=
    hkeep ((treeUpdate_calm (leadEvent new prev term first k u)).trans (hlead ..))
  have hsettle (u : State) : (settleSend u).tm.lead = u.tm.lead ∧ (settleSend u).tm.term = u.tm.term
      ∧ (settleSend u).tm.leading = u.tm.leading ∧ (settleSend u).clk = u.clk := by
    unfold settleSend announceHandback
    dsimp only
    have hdown (f : TFrame) (v : State) : sendDown f v = { v with trc := (sendDown f v).trc } := flood_frame ..
    split
    · exact ⟨rfl, rfl, rfl, rfl⟩
    · split
      · rw [hdown]
        split
        · split
          · exact ⟨rfl, rfl, rfl, rfl⟩
          · split <;> exact ⟨rfl, rfl, rfl, rfl⟩
        · exact ⟨rfl, rfl, rfl, rfl⟩
      · rw [sendUp_frame]
        exact ⟨rfl, rfl, rfl, rfl⟩
  have hsrc (u : State) : (srcTick u).tm = u.tm ∧ (srcTick u).clk = u.clk := by
    unfold srcTick
    dsimp only
    split <;> exact ⟨rfl, rfl⟩
  have htakes (new prev : Option (BitVec 10)) (term first : Word) (k : Nat) (u : State) :
      let t := settleSend (treeUpdate (srcTick (helloAll (leadEvent new prev term first k u))))
      t.tm.lead = u.tm.lead ∧ t.tm.term = u.tm.term ∧ t.tm.leading = u.tm.leading ∧ t.clk = u.clk := by
    have hhello := hkeep ((helloAll_calm (leadEvent new prev term first k u)).trans (hlead ..))
    generalize helloAll (leadEvent new prev term first k u) = v at hhello
    have hset := hsettle (treeUpdate (srcTick v))
    have hup := hkeep (treeUpdate_calm (srcTick v))
    obtain ⟨htm, hclk⟩ := hsrc v
    rw [htm, hclk] at hup
    obtain ⟨g1, g2, g3, g4⟩ := hup
    rw [g1, g2, g3, g4] at hset
    obtain ⟨f1, f2, f3, f4⟩ := hhello
    rw [f1, f2, f3, f4] at hset
    exact hset
  dsimp only
  rw [handbackTo_eq]
  dsimp only
  by_cases hl : s.tm.leading = true
  · obtain ⟨h1, h2, h3, h4⟩ := htree (some l) s.tm.lead (s.tm.term + 1) (s.tm.tickNo.truncate 32 + 2) 2 (handedOver l s)
    rw [if_pos hl, h1, h2, h3, h4]
    exact ⟨rfl, rfl, fun _ => ⟨rfl, rfl⟩, fun h => absurd hl (by simp [h])⟩
  · rw [if_neg hl]
    by_cases hid : s.tm.id = some l
    · obtain ⟨h1, h2, h3, h4⟩ :=
        htakes (some l) s.tm.lead (s.tm.term + 1) (s.tm.tickNo.truncate 32 + 2) 2 (takenOver l s)
      rw [if_pos hid, h1, h2, h3, h4]
      exact ⟨rfl, rfl, fun h => absurd h hl, fun _ _ => ⟨rfl, rfl⟩⟩
    · rw [if_neg hid]
      obtain ⟨h1, h2, -, -⟩ := hkeep (hlead (some l) s.tm.lead (s.tm.term + 1) (s.tm.tickNo.truncate 32 + 2) 2
        (s.mapTm fun t => { t with lead := some l, term := s.tm.term + 1, handback := none }))
      rw [h1, h2]
      exact ⟨rfl, rfl, fun h => absurd h hl, fun _ h => absurd h hid⟩

/-- R327: four mismatches make a follower DIVERGENT. -/
theorem divergentEnter_spec (s : State) (hf : s.actsFollower = true) (hm : s.tm.isMember = true)
    (hd : s.tm.divergent = false) (h : 4 ≤ s.tm.mism) :
    ∃ t, exec .divergentEnter s = .next t ∧ t.tm.divergent = true ∧ t.causes.getLsbD 6 = true := by
  let u := s.mapTm fun t => { t with divergent := true, divOut := false }
  have hx : exec .divergentEnter s = .next (causeArise s.causes (selfEvent 3 (raise fTeamCfg [] u))) :=
    congrArg Host.Outcome.next (if_pos (by simp [hf, hm, hd, h]))
  have hsteady : steady (causeArise s.causes (selfEvent 3 (raise fTeamCfg [] u))) = steady u :=
    (steady_causeArise ..).trans ((selfEvent_steady ..).trans (steady_raise ..))
  have hdiv : (causeArise s.causes (selfEvent 3 (raise fTeamCfg [] u))).tm.divergent = true :=
    congrArg (fun x => x.tm.divergent) hsteady
  exact ⟨_, hx, hdiv, (causes_divergent _).trans hdiv⟩

/-- Settles O53. -/
theorem teamDecisions : Obligations.TeamDecisions := by
  intro s
  refine ⟨fun r seq target f k hf hr hs ht => ?_, fun o r seq w hl hw => ?_, fun stream off t ht => ?_,
    fun e m hl hm _ => ⟨fun h => ?_, fun h => ?_⟩, fun hf hm hd => ⟨fun h => ?_, divergentEnter_spec s hf hm hd⟩,
    fun hd ho ha => ?_, fun hf hl hn hm => ?_, fun l n hb hm hn => ?_, fun l n hb hn => ?_⟩
  · subst hr hs
    exact cmdRetry_spec hf ht
  · refine congrArg Host.Outcome.next ?_
    rw [hw]
    exact if_neg (by simp [hl])
  · refine congrArg Host.Outcome.next ?_
    rw [ht]
  · refine congrArg Host.Outcome.next ((if_neg (by simp [hl])).trans ?_)
    rw [hm]
    exact if_neg (Nat.not_le.mpr h)
  · have hx : exec (.memberLeft e) s = .next (memberGone m s) := by
      refine congrArg Host.Outcome.next ((if_neg (by simp [hl])).trans ?_)
      rw [hm]
      exact if_pos h
    exact ⟨_, hx, memberGone_members m s⟩
  · exact congrArg Host.Outcome.next (if_neg (by simp [Nat.not_le.mpr h]))
  · have hx : exec .divergentLeave s = .next (selfEvent 4 (s.mapTm fun t => { t with divOut := true })) :=
      congrArg Host.Outcome.next (if_pos (by simp [hd, ho, ha]))
    have hsteady := selfEvent_steady 4 (s.mapTm fun t => { t with divOut := true })
    exact ⟨_, hx, (congrArg (fun x => x.tm.divergent) hsteady).trans hd, congrArg (fun x => x.tm.divOut) hsteady⟩
  · obtain ⟨l, hl⟩ := Option.ne_none_iff_exists'.mp hl
    have hx : exec .leadLost s = .next ((raise fLeadLost [] s).mapTm fun t =>
        { t with noLead := true, lostUp := s.frm.params.backup }) :=
      congrArg Host.Outcome.next (if_pos (by simp [hf, hl, hn, hm]))
    exact ⟨_, hx, rfl, rfl⟩
  · have hx : exec .handback s = .next (causeArise s.causes (handbackTo l s)) := by
      refine congrArg Host.Outcome.next ?_
      rw [hb]
      exact if_pos (by simp [hm, hn])
    have hsteady := steady_causeArise s.causes (handbackTo l s)
    have hlead : (causeArise s.causes (handbackTo l s)).tm.lead = (handbackTo l s).tm.lead :=
      congrArg (fun x => x.tm.lead) hsteady
    have hterm : (causeArise s.causes (handbackTo l s)).tm.term = (handbackTo l s).tm.term :=
      congrArg (fun x => x.tm.term) hsteady
    have hleads : (causeArise s.causes (handbackTo l s)).tm.leading = (handbackTo l s).tm.leading :=
      congrArg (fun x => x.tm.leading) hsteady
    have hclk : (causeArise s.causes (handbackTo l s)).clk = (handbackTo l s).clk := congrArg (fun x => x.clk) hsteady
    refine ⟨_, hx, ?_⟩
    rw [hlead, hterm, hleads, hclk]
    exact handbackTo_spec l s
  · refine congrArg Host.Outcome.next ?_
    rw [hb]
    exact if_neg (by simp [Nat.not_le.mpr hn])

end Sys2Proof.Laws
end


section
/-!
Forwarded commands on their way: CMD, E2E_ACK, CPL, EVENT and BULK frames (O52).
-/
namespace Sys2Proof.Laws
open Sys2Proof.Machine Sys2Proof.Claims

theorem routeSend_frame (f : TFrame) (s : State) : ∃ c, routeSend f s = { s with trc := c } := by
  unfold routeSend
  split
  · exact ⟨_, flood_frame ..⟩
  · exact ⟨_, sendUp_frame ..⟩

theorem routeOn_frame (p : Fin 4) (dst : BitVec 11) (f : TFrame) (s : State) :
    ∃ c, routeOn p dst f s = { s with trc := c } := by
  unfold routeOn
  split
  · exact ⟨_, sendUp_frame ..⟩
  · split
    · obtain ⟨c, hc, -⟩ := relayDown_spec p f s
      exact ⟨c, hc⟩
    · exact ⟨_, sendUp_frame ..⟩

/-! ### Routed frames -/

section
variable {p : Fin 4} {h : FrameHdr} {s : State} (hl : s.trc.ports.length = 4) (ha : ArrivesNext p h s)
  (hs : (s.port p).standby = false)
include hl ha hs

/-- R299: a routed frame for this engine. -/
theorem routedRx_here (hd : s.dstHere h.dst = true) (hc : s.teamCore = true) (f : TFrame) (body : State → State) :
    routedRx p h f body s = body (arrivedNext p h s) :=
  (treeRx_arrivesNext hl ha hs _).trans ((if_pos hd).trans (if_pos hc))

/-- R299: a routed frame for another engine goes on. -/
theorem routedRx_on (hd : s.dstHere h.dst = false) (f : TFrame) (body : State → State) :
    routedRx p h f body s = routeOn p h.dst f (arrivedNext p h s) := by
  refine (treeRx_arrivesNext hl ha hs _).trans (if_neg ?_)
  rw [show (arrivedNext p h s).dstHere h.dst = s.dstHere h.dst from rfl, hd]
  decide

/-- R321: a CMD that names this engine. -/
theorem cmd_here (pl : CmdPl) (hd : s.dstHere h.dst = true) (hc : s.teamCore = true) :
    exec (.cmd p h pl.head pl.entry) s = .next (cmdTake pl (arrivedNext p h s)) := by
  refine congrArg Host.Outcome.next ((treeRx_arrivesNext hl ha hs _).trans ?_)
  have hin : (arrivedNext p h s).dstHere h.dst = true := hd
  have hcore : (arrivedNext p h s).teamCore = true := hc
  dsimp only
  rw [if_pos hin, if_pos (by simp [State.cmdHere, hin, hcore])]
  rfl

/-- R321: a CMD for other engines goes on. -/
theorem cmd_on (pl : CmdPl) (hd : s.dstHere h.dst = false) (hc : s.cmdHere h.dst = false) :
    exec (.cmd p h pl.head pl.entry) s = .next (routeOn p h.dst (.cmd h.dst pl) (arrivedNext p h s)) := by
  refine congrArg Host.Outcome.next ((treeRx_arrivesNext hl ha hs _).trans ?_)
  have hin : (arrivedNext p h s).dstHere h.dst = false := hd
  obtain ⟨c, hr⟩ := routeOn_frame p h.dst (.cmd h.dst pl) (arrivedNext p h s)
  have hcmd : (routeOn p h.dst (.cmd h.dst pl) (arrivedNext p h s)).cmdHere h.dst = false := by
    rw [hr]
    exact hc
  dsimp only
  rw [if_neg (show ¬ (arrivedNext p h s).dstHere h.dst = true by rw [hin]; decide), show pl.head.pl pl.entry = pl from rfl,
    hcmd]
  exact if_neg (by simp)

end

/-! ### CMD on a target, and on the lead -/

theorem cmdAck_frame (pl : CmdPl) (s : State) : ∃ c, cmdAck pl s = { s with trc := c } := by
  unfold cmdAck
  dsimp only
  split
  · exact ⟨_, flood_frame ..⟩
  · exact ⟨_, sendUp_frame ..⟩

/-- R321: the lead keeps the command of another origin as forwarded and sends it to its targets. -/
theorem leadStart_others {k : Nat} {b : Sub} {e : BitVec 512} {body : State → State} {s : State} {o : BitVec 10}
    (ho : b.origin = some o) (hr : s.leadRefuses k b.target = none) (ht : s.targetsOf k b.target ≠ [])
    (hn : s.engineId ∉ s.targetsOf k b.target) :
    leadStart k b e body s = sendDown (.cmd b.target ⟨o.zeroExtend 16, BitVec.ofNat 8 b.ring.val, false, e⟩)
      { s with tm := { s.tm with fwds := s.tm.fwds ++
        [⟨b, e, groupTarget b.target, (s.targetsOf k b.target).map fun x => (x, .waiting 1)⟩] } } := by
  have hothers : (s.targetsOf k b.target).filter (fun x => x != s.engineId) = s.targetsOf k b.target := by
    refine List.filter_eq_self.mpr fun x hx => bne_iff_ne.mpr fun he => hn (he ▸ hx)
  have hkeep (u : State) : keepRunning b u = u := by
    unfold keepRunning
    rw [ho]
  unfold leadStart
  dsimp only
  rw [hr]
  dsimp only
  have hcond : ((s.targetsOf k b.target).contains s.engineId) = false := by simpa using hn
  have hself (f : TFrame) (u : State) : (sendDown f u).engineId = u.engineId := by rw [sendDown, flood_frame]; rfl
  have hne : ¬ (s.targetsOf k b.target).isEmpty = true := by simpa using ht
  rw [hkeep, hothers, if_neg hne, cmdDown, ho, hself]
  refine (if_neg ?_).trans rfl
  rw [show (s.mapTm _).engineId = s.engineId from rfl, hcond]
  decide

/-- R321, R322: a CMD that executes on this engine, and one whose repetition finds its command still running. -/
theorem cmdTake_spec (pl : CmdPl) (a : State) (hm : a.tm.isMember = true) (hr : a.pwr.ready = true)
    (hf : a.pwr.farrier = true) :
    let o : BitVec 10 := pl.origin.truncate 10
    let n : Fin 16 := Fin.ofNat 16 pl.ring.toNat
    let w := (a.originWin o n.val).getD ⟨o, n.val, false, 0, [], 0⟩
    a.barrierWaits o n pl.entry = false →
    let b := entrySub n (w.gapOf (e32 pl.entry 4)) (some o) pl.entry
    let u := mapOrigin o n.val (originOpen (e32 pl.entry 4) (digestOf pl.entry)) (cmdAck pl a)
    (w.executes (e32 pl.entry 4) = true → cmdTake pl a = cmdStart b pl.entry u)
    ∧ (∀ x, w.executes (e32 pl.entry 4) = false → w.window.find? (fun x => x.seq == e32 pl.entry 4) = some x →
        x.digest = digestOf pl.entry → x.done = false → cmdTake pl a = cmdAck pl a) := by
  intro o n w hb b u
  have htake : cmdTake pl a = if w.executes (e32 pl.entry 4) then cmdStart b pl.entry u
      else cmdAnswer pl o w (cmdAck pl a) := by
    refine if_neg ?_
    rw [hm, hr, hf, hb]
    decide
  refine ⟨fun he => htake.trans (if_pos he), fun x he hx hdig hdone => htake.trans ((if_neg (by simp [he])).trans ?_)⟩
  unfold cmdAnswer
  dsimp only
  rw [hx]
  dsimp only
  rw [if_neg (by simp [hdig]), if_pos (by simp [hdone])]

/-- R321: on its target, or on the lead for itself, the command starts, when what it reads has come. -/
theorem cmdStart_here {b : Sub} {e : BitVec 512} {u : State}
    (h : u.tm.leading = false ∨ b.target.toNat = u.engineId.toNat) :
    (entryReads e = 0 ∨ entryOp e = 0x13 → cmdStart b e u = entryStartOp b (.ok []) e u)
    ∧ (entryReads e ≠ 0 → entryOp e ≠ 0x13 →
        (∀ d, u.readOf b (entryReads e) = some d → cmdStart b e u = entryStartOp b d e (readDrop b u))
        ∧ (u.readOf b (entryReads e) = none →
          cmdStart b e u = { u with tm := { u.tm with reads := u.tm.reads ++ [(b, e)] } })) := by
  have hlead : ¬ (u.tm.leading && b.target.toNat != u.engineId.toNat) = true := by
    rcases h with h | h <;> simp [h]
  refine ⟨fun hr => (if_neg hlead).trans (if_pos ?_), fun hr hop => ?_⟩
  · simpa using hr
  · have hneither : ¬ (entryReads e = 0 || entryOp e = 0x13) = true := by simp [hr, hop]
    refine ⟨fun d hd => (if_neg hlead).trans ((if_neg hneither).trans ?_),
      fun hd => (if_neg hlead).trans ((if_neg hneither).trans ?_)⟩
    · rw [hd]
    · rw [hd]
      rfl

/-- R321: on the lead the command of another origin goes on to its targets, or is refused. -/
theorem cmdStart_leads {b : Sub} {e : BitVec 512} {u : State} {o : BitVec 10} (ho : b.origin = some o)
    (hl : u.tm.leading = true) (ht : b.target.toNat ≠ u.engineId.toNat)
    (hp : ¬ (groupTarget b.target = true ∧ entryOp e = 0x38)) :
    let v := if groupTarget b.target = true then u.draw.2 else u
    let targets := u.targetsOf u.free b.target
    (targets = [] → cmdStart b e u = finish (entryOp e) b stUnreachable 0 v)
    ∧ (targets ≠ [] → Excluded u b.target → cmdStart b e u = finish (entryOp e) b stVersion 0 v)
    ∧ (targets ≠ [] → ¬ Excluded u b.target → u.engineId ∉ targets →
        cmdStart b e u = sendDown (.cmd b.target ⟨o.zeroExtend 16, BitVec.ofNat 8 b.ring.val, false, e⟩)
          { v with tm := { v.tm with fwds := v.tm.fwds ++
            [⟨b, e, groupTarget b.target, targets.map fun x => (x, .waiting 1)⟩] } }) := by
  intro v targets
  have hx : cmdStart b e u = leadStart u.free b e (entryStartOp b (.ok []) e) v := by
    refine (if_pos (by simp [hl, ht])).trans ?_
    rw [entryOp_eq] at hp
    exact leadForward_start hp
  have hvt : v.targetsOf u.free b.target = targets := by
    unfold v
    split <;> rfl
  have hve : v.engineId = u.engineId := by
    unfold v
    split <;> rfl
  have hvx : Excluded v b.target ↔ Excluded u b.target := by
    unfold v
    split <;> exact Iff.rfl
  have hrefused {st : Half} (hr : v.leadRefuses u.free b.target = some st) :
      cmdStart b e u = finish (entryOp e) b st 0 v := by
    rw [hx, leadStart, hr, entryOp_eq]
  refine ⟨fun h => hrefused (leadRefuses_none_targets (hvt.trans h)),
    fun h hex => hrefused (leadRefuses_excluded (by rw [hvt]; exact h) (hvx.mpr hex)), fun h hex hn => ?_⟩
  rw [hx, leadStart_others ho (leadRefuses_none (by rw [hvt]; exact h) fun hc => hex (hvx.mp hc))
    (by rw [hvt]; exact h) (by rw [hve, hvt]; exact hn), hvt]

end Sys2Proof.Laws
end


section
/-!
The completions of forwarded commands and how they are combined, their data, and events on their way (O52).
-/
namespace Sys2Proof.Laws
open Sys2Proof.Machine Sys2Proof.Claims

/-! ### The combined completion of a group command (R323) -/

/-- R323: of two failures the one of the lower engine ID. -/
def lower (m : Option (BitVec 10 × Half)) (o : BitVec 10 × Half × Dword × Dword) : Option (BitVec 10 × Half) :=
  match m with
  | none => some (o.1, o.2.1)
  | some b => if o.1.toNat < b.1.toNat then some (o.1, o.2.1) else m

/-- R323: the failures of a group command, and the one whose status counts. -/
def failures (f : Forward) : List (BitVec 10 × Half × Dword × Dword) :=
  (f.targets.map fun t => (t.1, t.2.outcome)).filter fun o => !isSuccess o.2.1

theorem combine_group {f : Forward} (hg : f.group = true) (now : Dword) :
    (combine f now).1 = (((failures f).foldl lower none).map Prod.snd).getD stOk
    ∧ (combine f now).2.1 = BitVec.ofNat 64 (f.targets.length - (failures f).length + 2 ^ 16 * (failures f).length
        + (match (failures f).foldl lower none with
          | some b => 2 ^ 32 * b.1.toNat + 2 ^ 48 * b.2.toNat
          | none => 0)) := by
  have hlen : (f.targets.map fun t => (t.1, t.2.outcome)).length = f.targets.length := List.length_map ..
  unfold combine
  dsimp only
  rw [if_neg (by simp [hg]), hlen]
  exact ⟨rfl, rfl⟩

/-- R323: of failures of which one has the lowest ID that one counts. -/
theorem foldl_lower {x : BitVec 10 × Half × Dword × Dword} (l : List (BitVec 10 × Half × Dword × Dword))
    (hl : ∀ y ∈ l, y = x ∨ x.1.toNat < y.1.toNat) (m : Option (BitVec 10 × Half))
    (hm : ∀ b ∈ m, b = (x.1, x.2.1) ∨ x.1.toNat < b.1.toNat) (hx : m = some (x.1, x.2.1) ∨ x ∈ l) :
    l.foldl lower m = some (x.1, x.2.1) := by
  induction l generalizing m with
  | nil => exact hx.resolve_right List.not_mem_nil
  | cons y l ih =>
    rw [List.foldl_cons]
    have hrest : ∀ z ∈ l, z = x ∨ x.1.toNat < z.1.toNat := fun z hz => hl z (List.mem_cons_of_mem _ hz)
    have hok : ∀ b ∈ lower m y, b = (x.1, x.2.1) ∨ x.1.toNat < b.1.toNat := by
      have hy : (y.1, y.2.1) = (x.1, x.2.1) ∨ x.1.toNat < y.1.toNat :=
        (hl y List.mem_cons_self).imp (fun h => by rw [h]) id
      intro b hb
      cases m with
      | none =>
        obtain rfl : (y.1, y.2.1) = b := by simpa [lower] using hb
        exact hy
      | some c =>
        unfold lower at hb
        dsimp only at hb
        split at hb
        · obtain rfl : (y.1, y.2.1) = b := by simpa using hb
          exact hy
        · exact hm b hb
    have hkept : lower (some (x.1, x.2.1)) y = some (x.1, x.2.1) := by
      unfold lower
      rcases hl y List.mem_cons_self with rfl | hlt
      · exact if_neg (lt_irrefl _)
      · exact if_neg (Nat.lt_asymm hlt)
    refine ih hrest _ hok ?_
    rcases hx with rfl | hx
    · exact .inl hkept
    · rcases List.mem_cons.mp hx with rfl | hx
      · left
        cases m with
        | none => rfl
        | some c =>
          rcases hm c rfl with rfl | hlt
          · exact hkept
          · exact if_pos hlt
      · exact .inr hx

/-- R323: a group command that every target executed. -/
theorem combine_success {g : Forward} (hg : g.group = true) (now : Dword)
    (h : ∀ x ∈ g.targets, isSuccess x.2.outcome.1 = true) :
    (combine g now).1 = stOk ∧ (combine g now).2.1 = BitVec.ofNat 64 g.targets.length := by
  have hnone : failures g = [] := by
    refine List.filter_eq_nil_iff.mpr fun o ho => ?_
    obtain ⟨x, hx, rfl⟩ := List.mem_map.mp ho
    simp [h x hx]
  obtain ⟨hst, hres⟩ := combine_group hg now
  rw [hst, hres, hnone]
  exact ⟨rfl, rfl⟩

/-- R323: a group command that failed somewhere: the failure at the lowest engine ID counts. -/
theorem combine_failure {g : Forward} (hg : g.group = true) (now : Dword) (x : BitVec 10 × TargetState)
    (hx : x ∈ g.targets) (hf : isSuccess x.2.outcome.1 = false)
    (hlow : ∀ y ∈ g.targets, isSuccess y.2.outcome.1 = false → y = x ∨ x.1.toNat < y.1.toNat) :
    let bad := (g.targets.filter fun y => !isSuccess y.2.outcome.1).length
    (combine g now).1 = x.2.outcome.1 ∧ (combine g now).2.1 = BitVec.ofNat 64 (g.targets.length - bad + 2 ^ 16 * bad
      + 2 ^ 32 * x.1.toNat + 2 ^ 48 * x.2.outcome.1.toNat) := by
  have hfail : failures g = (g.targets.filter fun y => !isSuccess y.2.outcome.1).map fun t => (t.1, t.2.outcome) :=
    List.filter_map ..
  have hcount : (failures g).length = (g.targets.filter fun y => !isSuccess y.2.outcome.1).length := by
    rw [hfail, List.length_map]
  have hone : (failures g).foldl lower none = some (x.1, x.2.outcome.1) := by
    refine foldl_lower (x := (x.1, x.2.outcome)) _ (fun y hy => ?_) none (fun b hb => absurd hb (by simp)) (.inr ?_)
    · rw [hfail] at hy
      obtain ⟨z, hz, rfl⟩ := List.mem_map.mp hy
      obtain ⟨hmem, hbad⟩ := List.mem_filter.mp hz
      exact (hlow z hmem (by simpa using hbad)).imp (fun h => by rw [h]) id
    · rw [hfail]
      exact List.mem_map.mpr ⟨x, List.mem_filter.mpr ⟨hx, by simp [hf]⟩, rfl⟩
  obtain ⟨hst, hres⟩ := combine_group hg now
  dsimp only
  rw [hst, hres, hone, hcount]
  exact ⟨rfl, congrArg _ (Nat.add_assoc ..).symm⟩

/-! ### E2E_ACK -/

/-- R322: an acknowledgement of a completion ends what is owed. -/
theorem e2eTake_cpl (pl : E2ePl) (a : State) (hk : pl.kind = 1) :
    let t := e2eTake pl a
    ((∀ w ∈ a.tm.owed, w.acks = []) → t = { a with tm := { a.tm with owed := t.tm.owed } })
    ∧ ∀ w, w ∈ t.tm.owed ↔ w ∈ a.tm.owed ∧ ¬ (w.origin.toNat = pl.origin.toNat
        ∧ w.pl.ring.toNat % 16 = pl.ring.toNat % 16 ∧ w.pl.cpl.seq = pl.seq) := by
  let mine (w : OwedCpl) : Bool :=
    w.origin.toNat == pl.origin.toNat && w.pl.ring.toNat % 16 == pl.ring.toNat % 16 && w.pl.cpl.seq == pl.seq
  let u := a.mapTm fun t => { t with owed := t.owed.filter fun w => !mine w }
  let tell (s : State) (w : OwedCpl) : State := w.acks.foldl (fun s e => cplAck w.pl (e.zeroExtend 16) s) s
  have htake : e2eTake pl a = (a.tm.owed.filter mine).foldl tell u := by
    have h1 : pl.kind.toNat = 1 := by rw [hk]; rfl
    unfold e2eTake
    rw [h1]
    rfl
  have htell (l : List OwedCpl) (s : State) : (l.foldl tell s).tm = s.tm := by
    have hone (l : List (BitVec 10)) (p : CplPl) (s : State) :
        (l.foldl (fun s e => cplAck p (e.zeroExtend 16) s) s).tm = s.tm := by
      induction l generalizing s with
      | nil => rfl
      | cons e l ih =>
        obtain ⟨c, hc⟩ := routeSend_frame
          (.e2eAck ((e.zeroExtend 16 : Half).truncate 11) ⟨p.origin, p.ring, 1, p.cpl.seq, e.zeroExtend 16⟩) s
        rw [List.foldl_cons, ih, cplAck, hc]
    induction l generalizing s with
    | nil => rfl
    | cons w l ih => rw [List.foldl_cons, ih, hone]
  have hnone (l : List OwedCpl) (s : State) (h : ∀ w ∈ l, w.acks = []) : l.foldl tell s = s := by
    induction l generalizing s with
    | nil => rfl
    | cons w l ih =>
      have hw : tell s w = s := by
        unfold tell
        rw [h w List.mem_cons_self]
        rfl
      rw [List.foldl_cons, hw, ih s fun x hx => h x (List.mem_cons_of_mem _ hx)]
  dsimp only
  refine ⟨fun h => ?_, fun w => ?_⟩
  · rw [htake, hnone _ _ fun w hw => h w (List.mem_of_mem_filter hw)]
    rfl
  · rw [htake, htell]
    show w ∈ a.tm.owed.filter (fun w => !mine w) ↔ _
    rw [List.mem_filter, Bool.not_eq_true', ← Bool.not_eq_true]
    simp only [mine, Bool.and_eq_true, beq_iff_eq, and_assoc]

/-! ### CPL -/

theorem groupsLearn_frame (f : Forward) (e : BitVec 10) (st : Half) (s : State) :
    ∃ l, groupsLearn f e st s = { s with tm := { s.tm with members := l } } := by
  unfold groupsLearn
  split
  · exact ⟨_, rfl⟩
  · exact ⟨s.tm.members, rfl⟩

/-- R321: the lead learns nothing from a target that it knows. -/
theorem targetLearn_known {f : Forward} {s : State} {eng : BitVec 10} (hf : s.tm.fwds = [f])
    (hk : ∃ x ∈ f.targets, x.1 = eng) (key : Option (BitVec 10)) (n : Nat) (seq : Word) :
    (targetLearn key n seq eng s).tm.fwds = [f] := by
  have hany : (f.targets.any fun x => x.1 == eng) = true := by
    obtain ⟨x, hx, he⟩ := hk
    exact List.any_eq_true.mpr ⟨x, hx, by simp [he]⟩
  simp [targetLearn, hf, hany]

/-- R322: the completion is passed on later: the answer to its origin is not settled yet. -/
def AckedLater (pl : CplPl) (s : State) : Prop :=
  s.originKey pl.origin ≠ none ∧ (s.fwd (s.originKey pl.origin) (pl.ring.toNat % 16) pl.cpl.seq ≠ none
    ∨ ∃ w ∈ s.tm.owed, w.pl.origin = pl.origin ∧ w.pl.ring = pl.ring ∧ w.pl.cpl.seq = pl.cpl.seq)

/-- R321, R322: the state in which a completion answers its target. -/
def cplHeard (pl : CplPl) (s : State) : State :=
  let key := s.originKey pl.origin
  targetLearn key (pl.ring.toNat % 16) pl.cpl.seq (pl.engine.truncate 10)
    (if key.isSome && ((s.fwd key (pl.ring.toNat % 16) pl.cpl.seq).isSome || s.owes pl) then s else cplAck pl pl.engine s)

theorem ackedLater_iff (pl : CplPl) (s : State) : AckedLater pl s ↔ ((s.originKey pl.origin).isSome
    && ((s.fwd (s.originKey pl.origin) (pl.ring.toNat % 16) pl.cpl.seq).isSome || s.owes pl)) = true := by
  simp only [AckedLater, State.owes, Bool.and_eq_true, Bool.or_eq_true, List.any_eq_true, beq_iff_eq, Option.isSome_iff_ne_none,
    and_assoc]

theorem cplTake_eq (pl : CplPl) (s : State) :
    let key := s.originKey pl.origin
    let n := pl.ring.toNat % 16
    let eng : BitVec 10 := pl.engine.truncate 10
    let u := cplHeard pl s
    (u.fwd key n pl.cpl.seq = none → cplTake pl s = u)
    ∧ ∀ f, u.fwd key n pl.cpl.seq = some f →
        cplTake pl s = fwdTarget key n pl.cpl.seq eng (fun _ => .answered pl.cpl) (groupsLearn f eng pl.cpl.status u) := by
  have hu : cplTake pl s = match (cplHeard pl s).fwd (s.originKey pl.origin) (pl.ring.toNat % 16) pl.cpl.seq with
    | none => cplHeard pl s
    | some f => fwdTarget (s.originKey pl.origin) (pl.ring.toNat % 16) pl.cpl.seq (pl.engine.truncate 10)
        (fun _ => .answered pl.cpl) (groupsLearn f (pl.engine.truncate 10) pl.cpl.status (cplHeard pl s)) := rfl
  dsimp only
  refine ⟨fun h => ?_, fun f h => ?_⟩
  · rw [hu, h]
  · rw [hu, h]

theorem cplHeard_frame (pl : CplPl) (s : State) : ∃ c l, cplHeard pl s = { s with
    trc := c, tm := { s.tm with fwds := l } } := by
  unfold cplHeard
  dsimp only
  split
  · exact ⟨_, _, rfl⟩
  · obtain ⟨c, hc⟩ := routeSend_frame (.e2eAck (pl.engine.truncate 11) ⟨pl.origin, pl.ring, 1, pl.cpl.seq, pl.engine⟩) s
    rw [cplAck, hc]
    exact ⟨_, _, rfl⟩

theorem cplHeard_fwds {pl : CplPl} {f : Forward} {s : State} (hf : s.tm.fwds = [f])
    (hk : ∃ x ∈ f.targets, x.1 = pl.engine.truncate 10) : (cplHeard pl s).tm.fwds = [f] := by
  refine targetLearn_known ?_ hk ..
  split
  · exact hf
  · obtain ⟨c, hc⟩ := routeSend_frame (.e2eAck (pl.engine.truncate 11) ⟨pl.origin, pl.ring, 1, pl.cpl.seq, pl.engine⟩) s
    rw [cplAck, hc]
    exact hf

/-- R323: the answer of one target of the one forwarded command. -/
def answeredBy (eng : BitVec 10) (c : Completion) (f : Forward) : Forward :=
  { f with targets := f.targets.map fun x => if x.1 = eng ∧ x.2.isFinal = false then (x.1, .answered c) else x }

/-- R323: the one forwarded command: a target answers, and the last answer completes it. -/
theorem cplTake_single {pl : CplPl} {f : Forward} {s : State} (hf : s.tm.fwds = [f])
    (ho : f.sub.origin = s.originKey pl.origin) (hn : f.sub.ring.val = pl.ring.toNat % 16)
    (hq : f.sub.seq = pl.cpl.seq) (hk : ∃ x ∈ f.targets, x.1 = pl.engine.truncate 10) :
    let key := s.originKey pl.origin
    let eng : BitVec 10 := pl.engine.truncate 10
    let g := answeredBy eng pl.cpl f
    let v := groupsLearn f eng pl.cpl.status (cplHeard pl s)
    let streams := v.tm.streams.filter fun x => !(x.out && x.fin.isNone && key.isNone && x.number == f.sub.seq)
    let v' : State := { v with tm := { v.tm with fwds := [], streams := streams } }
    let acks := (g.targets.filter fun x => x.1 != s.engineId && x.2 != .unreachable).map Prod.fst
    let c := combine g s.clk.team
    ((∃ x ∈ g.targets, x.2.isFinal = false) → cplTake pl s = { v with tm := { v.tm with fwds := [g] } })
    ∧ ((∀ x ∈ g.targets, x.2.isFinal = true) → key = none →
        cplTake pl s = ownDone (entryOp f.entry) f.sub c.1 c.2.1 c.2.2 v')
    ∧ (∀ o, (∀ x ∈ g.targets, x.2.isFinal = true) → key = some o → cplTake pl s =
        cplSend (entryOp f.entry) o false false acks
          ⟨f.sub.seq, c.1, BitVec.ofNat 8 (pl.ring.toNat % 16), false, f.sub.gap, f.sub.tag, c.2.2, c.2.1⟩ v') := by
  intro key eng g v streams v' acks c
  have hu : (cplHeard pl s).tm.fwds = [f] := cplHeard_fwds hf hk
  obtain ⟨l, hlearn⟩ : ∃ l, v = { cplHeard pl s with tm := { (cplHeard pl s).tm with members := l } } :=
    groupsLearn_frame ..
  obtain ⟨t, m, hframe⟩ := cplHeard_frame pl s
  have hv : v.tm.fwds = [f] := by rw [hlearn]; exact hu
  have hclk : v.clk = s.clk := by rw [hlearn, hframe]
  have hid : v.engineId = s.engineId := by rw [hlearn, hframe]; rfl
  have hc : combine g v.clk.team = c := by rw [hclk]
  have htake : cplTake pl s = fwdSettle g v := by
    have hfwd : (cplHeard pl s).fwd (s.originKey pl.origin) (pl.ring.toNat % 16) pl.cpl.seq = some f := by
      rw [← ho, ← hn, ← hq]
      exact fwd_single hu
    refine ((cplTake_eq pl s).2 f hfwd).trans ?_
    rw [← ho, ← hn, ← hq]
    refine (fwdTarget_single hv eng _).trans (congrArg (fwdSettle · v) ?_)
    simp [g, answeredBy]
  refine ⟨fun h => ?_, fun h hkey => ?_, fun o h hkey => ?_⟩
  · have hopen : (g.targets.all fun t => t.2.isFinal) = false := by
      obtain ⟨x, hx, hfin⟩ := h
      exact List.all_eq_false.mpr ⟨x, hx, by simp [hfin]⟩
    exact htake.trans (fwdSettle_open hv rfl hopen)
  · have hall : (g.targets.all fun t => t.2.isFinal) = true := List.all_eq_true.mpr h
    rw [htake, fwdSettle_done (g := g) hv rfl hall]
    have hnone : f.sub.origin = none := ho.trans hkey
    dsimp only
    simp only [hnone, hc, v', streams, hkey]
    rfl
  · have hall : (g.targets.all fun t => t.2.isFinal) = true := List.all_eq_true.mpr h
    rw [htake, fwdSettle_done (g := g) hv rfl hall]
    have hsome : f.sub.origin = some o := ho.trans hkey
    dsimp only
    simp only [hsome, hc, hid, hn, v', streams, hkey]
    rfl

/-! ### BULK -/

/-- R324: a piece of the data of an own command goes to the address that its command names. -/
theorem bulkTake_out (f : Forward) (pl : BulkPl) (s : State) (hm : s.bus.master = true) (hd : s.bus.d3 = false) :
    let at_ := (bulkAddr f.entry pl.offset).toNat
    (bulkTake f pl s).bus.out = s.bus.out ++ (requestCuts s.payloadSize pl.data.length at_ pl.data.length).map fun c =>
      .memWrite (BitVec.ofNat 64 c.1) ((pl.data.drop (c.1 - at_)).take c.2) := by
  have hwrite : (hostWrite (bulkAddr f.entry pl.offset) pl.data s).bus.out = s.bus.out ++
      (requestCuts s.payloadSize pl.data.length (bulkAddr f.entry pl.offset).toNat pl.data.length).map fun c =>
        .memWrite (BitVec.ofNat 64 c.1) ((pl.data.drop (c.1 - (bulkAddr f.entry pl.offset).toNat)).take c.2) := by
    simp [hostWrite, State.mapBus, Bus.send, hm, hd]
  unfold bulkTake
  dsimp only
  rw [← hwrite]
  split
  · obtain ⟨c, hc⟩ := routeSend_frame _ _
    rw [hc]
    rfl
  · rfl

/-- Settles O52. -/
theorem forwardedFrames : Obligations.ForwardedFrames := by
  intro p h s hl ha hs a
  refine ⟨fun pl hd hc hm hr hf => ?_, fun pl hd hc => cmd_on hl ha hs pl hd hc, fun pl hd hc hk => ?_,
    fun pl hd hc hk => ?_, fun pl hd hc => ?_,
    fun g now hg => ⟨combine_success hg now, fun x hx hf hlow => combine_failure hg now x hx hf hlow⟩,
    fun pl hd => ⟨congrArg Host.Outcome.next (routedRx_on hl ha hs hd _ _),
      fun e2e => congrArg Host.Outcome.next (routedRx_on hl ha hs hd _ _)⟩, fun e hlead hc => ?_,
    fun e hlead hpar => ?_, fun pl b hd hc hb => ?_, fun pl f hd hc hb hf hm h3 => ?_⟩
  · intro o n w hb b u
    have hx := cmd_here hl ha hs pl hd hc
    obtain ⟨hexec, hrun⟩ := cmdTake_spec pl a hm hr hf hb
    obtain ⟨c, hack⟩ := cmdAck_frame pl a
    have hutm : u.tm.leading = s.tm.leading ∧ u.engineId = s.engineId := by
      unfold u
      rw [hack]
      exact ⟨rfl, rfl⟩
    refine ⟨fun he hlead => ?_, fun he hlead ht hp => ?_, fun x he hw hdig hdone => ?_⟩
    · have hstart : exec (.cmd p h pl.head pl.entry) s = .next (cmdStart b pl.entry u) :=
        hx.trans (congrArg Host.Outcome.next (hexec he))
      obtain ⟨hnow, hlater⟩ := cmdStart_here (b := b) (e := pl.entry) (u := u) (by rw [hutm.1, hutm.2]; exact hlead)
      refine ⟨fun hr => hstart.trans (congrArg Host.Outcome.next (hnow hr)), fun hr hop => ?_⟩
      obtain ⟨hcome, hwait⟩ := hlater hr hop
      exact ⟨fun d hd => hstart.trans (congrArg Host.Outcome.next (hcome d hd)),
        fun hd => hstart.trans (congrArg Host.Outcome.next (hwait hd))⟩
    · have hstart : exec (.cmd p h pl.head pl.entry) s = .next (cmdStart b pl.entry u) :=
        hx.trans (congrArg Host.Outcome.next (hexec he))
      intro v targets excluded f
      obtain ⟨hnone, hver, hgo⟩ := cmdStart_leads (b := b) (e := pl.entry) (u := u) (o := o) rfl
        (hutm.1.trans hlead) (by rw [hutm.2]; exact ht) hp
      exact ⟨fun h => hstart.trans (congrArg Host.Outcome.next (hnone h)),
        fun h hex => hstart.trans (congrArg Host.Outcome.next (hver h hex)),
        fun h hex hn => hstart.trans (congrArg Host.Outcome.next (hgo h hex (by rw [hutm.2]; exact hn)))⟩
    · exact hx.trans (congrArg Host.Outcome.next (hrun x he hw hdig hdone))
  · refine congrArg Host.Outcome.next ((routedRx_here hl ha hs hd hc _ _).trans ?_)
    have h0 : pl.kind.toNat = 0 := by rw [hk]; rfl
    unfold e2eTake
    rw [h0]
    rfl
  · exact ⟨_, congrArg Host.Outcome.next (routedRx_here hl ha hs hd hc _ _), e2eTake_cpl pl a hk⟩
  · intro key n eng later
    have hx : exec (.cpl p h pl) s = .next (cplTake pl a) := congrArg Host.Outcome.next (routedRx_here hl ha hs hd hc _ _)
    obtain ⟨hnone, hsome⟩ := cplTake_eq pl a
    refine ⟨cplHeard pl a, fun h => ?_, fun h => ?_, fun h => hx.trans (congrArg Host.Outcome.next (hnone h)),
      fun f h => hx.trans (congrArg Host.Outcome.next (hsome f h)), fun f hf ho hn hq hk => ?_⟩
    · exact congrArg (targetLearn key n pl.cpl.seq eng) (if_pos ((ackedLater_iff pl a).mp h))
    · exact congrArg (targetLearn key n pl.cpl.seq eng) (if_neg (mt (ackedLater_iff pl a).mpr h))
    · intro g v streams v' acks c
      obtain ⟨hopen, hown, hother⟩ := cplTake_single (s := a) (pl := pl) hf ho hn hq hk
      exact ⟨fun h => hx.trans (congrArg Host.Outcome.next (hopen h)),
        fun h hkey => hx.trans (congrArg Host.Outcome.next (hown h hkey)),
        fun o h hkey => hx.trans (congrArg Host.Outcome.next (hother o h hkey))⟩
  · exact congrArg Host.Outcome.next ((treeRx_arrivesNext hl ha hs _).trans ((if_pos hlead).trans (if_pos hc)))
  · refine congrArg Host.Outcome.next ((treeRx_arrivesNext hl ha hs _).trans ?_)
    have hfollow : (arrivedNext p h s).tm.leading = false := hlead
    exact (if_neg (by simp [hfollow])).trans (if_neg hpar)
  · refine congrArg Host.Outcome.next ((routedRx_here hl ha hs hd hc _ _).trans ?_)
    have hb' : (arrivedNext p h s).readers.find? (fun b => b.seq == pl.stream) = some b := hb
    rw [hb']
  · have hx : exec (.bulk p h pl) s = .next (bulkTake f pl a) := by
      refine congrArg Host.Outcome.next ((routedRx_here hl ha hs hd hc _ _).trans ?_)
      have hb' : (arrivedNext p h s).readers.find? (fun b => b.seq == pl.stream) = none := hb
      have hf' : (arrivedNext p h s).tm.fwds.find? (fun f => f.sub.origin.isNone && f.sub.seq == pl.stream) = some f := hf
      rw [hb']
      dsimp only
      rw [hf']
    exact ⟨_, hx, bulkTake_out f pl a hm h3⟩

end Sys2Proof.Laws
end


section
/-!
The fetch and the start of entries (O38): the turn of a normal ring is not bounded by the sixteen ring pairs.
-/
namespace Sys2Proof.Laws
open Sys2Proof.Machine Sys2Proof.Claims

/-- R221: a normal ring in its turn with an eligible entry is served, unless an urgent one is. -/
theorem pickRing_in_turn {s : State} (hc : 0 < s.rng.credit) (he : s.eligible s.rng.lastNormal = true)
    (hu : s.ringUrgent s.rng.lastNormal = false) : s.pickRing ≠ none := by
  have hturn : 0 < s.rng.credit ∧ s.eligible s.rng.lastNormal = true ∧ (!s.ringUrgent s.rng.lastNormal) = true :=
    ⟨hc, he, by rw [hu]; rfl⟩
  unfold State.pickRing
  dsimp only
  rw [if_pos hturn]
  cases s.nextRing true s.rng.lastUrgent with
  | none => exact Option.some_ne_none _
  | some u =>
    dsimp only
    split <;> exact Option.some_ne_none _

/-- A state whose list of rings holds a seventeenth, enabled and in its turn, with an entry fetched; the sixteen ring pairs of the
engine hold none. -/
def seventeenthRing : State :=
  { State.reset with
    pwr := { State.reset.pwr with ready := true, farrier := true, mode := .active, entry := none }
    reg := { State.reset.reg with force := [(ringReg 16 0x10, 0x00100000)] }
    rng := { State.reset.rng with
      q := List.replicate 16 Ring.reset ++ [{ Ring.reset with enabled := true, fetched := [0] }]
      lastNormal := 16
      credit := 1 } }

theorem seventeenthRing_last : seventeenthRing.ring 16 = { Ring.reset with enabled := true, fetched := [0] } := rfl

theorem seventeenthRing_ring {k : Nat} (hk : k < 16) : seventeenthRing.ring k = Ring.reset := by
  have hlen : k < (List.replicate 16 Ring.reset).length := by simpa using hk
  show (List.replicate 16 Ring.reset ++ _).getD k Ring.reset = _
  rw [List.getD_append _ _ _ _ hlen, List.getD_eq_getElem _ _ hlen, List.getElem_replicate]

theorem seventeenthRing_eligible : seventeenthRing.eligible 16 = true := by
  have hserved : seventeenthRing.ringServed 16 = true := by decide
  have hroom : seventeenthRing.cqRoom 16 = true := by decide
  have hnew (seq : Word) : ({ Ring.reset with enabled := true, fetched := [0] } : Ring).executes seq = true := rfl
  have hfence (b : Sub) : seventeenthRing.fenceMet b = true := by
    unfold State.fenceMet
    rw [seventeenthRing_ring b.ring.isLt]
    exact Bool.or_true _
  unfold State.eligible
  rw [seventeenthRing_last]
  dsimp only
  rw [hserved, hroom, hnew, hfence]
  rfl

/-- Refutes O38: the statement has nothing to start wherever the sixteen ring pairs hold no fetched entry, in every state. The model
serves the ring `lastNormal`, whatever its number, and in `seventeenthRing` that is a ring beyond the sixteen. -/
theorem not_entryFetchAndStart : ¬ Obligations.EntryFetchAndStart := by
  rintro ⟨-, -, hidle, -⟩
  have hempty (k : Nat) (hk : k < 16) : (seventeenthRing.ring k).fetched = [] := by
    rw [seventeenthRing_ring hk]
    rfl
  exact pickRing_in_turn (s := seventeenthRing) (by decide) seventeenthRing_eligible (by decide)
    (hidle seventeenthRing hempty).2

end Sys2Proof.Laws
end


section
/-!
What a reset and a loss of power leave: flash writes cut short, the always-on domain, the references of the start-up (O55).
-/
namespace Sys2Proof.Laws
open Sys2Proof.Machine Sys2Proof.Claims

/-! ### Flash work that is cut short (R448, R458) -/

/-- R458: what every write and erase that is cut short leaves of the flash: the copies that were not being written, and the slot
that runs or would run. -/
structure CutKept (s : State) (x : Fls) : Prop where
  cals : ∀ k, k ≠ s.flashCopy 2 → x.cals[k]? = s.fls.cals[k]?
  sets : ∀ k, k ≠ s.flashCopy 4 → x.sets[k]? = s.fls.sets[k]?
  boot : ∀ k, k ≠ s.flashCopy 6 → x.boot[k]? = s.fls.boot[k]?
  slotA : s.inactive = true → x.slotA = s.fls.slotA
  slotB : s.inactive = false → x.slotB = s.fls.slotB

theorem CutKept.refl (s : State) : CutKept s s.fls := ⟨fun _ _ => rfl, fun _ _ => rfl, fun _ _ => rfl, fun _ => rfl, fun _ => rfl⟩

/-- A change of one flash copy. -/
theorem copyModify_other {α : Type} (l : List α) (n : Nat) (f : α → α) (k : Nat) (h : k ≠ n) : (l.modify n f)[k]? = l[k]? := by
  have hne : ¬ n = k := fun e => h e.symm
  simp [hne]

/-- R448: what a slot's bytes are says nothing about which copies and which slot are in use. -/
theorem mapSlot_spec (b : Bool) (f : List Host.Cell → List Host.Cell) (s : State) :
    ∃ x, mapSlot b f s = { s with fls := x } ∧ x.run = s.fls.run ∧ x.boot = s.fls.boot ∧ x.cals = s.fls.cals
      ∧ x.sets = s.fls.sets ∧ x.upd = s.fls.upd ∧ x.jobs = s.fls.jobs ∧ (b = true → x.slotA = s.fls.slotA)
      ∧ (b = false → x.slotB = s.fls.slotB) := by
  cases b with
  | true => exact ⟨_, rfl, rfl, rfl, rfl, rfl, rfl, rfl, fun _ => rfl, fun h => absurd h (by decide)⟩
  | false => exact ⟨_, rfl, rfl, rfl, rfl, rfl, rfl, rfl, fun h => absurd h (by decide), fun _ => rfl⟩

theorem pagesCut_spec (n : Nat) (l : List (Nat × List Byte)) (s : State) :
    ∃ x, pagesCut n l s = { s with fls := x } ∧ CutKept s x := by
  unfold pagesCut
  dsimp only
  generalize (l.zipIdx.filter fun e => !s.fls.upd.written.contains e.1.1) = m
  have hfold (m : List ((Nat × List Byte) × Nat)) (b : Bool) (u : State) :
      ∃ x, m.foldl (fun s e => mapSlot b (fun c => cellsPut 0xFF c (256 * e.1.1) (e.1.2.take (n - 256 * e.2))) s) u =
        { u with fls := x } ∧ x.boot = u.fls.boot ∧ x.cals = u.fls.cals ∧ x.sets = u.fls.sets
        ∧ (b = true → x.slotA = u.fls.slotA) ∧ (b = false → x.slotB = u.fls.slotB) := by
    induction m generalizing u with
    | nil => exact ⟨u.fls, rfl, rfl, rfl, rfl, fun _ => rfl, fun _ => rfl⟩
    | cons e m ih =>
      obtain ⟨x, hx, -, hboot, hcals, hsets, -, -, hA, hB⟩ :=
        mapSlot_spec b (fun c => cellsPut 0xFF c (256 * e.1.1) (e.1.2.take (n - 256 * e.2))) u
      obtain ⟨y, hy, hboot', hcals', hsets', hA', hB'⟩ := ih { u with fls := x }
      exact ⟨y, by rw [List.foldl_cons, hx, hy], hboot'.trans hboot, hcals'.trans hcals, hsets'.trans hsets,
        fun h => (hA' h).trans (hA h), fun h => (hB' h).trans (hB h)⟩
  obtain ⟨x, hx, hboot, hcals, hsets, hA, hB⟩ := hfold m s.inactive s
  exact ⟨x, hx, ⟨fun _ _ => by rw [hcals], fun _ _ => by rw [hsets], fun _ _ => by rw [hboot], hA, hB⟩⟩

/-- R448, R458: a write that is cut short. -/
theorem jobCut_spec (j : FlashJob) (s : State) :
    ∃ x, jobCut j s = { s with free := s.free + 1, fls := x } ∧ CutKept s x := by
  have hpages (n : Nat) (l : List (Nat × List Byte)) :
      ∃ x, pagesCut n l s.draw.2 = { s with free := s.free + 1, fls := x } ∧ CutKept s x := by
    obtain ⟨x, hx, hk⟩ := pagesCut_spec n l s.draw.2
    exact ⟨x, hx, hk.cals, hk.sets, hk.boot, hk.slotA, hk.slotB⟩
  unfold jobCut
  dsimp only
  split
  · next hkind _ =>
    refine ⟨_, rfl, fun k hk => ?_, fun _ _ => rfl, fun _ _ => rfl, fun _ => rfl, fun _ => rfl⟩
    exact copyModify_other _ _ _ k (by rw [hkind]; exact hk)
  · next hkind =>
    refine ⟨_, rfl, fun _ _ => rfl, fun k hk => ?_, fun _ _ => rfl, fun _ => rfl, fun _ => rfl⟩
    exact copyModify_other _ _ _ k (by rw [hkind]; exact hk)
  · next hkind =>
    refine ⟨_, rfl, fun _ _ => rfl, fun _ _ => rfl, fun k hk => ?_, fun _ => rfl, fun _ => rfl⟩
    exact copyModify_other _ _ _ k (by rw [hkind]; exact hk)
  · exact hpages ..
  · exact hpages ..
  · exact ⟨s.fls, rfl, .refl s⟩

/-- R458: an erase that is cut short. -/
theorem eraseFailed_spec (s : State) :
    ∃ x, eraseFailed s.inactive s = { s with free := s.free + 1, fls := x } ∧ CutKept s x ∧ x.run = s.fls.run
      ∧ x.boot = s.fls.boot ∧ x.cals = s.fls.cals ∧ x.sets = s.fls.sets ∧ x.jobs = s.fls.jobs := by
  unfold eraseFailed
  dsimp only
  split
  · exact ⟨s.fls, rfl, .refl s, rfl, rfl, rfl, rfl, rfl⟩
  · obtain ⟨x, hx, hrun, hboot, hcals, hsets, -, hjobs, hA, hB⟩ := mapSlot_spec s.inactive (fun _ => []) s.draw.2
    refine ⟨x, hx, ⟨fun _ _ => ?_, fun _ _ => ?_, fun _ _ => ?_, hA, hB⟩, hrun, hboot, hcals, hsets, hjobs⟩
    · rw [hcals]; rfl
    · rw [hsets]; rfl
    · rw [hboot]; rfl

/-- Which copies and which slot are in use, from what the flash says of them. -/
theorem use_of_fls {s : State} {x : Fls} {n : Nat} (hrun : x.run = s.fls.run) (hboot : x.boot = s.fls.boot)
    (hcals : x.cals = s.fls.cals) (hsets : x.sets = s.fls.sets) :
    ({ s with free := n, fls := x } : State).inactive = s.inactive
      ∧ ∀ k, ({ s with free := n, fls := x } : State).flashCopy k = s.flashCopy k := by
  have hbc : ({ s with free := n, fls := x } : State).bootCopies = s.bootCopies := congrArg (List.map bootCopy) hboot
  have hcc : ({ s with free := n, fls := x } : State).calCopies = s.calCopies :=
    congrArg (List.map (s.macCopy "FLV-CAL" 0x43564C46 [1] 1049600 calParse)) hcals
  have hsc : ({ s with free := n, fls := x } : State).setCopies = s.setCopies :=
    congrArg (List.map (s.macCopy "FLV-SET" 0x53564C46 [1, 2] 4064 settingsParse)) hsets
  have hrec : ({ s with free := n, fls := x } : State).bootRec = s.bootRec := by
    unfold State.bootRec
    rw [hbc]
  refine ⟨?_, fun k => ?_⟩
  · unfold State.inactive
    rw [hrec, show ({ s with free := n, fls := x } : State).fls.run = s.fls.run from hrun]
  · unfold State.flashCopy
    rw [hbc, hcc, hsc]

/-- R458: what a reset and a loss of power leave of the flash. -/
theorem writesCut_spec (s : State) : ∃ n x, writesCut s = { s with free := n, fls := x } ∧ CutKept s x
    ∧ (s.fls.jobs = [] → s.fls.upd.waiting = none → x = s.fls) := by
  have herase : ∃ n x, (if s.fls.upd.waiting.isSome && !s.fls.jobs.any (fun j => j.act == .updCancel) then
        eraseFailed s.inactive s else s) = { s with free := n, fls := x } ∧ CutKept s x ∧ x.run = s.fls.run
      ∧ x.boot = s.fls.boot ∧ x.cals = s.fls.cals ∧ x.sets = s.fls.sets ∧ x.jobs = s.fls.jobs
      ∧ (s.fls.upd.waiting = none → x = s.fls) := by
    split
    · next hc =>
      obtain ⟨x, hx, hk, hrun, hboot, hcals, hsets, hjobs⟩ := eraseFailed_spec s
      exact ⟨_, x, hx, hk, hrun, hboot, hcals, hsets, hjobs, fun h => absurd hc (by simp [h])⟩
    · exact ⟨s.free, s.fls, rfl, .refl s, rfl, rfl, rfl, rfl, rfl, fun _ => rfl⟩
  obtain ⟨n, x, hx, hk, hrun, hboot, hcals, hsets, hjobs, hnone⟩ := herase
  obtain ⟨hin, hcopy⟩ := use_of_fls (n := n) hrun hboot hcals hsets
  unfold writesCut
  dsimp only
  rw [hx]
  cases hj : x.jobs with
  | nil =>
    exact ⟨n, x, rfl, hk, fun _ h => hnone h⟩
  | cons j rest =>
    obtain ⟨y, hy, hcut⟩ := jobCut_spec j { s with free := n, fls := x }
    refine ⟨n + 1, y, ?_, ⟨fun k h => ?_, fun k h => ?_, fun k h => ?_, fun h => ?_, fun h => ?_⟩, fun h => ?_⟩
    · exact hy
    · exact (hcut.cals k (by rw [hcopy]; exact h)).trans (hk.cals k h)
    · exact (hcut.sets k (by rw [hcopy]; exact h)).trans (hk.sets k h)
    · exact (hcut.boot k (by rw [hcopy]; exact h)).trans (hk.boot k h)
    · exact (hcut.slotA (hin.trans h)).trans (hk.slotA h)
    · exact (hcut.slotB (hin.trans h)).trans (hk.slotB h)
    · exact absurd (hj.symm.trans (hjobs.trans h)) (List.cons_ne_nil _ _)

/-! ### Resets (R432, R433) -/

/-- What a reset and a loss of VAON leave stored, as the statement says it. -/
theorem stored_of_cut {s : State} {x : Fls} (h : CutKept s x)
    (hn : s.fls.jobs = [] → s.fls.upd.waiting = none → x = s.fls) {t : State} (hboot : t.fls.boot = x.boot)
    (hsets : t.fls.sets = x.sets) (hcals : t.fls.cals = x.cals) (hA : t.fls.slotA = x.slotA) (hB : t.fls.slotB = x.slotB) :
    (∀ k, k ≠ s.flashCopy 2 → t.fls.cals[k]? = s.fls.cals[k]?) ∧ (∀ k, k ≠ s.flashCopy 4 → t.fls.sets[k]? = s.fls.sets[k]?)
    ∧ (∀ k, k ≠ s.flashCopy 6 → t.fls.boot[k]? = s.fls.boot[k]?)
    ∧ (s.inactive = true → t.fls.slotA = s.fls.slotA) ∧ (s.inactive = false → t.fls.slotB = s.fls.slotB)
    ∧ (s.fls.jobs = [] → s.fls.upd.waiting = none → t.fls.slotA = s.fls.slotA ∧ t.fls.slotB = s.fls.slotB
      ∧ t.fls.sets = s.fls.sets ∧ t.fls.cals = s.fls.cals ∧ t.fls.boot = s.fls.boot) := by
  rw [hboot, hsets, hcals, hA, hB]
  refine ⟨h.cals, h.sets, h.boot, h.slotA, h.slotB, fun hj hw => ?_⟩
  rw [hn hj hw]
  exact ⟨rfl, rfl, rfl, rfl, rfl⟩

/-- R421: of the registers GPIO_DIR alone keeps its value. -/
theorem keepGpio_get (l : List (Nat × Word)) :
    alGet (keepGpio l) 0x5004 = alGet l 0x5004 ∧ ∀ o, o ≠ 0x5004 → alGet (keepGpio l) o = none := by
  refine ⟨?_, fun o ho => ?_⟩
  · unfold alGet keepGpio
    rw [List.find?_filter]
    congr 2
    exact funext fun e => by rw [Bool.eq_iff_iff]; simp
  · have hkeep : keepGpio l = l.filter fun e => !(e.1 != 0x5004) := by simp [keepGpio, bne]
    rw [hkeep]
    exact alGet_filter_none l o (fun k => k != 0x5004) (by simpa using ho)

/-- The flush that a reset does first leaves the pool's bytes, and everything but the pool and the log. -/
theorem flushed_spec (s : State) : ∃ p l, (if s.pwr.hasDram then logFlushOp s else s) = { s with pool := p, lg := l }
    ∧ p.mem = s.pool.mem := by
  split
  · exact ⟨_, _, rfl, rfl⟩
  · exact ⟨s.pool, s.lg, rfl, rfl⟩

/-- R433: a warm reset. -/
theorem warmReset_spec (cause : Nat) (s : State) : ∃ p l n x, warmReset cause s =
      coreReset true { s with pool := p, lg := l, free := n, fls := x, pwr := { s.pwr with resetCause := cause } }
    ∧ p.mem = s.pool.mem ∧ CutKept s x ∧ (s.fls.jobs = [] → s.fls.upd.waiting = none → x = s.fls) := by
  obtain ⟨p, l, hf, hmem⟩ := flushed_spec s
  obtain ⟨n, x, hw, hk, hnone⟩ := writesCut_spec { s with pool := p, lg := l }
  refine ⟨p, l, n, x, ?_, hmem, ⟨hk.cals, hk.sets, hk.boot, hk.slotA, hk.slotB⟩, hnone⟩
  unfold warmReset
  dsimp only
  rw [hf, hw]
  rfl

/-- R433: what a warm reset and what follows it keep, and what they clear. -/
def ResetKept (s t : State) (cause : Nat) : Prop :=
  t.pwr.resetCause = cause ∧ t.pool.mem = s.pool.mem ∧ t.pool.handles = [] ∧ t.rng = State.reset.rng
  ∧ t.scn = State.reset.scn ∧ t.sec.session = none ∧ t.sec.fails = s.sec.fails ∧ t.sec.marks = s.sec.marks
  ∧ ((∀ k, k ≠ s.flashCopy 2 → t.fls.cals[k]? = s.fls.cals[k]?) ∧ (∀ k, k ≠ s.flashCopy 4 → t.fls.sets[k]? = s.fls.sets[k]?)
    ∧ (∀ k, k ≠ s.flashCopy 6 → t.fls.boot[k]? = s.fls.boot[k]?)
    ∧ (s.inactive = true → t.fls.slotA = s.fls.slotA) ∧ (s.inactive = false → t.fls.slotB = s.fls.slotB)
    ∧ (s.fls.jobs = [] → s.fls.upd.waiting = none → t.fls.slotA = s.fls.slotA ∧ t.fls.slotB = s.fls.slotB
      ∧ t.fls.sets = s.fls.sets ∧ t.fls.cals = s.fls.cals ∧ t.fls.boot = s.fls.boot))
  ∧ t.idn = s.idn ∧ t.pwr.gpioLatch = s.pwr.gpioLatch ∧ t.cfg 0x5004 = s.cfg 0x5004 ∧ t.cfg 0x138 = 100
  ∧ .reset ∈ t.arr.causes ∧ t.pending = s.pending

theorem warmReset_kept (cause : Nat) (s : State) :
    ResetKept s (warmReset cause s) cause ∧ (warmReset cause s).pwr.mode = .reset
      ∧ (warmReset cause s).pwr.rstN = s.pwr.rstN := by
  obtain ⟨p, l, n, x, hw, hmem, hk, hnone⟩ := warmReset_spec cause s
  obtain ⟨hgpio, hother⟩ := keepGpio_get s.reg.force
  rw [hw]
  refine ⟨⟨rfl, hmem, rfl, rfl, rfl, rfl, rfl, rfl, stored_of_cut hk hnone rfl rfl rfl rfl rfl, rfl, rfl, ?_, ?_,
    List.mem_append_left _ (List.mem_append_left _ (List.mem_singleton.mpr rfl)), rfl⟩, rfl, rfl⟩
  · show (alGet (keepGpio s.reg.force) 0x5004).getD _ = _
    rw [hgpio]
    rfl
  · show (alGet (keepGpio s.reg.force) 0x138).getD (regReset 0x138) = 100
    rw [hother 0x138 (by decide)]
    rfl

/-! ### The reference of the start-up (R434, R435) -/

/-- Table 19.9: what the reference of the start-up leaves when all of its conditions stand. -/
theorem startReference_starts {s : State} (hm : s.pwr.mode = .reset) (hv : s.pwr.vaon = true) (he : s.pwr.pwrEn = true)
    (hs : s.pwr.supplies = true) (hr : s.pwr.rstN = true) :
    startReference s = { s with
      pwr := { s.pwr with
        mode := .startup, prevStep := s.pwr.step, step := 1, failedRead := s.pwr.failed
        failed := if s.pwr.failed = 7 then 7 else s.pwr.failed + 1, farrier := true, refAt := s.clk.loc }
      clk := { s.clk with team := 0 } } := by
  unfold startReference
  rw [if_pos ⟨hm, hv, he, hs, hr⟩]
  rfl

theorem startReference_waits {s : State}
    (h : ¬ (s.pwr.mode = .reset ∧ s.pwr.vaon = true ∧ s.pwr.pwrEn = true ∧ s.pwr.supplies = true ∧ s.pwr.rstN = true)) :
    startReference s = s := if_neg h

/-- What the reference of the start-up leaves alone. -/
theorem startReference_frame (s : State) : ∃ p c, startReference s = { s with pwr := p, clk := c }
    ∧ p.supplies = s.pwr.supplies ∧ p.rstN = s.pwr.rstN ∧ p.resetCause = s.pwr.resetCause
    ∧ p.gpioLatch = s.pwr.gpioLatch := by
  unfold startReference
  split
  · exact ⟨_, _, rfl, rfl, rfl, rfl, rfl⟩
  · exact ⟨s.pwr, s.clk, rfl, rfl, rfl, rfl, rfl⟩

/-- R434: the count of failed starts saturates. -/
theorem failed_count (n : BitVec 3) : (if n = 7 then 7 else n + 1 : BitVec 3).toNat = min 7 (n.toNat + 1) := by
  revert n
  decide

/-- R432: another lane that no port uses is reset; its test goes on. -/
theorem laneReset_spec (n : Nat) (s : State) (hn : n < s.lan.l.length) (hp : s.lanePort n = none) :
    ((laneReset n s).lane n).cdrLock = false ∧ ((laneReset n s).lane n).errCnt = 0
      ∧ ((laneReset n s).lane n).test = (s.lane n).test ∧ (laneReset n s).rng = s.rng := by
  let f (l : Lane) : Lane :=
    { Lane.reset with test := l.test, scan := l.scan, pre := l.pre, main := l.main, post := l.post }
  have hx : laneReset n s = mapLane n f s := by
    have hnone : (mapLane n f s).lanePort n = none := hp
    unfold laneReset
    dsimp only
    rw [hnone]
  have hl : (mapLane n f s).lane n = f (s.lane n) := mapLane_lane n f s hn
  rw [hx, hl]
  exact ⟨rfl, rfl, rfl, rfl⟩

/-- R435: the supplies become valid. -/
theorem suppliesValid_spec (s : State) (hm : s.pwr.mode = .reset) (hv : s.pwr.vaon = true) (he : s.pwr.pwrEn = true) :
    ∃ t, exec .suppliesValid s = .next t
      ∧ t.pwr.supplies = true ∧ t.saf.tpo = 0b11
      ∧ (s.pwr.supplies = true → t.idn = s.idn)
      ∧ t.idn = { s.idn with pcieW := t.idn.pcieW, refclkSel := t.idn.refclkSel, clkMode := t.idn.clkMode
                             flashMode := t.idn.flashMode, boardId := t.idn.boardId }
      ∧ (s.pwr.rstN = false → t.pwr.mode = .reset)
      ∧ (s.pwr.rstN = true → t.pwr.mode = .startup ∧ t.pwr.failedRead = s.pwr.failed
          ∧ t.pwr.failed.toNat = min 7 (s.pwr.failed.toNat + 1) ∧ t.pwr.prevStep = s.pwr.step ∧ t.pwr.step = 1
          ∧ t.clk.team = 0) := by
  have hstraps : ∃ n i, strapsSample s = { s with free := n, idn := i } ∧ (s.pwr.supplies = true → i = s.idn)
      ∧ i = { s.idn with pcieW := i.pcieW, refclkSel := i.refclkSel, clkMode := i.clkMode, flashMode := i.flashMode
                         boardId := i.boardId } := by
    unfold strapsSample
    split
    · exact ⟨s.free, s.idn, rfl, fun _ => rfl, rfl⟩
    · next h => exact ⟨_, _, rfl, fun hs => absurd hs h, rfl⟩
  obtain ⟨n, i, hs, hsame, hidn⟩ := hstraps
  let u : State := { s with
    free := n, idn := i, pwr := { s.pwr with supplies := true }, saf := { s.saf with tpo := 0b11 } }
  have hx : exec .suppliesValid s = .next (startReference u) := by
    refine congrArg Host.Outcome.next ((if_pos ⟨hm, he⟩).trans ?_)
    rw [hs]
    rfl
  obtain ⟨p, c, hf, hsup, -, -, -⟩ := startReference_frame u
  refine ⟨_, hx, ?_, ?_, fun h => ?_, ?_, fun h => ?_, fun h => ?_⟩
  · rw [hf]
    exact hsup
  · rw [hf]
  · rw [hf]
    exact hsame h
  · rw [hf]
    exact hidn
  · rw [startReference_waits (s := u) fun hc => by simp [u, h] at hc]
    exact hm
  · rw [startReference_starts (s := u) hm hv he rfl h]
    exact ⟨rfl, rfl, failed_count _, rfl, rfl, rfl⟩

/-- R436: RST_N is released. -/
theorem rstNRelease_spec (s : State) (hm : s.pwr.mode = .reset) (hv : s.pwr.vaon = true) (he : s.pwr.pwrEn = true) :
    ∃ t, exec .rstNRelease s = .next t
      ∧ t.pwr.rstN = true ∧ t.flt.pinSince = (if s.pwr.rstN then s.flt.pinSince else s.clk.loc)
      ∧ (s.pwr.supplies = false → t.pwr.mode = .reset)
      ∧ (s.pwr.supplies = true → t.pwr.mode = .startup ∧ t.pwr.farrier = true ∧ t.clk.team = 0) := by
  let u : State := { s with
    pwr := { s.pwr with rstN := true }
    flt := { s.flt with pinSince := if !s.pwr.rstN && s.pwr.mode == .reset then s.clk.loc else s.flt.pinSince } }
  have hx : exec .rstNRelease s = .next (startReference u) := rfl
  obtain ⟨p, c, hf, -, hrst, -, -⟩ := startReference_frame u
  refine ⟨_, hx, ?_, ?_, fun h => ?_, fun h => ?_⟩
  · rw [hf]
    exact hrst
  · rw [hf]
    show (if !s.pwr.rstN && s.pwr.mode == .reset then s.clk.loc else s.flt.pinSince) = _
    rw [hm]
    cases s.pwr.rstN <;> rfl
  · rw [startReference_waits (s := u) fun hc => by simp [u, h] at hc]
    exact hm
  · rw [startReference_starts (s := u) hm hv he h rfl]
    exact ⟨rfl, rfl, rfl⟩

/-- R435: VAON is lost. -/
theorem vaonLoss_spec (s : State) (hm : s.pwr.mode ≠ .off) :
    ∃ n x l, exec .vaonLoss s = .next (
        let u := coreReset false { s with free := n, fls := x, lg := l }
        { u with
          pwr := { Pwr.reset with mode := .off, vaon := false, pwrEn := false, supplies := false, rstN := s.pwr.rstN }
          sec := { u.sec with fails := 0, lockEnd := none, aonLoaded := false }
          flt := { u.flt with pin := false } })
      ∧ CutKept s x ∧ (s.fls.jobs = [] → s.fls.upd.waiting = none → x = s.fls) ∧ (s.pwr.mode = .standby → x = s.fls) := by
  by_cases hsb : s.pwr.mode = .standby
  · refine ⟨s.free, s.fls, s.lg, congrArg Host.Outcome.next ((if_neg hm).trans ?_), .refl s, fun _ _ => rfl, fun _ => rfl⟩
    rw [if_pos hsb]
    rfl
  · obtain ⟨m, x, hw, hk, hnone⟩ := writesCut_spec s
    obtain ⟨n, l, hd⟩ : ∃ n l, dramLost { s with free := m, fls := x } = { s with free := n, fls := x, lg := l } :=
      ⟨_, _, rfl⟩
    refine ⟨n, x, l, congrArg Host.Outcome.next ((if_neg hm).trans ?_), hk, hnone, fun h => absurd h hsb⟩
    rw [if_neg hsb, hw, hd]
    rfl

/-- Settles O55. -/
theorem powerAndReset : Obligations.PowerAndReset := by
  intro s stored
  refine ⟨fun h => ?_, fun h => congrArg Host.Outcome.next (if_pos h), fun hm hv => congrArg Host.Outcome.next (if_pos ⟨hm, hv⟩),
    fun hm he hs => ?_, suppliesValid_spec s, rstNRelease_spec s, fun h => ?_, fun h => ⟨?_, fun hc => ?_, fun n hc hl hp => ?_⟩,
    fun h => ?_⟩
  · exact ⟨_, congrArg Host.Outcome.next (if_neg (not_not.mpr h)), rfl⟩
  · exact ⟨_, congrArg Host.Outcome.next (if_pos ⟨hm, he, by rw [hs]; rfl⟩), rfl, failed_count _⟩
  · exact congrArg Host.Outcome.next (if_neg (show ¬ s.started = true by simp [h]))
  · let low := s.mapPwr fun p => { p with rstN := false }
    have hx : exec .rstNAssert s = .next (warmReset 1 low) := congrArg Host.Outcome.next (if_pos h)
    obtain ⟨hk, hmode, hrst⟩ := warmReset_kept 1 low
    exact ⟨_, hx, hmode, hrst, hk⟩
  · have hx : exec (.clockFail .other) s = .next (startReference (warmReset 2 s)) :=
      congrArg Host.Outcome.next (if_neg (by simp [h, hc]))
    obtain ⟨hk, -, -⟩ := warmReset_kept 2 s
    obtain ⟨p, c, hf, -, -, hcause, hlatch⟩ := startReference_frame (warmReset 2 s)
    refine ⟨_, hx, ?_⟩
    rw [hf]
    obtain ⟨hc1, hmem, hhand, hrng, hscn, hsess, hfails, hmarks, hstored, hidn, hgpio, hrest⟩ := hk
    exact ⟨hcause.trans hc1, hmem, hhand, hrng, hscn, hsess, hfails, hmarks, hstored, hidn, hlatch.trans hgpio, hrest⟩
  · have hx : exec (.clockFail (.lane n)) s = .next (laneReset n.val s) :=
      congrArg Host.Outcome.next (if_neg (by simp [h, hc]))
    exact ⟨_, hx, laneReset_spec n.val s (by omega) hp⟩
  · obtain ⟨n, x, l, hx, hk, hnone, hsb⟩ := vaonLoss_spec s h
    refine ⟨_, hx, rfl, rfl, rfl, rfl, rfl, rfl, rfl, stored_of_cut hk hnone rfl rfl rfl rfl rfl, rfl, fun hs => ?_, rfl, rfl⟩
    rw [hsb hs]
    rfl

end Sys2Proof.Laws
end


section
/-!
The end of flash work: a write that fails its compare twice, a record and its touchmark, the other writes, the erase of the
inactive slot and the fuses (O30).
-/
namespace Sys2Proof.Laws
open Sys2Proof.Machine Sys2Proof.Claims

/-! ### The compare of the oldest write (R448) -/

/-- The oldest write leaves the list. -/
def jobTaken (rest : List FlashJob) (s : State) : State := s.mapFls fun f => { f with jobs := rest }

section
variable {s : State} {j : FlashJob} {rest : List FlashJob} (h : s.fls.jobs = j :: rest)
include h

theorem exec_writeDone : exec (.flashWriteDone true) s = .next (flashDone j (jobTaken rest s)) := by
  show Host.Outcome.next (match s.fls.jobs with | [] => _ | _ :: _ => _) = _
  rw [h]
  rfl

/-- R448: the first failure is retried. -/
theorem exec_writeRetried (hr : j.retried = false) :
    exec (.flashWriteDone false) s = .next (jobTaken ({ j with retried := true } :: rest) s) := by
  show Host.Outcome.next (match s.fls.jobs with | [] => _ | _ :: _ => _) = _
  rw [h]
  exact congrArg Host.Outcome.next ((if_neg Bool.false_ne_true).trans (if_neg (by rw [hr]; decide)))

/-- R448: the second failure ends it. -/
theorem exec_writeFailed (hr : j.retried = true) :
    exec (.flashWriteDone false) s = .next (flashFail j (jobTaken rest s)) := by
  show Host.Outcome.next (match s.fls.jobs with | [] => _ | _ :: _ => _) = _
  rw [h]
  exact congrArg Host.Outcome.next ((if_neg Bool.false_ne_true).trans (if_pos hr))

end

/-- The state in which a failed write reports: what it was writing is cut short, and an UPDATE_OPEN waits no longer. -/
def gaveUp (j : FlashJob) (rest : List FlashJob) (s : State) : State := flashGiveUp j (jobCut j (jobTaken rest s))

/-- R448: the second failure reports and ends its command, or the start that wrote goes on. -/
theorem flashFail_eq (j : FlashJob) (rest : List FlashJob) (s : State) :
    flashFail j (jobTaken rest s) =
      (let v := bootImage j.kind 6 (s.flashCopy j.kind) (gaveUp j rest s)
       match j.sub with
       | none => bootWritten j.act v
       | some sub => finish j.act.op sub j.act.failStatus 0 v) := by
  unfold flashFail
  cases j.sub <;> rfl

/-- R448: the status of a command whose write failed. -/
theorem failStatus_eq (a : AfterFlash) : a.failStatus = (match a with
    | .calStore _ | .marked _ (.calStore _) => stCalFlash
    | .updWrite _ _ | .updClose | .updConfirm | .updCancel => stUpdFlash
    | .marked _ b => b.failStatus
    | _ => stMemError) := by
  cases a with
  | marked m b => cases b <;> rfl
  | _ => rfl

/-- The slots of the flash with other bytes. -/
def withSlots (a b : List Host.Cell) (s : State) : State := s.mapFls fun x => { x with slotA := a, slotB := b }

/-- `u` is `s` but for the bytes of slot `b`. -/
def SlotOnly (b : Bool) (s u : State) : Prop := ∃ c d, u = withSlots c d s ∧ if b then c = s.fls.slotA else d = s.fls.slotB

theorem mapSlot_slotOnly (b : Bool) (f : List Host.Cell → List Host.Cell) (s : State) : SlotOnly b s (mapSlot b f s) := by
  cases b with
  | true => exact ⟨s.fls.slotA, f s.fls.slotB, rfl, rfl⟩
  | false => exact ⟨f s.fls.slotA, s.fls.slotB, rfl, rfl⟩

theorem SlotOnly.trans {b : Bool} {s u v : State} (hu : SlotOnly b s u) (hv : SlotOnly b u v) : SlotOnly b s v := by
  obtain ⟨c, d, rfl, hc⟩ := hu
  obtain ⟨c', d', rfl, hc'⟩ := hv
  refine ⟨c', d', rfl, ?_⟩
  cases b with
  | true => exact Eq.trans hc' hc
  | false => exact Eq.trans hc' hc

theorem pagesCut_slotOnly (n : Nat) (l : List (Nat × List Byte)) (s : State) : SlotOnly s.inactive s (pagesCut n l s) := by
  unfold pagesCut
  dsimp only
  generalize (l.zipIdx.filter fun e => !s.fls.upd.written.contains e.1.1) = m, s.inactive = b
  induction m generalizing s with
  | nil =>
    refine ⟨s.fls.slotA, s.fls.slotB, rfl, ?_⟩
    cases b <;> rfl
  | cons e m ih => exact (mapSlot_slotOnly ..).trans (ih _)

/-- R448: what a failed write may leave changed: the copy that it was writing, or the slot that an update writes. -/
structure WriteLeft (j : FlashJob) (s : State) (x : Fls) : Prop where
  jobs : x.jobs = s.fls.jobs
  trial : x.trial = s.fls.trial
  cals : ∀ k, (j.kind = 2 ∧ k = s.flashCopy 2) ∨ x.cals[k]? = s.fls.cals[k]?
  sets : ∀ k, (j.kind = 4 ∧ k = s.flashCopy 4) ∨ x.sets[k]? = s.fls.sets[k]?
  boot : ∀ k, (j.kind = 6 ∧ k = s.flashCopy 6) ∨ x.boot[k]? = s.fls.boot[k]?
  slot : if s.inactive then x.slotA = s.fls.slotA else x.slotB = s.fls.slotB

/-- A copy that is cut short is the one of the write's kind. -/
theorem modify_left {α : Type} {kind n m : Nat} (hk : kind = n) (l : List α) (f : α → α) (k : Nat) :
    (kind = n ∧ k = m) ∨ (l.modify m f)[k]? = l[k]? := by
  by_cases h : k = m
  · exact .inl ⟨hk, h⟩
  · exact .inr (copyModify_other l m f k h)

theorem jobCut_left (j : FlashJob) (s : State) :
    ∃ x, jobCut j s = { s with free := s.free + 1, fls := x } ∧ WriteLeft j s x := by
  have hslot : if s.inactive then s.fls.slotA = s.fls.slotA else s.fls.slotB = s.fls.slotB := by split <;> rfl
  have hpages (n : Nat) (l : List (Nat × List Byte)) :
      ∃ x, pagesCut n l s.draw.2 = { s with free := s.free + 1, fls := x } ∧ WriteLeft j s x := by
    obtain ⟨c, d, hx, hs⟩ := pagesCut_slotOnly n l s.draw.2
    exact ⟨_, hx, rfl, rfl, fun _ => .inr rfl, fun _ => .inr rfl, fun _ => .inr rfl, hs⟩
  unfold jobCut
  dsimp only
  split
  · next hkind _ =>
    rw [hkind]
    exact ⟨_, rfl, rfl, rfl, modify_left hkind _ _, fun _ => .inr rfl, fun _ => .inr rfl, hslot⟩
  · next hkind =>
    rw [hkind]
    exact ⟨_, rfl, rfl, rfl, fun _ => .inr rfl, modify_left hkind _ _, fun _ => .inr rfl, hslot⟩
  · next hkind =>
    rw [hkind]
    exact ⟨_, rfl, rfl, rfl, fun _ => .inr rfl, fun _ => .inr rfl, modify_left hkind _ _, hslot⟩
  · exact hpages ..
  · exact hpages ..
  · exact ⟨s.fls, rfl, rfl, rfl, fun _ => .inr rfl, fun _ => .inr rfl, fun _ => .inr rfl, hslot⟩

theorem gaveUp_left (j : FlashJob) (rest : List FlashJob) (s : State) :
    ∃ x, gaveUp j rest s = { s with free := s.free + 1, fls := x } ∧ WriteLeft j (jobTaken rest s) x := by
  obtain ⟨x, hx, hl⟩ := jobCut_left j (jobTaken rest s)
  unfold gaveUp flashGiveUp
  rw [hx]
  split
  · exact ⟨_, rfl, hl.jobs, hl.trial, hl.cals, hl.sets, hl.boot, hl.slot⟩
  · exact ⟨x, rfl, hl⟩

/-! ### A record and its touchmark (R265 to R269, R465, R468) -/

/-- The record that a write puts in force. -/
def recordOf (act : AfterFlash) (s : State) : Settings := s.settingsNext (act.key s) (act.edit s s.sec.set)

/-- R465: a new settings copy is in force. -/
theorem recordPut_eq (act : AfterFlash) (s : State) : recordPut act s =
    { s with
      fls := { s.fls with sets := s.fls.sets.set (s.flashCopy 4) (s.settingsImage (recordOf act s)) }
      sec := { s.sec with set := recordOf act s, teamKey := act.key s } } := rfl

theorem recordOf_prot (act : AfterFlash) (s : State) :
    (recordOf act s).prot = { (act.edit s s.sec.set).prot with wrapped := (recordOf act s).prot.wrapped } := rfl

/-- R462: no key, no wrapped key. -/
theorem recordOf_unpaired (act : AfterFlash) (s : State) (h : (recordOf act s).prot.keyId.all (· == 0) = true) :
    (recordOf act s).prot.wrapped = List.replicate 16 0 := by
  refine if_neg ?_
  rw [List.any_eq_true]
  rintro ⟨b, hb, hne⟩
  exact absurd (List.all_eq_true.mp h b hb) (by simpa using hne)

/-- A write of a protected item: its touchmark's item and operator, what it changes, and the bytes of the item. -/
structure ItemWrite (s : State) (j : FlashJob) (item : Nat) (by_ : Half) (edit : Settings → Settings)
    (bytes : ProtFields → List Byte) : Prop where
  done : ∀ u, flashDone j u = recordWritten j u
  edits : j.act.edit s s.sec.set = edit s.sec.set
  ord : (edit s.sec.set).ord = s.sec.set.ord
  item : ∀ r, j.act.item r = (item, bytes r.prot)
  operator : j.act.operator s = by_

/-- R267, R468: what a record that passed its compare leaves. -/
theorem recordWritten_frame (j : FlashJob) (rest : List FlashJob) (s : State) : ∃ x,
    recordWritten j (jobTaken rest s)
        = { s with fls := x, sec := { s.sec with set := recordOf j.act s, teamKey := j.act.key s } }
      ∧ x.sets = s.fls.sets.set (s.flashCopy 4) (s.settingsImage (recordOf j.act s))
      ∧ x.jobs = ⟨j.sub, 3, .marked ⟨j.act.operator s, (j.act.item s.sec.set).1, crc32 (j.act.item s.sec.set).2,
          crc32 (j.act.item (recordOf j.act s)).2⟩ j.act, false⟩ :: rest := by
  have hrec : recordOf j.act (jobTaken rest s) = recordOf j.act s := by
    cases j.act <;> rfl
  have hkey : j.act.key (jobTaken rest s) = j.act.key s := by
    cases j.act <;> rfl
  have hop : j.act.operator (jobTaken rest s) = j.act.operator s := by
    cases j.act <;> rfl
  have himg : (jobTaken rest s).settingsImage (recordOf j.act s) = s.settingsImage (recordOf j.act s) := rfl
  rw [recordWritten, recordPut_eq, hrec, hkey, hop, himg]
  exact ⟨_, rfl, rfl, rfl⟩

theorem ItemWrite.written {s : State} {j : FlashJob} {item : Nat} {by_ : Half} {edit : Settings → Settings}
    {bytes : ProtFields → List Byte} (hw : ItemWrite s j item by_ edit bytes) {rest : List FlashJob}
    (h : s.fls.jobs = j :: rest) :
    ∃ r : Settings, r.prot = { (edit s.sec.set).prot with wrapped := r.prot.wrapped } ∧ r.seq = s.sec.set.seq + 1
      ∧ r.ord = s.sec.set.ord ∧ (r.prot.keyId.all (· == 0) = true → r.prot.wrapped = List.replicate 16 0)
      ∧ ∃ t, exec (.flashWriteDone true) s = .next t ∧ t.sec.set = r
        ∧ t.fls.sets = s.fls.sets.set (s.flashCopy 4) (s.settingsImage r)
        ∧ t.fls.jobs = ⟨j.sub, 3, .marked ⟨by_, item, crc32 (bytes s.sec.set.prot), crc32 (bytes r.prot)⟩ j.act, false⟩ :: rest
        ∧ t = { s with fls := t.fls, sec := { s.sec with set := r, teamKey := t.sec.teamKey } } := by
  have hx := exec_writeDone h
  obtain ⟨x, hf, hsets, hjobs⟩ := recordWritten_frame j rest s
  rw [hw.done, hf] at hx
  rw [hw.item, hw.item, hw.operator] at hjobs
  refine ⟨recordOf j.act s, ?_, rfl, ?_, recordOf_unpaired j.act s, _, hx, rfl, hsets, hjobs, rfl⟩
  · rw [← hw.edits]
    exact recordOf_prot j.act s
  · exact (congrArg Settings.ord hw.edits).trans hw.ord

theorem itemWrite_protWrite {s : State} {j : FlashJob} {n : Half} {v : Word} (h : j.act = .protWrite n v) :
    ItemWrite s j n.toNat s.operator (Settings.mapProt fun p => p.put n.toNat v.toNat) fun p => p.itemBytes n.toNat :=
  ⟨fun _ => by rw [flashDone, h], by rw [h]; rfl, rfl, fun _ => by rw [h]; rfl, by rw [h]; rfl⟩

theorem itemWrite_cutoff {s : State} {j : FlashJob} {l : List Change} {f : Word} {g : Option (Byte × List (Nat × Nat))}
    {m : Option Half} (h : j.act = .cutoff l f g m) :
    ItemWrite s j 0x10 s.operator (Settings.mapProt fun p =>
      { p with
        cutSide := (g.map Prod.fst).getD p.cutSide, cutVerts := (g.map Prod.snd).getD p.cutVerts
        cutLimit := m.getD p.cutLimit }) ProtFields.cutBytes :=
  ⟨fun _ => by rw [flashDone, h], by rw [h]; rfl, rfl, fun _ => by rw [h]; rfl, by rw [h]; rfl⟩

theorem itemWrite_password {s : State} {j : FlashJob} {salt d : List Byte} {o : Half} (h : j.act = .password salt d o) :
    ItemWrite s j 0x20 o (Settings.mapProt fun p => { p with pwState := 1, salt := salt, digest := d }) ProtFields.pwBytes :=
  ⟨fun _ => by rw [flashDone, h], by rw [h]; rfl, rfl, fun _ => by rw [h]; rfl, by rw [h]; rfl⟩

theorem itemWrite_recovery {s : State} {j : FlashJob} {o : Half} (h : j.act = .recovery o) :
    ItemWrite s j 0x21 o (Settings.mapProt fun p =>
      { p with
        pwState := 0, salt := List.replicate 16 0, digest := List.replicate 32 0, fails := 0, lockS := 0
        recovery := p.recovery + 1 }) ProtFields.pwBytes :=
  ⟨fun _ => by rw [flashDone, h], by rw [h]; rfl, rfl, fun _ => by rw [h]; rfl, by rw [h]; rfl⟩

theorem itemWrite_teamKey {s : State} {j : FlashJob} {k : BitVec 128} (h : j.act = .teamKey k) :
    ItemWrite s j 0x30 s.operator (Settings.mapProt fun p => { p with keyId := keyIdOf k }) fun p => padTo 16 p.keyId :=
  ⟨fun _ => by rw [flashDone, h], by rw [h]; rfl, rfl, fun _ => by rw [h]; rfl, by rw [h]; rfl⟩

/-- R269: the ordinary settings. -/
theorem cfgCommit_written {s : State} {j : FlashJob} {rest : List FlashJob} (h : s.fls.jobs = j :: rest)
    (hact : j.act = .cfgCommit) : ∃ r : Settings, r.ord = s.sec.work ∧ r.seq = s.sec.set.seq + 1
      ∧ r.prot = { s.sec.set.prot with wrapped := r.prot.wrapped }
      ∧ ∃ t, exec (.flashWriteDone true) s = .next t ∧ t.sec.set = r
        ∧ t.fls.sets = s.fls.sets.set (s.flashCopy 4) (s.settingsImage r)
        ∧ t.fls.jobs = ⟨j.sub, 3, .marked ⟨s.operator, 0x50, crc32 (s.sec.set.body false), crc32 (r.body false)⟩ .cfgCommit,
            false⟩ :: rest := by
  have hx := exec_writeDone h
  obtain ⟨x, hf, hsets, hjobs⟩ := recordWritten_frame j rest s
  have hd : flashDone j (jobTaken rest s) = recordWritten j (jobTaken rest s) := by rw [flashDone, hact]
  rw [hd, hf] at hx
  rw [hact] at hx hsets hjobs
  exact ⟨recordOf .cfgCommit s, rfl, rfl, rfl, _, hx, rfl, hsets, hjobs⟩

/-- R283, R397: the calibration record. -/
theorem calStore_written {s : State} {j : FlashJob} {rest : List FlashJob} (h : s.fls.jobs = j :: rest) {r : CalRec}
    (hact : j.act = .calStore r) :
    let q := { r with seq := ((copyWinner CalRec.seq s.calCopies).map fun c => c.2.seq).getD 0 + 1 }
    exec (.flashWriteDone true) s = .next (s.mapFls fun f =>
      { f with
        cals := f.cals.set (s.flashCopy 2) (s.calBytes q)
        jobs := ⟨j.sub, 3, .marked ⟨s.operator, 0x40, crc32 ((s.calRecord.map CalRec.body).getD []), crc32 q.body⟩
          (.calStore q), false⟩ :: rest }) := by
  have hd : flashDone j (jobTaken rest s) = calWritten j r (jobTaken rest s) := by rw [flashDone, hact]
  refine (exec_writeDone h).trans (congrArg _ (hd.trans ?_))
  rfl

/-- R267, R468: the change log takes one touchmark, and may become full. -/
theorem touchmarkBy_spec (o : Half) (item : Nat) (old new : Word) (s : State) :
    ∃ e : Touchmark, (touchmarkBy o item old new s).sec.marks = s.sec.marks ++ [e] ∧ e.seq = s.sec.nextMark
      ∧ e.operator = o ∧ e.item = BitVec.ofNat 16 item ∧ e.oldCrc = old ∧ e.newCrc = new := by
  unfold touchmarkBy
  dsimp only
  split
  · refine ⟨_, congrArg (fun x => x.sec.marks) (steady_raise ..), rfl, rfl, rfl, rfl, rfl⟩
  · exact ⟨_, rfl, rfl, rfl, rfl, rfl, rfl⟩

/-- A touchmark moves nothing but the change log and what a raise may touch. -/
theorem touchmarkBy_steady (o : Half) (item : Nat) (old new : Word) (s : State) :
    ∃ c, steady (touchmarkBy o item old new s) = steady { s with sec := c } ∧ c.set = s.sec.set := by
  unfold touchmarkBy
  dsimp only
  split
  · exact ⟨_, steady_raise .., rfl⟩
  · exact ⟨_, rfl, rfl⟩

/-! ### A touchmark ends its command (R448, R468) -/

section
variable {s : State} {j : FlashJob} {rest : List FlashJob} (h : s.fls.jobs = j :: rest) {m : MarkWrite} {act : AfterFlash}
  (hact : j.act = .marked m act)
include h hact

theorem exec_markDone : exec (.flashWriteDone true) s
    = .next (markedDone j m (touchmarkBy m.operator m.item m.old m.new (jobTaken rest s))) := by
  have hd (u : State) : flashDone j u = markedDone j m (touchmarkBy m.operator m.item m.old m.new u) := by
    rw [flashDone, hact]
  rw [exec_writeDone h, hd]

/-- R264: the recovery opens the session. -/
theorem recovery_marked {o : Half} {sub : Sub} (ha : act = .recovery o) (hsub : j.sub = some sub) :
    ∃ t, exec (.flashWriteDone true) s = .next (flashFinish j stOk 0 t)
      ∧ t.sec = { (touchmarkBy m.operator m.item m.old m.new (jobTaken rest s)).sec with
          fails := 0, lockEnd := none, session := some ⟨sub.origin, o, s.clk.loc⟩ } := by
  rw [exec_markDone h hact]
  obtain ⟨c, hst, -⟩ := touchmarkBy_steady m.operator m.item m.old m.new (jobTaken rest s)
  have hloc := congrArg (fun x => x.clk.loc) hst
  generalize touchmarkBy m.operator m.item m.old m.new (jobTaken rest s) = v at hloc ⊢
  have hd : markedDone j m v = flashFinish j stOk 0 (sessionOpen sub o (v.mapSec fun c => { c with fails := 0, lockEnd := none })) := by
    rw [markedDone, hact, ha]
    dsimp only
    rw [recoveryDone, jobSession, hsub]
  refine ⟨_, congrArg _ hd, ?_⟩
  have hl : v.clk.loc = s.clk.loc := hloc
  rw [← hl]
  rfl

/-- R283, R397: the stored calibration takes effect at the next composition. -/
theorem calStore_marked {r : CalRec} (ha : act = .calStore r) :
    ∃ t, exec (.flashWriteDone true) s = .next (flashFinish j stOk
        ((touchmarkBy m.operator m.item m.old m.new (jobTaken rest s)).nextComp.zeroExtend 64) t) ∧ t.cal.pend = some r
      ∧ (s.cal.trims = some (r.trims, r.q) → t.cal.trims = none) ∧ (s.cal.map = some r.map → t.cal.map = none)
      ∧ (s.cal.assay = some r.assay → t.cal.assay = none) ∧ (s.cal.map ≠ some r.map → t.cal.map = s.cal.map) := by
  rw [exec_markDone h hact]
  obtain ⟨c, hst, -⟩ := touchmarkBy_steady m.operator m.item m.old m.new (jobTaken rest s)
  have htrims := congrArg (fun x => x.cal.trims) hst
  have hmap := congrArg (fun x => x.cal.map) hst
  have hassay := congrArg (fun x => x.cal.assay) hst
  generalize touchmarkBy m.operator m.item m.old m.new (jobTaken rest s) = v at htrims hmap hassay ⊢
  have ht : v.cal.trims = s.cal.trims := htrims
  have hm : v.cal.map = s.cal.map := hmap
  have ha' : v.cal.assay = s.cal.assay := hassay
  have hd : markedDone j m v = calStoreDone j r v := by rw [markedDone, hact, ha]
  rw [← ht, ← hm, ← ha']
  exact ⟨_, congrArg _ hd, rfl, fun e => if_pos e, fun e => if_pos e, fun e => if_pos e, fun e => if_neg e⟩

end

/-- R267, R268: the completion of each marked command. -/
theorem marked_written {s : State} {j : FlashJob} {rest : List FlashJob} (h : s.fls.jobs = j :: rest) {m : MarkWrite}
    {act : AfterFlash} (hact : j.act = .marked m act) :
    let done (t : State) : Prop := exec (.flashWriteDone true) s = .next t
    let v := touchmarkBy m.operator m.item m.old m.new (jobTaken rest s)
    (∀ n x, act = .protWrite n x →
        done (flashFinish j stOkDeferred (m.new.zeroExtend 64 ||| (v.nextTick.zeroExtend 64 <<< 32)) (v.mapFrm fun f =>
          { f with
            armed := f.armed ++ [⟨v.nextTick, (protChange n x).toList, f.armSeq, false, false⟩]
            armSeq := f.armSeq + 1 })))
    ∧ (∀ l f g k, act = .cutoff l f g k →
        let given := j.sub.any Sub.atTick && !v.passed f
        let at_ := if given then f else v.nextTick
        done (flashFinish j stOkDeferred (m.new.zeroExtend 64 ||| (at_.zeroExtend 64 <<< 32)) (v.mapFrm fun x =>
          { x with armed := x.armed ++ [⟨at_, l, x.armSeq, true, given⟩], armSeq := x.armSeq + 1 })))
    ∧ (∀ salt d o, act = .password salt d o → done (flashFinish j stOk 0 v))
    ∧ (∀ k, act = .teamKey k → done (flashFinish j stOk 0 v))
    ∧ (act = .cfgCommit →
        done (flashFinish j stOk (s.sec.set.seq.zeroExtend 64 ||| (m.new.zeroExtend 64 <<< 32)) v)) := by
  intro done v
  have hx : exec (.flashWriteDone true) s = .next (markedDone j m v) := exec_markDone h hact
  have hset : v.sec.set = s.sec.set := by
    obtain ⟨c, hst, hc⟩ := touchmarkBy_steady m.operator m.item m.old m.new (jobTaken rest s)
    exact (congrArg (fun x => x.sec.set) hst).trans hc
  have hd (t : State) (ht : markedDone j m v = t) : done t := hx.trans (congrArg _ ht)
  clear_value v
  refine ⟨fun n x ha => hd _ ?_, fun l f g k ha => hd _ ?_, fun salt d o ha => hd _ ?_, fun k ha => hd _ ?_, fun ha => hd _ ?_⟩
  · rw [markedDone, hact, ha]
    rfl
  · rw [markedDone, hact, ha]
    rfl
  · rw [markedDone, hact, ha]
  · rw [markedDone, hact, ha]
  · rw [markedDone, hact, ha, ← hset]
    rfl

/-! ### The other records and the change log (R263, R268, R371, R466) -/

/-- R466: the failure count of a new record. -/
theorem recordOf_fails {act : AfterFlash} (s : State) (h : ∀ r, act.edit s r = s.failsEdit r) :
    (recordOf act s).prot.fails = BitVec.ofNat 8 s.sec.fails := by
  rw [recordOf_prot, h]
  rfl

/-- R360: a raise leaves the latches of the other sources. -/
theorem raiseMin_latch_other (src m : Nat) (d : List Byte) (s : State) (i : Nat) (hi : i < 160) (hne : src ≠ i) :
    (raiseMin src m d s).flt.degrade.getLsbD i = s.flt.degrade.getLsbD i
      ∧ (raiseMin src m d s).flt.safe.getLsbD i = s.flt.safe.getLsbD i
      ∧ (raiseMin src m d s).flt.dark.getLsbD i = s.flt.dark.getLsbD i := by
  by_cases h0 : s.sevOf src m = 0
  · rw [raiseMin_zero src m d s h0]
    exact ⟨rfl, rfl, rfl⟩
  · have hput {b : BitVec 160} {c : Prop} [Decidable c] :
        (if c then bitPut b src true else b).getLsbD i = b.getLsbD i := by
      split
      · rw [bitPut_true_getLsbD b src i hi, decide_eq_false (fun e => hne e.symm), Bool.or_false]
      · rfl
    rw [raiseMin_flt src m d s h0]
    obtain ⟨hdeg, hsafe, hdark⟩ := raiseFlt_latches src (s.sevOf src m) s.lg.seq d s.clk.team s.clk.loc s.flt
    rw [hdeg, hsafe, hdark]
    exact ⟨hput, hput, hput⟩

/-- R268: a touchmark leaves the latches of every source but F_LOG_FULL. -/
theorem touchmarkBy_latch_other (o : Half) (item : Nat) (old new : Word) (s : State) (i : Nat) (hi : i < 160)
    (hne : fLogFull ≠ i) :
    (touchmarkBy o item old new s).flt.degrade.getLsbD i = s.flt.degrade.getLsbD i
      ∧ (touchmarkBy o item old new s).flt.safe.getLsbD i = s.flt.safe.getLsbD i
      ∧ (touchmarkBy o item old new s).flt.dark.getLsbD i = s.flt.dark.getLsbD i := by
  unfold touchmarkBy
  dsimp only
  split
  · exact raiseMin_latch_other _ _ _ _ i hi hne
  · exact ⟨rfl, rfl, rfl⟩

/-- An acknowledgement leaves the change log. -/
theorem ackRelease_sec (src : Nat) (s : State) : (ackRelease src s).sec = s.sec := by
  have hite {x : Sec} {c : Prop} [Decidable c] {u v : State} (hu : u.sec = x) (hv : v.sec = x) :
      (if c then u else v).sec = x := by
    split
    · exact hu
    · exact hv
  have hevent (sev : Nat) (t : State) : (releaseEvent src sev t).sec = t.sec := congrArg (fun x => x.sec) (steady_emit ..)
  have hdark (t : State) : (darkRemove .fault t).sec = t.sec := by rw [darkRemove_frame]
  have hpix (t : State) : (pixelAck src t).sec = t.sec := hite rfl (hite rfl (hite rfl rfl))
  have hlatch : (latchRelease src s).sec = s.sec := by
    unfold latchRelease
    dsimp only
    generalize hu : (if s.flt.safe.getLsbD src then releaseEvent src 5 _ else _) = u
    have h1 : u.sec = s.sec := hu ▸ hite (hevent ..) rfl
    generalize hv : (if s.flt.dark.getLsbD src then releaseEvent src 6 u else u) = v
    have h2 : v.sec = s.sec := hv ▸ hite ((hevent ..).trans h1) h1
    exact hite ((hdark _).trans h2) h2
  rw [ackRelease, hpix]
  generalize hu : heldSet src false (latchRelease src s) = u
  have h0 : u.sec = s.sec := hu ▸ hlatch
  generalize hv : (if src = fHallmarkPixel then _ else u) = v
  have h1 : v.sec = s.sec := hv ▸ hite h0 h0
  generalize hw : (if src = fTileOvercurrent then _ else v) = w
  have h2 : w.sec = s.sec := hw ▸ hite h1 h1
  exact hite h2 h2

section
variable {s : State} {j : FlashJob} {rest : List FlashJob} (h : s.fls.jobs = j :: rest)
include h

/-- R264, R466: a login whose failure count is in flash. -/
theorem login_written {good : Bool} {o : Half} (hact : j.act = .login good o) :
    ∃ t, exec (.flashWriteDone true) s = .next (flashFinish j (if good then stOk else stNotAuthorized) 0 t)
      ∧ t.sec.set.prot.fails = BitVec.ofNat 8 s.sec.fails
      ∧ t.fls.sets = s.fls.sets.set (s.flashCopy 4) (s.settingsImage t.sec.set)
      ∧ (∀ sub, good = true → j.sub = some sub → t.sec.session = some ⟨sub.origin, o, s.clk.loc⟩)
      ∧ (good = false → t.sec.session = s.sec.session) := by
  let u := jobTaken rest s
  have hfails : (recordOf (.login good o) u).prot.fails = BitVec.ofNat 8 s.sec.fails := recordOf_fails u fun _ => rfl
  have hd : flashDone j u = loginDone j good o u := by rw [flashDone, hact]
  rw [exec_writeDone h]
  cases good with
  | false =>
    refine ⟨recordPut (.login false o) u, ?_, hfails, rfl, fun _ h => absurd h Bool.false_ne_true, fun _ => rfl⟩
    rw [hd, loginDone, hact]
    rfl
  | true =>
    cases hsub : j.sub with
    | none =>
      refine ⟨recordPut (.login true o) u, ?_, hfails, rfl, fun _ _ h => (by cases h), Bool.noConfusion⟩
      rw [hd, loginDone, hact, jobSession, hsub]
      rfl
    | some sub =>
      refine ⟨sessionOpen sub o (recordPut (.login true o) u), ?_, hfails, rfl, fun _ _ h => ?_,
        Bool.noConfusion⟩
      · rw [hd, loginDone, hact, jobSession, hsub]
        rfl
      · cases h
        rfl

/-- R263, R466: a failed old password whose failure count is in flash. -/
theorem pwFail_written (hact : j.act = .pwFail) :
    ∃ t, exec (.flashWriteDone true) s = .next (flashFinish j stNotAuthorized 0 t)
      ∧ t.sec.set.prot.fails = BitVec.ofNat 8 s.sec.fails
      ∧ t.fls.sets = s.fls.sets.set (s.flashCopy 4) (s.settingsImage t.sec.set) := by
  refine ⟨recordPut .pwFail (jobTaken rest s), ?_, recordOf_fails (act := .pwFail) (jobTaken rest s) fun _ => rfl, rfl⟩
  rw [exec_writeDone h, flashDone, hact]
  dsimp only
  rw [pwFailDone, hact]

/-- R268: archived touchmarks leave the log, which takes one for that. -/
theorem archive_written {n : Word} (hact : j.act = .archive n) :
    let gone := s.sec.marks.filter fun e => decide (e.seq.toNat ≤ n.toNat)
    ∃ t e, exec (.flashWriteDone true) s = .next (flashFinish j stOk (BitVec.ofNat 64 gone.length) t) ∧ t.sec.upTo = n
      ∧ e.item = 0xFF ∧ e.oldCrc = n
      ∧ t.sec.marks = s.sec.marks.filter (fun e => decide (n.toNat < e.seq.toNat)) ++ [e] := by
  intro gone
  let u := (jobTaken rest s).mapSec fun c =>
    { c with marks := c.marks.filter (fun t => decide (n.toNat < t.seq.toNat)), upTo := n, fullNow := false }
  let new := crc32 (gone.flatMap fun t => padTo 32 t.hmac)
  obtain ⟨e, hmarks, -, -, hitem, hold, -⟩ := touchmarkBy_spec u.operator 0xFF n new u
  have hup : (touchmark 0xFF n new u).sec.upTo = n := by
    unfold touchmark touchmarkBy
    dsimp only
    split
    · exact congrArg (fun x => x.sec.upTo) (steady_raise ..)
    · rfl
  refine ⟨touchmark 0xFF n new u, e, ?_, hup, hitem, hold, hmarks⟩
  rw [exec_writeDone h, flashDone, hact]
  rfl

/-- R371: the acknowledgement of F_PIXEL_STUCK. -/
theorem ackStuck_written {src : Byte} (hact : j.act = .ackStuck src) (hsrc : src = 0x54) :
    ∃ t, exec (.flashWriteDone true) s = .next (flashFinish j stOk 1 t)
      ∧ t.flt.degrade.getLsbD src.toNat = false ∧ t.flt.safe.getLsbD src.toNat = false
      ∧ t.flt.dark.getLsbD src.toNat = false ∧ ∃ e : Touchmark, t.sec.marks = s.sec.marks ++ [e] ∧ e.item = 0x60 := by
  subst hsrc
  let u := jobTaken rest s
  let w := ackRelease 0x54 (u.mapArr fun a => { a with rel154 := a.hw154 })
  let old := crc32 (isolBytes (u.arr.hw154 ||| u.arr.hw159))
  let new := crc32 (isolBytes w.arr.hw159)
  obtain ⟨hdeg, hsafe, hdark⟩ := touchmarkBy_latch_other w.operator 0x60 old new w 0x54 (by decide) (by decide)
  obtain ⟨e, hmarks, -, -, hitem, -, -⟩ := touchmarkBy_spec w.operator 0x60 old new w
  have hflt := ackRelease_flt 0x54 (u.mapArr fun a => { a with rel154 := a.hw154 })
  have hclear (b : BitVec 160) : (bitPut b 0x54 false).getLsbD 0x54 = false := by
    rw [bitPut_getLsbD b 0x54 0x54 false (by decide), if_pos rfl]
  refine ⟨touchmark 0x60 old new w, ?_, hdeg.trans ?_, hsafe.trans ?_, hdark.trans ?_, e, ?_, hitem⟩
  · rw [exec_writeDone h, flashDone, hact]
    rfl
  · rw [hflt]
    exact hclear _
  · rw [hflt]
    exact hclear _
  · rw [hflt]
    exact hclear _
  · refine hmarks.trans ?_
    rw [ackRelease_sec]
    rfl

end

/-! ### The pages, the records and the fuses of an update (R284, R285, R442, R453, R456) -/

/-- R284: the pages not written yet are programmed into the inactive slot, and count as written. -/
theorem programPages_spec (l : List (Nat × List Byte)) (s : State) :
    (programPages l s).fls.upd.written
        = s.fls.upd.written ++ (l.filter fun p => !s.fls.upd.written.contains p.1).map Prod.fst
      ∧ if s.inactive then (programPages l s).fls.slotA = s.fls.slotA else (programPages l s).fls.slotB = s.fls.slotB := by
  unfold programPages
  dsimp only
  generalize (l.filter fun p => !s.fls.upd.written.contains p.1) = m, s.inactive = b
  induction m generalizing s with
  | nil =>
    refine ⟨(List.append_nil _).symm, ?_⟩
    cases b <;> rfl
  | cons p m ih =>
    let v := mapUpd (fun u => { u with written := u.written ++ [p.1] })
      (mapSlot b (fun c => cellsPut 0xFF c (256 * p.1) p.2) s)
    obtain ⟨hw, hs⟩ := ih v
    have hv : v.fls.upd.written = s.fls.upd.written ++ [p.1] := by cases b <;> rfl
    refine ⟨hw.trans (by rw [hv, List.append_assoc]; rfl), ?_⟩
    cases b <;> exact hs

section
variable {s : State} {j : FlashJob} {rest : List FlashJob} (h : s.fls.jobs = j :: rest)
include h

/-- R235, R284: the end of an UPDATE_WRITE, of all its bytes or of those before a failing request. -/
theorem pages_written {off : Nat} {bs : List Byte} (hact : j.act = .updWrite off bs ∨ j.act = .updPartial off bs) :
    let pages := pagesOf off bs
    let clash := pages.any (jobTaken rest s).pageConflict = true
    let good := j.act = .updWrite off bs
    (clash → exec (.flashWriteDone true) s
        = .next (flashFinish j (if good then stUpdConflict else stMemError) 0 (jobTaken rest s)))
    ∧ (¬ clash → ∃ t, exec (.flashWriteDone true) s = .next (flashFinish j (if good then stOk else stMemError) 0 t)
        ∧ t.fls.upd.written = s.fls.upd.written
            ++ (pages.filter fun p => !s.fls.upd.written.contains p.1).map Prod.fst
        ∧ (if s.inactive then t.fls.slotA = s.fls.slotA else t.fls.slotB = s.fls.slotB)) := by
  intro pages clash good
  obtain ⟨hwritten, hslot⟩ := programPages_spec pages (jobTaken rest s)
  rw [exec_writeDone h]
  rcases hact with hact | hact
  · have hgood : good := hact
    have hd (u : State) : flashDone j u = updWriteDone j off bs u := by rw [flashDone, hact]
    rw [hd, if_pos hgood, if_pos hgood]
    exact ⟨fun hc => congrArg _ (if_pos hc), fun hc => ⟨_, congrArg _ (if_neg hc), hwritten, hslot⟩⟩
  · have hgood : ¬ good := by
      show ¬ j.act = _
      rw [hact]
      exact AfterFlash.noConfusion
    have hd (u : State) : flashDone j u = updPartialDone j off bs u := by rw [flashDone, hact]
    rw [hd, if_neg hgood, if_neg hgood]
    exact ⟨fun hc => congrArg _ (congrArg (flashFinish j stMemError 0) (if_pos hc)),
      fun hc => ⟨_, congrArg _ (congrArg (flashFinish j stMemError 0) (if_neg hc)), hwritten, hslot⟩⟩

/-- R285, R442: TRY_NEXT is written. -/
theorem updClose_written (hact : j.act = .updClose) : ∃ t, exec (.flashWriteDone true) s = .next (flashFinish j stOk 0 t)
    ∧ t.fls.upd.state = 2 ∧ t.fls.jobs = rest
    ∧ t.fls.boot = s.fls.boot.set (copyTarget BootRec.seq s.bootCopies)
        (BootRec.bytes ⟨((s.bootRec.map BootRec.seq).getD 0) + 1, s.inactive, 1, 0⟩) := by
  let u := jobTaken rest s
  let v := mapUpd (fun x => { x with state := 2 }) (bootPut u.inactive 1 0 u)
  let w := if v.pwr.mode = .halter then v.mapPwr fun p => { p with failed := 0 } else v
  have hw : w.fls = v.fls := by
    show (if _ then _ else _ : State).fls = _
    split <;> rfl
  have hfls : (updateEvent 2 u.inactive 0 0 w).fls = v.fls := (congrArg (fun x => x.fls) (steady_emit ..)).trans hw
  refine ⟨updateEvent 2 u.inactive 0 0 w, ?_, ?_, ?_, ?_⟩
  · rw [exec_writeDone h, flashDone, hact]
    rfl
  · rw [hfls]
    rfl
  · rw [hfls]
    rfl
  · rw [hfls]
    rfl

/-- R285, R453: the slot is confirmed; the fuses follow. -/
theorem updConfirm_written (hact : j.act = .updConfirm) : ∃ t, exec (.flashWriteDone true) s = .next t
    ∧ t.fls.upd.state = 0 ∧ t.fls.trial = false ∧ t.fls.jobs = rest
    ∧ t.fls.boot = s.fls.boot.set (copyTarget BootRec.seq s.bootCopies)
        (BootRec.bytes ⟨((s.bootRec.map BootRec.seq).getD 0) + 1, s.fls.run.getD false, 0, 0⟩)
    ∧ t.fls.blow = j.sub ∧ t = { s with fls := t.fls } := by
  refine ⟨updConfirmDone j (jobTaken rest s), ?_, rfl, rfl, rfl, rfl, rfl, rfl⟩
  rw [exec_writeDone h, flashDone, hact]

/-- R456: the pending try is cancelled; the erase begins. -/
theorem updCancel_written {sub : Sub} (hact : j.act = .updCancel) (hsub : j.sub = some sub) :
    ∃ t, exec (.flashWriteDone true) s = .next (keepRunning sub t)
      ∧ t.fls.upd.state = 0 ∧ t.fls.upd.waiting = some sub
      ∧ t.fls.boot = s.fls.boot.set (copyTarget BootRec.seq s.bootCopies)
          (BootRec.bytes ⟨((s.bootRec.map BootRec.seq).getD 0) + 1, !s.inactive, 0, 0⟩) := by
  let u := jobTaken rest s
  let v := mapUpd (fun x => { x with state := 0 }) (bootPut (!u.inactive) 0 0 u)
  let w := updateEvent 0 u.inactive 0 0 v
  have hfls : w.fls = v.fls := congrArg (fun x => x.fls) (steady_emit ..)
  have hd : flashDone j u = eraseStart sub w := by
    rw [flashDone, hact]
    dsimp only
    rw [updCancelDone, hsub]
  refine ⟨mapUpd (fun x => { x with waiting := some sub }) w, ?_, ?_, rfl, ?_⟩
  · rw [exec_writeDone h]
    exact congrArg _ hd
  · show w.fls.upd.state = 0
    rw [hfls]
    rfl
  · show w.fls.boot = _
    rw [hfls]
    rfl

end

/-- A predicate that holds at one place more counts one more. -/
theorem countP_range_insert (p : Nat → Bool) (k : Nat) (h : p k = false) (n : Nat) :
    (List.range n).countP (fun i => p i || decide (i = k)) = (List.range n).countP p + if k < n then 1 else 0 := by
  induction n with
  | zero => rfl
  | succ n ih =>
    rw [List.range_succ, List.countP_append, List.countP_append, ih, List.countP_singleton, List.countP_singleton]
    rcases Nat.lt_trichotomy k n with hk | hk | hk
    · simp [hk, Nat.lt_succ_of_lt hk, Nat.ne_of_gt hk]
      omega
    · subst hk
      simp [h]
    · have h1 : ¬ k < n := by omega
      have h2 : ¬ k < n + 1 := by omega
      simp [h1, h2, Nat.ne_of_lt hk]

theorem popcount_eq {w : Nat} (m : BitVec w) : popcount m = (List.range w).countP m.getLsbD := by
  rw [popcount, List.countP_eq_length_filter]

/-- A bit that is not set counts one more once it is. -/
theorem popcount_bitPut {w : Nat} (m : BitVec w) (k : Nat) (hk : k < w) (h : m.getLsbD k = false) :
    popcount (bitPut m k true) = popcount m + 1 := by
  have hins := countP_range_insert m.getLsbD k h w
  rw [if_pos hk] at hins
  rw [popcount_eq, popcount_eq, ← hins]
  refine List.countP_congr fun i hi => ?_
  rw [bitPut_true_getLsbD m k i (List.mem_range.mp hi)]

/-- Fewer bits than the width: one is not set. -/
theorem exists_clear_bit {w : Nat} (m : BitVec w) (h : popcount m < w) : ∃ k < w, m.getLsbD k = false := by
  by_contra hall
  have hset (k : Nat) (hk : k ∈ List.range w) : m.getLsbD k = true := by
    cases hb : m.getLsbD k with
    | true => rfl
    | false => exact absurd ⟨k, List.mem_range.mp hk, hb⟩ hall
  rw [popcount_eq, List.countP_eq_length.mpr hset, List.length_range] at h
  exact absurd h (Nat.lt_irrefl w)

/-- The first bits of a value that are to be set one after another while fewer than `n` are set. -/
def blown {w : Nat} (n : Nat) (m : BitVec w) (k : Nat) : BitVec w :=
  (List.range k).foldl (fun f k => if popcount f < n then bitPut f k true else f) m

/-- R453: one more bit, as soon as one is found that is not set. -/
theorem blown_spec {w : Nat} (m : BitVec w) (k : Nat) (hk : k ≤ w) :
    (blown (popcount m + 1) m k = m ∧ ∀ i < k, m.getLsbD i = true)
    ∨ (popcount (blown (popcount m + 1) m k) = popcount m + 1
      ∧ ∀ i, m.getLsbD i = true → (blown (popcount m + 1) m k).getLsbD i = true) := by
  induction k with
  | zero => exact .inl ⟨rfl, fun i h => absurd h (Nat.not_lt_zero i)⟩
  | succ k ih =>
    have hstep : blown (popcount m + 1) m (k + 1) = (fun f => if popcount f < popcount m + 1 then bitPut f k true else f)
        (blown (popcount m + 1) m k) := by
      rw [blown, List.range_succ, List.foldl_append]
      rfl
    rw [hstep]
    rcases ih (by omega) with ⟨hsame, hset⟩ | ⟨hone, hkeep⟩
    · rw [hsame]
      dsimp only
      rw [if_pos (Nat.lt_succ_self _)]
      cases hb : m.getLsbD k with
      | false =>
        refine .inr ⟨popcount_bitPut m k (by omega) hb, fun i hi => ?_⟩
        rw [bitPut_true_getLsbD m k i (BitVec.lt_of_getLsbD hi), hi, Bool.true_or]
      | true =>
        refine .inl ⟨?_, fun i hi => ?_⟩
        · refine BitVec.eq_of_getLsbD_eq fun i hi => ?_
          rw [bitPut_true_getLsbD m k i hi]
          by_cases hik : i = k
          · rw [hik, hb, Bool.true_or]
          · rw [decide_eq_false hik, Bool.or_false]
        · rcases Nat.lt_succ_iff_lt_or_eq.mp hi with hlt | heq
          · exact hset i hlt
          · rw [heq, hb]
    · dsimp only
      rw [if_neg (by omega)]
      exact .inr ⟨hone, hkeep⟩

/-- R453: a blow of the next fuse. -/
theorem blowFuses_spec (s : State) (h : popcount s.idn.fuses < 64) :
    ∃ i, blowFuses (s.rollback + 1) s = { s with idn := i } ∧ popcount i.fuses = popcount s.idn.fuses + 1
      ∧ ∀ k, s.idn.fuses.getLsbD k = true → i.fuses.getLsbD k = true := by
  obtain ⟨c, hc, hclear⟩ := exists_clear_bit s.idn.fuses h
  rcases blown_spec s.idn.fuses 64 (Nat.le_refl 64) with ⟨-, hset⟩ | hblown
  · exact absurd (hset c hc) (by rw [hclear]; decide)
  · have hx : blowFuses (s.rollback + 1) s
        = s.mapIdn fun i => { i with fuses := blown (popcount s.idn.fuses + 1) i.fuses 64 } := rfl
    exact ⟨{ s.idn with fuses := blown (popcount s.idn.fuses + 1) s.idn.fuses 64 }, hx, hblown⟩

/-- R453, R458: a nanosecond in which UPDATE_CONFIRM blows a fuse, or completes. -/
theorem fuse_step (s : State) (sub : Sub) (hblow : s.fls.blow = some sub) (hp : s.pending = []) (hm : s.pwr.mode ≠ .off) :
    (popcount s.idn.fuses < min 64 s.fls.imgSec → ∃ t, step s = .next t ∧ t.fls = s.fls
      ∧ popcount t.idn.fuses = popcount s.idn.fuses + 1
      ∧ ∀ k, s.idn.fuses.getLsbD k = true → t.idn.fuses.getLsbD k = true)
    ∧ (min 64 s.fls.imgSec ≤ popcount s.idn.fuses → ∃ t, step s = .next (finish 0x83 sub stOk 0 t)
      ∧ t.fls.blow = none ∧ t.idn = s.idn) := by
  obtain ⟨c, hidle⟩ : ∃ c, idleStep s = fuseStep { s with clk := c } := ⟨_, if_neg hm⟩
  have hstep : step s = .next (fuseStep { s with clk := c }) := by
    rw [← hidle]
    unfold step
    rw [hp]
  have hfuse : fuseStep { s with clk := c } = if popcount s.idn.fuses < min 64 s.fls.imgSec then
      blowFuses (({ s with clk := c } : State).rollback + 1) { s with clk := c }
    else finish 0x83 sub stOk 0 (updateEvent 4 (s.fls.run.getD false) 0 0
      { s with clk := c, fls := { s.fls with blow := none } }) := by
    unfold fuseStep
    dsimp only
    rw [hblow]
    rfl
  rw [hstep, hfuse]
  refine ⟨fun hlt => ?_, fun hge => ?_⟩
  · rw [if_pos hlt]
    have h64 : popcount ({ s with clk := c } : State).idn.fuses < 64 := Nat.lt_of_lt_of_le hlt (Nat.min_le_left ..)
    obtain ⟨i, hi, hcount, hkeep⟩ := blowFuses_spec { s with clk := c } h64
    rw [hi]
    exact ⟨_, rfl, rfl, hcount, hkeep⟩
  · rw [if_neg (by omega)]
    have hst := steady_emit evUpdateState (b1 4 ++ b1 (flag (s.fls.run.getD false))
      ++ b2 (({ s with clk := c, fls := { s.fls with blow := none } } : State).slotVersion (s.fls.run.getD false)) ++ b1 0
      ++ b1 0) { s with clk := c, fls := { s.fls with blow := none } }
    exact ⟨_, rfl, congrArg (fun x => x.fls.blow) hst, congrArg (fun x => x.idn) hst⟩

/-! ### The erase of the inactive slot (R284, R448, R459) -/

section
variable {s : State} {sub : Sub} (hw : s.fls.upd.waiting = some sub) (hj : ∀ j ∈ s.fls.jobs, j.act ≠ .updCancel)
include hw hj

/-- The erase ends the wait of its UPDATE_OPEN. -/
theorem exec_eraseDone (ok : Bool) : exec (.updateEraseDone ok) s = .next (
    let v := mapUpd (fun u => { u with waiting := none }) s
    if ok then
      finish 0x80 sub stOk (BitVec.ofNat 64 (flag s.inactive + 2 ^ 32 * slotSize))
        (updateEvent 1 s.inactive 0 0 (mapUpd (fun u => { u with state := 1, written := [] }) (mapSlot s.inactive (fun _ => []) v)))
    else finish 0x80 sub stUpdFlash 0 (bootImage (flag s.inactive) 6 0 (eraseFailed s.inactive v))) := by
  have hnone : (s.fls.jobs.any fun j => j.act == .updCancel) = false := by
    rw [List.any_eq_false]
    intro j hjm
    simpa using hj j hjm
  refine congrArg Host.Outcome.next ?_
  rw [hw]
  dsimp only
  rw [hnone]
  exact if_neg Bool.false_ne_true

theorem erase_ends : let slot := if s.inactive then 1 else 0
    (∃ t, exec (.updateEraseDone true) s
          = .next (finish 0x80 sub stOk (BitVec.ofNat 64 (slot + 2 ^ 32 * 6291456)) t)
        ∧ t.fls.upd.state = 1 ∧ t.fls.upd.written = [] ∧ t.fls.upd.waiting = none
        ∧ t.fls.upd.length = s.fls.upd.length
        ∧ (if s.inactive then t.fls.slotB = [] ∧ t.fls.slotA = s.fls.slotA
            else t.fls.slotA = [] ∧ t.fls.slotB = s.fls.slotB))
     ∧ ∃ t, exec (.updateEraseDone false) s = .next (finish 0x80 sub stUpdFlash 0 (bootImage slot 6 0 t))
         ∧ t.fls.upd = { s.fls.upd with waiting := none }
         ∧ (if s.inactive then t.fls.slotA = s.fls.slotA ∧ (t.fls.slotB = s.fls.slotB ∨ t.fls.slotB = [])
             else t.fls.slotB = s.fls.slotB ∧ (t.fls.slotA = s.fls.slotA ∨ t.fls.slotA = [])) := by
  intro slot
  rw [exec_eraseDone hw hj, exec_eraseDone hw hj, if_pos rfl, if_neg Bool.false_ne_true]
  refine ⟨⟨_, rfl, ?_⟩, _, rfl, ?_⟩
  · rw [show (updateEvent 1 s.inactive 0 0 _).fls = _ from congrArg (fun x => x.fls) (steady_emit ..)]
    cases s.inactive
    · exact ⟨rfl, rfl, rfl, rfl, rfl, rfl⟩
    · exact ⟨rfl, rfl, rfl, rfl, rfl, rfl⟩
  · unfold eraseFailed
    dsimp only
    split
    · exact ⟨rfl, by cases s.inactive <;> exact ⟨rfl, .inl rfl⟩⟩
    · cases s.inactive
      · exact ⟨rfl, rfl, .inr rfl⟩
      · exact ⟨rfl, rfl, .inr rfl⟩

end

/-- Settles O30: one lemma for each kind of write, from what `flashDone` does for it; then the fuses and the erase. -/
theorem flashWorkEnds : Obligations.FlashWorkEnds := by
  refine ⟨⟨fun s j rest h => ?_, fun s sub hb hp hm => fuse_step s sub hb hp hm⟩, fun s sub hw hj => erase_ends hw hj⟩
  intro u done boot
  refine ⟨fun hr => exec_writeRetried h hr, fun hr => ?_, fun item by_ edit bytes hact => ?_, fun hact => cfgCommit_written h hact,
    fun r hact => calStore_written h hact, fun m act hact => ?_, fun good o hact => login_written h hact,
    fun hact => pwFail_written h hact, fun n hact => archive_written h hact, fun src hact hs => ackStuck_written h hact hs,
    fun off bs hact => pages_written h hact, fun hact => updClose_written h hact, fun hact => updConfirm_written h hact,
    fun sub hact hsub => updCancel_written h hact hsub⟩
  · obtain ⟨x, hx, hl⟩ := gaveUp_left j rest s
    refine ⟨gaveUp j rest s, ?_, ?_⟩
    · rw [exec_writeFailed h hr, flashFail_eq, failStatus_eq] <;> rfl
    · rw [hx]
      exact ⟨hl.jobs, rfl, rfl, rfl, hl.trial, hl.cals, hl.sets, hl.boot, hl.slot⟩
  · rcases hact with ⟨n, v, ha, rfl, rfl, rfl, rfl⟩ | ⟨l, f, g, m, ha, rfl, rfl, rfl, rfl⟩ | ⟨salt, d, o, ha, rfl, rfl, rfl, rfl⟩
      | ⟨o, ha, rfl, rfl, rfl, rfl⟩ | ⟨k, ha, rfl, rfl, rfl, rfl⟩
    · exact (itemWrite_protWrite ha).written h
    · exact (itemWrite_cutoff ha).written h
    · exact (itemWrite_password ha).written h
    · exact (itemWrite_recovery ha).written h
    · exact (itemWrite_teamKey ha).written h
  · intro v
    obtain ⟨hprot, hcut, hpw, hteam, hcfg⟩ := marked_written h hact
    exact ⟨touchmarkBy_spec m.operator m.item m.old m.new u, hprot, hcut, hpw, hteam, hcfg,
      fun o sub ha hsub => recovery_marked h hact ha hsub, fun r ha => calStore_marked h hact ha⟩

end Sys2Proof.Laws
end


section
/-!
The calibration commands and the end of a run of phases 1 to 3 (O32).
-/
namespace Sys2Proof.Laws
open Sys2Proof.Machine Sys2Proof.Claims

@[simp] theorem begun_cal (i : Instr) (s : State) : (begun i s).cal = s.cal := by rw [begun_changes]

/-! ### CAL_RUN (R282, R392, R396) -/

theorem calRunOk_iff (phases : Byte) (level : Half) : calRunOk phases level = true
    ↔ ((1 ≤ phases.toNat ∧ phases.toNat ≤ 7 ∨ phases = 16) ∧ level = 0) ∨ phases = 8 := by
  simp only [calRunOk, Bool.or_eq_true, Bool.and_eq_true, decide_eq_true_eq, beq_iff_eq]
  tauto

theorem calRun_starts {sub : Sub} {s : State} {phases : Byte} {level : Half} (hr : Runs (.calRun sub phases level) s) :
    let i : Instr := .calRun sub phases level
    let b := begun i s
    let good := ((1 ≤ phases.toNat ∧ phases.toNat ≤ 7 ∨ phases = 16) ∧ level = 0) ∨ phases = 8
    let refused := b.calRefused = true ∨ s.cal.run ≠ none
    (¬ good → exec i s = .next (finish 0x78 sub stBadOperand 0 b))
    ∧ (good → refused → exec i s = .next (finish 0x78 sub stWrongState 0 b))
    ∧ (good → ¬ refused → phases = 8 →
        exec i s = .next (finish 0x78 sub stOk 0 (b.mapCal fun c => { c with flat := some level.toNat })))
    ∧ (good → ¬ refused → phases = 16 →
        exec i s = .next (finish 0x78 sub stOk 0 (b.mapCal fun c => { c with flat := none })))
    ∧ (good → ¬ refused → phases.toNat ≤ 7 →
        exec i s = .next (keepRunning sub (b.mapCal fun c => { c with run := some ⟨phases, sub, false, 0⟩ }))) := by
  intro i b good refused
  have hx : exec i s = .next (calRunBody sub phases level b) := ringCmd_runs _ hr
  have hok : calRunOk phases level = true ↔ good := calRunOk_iff phases level
  have href : (b.calRefused || b.cal.run.isSome) = true ↔ refused := by
    rw [begun_cal, Bool.or_eq_true, Option.isSome_iff_ne_none]
  have hgo (hg : good) (hn : ¬ refused) : exec i s = .next (
      if phases = 8 then finish 0x78 sub stOk 0 (b.mapCal fun c => { c with flat := some level.toNat })
      else if phases = 16 then finish 0x78 sub stOk 0 (b.mapCal fun c => { c with flat := none })
      else keepRunning sub (b.mapCal fun c => { c with run := some ⟨phases, sub, false, 0⟩ })) := by
    refine hx.trans (congrArg _ ((if_neg ?_).trans (if_neg (mt href.mp hn))))
    rw [hok.mpr hg]
    decide
  refine ⟨fun hg => hx.trans (congrArg _ (if_pos ?_)), fun hg hn => hx.trans (congrArg _ ((if_neg ?_).trans (if_pos (href.mpr hn)))),
    fun hg hn h8 => (hgo hg hn).trans (congrArg _ (if_pos h8)),
    fun hg hn h16 => (hgo hg hn).trans (congrArg _ ((if_neg ?_).trans (if_pos h16))),
    fun hg hn h7 => (hgo hg hn).trans (congrArg _ ((if_neg ?_).trans (if_neg ?_)))⟩
  · rw [Bool.eq_false_iff.mpr (mt hok.mp hg)]
    rfl
  · rw [hok.mpr hg]
    decide
  · rw [h16]
    decide
  · rintro rfl
    exact absurd h7 (by decide)
  · rintro rfl
    exact absurd h7 (by decide)

/-! ### CAL_LOAD_MAP and CAL_STORE (R283, R397) -/

theorem calLoadMap_loads {sub : Sub} {s : State} {h : Half} {off : Word} (hr : Runs (.calLoadMap sub h off) s) :
    let i : Instr := .calLoadMap sub h off
    let b := begun i s
    let good := b.handle h = none ∨ off.toNat % 64 = 0
    (¬ good → exec i s = .next (finish 0x79 sub stBadOperand 0 b))
    ∧ (∀ st, good → b.poolRead h off.toNat 1048576 = .bad st →
        exec i s = .next (finish 0x79 sub (if st = stBadOperand then stCalMapRange else st) 0 b))
    ∧ (good → (∀ st, b.poolRead h off.toNat 1048576 ≠ .bad st) → s.cal.run ≠ none →
        exec i s = .next (finish 0x79 sub stWrongState 0 b))
    ∧ (∀ u, good → b.poolRead h off.toNat 1048576 = .units u → s.cal.run = none →
        exec i s = .next (finish 0x79 sub stMemError 0 (raiseUe 10 u b)))
    ∧ (∀ bs, good → s.cal.run = none → b.poolRead h off.toNat 1048576 = .data bs →
        ∃ t, exec i s = .next (finish 0x79 sub stOk 0 t) ∧ t = { copied h off.toNat 1048576 b with cal := t.cal }
          ∧ t.cal.map = some (freshCells 128 0 bs)
          ∧ ∃ a, t.cal.assay = some a ∧ a.unifRes
              = ((bs.filter fun v => v == 0 || v == 255).length * 100000 + 524288) / 1048576) := by
  intro i b good
  have hx : exec i s = .next (calLoadMapBody sub h off b) := ringCmd_runs _ hr
  have hgood : b.unaligned h off.toNat = true ↔ ¬ good := by
    show ((b.handle h).isSome && off.toNat % 64 != 0) = true ↔ ¬ (b.handle h = none ∨ off.toNat % 64 = 0)
    rw [Bool.and_eq_true, Option.isSome_iff_ne_none, bne_iff_ne, not_or]
  have hgo (hg : good) : exec i s = .next (match b.poolRead h off.toNat calMapSize, b.cal.run.isSome with
      | .bad st, _ => finish 0x79 sub (if st = stBadOperand then stCalMapRange else st) 0 b
      | _, true => finish 0x79 sub stWrongState 0 b
      | .units l, _ => finish 0x79 sub stMemError 0 (raiseUe 10 l b)
      | .data bs, _ => finish 0x79 sub stOk 0 <|
        assayPut (fun a => { a with phases := a.phases ||| 8, unifRes := unifResOf bs })
          ((copied h off.toNat calMapSize b).mapCal fun c => { c with map := some (freshCells 128 0 bs) })) :=
    hx.trans (congrArg _ (if_neg (mt hgood.mp (not_not.mpr hg))))
  have hsize : (1048576 : Nat) = calMapSize := rfl
  rw [hsize]
  refine ⟨fun hg => hx.trans (congrArg _ (if_pos (hgood.mpr hg))), fun st hg hread => ?_, fun hg hread hrun => ?_,
    fun u hg hread hrun => ?_, fun bs hg hrun hread => ?_⟩
  · rw [hgo hg, hread]
  · have hsome : b.cal.run.isSome = true := by rw [begun_cal, Option.isSome_iff_ne_none]; exact hrun
    rw [hgo hg, hsome]
    cases hp : b.poolRead h off.toNat calMapSize with
    | bad st => exact absurd hp (hread st)
    | units u => rfl
    | data bs => rfl
  · rw [hgo hg, hread, show b.cal.run.isSome = false by rw [begun_cal, hrun]; rfl]
  · rw [hgo hg, hread, show b.cal.run.isSome = false by rw [begun_cal, hrun]; rfl]
    exact ⟨_, rfl, rfl, rfl, _, rfl, rfl⟩

theorem calStore_starts {sub : Sub} {s : State} (hr : Runs (.calStore sub) s) :
    let i : Instr := .calStore sub
    let b := begun i s
    (b.calStaged = false → exec i s = .next (finish 0x7A sub stWrongState 0 b))
    ∧ (b.calStaged = true → b.logFull = true → exec i s = .next (finish 0x7A sub stLogFull 0 b))
    ∧ (b.calStaged = true → b.logFull = false → ∃ t, exec i s = .next (flashStart sub 2 (.calStore t.calToStore) t)
        ∧ t = { b with cal := { b.cal with assay := t.cal.assay } }) := by
  intro i b
  have hx : exec i s = .next (calStoreBody sub b) := ringCmd_runs _ hr
  have hneg (h : b.calStaged = true) : ¬ (!b.calStaged) = true := by rw [h]; decide
  refine ⟨fun h => hx.trans (congrArg _ (if_pos (by rw [h]; rfl))),
    fun h hl => hx.trans (congrArg _ ((if_neg (hneg h)).trans (if_pos hl))), fun h hl => ⟨_,
      hx.trans (congrArg _ ((if_neg (hneg h)).trans (if_neg (by rw [hl]; decide)))), rfl⟩⟩

/-! ### CAL_READ (R400) -/

/-- Memory errors that a range of the map meets leave the steady part of the state. -/
theorem frameMems_steady (src : Nat) (unit : Nat → Nat) (kind layer : Nat) (frame : State → Word) (l : List Nat)
    (q : List Raise × State) :
    steady (l.foldl (fun q u => frameMem src (unit u) kind layer (frame q.2) q) q).2 = steady q.2 := by
  induction l generalizing q with
  | nil => rfl
  | cons u l ih => exact (ih _).trans rfl

/-- The beginning of an entry leaves the number of the next frame. -/
theorem begun_nextFrame (i : Instr) (s : State) : (begun i s).nextFrame = s.nextFrame := by
  unfold begun
  split
  · rfl
  · unfold startWindow
    split <;> split <;> rfl

/-- The bytes of an item do not depend on what a memory error reports. -/
theorem calItem_map {s t : State} (h : t.pho.map = s.pho.map) (off n : Nat) : t.calItem 1 off n = s.calItem 1 off n :=
  congrArg (fun m => some (cellsGet 128 m off n)) h

theorem calRead_reads {sub : Sub} {s : State} {what : Byte} {off : Word} {dest : Dword} {n : Word}
    (hr : Runs (.calRead sub what off dest n) s) :
    let i : Instr := .calRead sub what off dest n
    let b := begun i s
    let good := what.toNat ≤ 2 ∧ off.toNat + n.toNat ≤ (if what = 0 then 64 else 1048576)
    (¬ good → exec i s = .next (finish 0x7B sub stBadOperand 0 b))
    ∧ (good → n = 0 → exec i s = .next (finish 0x7B sub stOkZero 0 b))
    ∧ (∀ l, good → n ≠ 0 → b.calUe what off.toNat n.toNat = [] → b.calItem what off.toNat n.toNat = some l →
        exec i s = .next (reply 0x7B sub stOk 0 [(0, dest, l)]
          (if what = 1 then raised (frameCe 2 0 s.nextFrame (unitsOf (0x06000000 + off.toNat) n.toNat) ([], b)) else b)))
    ∧ (good → n ≠ 0 → b.calUe what off.toNat n.toNat ≠ [] →
        ∃ t, exec i s = .next (finish 0x7B sub stMemError 0 t) ∧ t.cal.held = s.cal.held) := by
  intro i b good
  have hx : exec i s = .next (calReadBody sub what off dest n b) := ringCmd_runs _ hr
  have hbad : (2 < what.toNat ∨ (if what = 0 then 64 else calMapSize) < off.toNat + n.toNat) ↔ ¬ good := by
    show (2 < what.toNat ∨ (if what = 0 then 64 else 1048576) < off.toNat + n.toNat) ↔ _
    omega
  have hn : n.toNat = 0 ↔ n = 0 := ⟨fun h => BitVec.eq_of_toNat_eq h, fun h => by rw [h]; rfl⟩
  let q : List Raise × State :=
    if what = 1 then frameCe 2 0 b.nextFrame (unitsOf (0x06000000 + off.toNat) n.toNat) ([], b) else ([], b)
  let bad := b.calUe what off.toNat n.toNat
  let v := raised (bad.foldl (fun q u => frameMem fMemUe u 2 0 q.2.nextFrame q) q)
  have hgo (hg : good) (h0 : n ≠ 0) : exec i s = .next (if !bad.isEmpty then finish 0x7B sub stMemError 0 v
      else match v.calItem what off.toNat n.toNat with
        | some l => reply 0x7B sub stOk 0 [(0, dest, l)] v
        | none => reply 0x7B sub stOk 0 [(0, dest, (v.random n.toNat).1)] (v.random n.toNat).2) :=
    hx.trans (congrArg _ ((if_neg (mt hbad.mp (not_not.mpr hg))).trans (if_neg (mt hn.mp h0))))
  have hq : ∃ p, steady q.2 = steady { b with pool := p } := by
    show ∃ p, steady (if what = 1 then frameCe 2 0 b.nextFrame _ ([], b) else ([], b) : List Raise × State).2 = _
    split
    · exact ⟨_, frameMems_steady fMemCe unitOf 2 0 (fun _ => b.nextFrame) _ _⟩
    · exact ⟨b.pool, rfl⟩
  obtain ⟨p, hp⟩ := hq
  have hv : steady v = steady { b with pool := p } :=
    (steady_raised _).trans ((frameMems_steady fMemUe id 2 0 State.nextFrame bad q).trans hp)
  refine ⟨fun hg => hx.trans (congrArg _ (if_pos (hbad.mpr hg))),
    fun hg h0 => hx.trans (congrArg _ ((if_neg (mt hbad.mp (not_not.mpr hg))).trans (if_pos (hn.mpr h0)))),
    fun l hg h0 hue hitem => ?_, fun hg h0 hue => ⟨v, ?_, ?_⟩⟩
  · have hb : bad = [] := hue
    have hvq : v = raised q := by
      show raised (bad.foldl _ q) = _
      rw [hb]
      rfl
    rw [hgo hg h0, hb, hvq]
    rw [hvq] at hv
    have hnf : b.nextFrame = s.nextFrame := begun_nextFrame ..
    by_cases hw : what = 1
    · have hq1 : q = frameCe 2 0 s.nextFrame (unitsOf (0x06000000 + off.toNat) n.toNat) ([], b) := by
        rw [← hnf]
        exact if_pos hw
      have hi : (raised q).calItem what off.toNat n.toNat = some l := by
        rw [hw, calItem_map (show (raised q).pho.map = b.pho.map from congrArg (fun x => x.pho.map) hv), ← hw]
        exact hitem
      rw [hi, if_pos hw, hq1]
      rfl
    · have hq1 : q = ([], b) := if_neg hw
      have hrb : raised q = b := by rw [hq1]; rfl
      rw [hrb, hitem, if_neg hw]
      rfl
  · refine (hgo hg h0).trans (congrArg _ (if_pos ?_))
    rw [List.isEmpty_eq_false_iff.mpr hue]
    rfl
  · have hheld : v.cal.held = b.cal.held := congrArg (fun x => x.cal.held) hv
    rw [hheld, begun_cal]

/-! ### The end of a run (R392, R394, R395, Table 17.3) -/

/-- R395: a trim code with which a tile draws 99.70 to 100.00 µA, and with no larger code at most that. -/
def Fits (na : Nat) (c : Int) : Prop :=
  -128 ≤ c ∧ c ≤ 127 ∧ 102092800 ≤ na * (1024 + c).toNat ∧ na * (1024 + c).toNat ≤ 102400000
    ∧ ∀ d : Int, c < d → d ≤ 127 → 102400000 < na * (1024 + d).toNat

/-- R395: code 127 - `k` draws no more than 100.00 µA. -/
def codeOk (na k : Nat) : Bool := decide (trimmed na ((127 : Int) - k) ≤ 102400000)

theorem trimOf_eq (na : Nat) : trimOf na = ((List.range 256).find? (codeOk na)).bind fun k =>
    if 102092800 ≤ trimmed na ((127 : Int) - k) then some ((127 : Int) - k) else none := by
  have hlist {p : Int → Bool} :
      ((List.range 256 >>= fun a => pure (Int.ofNat a)).map fun k => (127 : Int) - k).find? p
        = ((List.range 256).find? fun k : Nat => p ((127 : Int) - k)).map fun k : Nat => (127 : Int) - k := by
    rw [bind_pure_comp, List.map_eq_map, List.map_map, List.find?_map]
    rfl
  have hfind : ((List.range 256).find? fun k : Nat => decide (trimmed na ((127 : Int) - k) ≤ 102400000))
      = (List.range 256).find? (codeOk na) := rfl
  refine (show trimOf na = _ from congrArg (fun o : Option Int => match o with
    | some t => if 102092800 ≤ trimmed na t then some t else none
    | none => none) (hlist.trans (congrArg _ hfind))).trans ?_
  cases (List.range 256).find? (codeOk na) <;> rfl

theorem trimOf_fits {na : Nat} {c : Int} (h : trimOf na = some c) : Fits na c := by
  rw [trimOf_eq, Option.bind_eq_some_iff] at h
  obtain ⟨k, hf, hlow⟩ := h
  obtain ⟨hk, hmem, hbelow⟩ := List.find?_range_eq_some.mp hf
  have hk256 := List.mem_range.mp hmem
  split at hlow
  · next hmin =>
    cases hlow
    refine ⟨by omega, by omega, hmin, of_decide_eq_true hk, fun d hd hd' => ?_⟩
    have hne := hbelow (127 - d).toNat (by omega)
    have hcode : (127 : Int) - ((127 - d).toNat : Nat) = d := by omega
    rw [codeOk, hcode, Bool.not_eq_true', decide_eq_false_iff_not] at hne
    exact Nat.lt_of_not_le hne
  · cases hlow

theorem trimOf_none {na : Nat} (h : trimOf na = none) (c : Int) : ¬ Fits na c := by
  rintro ⟨hlo, hhi, hmin, hmax, hbig⟩
  have hcode : (127 : Int) - ((127 - c).toNat : Nat) = c := by omega
  have hf : (List.range 256).find? (codeOk na) = some (127 - c).toNat := by
    refine List.find?_range_eq_some.mpr ⟨?_, List.mem_range.mpr (by omega), fun k hk => ?_⟩
    · rw [codeOk, hcode]
      exact decide_eq_true hmax
    · rw [codeOk, Bool.not_eq_true', decide_eq_false_iff_not]
      exact Nat.not_le_of_lt (hbig (127 - k) (by omega) (by omega))
  rw [trimOf_eq, hf, Option.bind_some, hcode, if_pos (show 102092800 ≤ trimmed na c from hmin)] at h
  cases h

/-- R395: the codes of the 256 tiles. -/
def tileCodes (m : CalMeas) : List (Option Int) := (phase3.padNat 256 m.tilesNa).map trimOf

theorem tileCodes_get (m : CalMeas) {k : Nat} (hk : k < 256) : (tileCodes m)[k]? = some (trimOf (m.tilesNa.getD k 0)) := by
  have hp : (phase3.padNat 256 m.tilesNa)[k]? = some (m.tilesNa.getD k 0) := by
    rw [phase3.padNat, List.getElem?_take_of_lt hk]
    by_cases h : k < m.tilesNa.length
    · rw [List.getElem?_append_left h, List.getD_eq_getElem?_getD, List.getElem?_eq_getElem h]
      rfl
    · rw [List.getElem?_append_right (by omega), List.getElem?_replicate, if_pos (by omega), List.getD_eq_getElem?_getD,
        List.getElem?_eq_none (by omega)]
      rfl
  rw [tileCodes, List.getElem?_map, hp]
  rfl

theorem tileCodes_length (m : CalMeas) : (tileCodes m).length = 256 := by
  rw [tileCodes, List.length_map, phase3.padNat, List.length_take, List.length_append, List.length_replicate]
  omega

/-- R394, R395: phase 3 of a run whose tiles all have a code. -/
theorem phase3_passes {m : CalMeas} (h : ∀ k, k < 256 → ∃ c, Fits (m.tilesNa.getD k 0) c) (s : State) :
    ∃ ts q t, phase3 m s = .inl t
      ∧ t = { s with cal := { s.cal with trims := some (ts, q), assay := t.cal.assay } } ∧ ts.length = 256
      ∧ ∀ k, k < 256 → Fits (m.tilesNa.getD k 0) (ts.getD k 0).toInt := by
  have hsome (k : Nat) (hk : k < 256) : ∃ c, trimOf (m.tilesNa.getD k 0) = some c := by
    cases hc : trimOf (m.tilesNa.getD k 0) with
    | some c => exact ⟨c, rfl⟩
    | none =>
      obtain ⟨c, hfit⟩ := h k hk
      exact absurd hfit (trimOf_none hc c)
  have hnone : (tileCodes m).findIdx? Option.isNone = none := by
    rw [List.findIdx?_eq_none_iff]
    intro o ho
    obtain ⟨k, hk, hko⟩ := List.mem_iff_getElem.mp ho
    rw [tileCodes_length] at hk
    obtain ⟨c, hc⟩ := hsome k hk
    have hget := tileCodes_get m hk
    rw [List.getElem?_eq_getElem (by rw [tileCodes_length]; exact hk), hko, hc] at hget
    cases hget
    rfl
  let ts := ((tileCodes m).map fun c => c.getD 0).map fun t => BitVec.ofInt 8 t
  have hx : ∃ q t, phase3 m s = .inl t
      ∧ t = { s with cal := { s.cal with trims := some (ts, q), assay := t.cal.assay } } := by
    unfold phase3
    dsimp only
    rw [show (List.map trimOf (phase3.padNat 256 m.tilesNa)).findIdx? Option.isNone = none from hnone]
    exact ⟨_, _, rfl, rfl⟩
  obtain ⟨q, t, hphase, hcal⟩ := hx
  refine ⟨ts, q, t, hphase, hcal, ?_, fun k hk => ?_⟩
  · rw [List.length_map, List.length_map, tileCodes_length]
  · obtain ⟨c, hc⟩ := hsome k hk
    have hfit := trimOf_fits hc
    have hcode : (ts.getD k 0).toInt = c := by
      rw [List.getD_eq_getElem?_getD, List.getElem?_map, List.getElem?_map, tileCodes_get m hk, hc]
      show (BitVec.ofInt 8 c).toInt = c
      rw [BitVec.toInt_ofInt]
      exact Int.bmod_eq_of_le (by have := hfit.1; omega) (by have := hfit.2.1; omega)
    rw [hcode]
    exact hfit

/-- R394, R395: phase 3 of a run with a tile that has no code. -/
theorem phase3_fails {m : CalMeas} (h : ∃ k, k < 256 ∧ ∀ c, ¬ Fits (m.tilesNa.getD k 0) c) (s : State) :
    ∃ n, phase3 m s = .inr n ∧ n < 256 ∧ ∀ c, ¬ Fits (m.tilesNa.getD n 0) c := by
  obtain ⟨k, hk, hno⟩ := h
  have hknone : trimOf (m.tilesNa.getD k 0) = none := by
    cases hc : trimOf (m.tilesNa.getD k 0) with
    | none => rfl
    | some c => exact absurd (trimOf_fits hc) (hno c)
  cases hf : (tileCodes m).findIdx? Option.isNone with
  | none =>
    have hget := tileCodes_get m hk
    rw [hknone] at hget
    have := List.findIdx?_eq_none_iff.mp hf none (List.mem_of_getElem? hget)
    cases this
  | some n =>
    obtain ⟨hn, hnn, -⟩ := List.findIdx?_eq_some_iff_getElem.mp hf
    have hn256 : n < 256 := by rw [tileCodes_length] at hn; exact hn
    have hget := tileCodes_get m hn256
    rw [List.getElem?_eq_getElem hn] at hget
    refine ⟨n, ?_, hn256, fun c => trimOf_none ?_ c⟩
    · unfold phase3
      dsimp only
      rw [show (List.map trimOf (phase3.padNat 256 m.tilesNa)).findIdx? Option.isNone = some n from hf]
    · rw [Option.some.inj hget] at hnn
      exact Option.isNone_iff_eq_none.mp hnn

/-- The state in which the phases of a run begin: the assay record names no failure. -/
def runOpened (s : State) : State := assayPut (fun a => { a with failed := 0, tile := 0xFFFF }) s

/-- The reference input and the current reference are as phases 1 and 2 want them. -/
def RefGood (m : CalMeas) : Prop := 2450 ≤ m.refinMv ∧ m.refinMv ≤ 2550 ∧ m.refinSpread ≤ 8
def ResGood (m : CalMeas) : Prop := 950 ≤ m.calresMv ∧ m.calresMv ≤ 1050

/-- R392: a phase, where it is asked for. -/
def afterPhase1 (r : CalRun) (m : CalMeas) (s : State) : Option State := if r.phases.getLsbD 0 then phase1 m s else some s
def afterPhase2 (r : CalRun) (m : CalMeas) (s : State) : Option State := if r.phases.getLsbD 1 then phase2 m s else some s
def afterPhase3 (r : CalRun) (m : CalMeas) (s : State) : State ⊕ Nat := if r.phases.getLsbD 2 then phase3 m s else .inl s

section
variable {r : CalRun} {m : CalMeas} {s u v w : State}

theorem calPhases_none (h1 : afterPhase1 r m (runOpened s) = none) :
    calPhases r m s = calFail r 1 0xFFFF stCalRefin (runOpened s) := by
  show (match afterPhase1 r m (runOpened s) with | none => _ | some u => _) = _
  rw [h1]
  rfl

variable (h1 : afterPhase1 r m (runOpened s) = some u)
include h1

theorem calPhases_one (h2 : afterPhase2 r m u = none) : calPhases r m s = calFail r 2 0xFFFF stCalCalres u := by
  show (match afterPhase1 r m (runOpened s) with | none => _ | some u => _) = _
  rw [h1]
  show (match afterPhase2 r m u with | none => _ | some v => _) = _
  rw [h2]

variable (h2 : afterPhase2 r m u = some v)
include h2

theorem calPhases_two {n : Nat} (h3 : afterPhase3 r m v = .inr n) :
    calPhases r m s = calFail r 3 (BitVec.ofNat 16 n) stCalTile v := by
  show (match afterPhase1 r m (runOpened s) with | none => _ | some u => _) = _
  rw [h1]
  show (match afterPhase2 r m u with | none => _ | some v => _) = _
  rw [h2]
  show (match afterPhase3 r m v with | .inr t => _ | .inl w => _) = _
  rw [h3]

theorem calPhases_three (h3 : afterPhase3 r m v = .inl w) :
    calPhases r m s = calEnd r stOk (msOf (w.clk.loc - r.start) % 65536) w := by
  show (match afterPhase1 r m (runOpened s) with | none => _ | some u => _) = _
  rw [h1]
  show (match afterPhase2 r m u with | none => _ | some v => _) = _
  rw [h2]
  show (match afterPhase3 r m v with | .inr t => _ | .inl w => _) = _
  rw [h3]

end

/-- R394: what is staged once phase 1 is through, or was not asked for. -/
theorem phase1_spec (r : CalRun) (m : CalMeas) (s : State) :
    (r.phases.getLsbD 0 = false ∨ RefGood m → ∃ c, afterPhase1 r m s = some { s with cal := c }
      ∧ c.trims = s.cal.trims ∧ c.ref = s.cal.ref ∧ (r.phases.getLsbD 0 = true → c.adc = some (m.adcGain, m.adcOffset)))
    ∧ (¬ (r.phases.getLsbD 0 = false ∨ RefGood m) → afterPhase1 r m s = none) := by
  unfold afterPhase1
  cases hb : r.phases.getLsbD 0 with
  | false => exact ⟨fun _ => ⟨s.cal, rfl, rfl, rfl, nofun⟩, fun h => absurd (.inl rfl) h⟩
  | true =>
    refine ⟨fun h => ?_, fun h => if_neg fun hg => h (.inr hg)⟩
    have hg : RefGood m := h.resolve_left nofun
    exact ⟨_, if_pos hg, rfl, rfl, fun _ => rfl⟩

/-- R394: what is staged once phase 2 is through, or was not asked for. -/
theorem phase2_spec (r : CalRun) (m : CalMeas) (s : State) :
    (r.phases.getLsbD 1 = false ∨ ResGood m → ∃ c, afterPhase2 r m s = some { s with cal := c }
      ∧ c.trims = s.cal.trims ∧ c.adc = s.cal.adc ∧ (r.phases.getLsbD 1 = true → c.ref = some (m.refTrim, m.refErr)))
    ∧ (¬ (r.phases.getLsbD 1 = false ∨ ResGood m) → afterPhase2 r m s = none) := by
  unfold afterPhase2
  cases hb : r.phases.getLsbD 1 with
  | false => exact ⟨fun _ => ⟨s.cal, rfl, rfl, rfl, nofun⟩, fun h => absurd (.inl rfl) h⟩
  | true =>
    refine ⟨fun h => ?_, fun h => if_neg fun hg => h (.inr hg)⟩
    have hg : ResGood m := h.resolve_left nofun
    exact ⟨_, if_pos hg, rfl, rfl, fun _ => rfl⟩

/-- R394: a failing phase ends the run, with its status and its place in the assay record. -/
theorem calFail_spec (r : CalRun) (phase : Nat) (tile st : Half) (s : State) :
    ∃ t, calFail r phase tile st s = finish 0x78 r.sub st 0 t ∧ t.cal.run = none ∧ t.cal.trims = s.cal.trims
      ∧ t.cal.adc = s.cal.adc ∧ ∃ a, t.cal.assay = some a ∧ a.failed = phase ∧ a.tile = tile :=
  ⟨_, rfl, rfl, rfl, rfl, _, rfl, rfl, rfl⟩

theorem runEnd_ends {s : State} {r : CalRun} {m : CalMeas} (hrun : s.cal.run = some r) (hr : r.running = true) :
    let i : Instr := .calRunEnd m
    let ok1 := r.phases.getLsbD 0 = false ∨ RefGood m
    let ok2 := r.phases.getLsbD 1 = false ∨ ResGood m
    let tile (t : Nat) : Nat := m.tilesNa.getD t 0
    (¬ ok1 → ∃ t, exec i s = .next (finish 0x78 r.sub stCalRefin 0 t)
        ∧ t.cal.run = none ∧ ∃ a, t.cal.assay = some a ∧ a.failed = 1)
    ∧ (ok1 → ¬ ok2 → ∃ t, exec i s = .next (finish 0x78 r.sub stCalCalres 0 t)
        ∧ t.cal.run = none ∧ (∃ a, t.cal.assay = some a ∧ a.failed = 2)
        ∧ (r.phases.getLsbD 0 = true → t.cal.adc = some (m.adcGain, m.adcOffset)))
    ∧ (ok1 → ok2 → r.phases.getLsbD 2 = true → (∃ k, k < 256 ∧ ∀ c, ¬ Fits (tile k) c) →
        ∃ t, exec i s = .next (finish 0x78 r.sub stCalTile 0 t) ∧ t.cal.run = none ∧ t.cal.trims = s.cal.trims
          ∧ ∃ a, t.cal.assay = some a ∧ a.failed = 3 ∧ a.tile.toNat < 256 ∧ ∀ c, ¬ Fits (tile a.tile.toNat) c)
    ∧ (ok1 → ok2 → (r.phases.getLsbD 2 = true → ∀ k, k < 256 → ∃ c, Fits (tile k) c) →
        ∃ t, exec i s = .next (finish 0x78 r.sub stOk (BitVec.ofNat 64 (msOf (s.clk.loc - r.start) % 65536)) t) ∧ t.cal.run = none
          ∧ (r.phases.getLsbD 1 = true → t.cal.ref = some (m.refTrim, m.refErr))
          ∧ (r.phases.getLsbD 2 = true → ∃ ts q, t.cal.trims = some (ts, q) ∧ ts.length = 256
              ∧ ∀ k, k < 256 → Fits (tile k) (ts.getD k 0).toInt)
          ∧ (r.phases.getLsbD 2 = false → t.cal.trims = s.cal.trims)) := by
  intro i ok1 ok2 tile
  have hx : exec i s = .next (calPhases r m s) := by
    show Host.Outcome.next (match s.cal.run with | some r => _ | none => _) = _
    rw [hrun]
    exact congrArg _ (if_pos hr)
  obtain ⟨hpass1, hfail1⟩ := phase1_spec r m (runOpened s)
  refine ⟨fun h => ?_, fun h1 => ?_, fun h1 => ?_, fun h1 => ?_⟩
  · obtain ⟨t, ht, hrun', -, -, a, ha, hfailed, -⟩ := calFail_spec r 1 0xFFFF stCalRefin (runOpened s)
    exact ⟨t, by rw [hx, calPhases_none (hfail1 h), ht], hrun', a, ha, hfailed⟩
  all_goals
    obtain ⟨c1, hc1, htrims1, -, hadc1⟩ := hpass1 h1
    obtain ⟨hpass2, hfail2⟩ := phase2_spec r m { runOpened s with cal := c1 }
    intro h2
  · obtain ⟨t, ht, hrun', -, hadc, a, ha, hfailed, -⟩ :=
      calFail_spec r 2 0xFFFF stCalCalres { runOpened s with cal := c1 }
    exact ⟨t, by rw [hx, calPhases_one hc1 (hfail2 h2), ht], hrun', ⟨a, ha, hfailed⟩, fun h => hadc.trans (hadc1 h)⟩
  all_goals
    obtain ⟨c2, hc2, htrims2, -, href2⟩ := hpass2 h2
    have htrims : c2.trims = s.cal.trims := htrims2.trans htrims1
  · intro h3 hno
    obtain ⟨n, hn, hn256, hnofit⟩ := phase3_fails hno { runOpened s with cal := c2 }
    obtain ⟨t, ht, hrun', htr, -, a, ha, hfailed, htile⟩ :=
      calFail_spec r 3 (BitVec.ofNat 16 n) stCalTile { runOpened s with cal := c2 }
    have ha16 : a.tile.toNat = n := by
      rw [htile, BitVec.toNat_ofNat]
      omega
    refine ⟨t, ?_, hrun', htr.trans htrims, a, ha, hfailed, by omega, by rw [ha16]; exact hnofit⟩
    rw [hx, calPhases_two hc1 hc2 ((if_pos h3).trans hn), ht]
  · intro hfit
    cases h3 : r.phases.getLsbD 2 with
    | false =>
      have hthree := calPhases_three hc1 hc2 (if_neg (by rw [h3]; decide) : afterPhase3 r m _ = .inl _)
      exact ⟨_, by rw [hx, hthree]; rfl, rfl, href2, nofun, fun _ => htrims⟩
    | true =>
      obtain ⟨ts, q, t, hp, hcal, hlen, hfits⟩ := phase3_passes (hfit h3) { runOpened s with cal := c2 }
      have hthree := calPhases_three hc1 hc2 ((if_pos h3).trans hp)
      rw [hcal] at hthree
      exact ⟨_, by rw [hx, hthree]; rfl, rfl, href2, fun _ => ⟨ts, q, rfl, hlen, hfits⟩, fun h => absurd h.symm (by decide)⟩

/-- Settles O32: one lemma for each command, and `runEnd_ends` for the end of a run. -/
theorem calibration : Obligations.Calibration :=
  ⟨fun _ _ => ⟨fun _ _ => calRun_starts, fun _ _ => calLoadMap_loads, calStore_starts, fun _ _ _ _ => calRead_reads⟩,
    fun _ _ _ => runEnd_ends⟩

end Sys2Proof.Laws
end


section
/-!
What a raise may do to the frame that is being built: nothing, or a fallback fill takes its place (R349).
-/
namespace Sys2Proof.Laws
open Sys2Proof.Machine Sys2Proof.Claims

/-- The frame's timing and what is written of it. -/
def draft (s : State) : Machine.Frm × List (Nat × Word) × Pho := (s.frm, s.arr.crcS, s.pho)

/-- A choice between two states. -/
@[simp] theorem draft_ite {c : Prop} {_ : Decidable c} (s t : State) :
    draft (if c then s else t) = if c then draft s else draft t := apply_ite ..

/-- A loop of steps that each keep it. -/
@[simp] theorem draft_foldl {α : Type} (f : State → α → State) (l : List α) (s : State)
    (h : ∀ t a, draft (f t a) = draft t) : draft (l.foldl f s) = draft s := by
  induction l generalizing s with
  | nil => rfl
  | cons a l ih => rw [List.foldl_cons, ih, h]

@[simp] theorem mapBus_draft (f : Bus → Bus) (s : State) : draft (s.mapBus f) = draft s := rfl
@[simp] theorem mapTrc_draft (f : Trc → Trc) (s : State) : draft (s.mapTrc f) = draft s := rfl
@[simp] theorem mapReg_draft (f : Reg → Reg) (s : State) : draft (s.mapReg f) = draft s := rfl
@[simp] theorem mapRng_draft (f : Rngs → Rngs) (s : State) : draft (s.mapRng f) = draft s := rfl
@[simp] theorem mapTm_draft (f : Machine.Team → Machine.Team) (s : State) : draft (s.mapTm f) = draft s := rfl
@[simp] theorem mapSaf_draft (f : Saf → Saf) (s : State) : draft (s.mapSaf f) = draft s := rfl
@[simp] theorem mapCal_draft (f : Cal → Cal) (s : State) : draft (s.mapCal f) = draft s := rfl
@[simp] theorem mapScn_draft (f : Scn → Scn) (s : State) : draft (s.mapScn f) = draft s := rfl
@[simp] theorem mapFlt_draft (f : Flt → Flt) (s : State) : draft (s.mapFlt f) = draft s := rfl
@[simp] theorem mapRing_draft (n : Nat) (f : Ring → Ring) (s : State) : draft (mapRing n f s) = draft s := rfl
@[simp] theorem mapPort_draft (p : Fin 4) (f : Port → Port) (s : State) : draft (mapPort p f s) = draft s := rfl
@[simp] theorem mapOrigin_draft (o : BitVec 10) (r : Nat) (f : OriginWindow → OriginWindow) (s : State) :
    draft (mapOrigin o r f s) = draft s := rfl
@[simp] theorem portEmit_draft (p : Fin 4) (r : Word) (b : Bool) (f : TFrame) (s : State) :
    draft (portEmit p r b f s) = draft s := rfl
@[simp] theorem logAdd_draft (k c : Nat) (t : Dword) (d : List Byte) (s : State) :
    draft (logAdd k c t d s) = draft s := rfl
@[simp] theorem logCompletion_draft (op : Nat) (o : Option (BitVec 10)) (c : Completion) (s : State) :
    draft (logCompletion op o c s) = draft s := rfl

@[simp] theorem portSend_draft (p : Fin 4) (f : TFrame) (s : State) : draft (portSend p f s) = draft s := by
  simp [portSend]
@[simp] theorem flood_draft (b : Bool) (e : Option (Fin 4)) (f : TFrame) (s : State) :
    draft (flood b e f s) = draft s := by
  simp [flood]
@[simp] theorem sendDown_draft (f : TFrame) (s : State) : draft (sendDown f s) = draft s := flood_draft ..
@[simp] theorem sendUp_draft (f : TFrame) (s : State) : draft (sendUp f s) = draft s := by
  unfold sendUp
  split <;> simp
@[simp] theorem cmdDown_draft (f : Forward) (b : Bool) (t : BitVec 11) (s : State) :
    draft (cmdDown f b t s) = draft s := by
  simp [cmdDown]

@[simp] theorem busSend_draft (o : BusOut) (s : State) : draft (busSend o s) = draft s := rfl
@[simp] theorem msixSend_draft (v : Nat) (s : State) : draft (msixSend v s) = draft s := by
  simp [msixSend]
@[simp] theorem intCause_draft (c : Nat) (s : State) : draft (intCause c s) = draft s := by
  simp [intCause]
@[simp] theorem eqModCheck_draft (s : State) : draft (eqModCheck s) = draft s := by
  simp [eqModCheck]
@[simp] theorem eqWrite_draft (e : Event) (s : State) : draft (eqWrite e s) = draft s := by
  simp [eqWrite]
@[simp] theorem forwardEvent_draft (e : Event) (s : State) : draft (forwardEvent e s) = draft s := by
  simp [forwardEvent]
@[simp] theorem emitAt_draft (t : Dword) (c : Nat) (d : List Byte) (s : State) : draft (emitAt t c d s) = draft s := by
  simp [emitAt]
@[simp] theorem emit_draft (c : Nat) (d : List Byte) (s : State) : draft (emit c d s) = draft s := emitAt_draft ..

@[simp] theorem cqModCheck_draft (n : Nat) (s : State) : draft (cqModCheck n s) = draft s := by
  simp [cqModCheck]
@[simp] theorem cqWrite_draft (op : Nat) (ioc : Bool) (c : Completion) (s : State) :
    draft (cqWrite op ioc c s) = draft s := by
  simp [cqWrite]
@[simp] theorem heldRelease_draft (op n : Nat) (ioc : Bool) (seq : Word) (s : State) :
    draft (heldRelease op n ioc seq s) = draft s := by
  unfold heldRelease
  dsimp only
  split <;> simp
@[simp] theorem mutedDone_draft (op : Nat) (sub : Sub) (st : Half) (res t : Dword) (s : State) :
    draft (mutedDone op sub st res t s) = draft s := by
  simp [mutedDone]
@[simp] theorem ownDone_draft (op : Nat) (sub : Sub) (st : Half) (res t : Dword) (s : State) :
    draft (ownDone op sub st res t s) = draft s := by
  simp [ownDone]
@[simp] theorem cplSend_draft (op : Nat) (o : BitVec 10) (d r : Bool) (a : List (BitVec 10)) (c : Completion) (s : State) :
    draft (cplSend op o d r a c s) = draft s := by
  unfold cplSend
  dsimp only
  split <;> simp
@[simp] theorem fwdSettle_draft (f : Forward) (s : State) : draft (fwdSettle f s) = draft s := by
  unfold fwdSettle
  dsimp only
  split
  · split <;> simp
  · simp
@[simp] theorem fwdMark_draft (f : Option Forward) (e : BitVec 10) (g : TargetState → TargetState) (s : State) :
    draft (fwdMark f e g s) = draft s := by
  unfold fwdMark
  split <;> simp
@[simp] theorem fwdTarget_draft (o : Option (BitVec 10)) (r : Nat) (q : Word) (e : BitVec 10) (g : TargetState → TargetState)
    (s : State) : draft (fwdTarget o r q e g s) = draft s := by
  simp [fwdTarget]
@[simp] theorem otherDone_draft (op : Nat) (sub : Sub) (o : BitVec 10) (st : Half) (res t : Dword) (s : State) :
    draft (otherDone op sub o st res t s) = draft s := by
  simp [otherDone]

@[simp] theorem finishAt_draft (op : Nat) (sub : Sub) (st : Half) (res t : Dword) (s : State) :
    draft (finishAt op sub st res t s) = draft s := by
  unfold finishAt
  dsimp only
  split
  · simp
  · split <;> simp
@[simp] theorem finish_draft (op : Nat) (sub : Sub) (st : Half) (res : Dword) (s : State) :
    draft (finish op sub st res s) = draft s := finishAt_draft ..
@[simp] theorem keepRunning_draft (sub : Sub) (s : State) : draft (keepRunning sub s) = draft s := by
  unfold keepRunning
  split <;> simp

@[simp] theorem safetyEmit_draft (f : Word) (st scene : Nat) (m : BitVec 12) (s : State) :
    draft (safetyEmit f st scene m s) = draft s := by simp [safetyEmit]
@[simp] theorem safetyEvent_draft (f : Word) (st scene : Nat) (m : BitVec 12) (s : State) :
    draft (safetyEvent f st scene m s) = draft s := by simp [safetyEvent]
@[simp] theorem stateFlood_draft (k : Nat) (d : List Byte) (s : State) : draft (stateFlood k d s) = draft s := by
  simp [stateFlood]
@[simp] theorem safetyNote_draft (b : BitVec 12) (s : State) : draft (safetyNote b s) = draft s := by
  simp [safetyNote]
@[simp] theorem darkAdd_draft (c : DarkCause) (s : State) : draft (darkAdd c s) = draft s := rfl
@[simp] theorem latchFirst_draft (src sev : Nat) (t : Dword) (s : State) : draft (latchFirst src sev t s) = draft s := rfl
@[simp] theorem pinAssert_draft (s : State) : draft (pinAssert s) = draft s := rfl
@[simp] theorem latchSet_draft (src sev : Nat) (s : State) : draft (latchSet src sev s) = draft s := rfl

/-! ### A fill in place of the composition -/

/-- R349: `d'` is the decision of a fallback fill in place of the composition that `d` decided. -/
structure InPlace (s : State) (d d' : Decision) : Prop where
  composed : d.fallback = false
  fallback : d'.fallback = true
  marks : d'.demanded = d.demanded ∨ d'.demanded = s.demanded
  added : d'.added = d.added
  road : d'.road = d.road
  geom : d'.geom = d.geom
  limit : d'.limit = d.limit

/-- A fallback fill has taken the place of the composition. -/
def Refilled (s t : State) : Prop :=
  (∃ d d', s.frm.dec = some d ∧ t.frm.dec = some d' ∧ InPlace s d d') ∧ t.frm.rows = 0 ∧ t.arr.crcS = []

/-- What reports do to the frame that is being built. -/
def Reported (s t : State) : Prop := steady t = steady s ∧ (draft t = draft s ∨ Refilled s t)

theorem Reported.of_draft {s t : State} (hs : steady t = steady s) (h : draft t = draft s) : Reported s t := ⟨hs, .inl h⟩

theorem Reported.refl (s : State) : Reported s s := .of_draft rfl rfl

theorem demanded_of_steady {s t : State} (h : steady t = steady s) : t.demanded = s.demanded := by
  have hd (u : State) : (steady u).demanded = u.demanded := rfl
  rw [← hd t, h, hd]

theorem Reported.trans {s t u : State} (h : Reported s t) (h' : Reported t u) : Reported s u := by
  obtain ⟨hs, hd⟩ := h
  obtain ⟨hs', hd'⟩ := h'
  refine ⟨hs'.trans hs, ?_⟩
  rcases hd with hd | ⟨⟨d, e, hdec, hdec', hin⟩, hrows, hcrc⟩
  · rcases hd' with hd' | ⟨⟨d, e, hdec, hdec', hin⟩, hrows, hcrc⟩
    · exact .inl (hd'.trans hd)
    · have hdec0 : t.frm.dec = s.frm.dec := congrArg (fun x => x.1.dec) hd
      refine .inr ⟨⟨d, e, hdec0 ▸ hdec, hdec', ?_⟩, hrows, hcrc⟩
      exact { hin with marks := demanded_of_steady hs ▸ hin.marks }
  · rcases hd' with hd' | ⟨⟨d2, e2, hdec2, -, hin2⟩, -, -⟩
    · have hfrm : u.frm = t.frm := congrArg (fun x => x.1) hd'
      have hcrc' : u.arr.crcS = t.arr.crcS := congrArg (fun x => x.2.1) hd'
      exact .inr ⟨⟨d, e, hdec, by rw [hfrm]; exact hdec', hin⟩, by rw [hfrm]; exact hrows, by rw [hcrc']; exact hcrc⟩
    · have heq : d2 = e := Option.some.inj (hdec2.symm.trans hdec')
      rw [heq] at hin2
      exact absurd hin2.composed (by rw [hin.fallback]; decide)

theorem Reported.foldl {α : Type} (f : State → α → State) (l : List α) (s : State) (h : ∀ t a, Reported t (f t a)) :
    Reported s (l.foldl f s) := by
  induction l generalizing s with
  | nil => exact .refl s
  | cons a l ih => exact (h s a).trans (ih _)

theorem fillInstead_reported (m : Bool) (s : State) : Reported s (fillInstead m s) := by
  refine ⟨steady_fillInstead .., ?_⟩
  unfold fillInstead
  split
  · exact .inl rfl
  · next d hd =>
    split
    · next hc =>
      have hf : d.fallback = false := by
        simp only [Bool.and_eq_true, Bool.not_eq_true'] at hc
        exact hc.1.1.2
      refine .inr ⟨⟨d, _, hd, rfl, hf, rfl, ?_, rfl, rfl, rfl, rfl⟩, rfl, rfl⟩
      cases m with
      | true => exact .inr rfl
      | false => exact .inl rfl
    · exact .inl rfl

theorem calAbort_reported (s : State) : Reported s (calAbort s) := by
  unfold calAbort
  split
  · exact .refl s
  · next r _ =>
    refine Reported.trans (.of_draft ?_ ?_) (fillInstead_reported true _)
    · exact (steady_finish ..).trans rfl
    · exact (finish_draft ..).trans (mapCal_draft ..)

theorem calLeave_reported (s : State) : Reported s (calLeave s) :=
  (Reported.of_draft rfl rfl : Reported s (s.mapCal fun c => { c with flat := none })).trans (calAbort_reported _)

theorem causeArise_reported (b : BitVec 12) (s : State) : Reported s (causeArise b s) := by
  unfold causeArise
  dsimp only
  split
  · exact .refl s
  · refine (calAbort_reported s).trans ?_
    have hnote (t : State) : Reported t (safetyNote b t) := .of_draft (steady_safetyNote ..) (safetyNote_draft ..)
    split
    · exact hnote _
    · exact (fillInstead_reported false _).trans (hnote _)

/-- R349, R358: what a raise does to the frame that is being built. -/
theorem raiseMin_reported (src m : Nat) (d : List Byte) (s : State) : Reported s (raiseMin src m d s) := by
  rw [raiseMin]
  dsimp only
  split
  · exact .refl s
  · refine Reported.trans ?_ (causeArise_reported ..)
    have hbase {w : State} (hs : steady w = steady s) (hd : draft w = draft s) :
        Reported s (if (decide (5 ≤ s.sevOf src m) && sevActs src) = true then calLeave w else w) := by
      split
      · exact (Reported.of_draft hs hd).trans (calLeave_reported w)
      · exact .of_draft hs hd
    exact hbase (by simp) (by simp)

theorem raise_reported (src : Nat) (d : List Byte) (s : State) : Reported s (raise src d s) := raiseMin_reported ..

theorem raiseAll_reported (l : List Raise) (s : State) : Reported s (raiseAll l s) :=
  Reported.foldl _ _ s fun _ _ => raiseMin_reported ..

end Sys2Proof.Laws
end


section
/-!
The building of a frame: cut-off, composition start, rows, the end of a composition, the guard, the scan of A (O43).
-/
namespace Sys2Proof.Laws
open Sys2Proof.Machine Sys2Proof.Claims

/-! ### The end of a composition (R36, R47, R73) -/

theorem frameEvent_frame (bit code : Nat) (d : List Byte) (s : State) : ∃ lg bus rng reg tm trc,
    frameEvent bit code d s = { s with lg := lg, bus := bus, rng := rng, reg := reg, tm := tm, trc := trc } := by
  unfold frameEvent
  split
  · exact ⟨_, _, _, _, _, _, emit_frame ..⟩
  · exact ⟨s.lg, s.bus, s.rng, s.reg, s.tm, s.trc, rfl⟩

/-- R73: a predicted rise raises v_set, and nothing else. -/
theorem vledEarly_frame (c : CompSet) (s : State) : ∃ v, vledEarly c s = s.mapHk (fun h => { h with vSet := v }) ∧ s.hk.vSet ≤ v := by
  have hite {p : Bool} {u : State} (h : ∃ v, u = s.mapHk (fun h => { h with vSet := v }) ∧ s.hk.vSet ≤ v) :
      ∃ v, (if p then u else s) = s.mapHk (fun h => { h with vSet := v }) ∧ s.hk.vSet ≤ v := by
    cases p with
    | true => exact h
    | false => exact ⟨s.hk.vSet, rfl, Nat.le_refl _⟩
  exact hite ⟨_, rfl, Nat.le_max_left ..⟩

theorem composeDoneOp_spec (c : CompSet) (s : State) : (composeDoneOp c s).frm = { s.frm with compDone := true }
    ∧ (composeDoneOp c s).arr = s.arr ∧ (composeDoneOp c s).pho = s.pho ∧ s.hk.vSet ≤ (composeDoneOp c s).hk.vSet := by
  let u := s.mapFrm fun f => { f with compDone := true }
  obtain ⟨lg, bus, rng, reg, tm, trc, he⟩ := frameEvent_frame 3 evComposeDone
    (b4 c.frame.toNat ++ b4 (s.clk.loc - s.frm.compStart)
      ++ b4 (s.frm.tickLoc + s.frm.period - 1000 * s.frm.params.tGuard - s.clk.loc)) u
  obtain ⟨v, hv, hle⟩ := vledEarly_frame c { u with lg := lg, bus := bus, rng := rng, reg := reg, tm := tm, trc := trc }
  have hx : composeDoneOp c s = _ := (congrArg (vledEarly c) he).trans hv
  rw [hx]
  exact ⟨rfl, rfl, rfl, hle⟩

theorem composeDone_ends (s : State) :
    let here := s.ticking = true ∧ s.frm.compOn = true ∧ s.frm.compDone = false ∧ s.frm.blank = false
      ∧ s.frm.comp ≠ none ∧ 512 ≤ s.frm.rows
    (¬ here → exec .composeDone s = .next s)
    ∧ (here → ∃ t, exec .composeDone s = .next t
      ∧ t.frm = { s.frm with compDone := true } ∧ t.arr = s.arr ∧ t.pho = s.pho ∧ s.hk.vSet ≤ t.hk.vSet) := by
  intro here
  have hcond : (s.ticking && s.composeEnds && !s.frm.blank) = true
      ↔ s.ticking = true ∧ s.frm.compOn = true ∧ s.frm.compDone = false ∧ s.frm.blank = false ∧ 512 ≤ s.frm.rows := by
    simp only [State.composeEnds, Bool.and_eq_true, Bool.not_eq_true', decide_eq_true_eq]
    tauto
  cases hc : s.frm.comp with
  | none =>
    have hx : exec .composeDone s = .next s := by
      show Host.Outcome.next (match s.frm.comp with | some c => _ | none => s) = _
      rw [hc]
    exact ⟨fun _ => hx, fun h => absurd hc h.2.2.2.2.1⟩
  | some c =>
    have hx : exec .composeDone s
        = .next (if s.ticking && s.composeEnds && !s.frm.blank then composeDoneOp c s else s) := by
      show Host.Outcome.next (match s.frm.comp with | some c => _ | none => s) = _
      rw [hc]
    refine ⟨fun h => hx.trans (congrArg _ (if_neg fun hh => h ?_)), fun h => ⟨_, hx.trans (congrArg _ (if_pos (hcond.mpr ?_))),
      composeDoneOp_spec c s⟩⟩
    · obtain ⟨h1, h2, h3, h4, h5⟩ := hcond.mp hh
      exact ⟨h1, h2, h3, h4, by rw [hc]; exact nofun, h5⟩
    · obtain ⟨h1, h2, h3, h4, -, h5⟩ := h
      exact ⟨h1, h2, h3, h4, h5⟩

/-! ### The guard (R42, R88, R98) -/

/-- R36, R48: before the guard a composition whose last row is written is complete. -/
theorem doneFirst_spec (s : State) : ∃ b, (doneFirst s).frm = { s.frm with compDone := b } ∧ (doneFirst s).pho = s.pho
    ∧ (∀ c d, s.frm.compOn = true → 512 ≤ s.frm.rows → s.frm.comp = some c → s.frm.dec = some d → d.skipRep = false →
        b = true) := by
  unfold doneFirst
  cases hc : s.frm.comp with
  | none => exact ⟨s.frm.compDone, rfl, rfl, fun _ _ _ _ h => by cases h⟩
  | some c =>
    dsimp only
    split
    · obtain ⟨hfrm, -, hpho, -⟩ := composeDoneOp_spec c s
      exact ⟨true, hfrm, hpho, fun _ _ _ _ _ _ _ => rfl⟩
    · next h =>
      refine ⟨s.frm.compDone, rfl, rfl, fun _ d hon hrows _ hd hs => ?_⟩
      cases hdone : s.frm.compDone with
      | true => rfl
      | false => exact absurd (by simp [State.composeEnds, hon, hrows, hdone, hd, hs]) h

/-- R42: the verdict of a guard on the state in which its period is blank. -/
def guardVerdict (bad : Bool) (s : State) : State :=
  if (s.frm.dec.map Decision.skipRep).getD false || s.frm.sleepTicks then s
  else if s.frm.rows < 512 || !s.frm.compOn then underrun s
  else match s.frm.comp with
    | none => s
    | some c => if (if bad then divisionResidue c s else s).frameGood then fixFrame c (if bad then divisionResidue c s else s)
      else if bad then divisionResidue c s else s

theorem guardOp_verdict (bad : Bool) (s : State) : ∃ u b, guardOp bad s = guardVerdict bad u
    ∧ u.frm = { s.frm with compDone := b, blank := true } ∧ u.pho = s.pho
    ∧ (∀ c d, s.frm.compOn = true → 512 ≤ s.frm.rows → s.frm.comp = some c → s.frm.dec = some d → d.skipRep = false →
        b = true) := by
  obtain ⟨b, hfrm, hpho, hdone⟩ := doneFirst_spec s
  let v := (doneFirst s).mapFrm fun f => { f with blank := true }
  obtain ⟨lg, bus, rng, reg, tm, trc, he⟩ := frameEvent_frame 4 evBlank (b4 v.nextFrame.toNat) v
  refine ⟨frameEvent 4 evBlank (b4 v.nextFrame.toNat) v, b, rfl, ?_, ?_, hdone⟩
  · rw [he]
    show ({ (doneFirst s).frm with blank := true } : Machine.Frm) = _
    rw [hfrm]
  · rw [he]
    exact hpho

/-- R42: an underrun in the blank part of a period. -/
theorem underrun_spec {s : State} (hb : s.frm.blank = true) : (underrun s).frm = { s.frm with under := true }
    ∧ (underrun s).pho.fixed = s.pho.fixed := by
  unfold underrun
  dsimp only
  constructor
  · exact still_frm ((raiseMin_still ..).trans (emit_still ..)) (.inr hb)
  · exact congrArg (fun x => x.pho.fixed) ((steady_raiseMin ..).trans (steady_emit ..))

/-- R93: a wrong residue in the blank part of a period bars the frame. -/
theorem divisionResidue_spec {s : State} (c : CompSet) (hb : s.frm.blank = true) :
    (divisionResidue c s).frm = { s.frm with fail := s.frm.fail.or (some .residue) }
      ∧ (divisionResidue c s).pho.fixed = s.pho.fixed := by
  let d := b1 7 ++ b1 0 ++ b2 (Config.freePick s.draw.1) ++ b2 0xFFFF ++ b2 0 ++ b4 c.frame.toNat
  have hfrm : (raise fPipeResidue d s.draw.2).frm = s.frm := still_frm (s := s.draw.2) (raise_still ..) (.inr hb)
  constructor
  · show ({ (raise fPipeResidue d s.draw.2).frm with fail := (raise fPipeResidue d s.draw.2).frm.fail.or (some .residue) }
      : Machine.Frm) = _
    rw [hfrm]
  · exact (congrArg (fun x => x.pho.fixed) (steady_raise fPipeResidue d s.draw.2)).trans rfl

theorem guardStart_blanks (s : State) (bad : Bool) :
    (s.ticking = false ∨ s.frm.blank = true → exec (.guardStart bad) s = .next s)
    ∧ (s.ticking = true → s.frm.blank = false → ∃ t, exec (.guardStart bad) s = .next t
        ∧ t.frm.blank = true ∧ t.arr.a = s.arr.a ∧ t.arr.s = s.arr.s ∧ t.frm.shown = s.frm.shown
        ∧ t.pho.curb = s.pho.curb ∧ t.frm.rows = s.frm.rows
        ∧ (s.frm.sleepTicks = true ∨ (∃ d, s.frm.dec = some d ∧ d.skipRep = true) →
            t.frm.under = s.frm.under ∧ t.pho.fixed = s.pho.fixed)
        ∧ (s.frm.sleepTicks = false → (∀ d, s.frm.dec = some d → d.skipRep = false) →
            (s.frm.rows < 512 ∨ s.frm.compOn = false → t.frm.under = true ∧ t.pho.fixed = s.pho.fixed)
            ∧ (∀ c d, s.frm.compOn = true → s.frm.rows = 512 → s.frm.comp = some c → s.frm.dec = some d →
                t.frm.under = s.frm.under ∧ t.frm.compDone = true
                ∧ (bad = false → s.frm.fail = none → t.frm.fail = none ∧ t.pho.fixed = s.curbFor c)
                ∧ (bad = true ∨ s.frm.fail ≠ none → t.frm.fail ≠ none ∧ t.pho.fixed = s.pho.fixed)))) := by
  refine ⟨fun h => congrArg Host.Outcome.next (if_pos ?_), fun ht hb => ⟨guardOp bad s, congrArg Host.Outcome.next (if_neg ?_), ?_⟩⟩
  · rcases h with h | h <;> simp [h]
  · simp [ht, hb]
  have hview := guardOp_view bad s
  have hblank : (guardOp bad s).frm.blank = true := congrArg TickView.blank hview
  have ha : (guardOp bad s).arr.a = s.arr.a := congrArg TickView.rowsA hview
  have hs : (guardOp bad s).arr.s = s.arr.s := congrArg TickView.rowsS hview
  have hshown : (guardOp bad s).frm.shown = s.frm.shown := congrArg TickView.shown hview
  have hcurb : (guardOp bad s).pho.curb = s.pho.curb := congrArg TickView.curb hview
  refine ⟨hblank, ha, hs, hshown, hcurb, ?_⟩
  obtain ⟨u, b, hu, hfrm, hpho, hdone⟩ := guardOp_verdict bad s
  rw [hu]
  clear hview hblank ha hs hshown hcurb hu
  have hub : u.frm.blank = true := by rw [hfrm]
  have hrows : u.frm.rows = s.frm.rows := by rw [hfrm]
  have hunder : u.frm.under = s.frm.under := by rw [hfrm]
  have hfixed : u.pho.fixed = s.pho.fixed := by rw [hpho]
  have hskip : ((u.frm.dec.map Decision.skipRep).getD false || u.frm.sleepTicks) = true
      ↔ s.frm.sleepTicks = true ∨ ∃ d, s.frm.dec = some d ∧ d.skipRep = true := by
    rw [hfrm]
    dsimp only
    cases s.frm.dec <;> simp [or_comm]
  have hlow : (decide (u.frm.rows < 512) || !u.frm.compOn) = true ↔ s.frm.rows < 512 ∨ s.frm.compOn = false := by
    rw [hfrm]
    simp
  obtain ⟨hufrm, hufix⟩ := underrun_spec hub
  unfold guardVerdict
  by_cases h1 : s.frm.sleepTicks = true ∨ ∃ d, s.frm.dec = some d ∧ d.skipRep = true
  · rw [if_pos (hskip.mpr h1)]
    refine ⟨hrows, fun _ => ⟨hunder, hfixed⟩, fun hsl hd => ?_⟩
    rcases h1 with h1 | ⟨d, hdec, hrep⟩
    · exact absurd h1 (by rw [hsl]; decide)
    · exact absurd hrep (by rw [hd d hdec]; decide)
  rw [if_neg (mt hskip.mp h1)]
  by_cases h2 : s.frm.rows < 512 ∨ s.frm.compOn = false
  · rw [if_pos (hlow.mpr h2), hufrm]
    refine ⟨hrows, fun h => absurd h h1, fun _ _ => ⟨fun _ => ⟨rfl, hufix.trans hfixed⟩, fun c d hon h512 => ?_⟩⟩
    rcases h2 with h2 | h2
    · omega
    · exact absurd hon (by rw [h2]; decide)
  rw [if_neg (mt hlow.mp h2)]
  have hcomp : u.frm.comp = s.frm.comp := by rw [hfrm]
  rw [hcomp]
  cases hc : s.frm.comp with
  | none => exact ⟨hrows, fun h => absurd h h1, fun _ _ => ⟨fun h => absurd h h2, fun _ _ _ _ h => by cases h⟩⟩
  | some c =>
    obtain ⟨v, hv, hvfrm, hvfix, hvpho⟩ : ∃ v, (if bad then divisionResidue c u else u) = v
        ∧ v.frm = { u.frm with fail := if bad then u.frm.fail.or (some .residue) else u.frm.fail }
        ∧ v.pho.fixed = s.pho.fixed ∧ (bad = false → v.pho = s.pho) := by
      cases bad with
      | false => exact ⟨u, rfl, rfl, hfixed, fun _ => hpho⟩
      | true =>
        obtain ⟨hf, hp⟩ := divisionResidue_spec c hub
        exact ⟨_, rfl, hf, hp.trans hfixed, nofun⟩
    dsimp only
    rw [hv]
    have hfrm' : v.frm = { s.frm with
        compDone := b, blank := true, fail := if bad then s.frm.fail.or (some .residue) else s.frm.fail } := by
      rw [hvfrm, hfrm]
    have hgood : v.frameGood = true → bad = false ∧ s.frm.fail = none := by
      intro hg
      have hnone : v.frm.fail.isNone = true := by
        simp only [State.frameGood, Bool.and_eq_true] at hg
        exact hg.1.2
      rw [hfrm'] at hnone
      cases bad with
      | false => exact ⟨rfl, Option.isNone_iff_eq_none.mp hnone⟩
      | true => cases hf : s.frm.fail <;> simp [hf] at hnone
    have hfrmT : (if v.frameGood then fixFrame c v else v).frm = v.frm := by split <;> rfl
    rw [hfrmT, hfrm']
    refine ⟨rfl, fun h => absurd h h1, fun _ _ => ⟨fun h => absurd h h2, fun c' d hon hr hc' hd => ?_⟩⟩
    have hrep : d.skipRep = false := by
      cases hs : d.skipRep with
      | false => rfl
      | true => exact absurd (.inr ⟨d, hd, hs⟩) h1
    have hb' : b = true := hdone c d hon (by omega) hc hd hrep
    obtain rfl : c = c' := Option.some.inj hc'
    refine ⟨rfl, hb', fun hbad hf => ?_, fun hbar => ?_⟩
    · subst hbad
      have hg : v.frameGood = true := by
        unfold State.frameGood
        rw [hfrm']
        simp [hon, hr, hb', hf, hd, hrep]
      rw [if_pos hg]
      refine ⟨hf, ?_⟩
      show v.curbFor c = s.curbFor c
      unfold State.curbFor
      rw [hvpho rfl]
    · have hg : ¬ v.frameGood = true := fun hg => by
        obtain ⟨hbad, hf⟩ := hgood hg
        rcases hbar with h | h
        · rw [hbad] at h
          cases h
        · exact h hf
      rw [if_neg hg]
      refine ⟨?_, hvfix⟩
      rcases hbar with h | h
      · rw [if_pos h]
        cases s.frm.fail <;> exact nofun
      · split
        · cases hf : s.frm.fail with
          | none => exact absurd hf h
          | some w => exact nofun
        · exact h

/-! ### The scan of A and the start of a composition (R36, R79) -/

theorem aScanRow_scans (s : State) (r : Fin 512) (w : Option Word) :
    let kept := (alGet s.arr.crcA r.val).getD 0
    (s.ticking = false ∨ s.frm.shown = none ∨ w = none ∨ w = some kept → exec (.aScanRow r w) s = .next s)
    ∧ (∀ h v, s.ticking = true → s.frm.shown = some h → w = some v → v ≠ kept →
        exec (.aScanRow r w) s = .next (raise fRowCrc
          ([1, 0] ++ leBytes r.val 2 ++ leBytes h.frame.toNat 4 ++ leBytes kept.toNat 4 ++ leBytes v.toNat 4) s)) := by
  intro kept
  have hx : exec (.aScanRow r w) s = .next (match s.frm.shown, w with
      | some h, some w => if (!s.ticking || decide (w = kept)) = true then s else
          raise fRowCrc (b1 1 ++ b1 0 ++ b2 r.val ++ b4 h.frame.toNat ++ b4 kept.toNat ++ b4 w.toNat) s
      | _, _ => s) := rfl
  rw [hx]
  cases hs : s.frm.shown with
  | none => exact ⟨fun _ => rfl, fun _ _ _ h => by cases h⟩
  | some h =>
    cases w with
    | none => exact ⟨fun _ => rfl, fun _ _ _ _ h => by cases h⟩
    | some v =>
      refine ⟨fun hn => congrArg Host.Outcome.next (if_pos ?_), fun h' v' ht hh hv hne => ?_⟩
      · rcases hn with hn | hn | hn | hn
        · simp [hn]
        · cases hn
        · cases hn
        · cases hn
          simp
      · cases hh
        cases hv
        exact congrArg Host.Outcome.next (if_neg (by simp [ht, hne]))

theorem compositionStart_begins (s : State) :
    let here := s.ticking = true ∧ s.frm.cutDone = true ∧ s.frm.compOn = false ∧ s.frm.blank = false
      ∧ ∃ d, s.frm.dec = some d ∧ d.skipRep = false
    (¬ here → exec .compositionStart s = .next s)
    ∧ (here → ∃ t c, exec .compositionStart s = .next t
      ∧ t.frm.compOn = true ∧ t.frm.rows = 0 ∧ t.frm.compStart = s.clk.loc ∧ t.frm.dec = s.frm.dec
      ∧ t.frm.fail = (if s.frm.cutTest = some false then some .cutoff else none)
      ∧ t.pho.aH = 0 ∧ t.pho.aN = 0 ∧ t.arr.crcS = [] ∧ t.arr.a = s.arr.a ∧ t.frm.comp = some c
      ∧ c.frame = s.nextFrame ∧ c.n = s.frm.params.dutyN ∧ c.iLimit = s.frm.params.iLimit
      ∧ c.bottomUp = s.frm.params.bottomUp ∧ c.alpha = s.pho.alpha) := by
  intro here
  have hstop : (!s.ticking || !s.frm.cutDone || s.frm.compOn || s.frm.blank || (s.frm.dec.map Decision.skipRep).getD true) = true
      ↔ ¬ here := by
    show _ ↔ ¬ (s.ticking = true ∧ s.frm.cutDone = true ∧ s.frm.compOn = false ∧ s.frm.blank = false
      ∧ ∃ d, s.frm.dec = some d ∧ d.skipRep = false)
    cases s.ticking <;> cases s.frm.cutDone <;> cases s.frm.compOn <;> cases s.frm.blank <;> cases s.frm.dec <;> simp
  refine ⟨fun h => congrArg Host.Outcome.next (if_pos (hstop.mpr h)), fun h => ⟨_, (clearWrite s).compSet,
    congrArg Host.Outcome.next (if_neg fun hs => hstop.mp hs h), rfl, rfl, rfl, rfl, rfl, rfl, rfl, rfl, rfl, rfl, rfl, rfl, rfl, rfl,
    rfl⟩⟩

/-! ### Rows entering S (R76, R77, R114, R116, R137, R344) -/

/-- What the fetching of a row leaves: the array, and of the frame its rows, its verdict, its path, and what is shown. -/
def penned (s : State) : Arr × Nat × Option BarWhy × Option Bool × Option Shown :=
  (s.arr, s.frm.rows, s.frm.fail, s.frm.dec.map Decision.fallback, s.frm.shown)

theorem penned_foldl_snd {α β : Type} (f : β × State → α → β × State) (l : List α) (q : β × State)
    (h : ∀ t a, penned (f t a).2 = penned t.2) : penned (l.foldl f q).2 = penned q.2 := by
  induction l generalizing q with
  | nil => rfl
  | cons a l ih => rw [List.foldl_cons, ih, h]

theorem frameCe_penned (kind layer : Nat) (frame : Word) (units : List Nat) (q : List Raise × State) :
    penned (frameCe kind layer frame units q).2 = penned q.2 := by
  refine (penned_foldl_snd _ _ _ ?_).trans rfl
  exact fun _ _ => rfl

theorem lineFetch_penned (i : Nat) (l : LayerCfg) (u : LayerUse) (y : Nat) (s : State) :
    penned (lineFetch i l u y s) = penned s := by
  unfold lineFetch
  split <;> rfl

theorem ctfNote_penned (i : Nat) (bad : List (Nat × Nat)) (s : State) : penned (ctfNote i bad s) = penned s := by
  unfold ctfNote
  split <;> rfl

/-- R136, R137: a memory error makes the layer transparent, or the frame a repeat; the frame's path stays. -/
theorem layerError_penned (frame : Word) (i : Nat) (us : List Nat) (q : List Raise × State) :
    penned (layerError frame i us q).2 = penned q.2 := by
  unfold layerError
  dsimp only
  refine (penned_foldl_snd _ _ _ ?_).trans ?_
  · exact fun _ _ => rfl
  split
  · rfl
  · next d hd =>
    have hdec : q.2.frm.dec = some d := hd
    split
    · show (_, _, _, some d.fallback, _) = (_, _, _, q.2.frm.dec.map Decision.fallback, _)
      rw [hdec]
      rfl
    · rfl

theorem layerFetch_penned (frame : Word) (d : Decision) (y i : Nat) (l : LayerCfg) (q : List Raise × State) :
    penned (layerFetch frame d y i l q).2 = penned q.2 := by
  unfold layerFetch
  dsimp only
  split
  · rfl
  · split
    · exact (lineFetch_penned ..).trans ((ctfNote_penned ..).trans (frameCe_penned ..))
    · exact (layerError_penned ..).trans (frameCe_penned ..)

theorem rowFetch_penned (frame : Word) (d : Decision) (y : Nat) (q : List Raise × State) :
    penned (rowFetch frame d y q).2 = penned q.2 := by
  unfold rowFetch
  split
  · rfl
  · refine penned_foldl_snd _ _ _ fun t i => ?_
    split
    · rfl
    · exact layerFetch_penned ..

theorem mapErrors_penned (frame : Word) (y : Nat) (q : List Raise × State) : penned (mapErrors frame y q).2 = penned q.2 := by
  unfold mapErrors
  refine (penned_foldl_snd _ _ _ ?_).trans (frameCe_penned ..)
  exact fun _ _ => rfl

theorem fallbackRow_penned (d : Decision) (y : Nat) (bad : Bool) (s : State) : penned (fallbackRow d y bad s).2.2 = penned s := by
  unfold fallbackRow
  dsimp only
  (repeat' split) <;> rfl

/-- R175: a write through a handle changes the pool. -/
theorem poolWrite_pool (h : Handle) (fuel off : Nat) (bs : List Byte) (s : State) :
    ∃ p, poolWrite h fuel off bs s = { s with pool := p } := by
  induction fuel generalizing off bs s with
  | zero => exact ⟨s.pool, rfl⟩
  | succ fuel ih =>
    unfold poolWrite
    split
    · exact ⟨s.pool, rfl⟩
    · obtain ⟨p, hp⟩ := ih (off + (65536 - off % 65536)) (bs.drop (65536 - off % 65536))
        (memWrite (h.addr off) (bs.take (65536 - off % 65536)) s)
      exact ⟨p, hp⟩

theorem captureRow_penned (d : Decision) (y : Nat) (blend codes : List Nat) (s : State) :
    penned (captureRow d y blend codes s) = penned s := by
  unfold captureRow
  split
  · rfl
  · dsimp only
    split
    · rfl
    · split
      · rfl
      · split
        · rfl
        · next surf _ _ h _ =>
          generalize List.flatMap b2 _ = data
          obtain ⟨p, hp⟩ := poolWrite_pool h 2 (surf.desc.offset.toNat + y * surf.desc.pitch.toNat) data s
          rw [hp]
          rfl

theorem cutoffNote_penned (c : CompSet) (d : Decision) (y : Nat) (codes : List Nat) (o : RowObs) (kinds : List Nat) (s : State) :
    penned (cutoffNote c d y codes o kinds s) = penned s := by
  unfold cutoffNote
  split
  · rfl
  · dsimp only
    split <;> rfl

/-- R42, R78: the first reason bars the frame. -/
theorem bar_foldl (l : List (BarWhy × Raise)) (s : State) : penned (l.foldl (fun s x => bar x.1 s) s) =
    (s.arr, s.frm.rows, s.frm.fail.or (l.head?.map Prod.fst), s.frm.dec.map Decision.fallback, s.frm.shown) := by
  induction l generalizing s with
  | nil => simp [penned]
  | cons x l ih =>
    rw [List.foldl_cons, ih]
    cases hf : s.frm.fail <;> simp [bar, State.mapFrm, hf]

theorem rowChecks_penned (c : CompSet) (d : Decision) (y r : Nat) (codes out : List Nat) (o : RowObs) (s : State) :
    penned (rowChecks c d y r codes out o s).2 = (s.arr, s.frm.rows,
      s.frm.fail.or ((s.rowFinds c d y r codes o).head?.map Prod.fst), s.frm.dec.map Decision.fallback, s.frm.shown) := by
  unfold rowChecks
  dsimp only
  exact Eq.trans rfl ((cutoffNote_penned ..).trans (bar_foldl ..))

/-- R77: a read-back that differs from the CRC kept is found. -/
theorem rowFinds_readBack {c : CompSet} {d : Decision} {y r : Nat} {codes : List Nat} {o : RowObs} {s : State} {w v : Word}
    (ho : o.readBack = some w) (hk : alGet s.arr.crcS y = some v) (hne : w ≠ v) : s.rowFinds c d y r codes o ≠ [] := by
  unfold State.rowFinds
  rw [ho, hk]
  dsimp only [Option.getD]
  rw [if_neg hne]
  exact nofun

theorem frameEvent_penned (bit code : Nat) (d : List Byte) (s : State) : penned (frameEvent bit code d s) = penned s := by
  obtain ⟨lg, bus, rng, reg, tm, trc, h⟩ := frameEvent_frame bit code d s
  rw [h]
  rfl

/-- R76: what a row that is written leaves before its raises: its codes and its CRC, one row more, and what bars the frame. -/
structure RowWritten (s : State) (c : CompSet) (o : RowObs) (w : State) (y : Nat) : Prop where
  a : w.arr.a = s.arr.a
  shown : w.frm.shown = s.frm.shown
  path : w.frm.dec.map Decision.fallback = s.frm.dec.map Decision.fallback
  rows : w.frm.rows = s.frm.rows + 1
  codes : ∃ codes, w.arr.s = rowPut s.arr.s y codes ∧ w.arr.crcS = alPut s.arr.crcS y (rowCrc y codes)
  fail : s.frm.fail ≠ none → w.frm.fail = s.frm.fail
  readBack : ∀ v, o.readBack = some v → alGet w.arr.crcS y = some v ∨ w.frm.fail ≠ none

/-- R76, R77: a row that is stored and checked. -/
theorem RowWritten.of_checks {s u v x w : State} {c : CompSet} {d : Decision} {o : RowObs} {y r : Nat} {px : List PixOut}
    {codes out : List Nat} (hu : penned u = penned s) (hv : penned v = penned (rowStore c y px u))
    (hx : x = (rowChecks c d y r codes out o v).2) (hw : penned w = penned (x.mapFrm fun f => { f with rows := s.frm.rows + 1 })) :
    RowWritten s c o w y := by
  subst hx
  have hchecks := rowChecks_penned c d y r codes out o v
  let crc := rowCrc y (px.map fun p => BitVec.ofNat 16 p.code)
  have harr : w.arr = v.arr := (congrArg Prod.fst hw).trans (congrArg Prod.fst hchecks)
  have hvarr : v.arr = (rowStore c y px u).arr := congrArg Prod.fst hv
  have huarr : u.arr = s.arr := congrArg Prod.fst hu
  have hput : w.arr.s = rowPut s.arr.s y (px.map fun p => BitVec.ofNat 16 p.code) ∧ w.arr.crcS = alPut s.arr.crcS y crc
      ∧ w.arr.a = s.arr.a := by
    rw [harr, hvarr, ← huarr]
    exact ⟨rfl, rfl, rfl⟩
  obtain ⟨hs, hcrc, ha⟩ := hput
  have hget : alGet w.arr.crcS y = some crc := by
    rw [hcrc]
    exact alGet_alPut_same ..
  have hfail : w.frm.fail = s.frm.fail.or ((v.rowFinds c d y r codes o).head?.map Prod.fst) := by
    have hvf : v.frm.fail = s.frm.fail :=
      (congrArg (fun x => x.2.2.1) hv).trans (congrArg (fun x => x.2.2.1) hu)
    rw [← hvf]
    exact (congrArg (fun x => x.2.2.1) hw).trans (congrArg (fun x => x.2.2.1) hchecks)
  refine ⟨ha, ?_, ?_, congrArg (fun x => x.2.1) hw, ⟨_, hs, hcrc⟩, fun h => ?_, fun b hb => ?_⟩
  · exact (congrArg (fun x => x.2.2.2.2) hw).trans ((congrArg (fun x => x.2.2.2.2) hchecks).trans
      ((congrArg (fun x => x.2.2.2.2) hv).trans (congrArg (fun x => x.2.2.2.2) hu)))
  · exact (congrArg (fun x => x.2.2.2.1) hw).trans ((congrArg (fun x => x.2.2.2.1) hchecks).trans
      ((congrArg (fun x => x.2.2.2.1) hv).trans (congrArg (fun x => x.2.2.2.1) hu)))
  · rw [hfail]
    cases hf : s.frm.fail with
    | none => exact absurd hf h
    | some w => rfl
  · by_cases hbc : b = crc
    · exact .inl (hbc ▸ hget)
    · refine .inr ?_
      have hk : alGet v.arr.crcS y = some crc := by rw [← harr]; exact hget
      have hfinds := rowFinds_readBack (c := c) (d := d) (r := r) (codes := codes) hb hk hbc
      rw [hfail]
      cases hl : v.rowFinds c d y r codes o with
      | nil => exact absurd hl hfinds
      | cons e l => cases s.frm.fail <;> exact nofun

/-- R76, R365: a row is written, and what it found is raised after it. -/
theorem rowStep_writes (c : CompSet) (d : Decision) (o : RowObs) (s : State) : ∃ l w, rowStep c d o s = raiseAll l w
    ∧ RowWritten s c o w (if c.bottomUp then 511 - s.frm.rows else s.frm.rows) := by
  unfold rowStep
  dsimp only
  generalize (if c.bottomUp then 511 - s.frm.rows else s.frm.rows) = y
  have h0 : penned (noteCe o.ce (noteUe o.ue s)) = penned s := rfl
  generalize noteCe o.ce (noteUe o.ue s) = s0 at h0 ⊢
  generalize (!d.fallback && !c.zero && c.flat.isNone) = layers
  have h1 : penned (if layers then mapErrors c.frame y (rowFetch c.frame d y ([], s0)) else ([], s0)).2 = penned s := by
    split
    · exact (mapErrors_penned ..).trans ((rowFetch_penned ..).trans h0)
    · exact h0
  generalize (if layers then mapErrors c.frame y (rowFetch c.frame d y ([], s0)) else ([], s0)) = q1 at h1 ⊢
  have h2 : penned (if d.fallback then fallbackRow d y o.sramBad q1.2 else ([], [], q1.2)).2.2 = penned s := by
    split
    · exact (fallbackRow_penned ..).trans h1
    · exact h1
  generalize (if d.fallback then fallbackRow d y o.sramBad q1.2 else ([], [], q1.2)) = q2 at h2 ⊢
  generalize hinp : State.rowInput _ _ _ _ _ _ = inp
  generalize hpx : rowCodes _ _ _ _ _ = px
  have h3 : penned (if c.zero then rowStore c y px q2.2.2
      else captureRow d y (inp.map Prod.fst) (px.map PixOut.code) (rowStore c y px q2.2.2)) = penned (rowStore c y px q2.2.2) := by
    split
    · rfl
    · exact captureRow_penned ..
  generalize (if c.zero then rowStore c y px q2.2.2
      else captureRow d y (inp.map Prod.fst) (px.map PixOut.code) (rowStore c y px q2.2.2)) = v at h3 ⊢
  generalize hq : rowChecks c d y s.frm.rows (px.map PixOut.code) (inp.map Prod.fst) o v = q3
  have h4 : penned (if c.rowMatch = y then frameEvent 2 evRowMatch (b4 c.frame.toNat ++ b4 y) q3.2 else q3.2) = penned q3.2 := by
    split
    · exact frameEvent_penned ..
    · rfl
  generalize (if c.rowMatch = y then frameEvent 2 evRowMatch (b4 c.frame.toNat ++ b4 y) q3.2 else q3.2) = x at h4 ⊢
  refine ⟨_, x.mapFrm fun f => { f with rows := s.frm.rows + 1 }, rfl, RowWritten.of_checks h2 h3 (congrArg Prod.snd hq).symm ?_⟩
  exact congrArg (fun p : Arr × Nat × Option BarWhy × Option Bool × Option Shown => (p.1, s.frm.rows + 1, p.2.2)) h4

theorem rowWrite_writes (s : State) (o : RowObs) :
    let here := s.ticking = true ∧ s.frm.compOn = true ∧ s.frm.blank = false ∧ s.frm.rows < 512
    (¬ here ∨ s.frm.comp = none ∨ s.frm.dec = none ∨ (∃ d, s.frm.dec = some d ∧ d.skipRep = true) →
      exec (.rowWrite o) s = .next s)
    ∧ (∀ c d, here → s.frm.comp = some c → s.frm.dec = some d → d.skipRep = false →
        let y := if c.bottomUp then 511 - s.frm.rows else s.frm.rows
        ∃ t, exec (.rowWrite o) s = .next t
          ∧ t.arr.a = s.arr.a ∧ t.frm.shown = s.frm.shown
          ∧ (t.frm.dec.map Decision.fallback = some d.fallback → t.frm.rows = s.frm.rows + 1
            ∧ (∃ codes, t.arr.s = rowPut s.arr.s y codes ∧ t.arr.crcS = alPut s.arr.crcS y (rowCrc y codes))
            ∧ (s.frm.fail ≠ none → t.frm.fail = s.frm.fail)
            ∧ ∀ w, o.readBack = some w → alGet t.arr.crcS y = some w ∨ t.frm.fail ≠ none)
          ∧ (t.frm.dec.map Decision.fallback ≠ some d.fallback → t.frm.rows = 0 ∧ t.arr.crcS = [])) := by
  intro here
  have hx : exec (.rowWrite o) s = .next (match s.frm.comp, s.frm.dec with
    | some c, some d =>
      if (!s.ticking || !s.frm.compOn || s.frm.blank || d.skipRep || decide (512 ≤ s.frm.rows)) = true then s
      else rowStep c d o s
    | _, _ => s) := rfl
  have hstop (d : Decision) : (!s.ticking || !s.frm.compOn || s.frm.blank || d.skipRep || decide (512 ≤ s.frm.rows)) = true
      ↔ ¬ here ∨ d.skipRep = true := by
    show _ ↔ ¬ (s.ticking = true ∧ s.frm.compOn = true ∧ s.frm.blank = false ∧ s.frm.rows < 512) ∨ _
    simp only [Bool.or_eq_true, Bool.not_eq_true', decide_eq_true_eq, not_and_or, Bool.not_eq_true, Bool.not_eq_false,
      Nat.not_lt]
    tauto
  rw [hx]
  cases hc : s.frm.comp with
  | none => exact ⟨fun _ => rfl, fun _ _ _ h => by cases h⟩
  | some c =>
    cases hd : s.frm.dec with
    | none => exact ⟨fun _ => rfl, fun _ _ _ _ h => by cases h⟩
    | some d =>
      refine ⟨fun h => congrArg Host.Outcome.next (if_pos ((hstop d).mpr ?_)), ?_⟩
      · rcases h with h | h | h | ⟨d', h, hs⟩
        · exact .inl h
        · cases h
        · cases h
        · cases h
          exact .inr hs
      · intro c' d' hh hc' hd' hs y
        cases hc'
        cases hd'
        obtain ⟨l, w, hw, hrow⟩ := rowStep_writes c d o s
        obtain ⟨hst, hrep⟩ := raiseAll_reported l w
        have hpath : w.frm.dec.map Decision.fallback = some d.fallback := by rw [hrow.path, hd]; rfl
        have hstep : ¬ (!s.ticking || !s.frm.compOn || s.frm.blank || d.skipRep || decide (512 ≤ s.frm.rows)) = true := by
          rw [hstop d, not_or, not_not]
          exact ⟨hh, by rw [hs]; decide⟩
        have ha : (raiseAll l w).arr.a = w.arr.a := congrArg (fun x => x.arr.a) hst
        have hstored : (raiseAll l w).arr.s = w.arr.s := congrArg (fun x => x.arr.s) hst
        have hshown : (raiseAll l w).frm.shown = w.frm.shown := congrArg (fun x => x.frm.shown) hst
        refine ⟨raiseAll l w, (congrArg Host.Outcome.next (if_neg hstep)).trans (congrArg _ hw), ha.trans hrow.a,
          hshown.trans hrow.shown, ?_⟩
        rcases hrep with hdraft | ⟨⟨e, e', he, he', hin⟩, hrows, hcrc⟩
        · have hfrm : (raiseAll l w).frm = w.frm := congrArg (fun x => x.1) hdraft
          have hcrc : (raiseAll l w).arr.crcS = w.arr.crcS := congrArg (fun x => x.2.1) hdraft
          rw [hfrm, hcrc, hstored]
          exact ⟨fun _ => ⟨hrow.rows, hrow.codes, hrow.fail, hrow.readBack⟩, fun h => absurd hpath h⟩
        · rw [he] at hpath
          have hcomposed : d.fallback = false := (Option.some.inj hpath).symm.trans hin.composed
          rw [he', hcomposed]
          refine ⟨fun h => ?_, fun _ => ⟨hrows, hcrc⟩⟩
          exact absurd (Option.some.inj h) (by rw [hin.fallback]; decide)

/-! ### The cut-off (R37, R130, R334) -/

/-- What an entry of the decision says of the frame, whichever path it takes. -/
structure Decided (s : State) (d : Decision) : Prop where
  demanded : d.demanded = s.demanded
  road : d.road = s.road
  added : d.added = s.frm.params.addMarks
  geom : d.geom = s.frm.params.cutGeom
  limit : d.limit = s.frm.params.cutLimit
  fallback : s.fallbackNext = true → d.fallback = true ∧ d.skipRep = false ∧ d.scene = s.fbSelect s.causes ∧ d.causes = s.causes

/-- R135: an EV_LAYER_LATE leaves the frame's timing. -/
theorem lateEvent_kept (frame seq : Word) (i n : Nat) (v : LayerVerdict) (q : List Raise × State) :
    (lateEvent frame seq i n v q).2.frm = q.2.frm ∧ steady (lateEvent frame seq i n v q).2 = steady q.2 := by
  unfold lateEvent
  dsimp only
  generalize hd : (b4 frame.toNat ++ _ ++ b4 n ++ b4 seq.toNat) = d
  have hfrm : (emit evLayerLate d q.2).frm = q.2.frm := by rw [emit_frame]
  have hst : steady (emit evLayerLate d q.2) = steady q.2 := steady_emit ..
  generalize emit evLayerLate d q.2 = u at hfrm hst ⊢
  have hruns : steady (u.mapScn fun c => { c with runs := c.runs.modify i fun r => { r with hold := some (lateSource v.cause) } })
      = steady u := rfl
  split
  · split
    · exact ⟨hfrm, hruns.trans hst⟩
    · exact ⟨hfrm, hruns.trans hst⟩
  · exact ⟨hfrm, hst⟩

theorem lateEvents_kept (f seq : Word) (l : List (LayerVerdict × Nat)) (q : List Raise × State) :
    (l.foldl (fun q e => lateEvent f seq e.2 (q.2.scn.runs.getD e.2 LayerRun.reset).late e.1 q) q).2.frm = q.2.frm
      ∧ steady (l.foldl (fun q e => lateEvent f seq e.2 (q.2.scn.runs.getD e.2 LayerRun.reset).late e.1 q) q).2 = steady q.2 := by
  induction l generalizing q with
  | nil => exact ⟨rfl, rfl⟩
  | cons e l ih =>
    obtain ⟨h1, h2⟩ := ih (lateEvent f seq e.2 (q.2.scn.runs.getD e.2 LayerRun.reset).late e.1 q)
    obtain ⟨h3, h4⟩ := lateEvent_kept f seq e.2 (q.2.scn.runs.getD e.2 LayerRun.reset).late e.1 q
    exact ⟨h1.trans h3, h2.trans h4⟩

/-- R334: the decision of the next frame. -/
def decisionTaken (s : State) : List Raise × State := if s.fallbackNext then ([], decideFallback s) else decideComposed s

theorem decisionTaken_decided (s : State) :
    ∃ d, (decisionTaken s).2.frm.dec = some d ∧ Decided s d ∧ steady (decisionTaken s).2 = steady s := by
  unfold decisionTaken
  split
  · exact ⟨_, rfl, ⟨rfl, rfl, rfl, rfl, rfl, fun _ => ⟨rfl, rfl, rfl, rfl⟩⟩, rfl⟩
  · next hf =>
    unfold decideComposed
    dsimp only
    obtain ⟨hfrm, hst⟩ := lateEvents_kept s.nextFrame ((s.scn.cur.map Staged.seq).getD 0) _ _
    refine ⟨_, (congrArg Machine.Frm.dec hfrm).trans rfl, ⟨rfl, rfl, rfl, rfl, rfl, fun h => absurd h hf⟩, hst.trans rfl⟩

/-- R130: the state in which the cut-off is told. -/
def cutTold (ue : List Nat) (s : State) : State :=
  let u := commitDue (noteUe ue s)
  cutoffEvent s.lead ((u.mapScn fun c => { c with
    runs := c.runs.zipIdx.map fun e => e.1.promote u.readList (streamsIn c.cur e.2) }).mapFrm fun f => { f with cutDone := true })

theorem cutTold_spec (ue : List Nat) (s : State) : ∃ lg bus rng reg tm trc scn p, cutTold ue s =
      { s with
        lg := lg, bus := bus, rng := rng, reg := reg, tm := tm, trc := trc, scn := scn, pool := p
        frm := { s.frm with cutDone := true } }
    ∧ tm.divergent = s.tm.divergent ∧ tm.origins = s.tm.origins ∧ scn.cur = s.sceneFor s.nextFrame
    ∧ scn.staged = s.scn.staged.filter fun x => decide (2 ^ 31 ≤ (s.nextFrame - x.first).toNat) := by
  unfold cutTold
  dsimp only
  generalize hu : commitDue (noteUe ue s) = u
  let v := (u.mapScn fun c => { c with
    runs := c.runs.zipIdx.map fun e => e.1.promote u.readList (streamsIn c.cur e.2) }).mapFrm fun f => { f with cutDone := true }
  have hst : steady (cutoffEvent s.lead v) = steady v := by
    unfold cutoffEvent frameEvent
    split
    · exact steady_emit ..
    · rfl
  have hdiv : (cutoffEvent s.lead v).tm.divergent = v.tm.divergent := congrArg (fun x => x.tm.divergent) hst
  have horig : (cutoffEvent s.lead v).tm.origins = v.tm.origins := congrArg (fun x => x.tm.origins) hst
  obtain ⟨lg, bus, rng, reg, tm, trc, he⟩ := frameEvent_frame 1 evCutoff
    (b4 v.nextFrame.toNat ++ b4 s.lead ++ b4 (ceilDiv (composeEst9 v.curBytes) 9000)
      ++ b4 ((v.scn.cur.map Staged.seq).getD 0).toNat) v
  have he' : cutoffEvent s.lead v = { v with lg := lg, bus := bus, rng := rng, reg := reg, tm := tm, trc := trc } := he
  rw [he'] at hdiv horig
  refine ⟨lg, bus, rng, reg, tm, trc, v.scn, v.pool, he'.trans ?_, hdiv.trans ?_, horig.trans ?_, ?_, ?_⟩ <;> subst hu <;> rfl

/-- R334: the causes, from what tells them. -/
theorem told_decided {ue : List Nat} {s : State} {d : Decision} (h : Decided (cutTold ue s) d) : Decided s d := by
  obtain ⟨lg, bus, rng, reg, tm, trc, scn, p, ht, hdiv, horig, -, -⟩ := cutTold_spec ue s
  have hcauses : (cutTold ue s).causes = s.causes := by
    rw [ht]
    unfold State.causes
    dsimp only
    rw [hdiv, horig]
    rfl
  have hnext : (cutTold ue s).fallbackNext = s.fallbackNext := by
    unfold State.fallbackNext
    rw [hcauses, ht]
  have hsel : (cutTold ue s).fbSelect s.causes = s.fbSelect s.causes := by
    rw [ht]
    rfl
  obtain ⟨h1, h2, h3, h4, h5, h6⟩ := h
  rw [hcauses, hnext, hsel] at h6
  rw [ht] at h1 h2 h3 h4 h5
  exact ⟨h1, h2, h3, h4, h5, h6⟩

theorem frameMems_frm (src : Nat) (unit : Nat → Nat) (kind layer : Nat) (frame : State → Word) (l : List Nat)
    (q : List Raise × State) :
    (l.foldl (fun q u => frameMem src (unit u) kind layer (frame q.2) q) q).2.frm = q.2.frm := by
  induction l generalizing q with
  | nil => rfl
  | cons u l ih => exact (ih _).trans rfl

/-- R176, R249: the memory errors that the freeze meets, beside the decision that it has taken. -/
theorem freezeMet_kept (bad units : List Nat) (frame : Word) (q : List Raise × State) :
    let w := (bad.foldl (fun q u => frameMem fMemUe u 1 6 q.2.nextFrame q) (frameCe 1 6 frame units q)).2
    w.frm = q.2.frm ∧ ∃ p, steady w = steady { q.2 with pool := p } := by
  intro w
  constructor
  · exact (frameMems_frm fMemUe id 1 6 State.nextFrame bad _).trans
      ((frameMems_frm fMemCe unitOf 1 6 (fun _ => frame) _ _).trans rfl)
  · exact ⟨_, (frameMems_steady fMemUe id 1 6 State.nextFrame bad _).trans
      (frameMems_steady fMemCe unitOf 1 6 (fun _ => frame) _ _)⟩

theorem cutoff_decides (s : State) (ue : List Nat) :
    let here := s.ticking = true ∧ s.frm.cutDone = false ∧ s.frm.blank = false ∧ s.frm.sleepTicks = false
    (¬ here → exec (.cutoff ue) s = .next s)
    ∧ (here → ∃ t d, exec (.cutoff ue) s = .next t
        ∧ t.frm.cutDone = true ∧ t.frm.dec = some d ∧ t.scn.cur = s.sceneFor s.nextFrame
        ∧ t.scn.staged = s.scn.staged.filter (fun x => decide (2 ^ 31 ≤ (s.nextFrame - x.first).toNat))
        ∧ t.arr.a = s.arr.a ∧ t.arr.s = s.arr.s ∧ t.frm.shown = s.frm.shown
        ∧ d.demanded = s.demanded ∧ d.road = s.road ∧ d.added = s.frm.params.addMarks
        ∧ d.geom = s.frm.params.cutGeom ∧ d.limit = s.frm.params.cutLimit
        ∧ (s.fallbackNext = true → d.fallback = true ∧ d.skipRep = false
            ∧ d.scene = s.fbSelect s.causes ∧ d.causes = s.causes)) := by
  intro here
  have hstop : (!s.ticking || s.frm.cutDone || s.frm.blank || s.frm.sleepTicks) = true ↔ ¬ here := by
    show _ ↔ ¬ (s.ticking = true ∧ s.frm.cutDone = false ∧ s.frm.blank = false ∧ s.frm.sleepTicks = false)
    cases s.ticking <;> cases s.frm.cutDone <;> cases s.frm.blank <;> cases s.frm.sleepTicks <;> decide
  refine ⟨fun h => congrArg Host.Outcome.next (if_pos (hstop.mpr h)), fun h => ?_⟩
  obtain ⟨d, hdec, hd, hst⟩ := decisionTaken_decided (cutTold ue s)
  have hs := told_decided hd
  obtain ⟨lg, bus, rng, reg, tm, trc, scn, p, htold, -, -, hcur, hstaged⟩ := cutTold_spec ue s
  let q := decisionTaken (cutTold ue s)
  let bad := (commitDue (noteUe ue s)).freezeUe
  let units := (commitDue (noteUe ue s)).freezeUnits
  let m := bad.foldl (fun q u => frameMem fMemUe u 1 6 q.2.nextFrame q) (frameCe 1 6 (cutTold ue s).nextFrame units q)
  have hx : exec (.cutoff ue) s = .next (raised m) := congrArg Host.Outcome.next (if_neg fun hh => hstop.mp hh h)
  obtain ⟨hfrm, p', hpool⟩ := freezeMet_kept bad units (cutTold ue s).nextFrame q
  obtain ⟨hraise, hrep⟩ := raiseAll_reported m.1 m.2
  have hq : ∃ p, steady (raised m) = steady { cutTold ue s with pool := p } := by
    have hset (u v : State) (h : steady u = steady v) : steady { u with pool := p' } = steady { v with pool := p' } :=
      congrArg (fun x : State => { x with pool := p' }) h
    exact ⟨p', hraise.trans (hpool.trans (hset _ _ hst))⟩
  obtain ⟨p'', hq⟩ := hq
  rw [htold] at hq
  have hmdec : m.2.frm.dec = some d := (congrArg Machine.Frm.dec hfrm).trans hdec
  have hcut : (raised m).frm.cutDone = true := congrArg (fun x => x.frm.cutDone) hq
  have hscn : (raised m).scn.cur = scn.cur := congrArg (fun x => x.scn.cur) hq
  have hstg : (raised m).scn.staged = scn.staged := congrArg (fun x => x.scn.staged) hq
  have ha : (raised m).arr.a = s.arr.a := congrArg (fun x => x.arr.a) hq
  have has : (raised m).arr.s = s.arr.s := congrArg (fun x => x.arr.s) hq
  have hsh : (raised m).frm.shown = s.frm.shown := congrArg (fun x => x.frm.shown) hq
  suffices hfinal : ∃ d', (raised m).frm.dec = some d' ∧ Decided s d' by
    obtain ⟨d', hd', hdd⟩ := hfinal
    exact ⟨raised m, d', hx, hcut, hd', hscn.trans hcur, hstg.trans hstaged, ha, has, hsh, hdd.demanded, hdd.road, hdd.added,
      hdd.geom, hdd.limit, hdd.fallback⟩
  rcases hrep with hdraft | ⟨⟨e, e', he, he', hin⟩, -, -⟩
  · exact ⟨d, (congrArg (fun x => x.1.dec) hdraft).trans hmdec, hs⟩
  · have hed : e = d := Option.some.inj (he.symm.trans hmdec)
    subst hed
    have hsame := demanded_of_steady hq
    have hmarks : m.2.demanded = s.demanded := (demanded_of_steady hraise).symm.trans hsame
    refine ⟨e', he', ?_, hin.road.trans hs.road, hin.added.trans hs.added, hin.geom.trans hs.geom, hin.limit.trans hs.limit,
      fun hf => absurd (hs.fallback hf).1 (by rw [hin.composed]; exact Bool.false_ne_true)⟩
    rcases hin.marks with hm | hm
    · exact hm.trans hs.demanded
    · exact hm.trans hmarks

/-- Settles O43: one lemma for each event of the building of a frame. -/
theorem frameBuilding : Obligations.FrameBuilding := fun s =>
  ⟨cutoff_decides s, compositionStart_begins s, rowWrite_writes s, composeDone_ends s, guardStart_blanks s, aScanRow_scans s⟩

end Sys2Proof.Laws
end


section
/-!
What the statement on start-up (O56) rests on. A SIN input that is low is judged when its assignment is loaded (R336), and its
demand is a wake that abandons an entry into SLEEP: the mode goes back to the one before the entry, where the clause on an
image that passes step 8 has start-up. That an image passes rests on SHA-256, which the model leaves without a value
(assumption 9): with a digest of 32 bytes the statement fails, and without one no image passes step 8.
-/
namespace Sys2Proof.Laws
open Sys2Proof.Machine Sys2Proof.Claims

/-! ### An image that passes step 8 needs a digest of 32 bytes -/

theorem storeOf_of_absent {s : State} {b : Bool} {kind : Nat} (h : s.sectionOf b kind = none) (a : Nat) :
    s.storeOf b kind a = 0 := by
  rw [State.storeOf, h]

/-- R338: a safety store that passes its check has a version, so its section is there. -/
theorem safetySection_of_storesOk {s : State} {b : Bool} (h : s.storesOk b = true) : ∃ x, s.sectionOf b 5 = some x := by
  refine Option.ne_none_iff_exists'.1 fun hnone => ?_
  have hzero := storeOf_of_absent hnone
  simp [State.storesOk, hallmarkOk, readLE, hzero] at h

theorem digest_of_passes {s : State} {b : Bool} (hh : s.hashesOk b [4, 5] = true) (hs : s.storesOk b = true) :
    ∃ l, (Config.sha256 l).length = 32 := by
  obtain ⟨x, hx⟩ := safetySection_of_storesOk hs
  have hmem : x ∈ s.sections b := List.mem_of_find?_eq_some hx
  have hkind : x.kind = 5 := by simpa using List.find?_some hx
  have hown : Config.sha256 (s.sectionBytes b x) = x.hash := by
    simpa [hkind, State.sectionOk] using List.all_eq_true.1 hh x hmem
  obtain ⟨k, -, rfl⟩ := List.mem_map.1 hmem
  exact ⟨_, (congrArg List.length hown).trans (by simp [State.sectionAt, State.slotBytes, cellsGet])⟩

/-! ### An image whose safety store assigns `SIN0` -/

/-- A safety store of three bytes: version 1, and `SIN0` assigned to `TPO0`. -/
def sinStore : List Byte := [1, 0, 1]

/-- The bytes of a slot with that store, and the first word of each entry of its section table. -/
def sinSlotKnown : List Host.Cell :=
  freshCells 0xFF 1024 sinStore ++ freshCells 0xFF 128 (leBytes 5 4 ++ leBytes 1024 4 ++ leBytes 3 4 ++ leBytes 0 4)
  ++ [(176, 0), (224, 0), (272, 0), (320, 0), (368, 0), (416, 0), (464, 0)]

/-- That slot with the digest of the store in its table. -/
def sinSlot : List Host.Cell := sinSlotKnown ++ freshCells 0xFF 144 (Config.sha256 sinStore)

/-- A start that runs this image, while an entry into SLEEP is at its last step and `SIN0` is low. -/
def sinStart : State :=
  let s := State.reset
  { s with
    pwr := { s.pwr with
      mode := .startup, entry := some ⟨false, ⟨0, 1, 0, false, false, false, false, 0, false, none, .due⟩, .idle, 3, false, 1⟩ }
    saf := { s.saf with sin := s.saf.sin.set 0 { SinState.reset with level := false } }
    fls := { s.fls with run := some false, slotA := sinSlot } }

/-- That start once its DRAM is trained, with the calibration loaded. -/
def sinTrained : State :=
  let s := logStart (sinStart.mapPwr fun p => { p with hasDram := true })
  calLoad (mapsWritten (stepAt 7 (logAdd 6 0 s.now (s.bootMarker sinStart.lg.hdrOk) s)))

/-! ### It passes its checks where SHA-256 gives 32 bytes -/

theorem sinSlotKnown_before_digest : ∀ c ∈ sinSlotKnown, c.1 < 144 ∨ 176 ≤ c.1 := by decide +kernel

/-- The digest that the table holds. -/
theorem sinStart_digest (h : (Config.sha256 sinStore).length = 32) :
    sinStart.slotBytes false 144 32 = Config.sha256 sinStore := by
  refine List.ext_getElem (by simp [State.slotBytes, cellsGet, h]) fun k hk hk' => ?_
  have hlt : k < 32 := h ▸ hk'
  have hout : ¬ ∃ c ∈ sinSlotKnown, c.1 = 144 + k := fun ⟨c, hc, he⟩ => by
    have := sinSlotKnown_before_digest c hc
    omega
  have hcell : cellGet 0xFF sinSlot (144 + k) = (Config.sha256 sinStore).getD k 0xFF := by
    rw [sinSlot, cellGet_append, if_neg hout, cellGet_fresh _ _ _ _ hk']
  rw [List.getD_eq_getElem _ _ hk'] at hcell
  exact (by simp [State.slotBytes, cellsGet] :
    (sinStart.slotBytes false 144 32)[k] = cellGet 0xFF (sinStart.slotCells false) (144 + k)).trans hcell

theorem sinStart_kinds : (List.range 8).map (fun k => (sinStart.sectionAt false k).kind) = [5, 0, 0, 0, 0, 0, 0, 0] := by
  decide +kernel

theorem sinStart_bytes : sinStart.sectionBytes false (sinStart.sectionAt false 0) = sinStore := by decide +kernel

theorem sinStart_hashesOk (h : (Config.sha256 sinStore).length = 32) : sinStart.hashesOk false [4, 5] = true := by
  have hown : sinStart.sectionOk false (sinStart.sectionAt false 0) = true := by
    rw [State.sectionOk, sinStart_bytes]
    exact beq_iff_eq.2 (sinStart_digest h).symm
  have hk := sinStart_kinds
  have r : List.range 8 = [0, 1, 2, 3, 4, 5, 6, 7] := rfl
  simp only [r, List.map, List.cons.injEq] at hk
  obtain ⟨-, h1, h2, h3, h4, h5, h6, h7, -⟩ := hk
  simp [State.hashesOk, State.sections, r, hown, h1, h2, h3, h4, h5, h6, h7]

theorem sinStart_storesOk : sinStart.storesOk false = true := by decide +kernel

/-! ### Its end -/

theorem sinStart_trained (h : (Config.sha256 sinStore).length = 32) :
    exec .dramTrained sinStart = .next (storesGo (scenesReport false (stepAt 8 sinTrained))) := by
  have hh : (stepAt 8 sinTrained).hashesOk false [4, 5] = true := sinStart_hashesOk h
  have hst : (scenesReport false (stepAt 8 sinTrained)).storesOk false = true := by decide +kernel
  have hcheck : storeCheck false sinTrained = (.ok, scenesReport false (stepAt 8 sinTrained)) := by
    rw [storeCheck, if_neg (by rw [hh]; decide), if_pos hst]
  have hend : bootStores sinTrained = storesGo (scenesReport false (stepAt 8 sinTrained)) := by
    have hrun : sinTrained.fls.run = some false := rfl
    simp only [bootStores, hrun, hcheck]
    exact if_neg (by decide +kernel)
  exact congrArg Host.Outcome.next hend

theorem sinStart_ends_idle : (storesGo (scenesReport false (stepAt 8 sinTrained))).pwr.mode = .idle := by decide +kernel

/-- With a digest of 32 bytes the start goes back to IDLE, against the clause on an image that passes step 8. -/
theorem startUp_fails_of_digest (h : (Config.sha256 sinStore).length = 32) : ¬ Obligations.StartUp := by
  intro hs
  obtain ⟨-, -, -, -, hdram, -⟩ := hs sinStart
  obtain ⟨t, ht, -, hgo, -⟩ := hdram false rfl rfl rfl
  obtain ⟨hmode, -⟩ := hgo ⟨sinStart_hashesOk h, sinStart_storesOk⟩ rfl
  obtain rfl := Host.Outcome.next.inj ((sinStart_trained h).symm.trans ht)
  exact absurd (sinStart_ends_idle.symm.trans hmode) (by decide)

end Sys2Proof.Laws
end
